-- ==== Sys2Proof/Word.lean ====
section
/-! DEFINITION. The word types of the LV5120 model: bytes, 64-bit registers, and sparse tables.
R1: a word is 128 bits and a register is 64 bits. -/

namespace Sys2Proof

/-- One byte of a host structure, a message or key material. -/
abbrev Byte := BitVec 8

/-- A run of bytes, first byte first. -/
abbrev Bytes := List Byte

/-- A register is 64 bits (R1). -/
abbrev Reg := BitVec 64

/-- A sparse table: key and value pairs, keys strictly rising (its canonical form). -/
abbrev Tbl (α : Type) := List (Nat × α)

end Sys2Proof
end

