-- ==== Sys2Proof/Machine/Bytes.lean ====
section
/-! DEFINITION. Byte-order helpers, bit-field helpers and sparse tables that the rest of the machine uses
(R1, R2). -/

namespace Sys2Proof.Machine

/-- The `n` low bytes of `x`, least significant first (R2, host structures). -/
def le : Nat → Nat → Bytes
  | 0, _ => []
  | n + 1, x => BitVec.ofNat 8 x :: le n (x / 256)

/-- The value of little-endian bytes. -/
def ofLe : Bytes → Nat
  | [] => 0
  | b :: bs => b.toNat + 256 * ofLe bs

/-- The `n` low bytes of `x`, most significant first (R2, HTT headers and message fields). -/
def be (n x : Nat) : Bytes := (le n x).reverse

/-- The value of big-endian bytes. -/
def ofBe (bs : Bytes) : Nat := ofLe bs.reverse

/-- The `n` bytes of `bs` from offset `off` (fewer where `bs` ends). -/
def slice (bs : Bytes) (off n : Nat) : Bytes := (bs.drop off).take n

/-- Little-endian field of `n` bytes at offset `off`. -/
def leAt (bs : Bytes) (off n : Nat) : Nat := ofLe (slice bs off n)

/-- Big-endian field of `n` bytes at offset `off`. -/
def beAt (bs : Bytes) (off n : Nat) : Nat := ofBe (slice bs off n)

/-- Byte at offset `off`, zero beyond the end. -/
def byteAt (bs : Bytes) (off : Nat) : Nat := (bs.getD off 0).toNat

/-- Bits `[hi:lo]` of `x` (R1). -/
def bits (x hi lo : Nat) : Nat := (x >>> lo) % 2 ^ (hi + 1 - lo)

/-- Bit `k` of `x`. -/
def bit (x k : Nat) : Bool := x.testBit k

/-- `x` with bit `k` set. -/
def setBit (x k : Nat) : Nat := x ||| (1 <<< k)

/-- `x` with bit `k` cleared. -/
def clearBit (x k : Nat) : Nat := if x.testBit k then x - 1 <<< k else x

/-- 1 for true, 0 for false. -/
def b2n (b : Bool) : Nat := if b then 1 else 0

/-- `n` zero bytes. -/
def zeros (n : Nat) : Bytes := List.replicate n 0

/-- Every byte of the run is zero (a reserved range, R5). -/
def allZero (bs : Bytes) : Bool := bs.all (· == 0)

/-- The run cut or padded with zero bytes on the right to exactly `n` bytes. -/
def padTo (n : Nat) (bs : Bytes) : Bytes := (bs ++ zeros n).take n

/-- Byte-wise exclusive or, as long as the shorter run. -/
def xorB (a b : Bytes) : Bytes := List.zipWith (· ^^^ ·) a b

/-- Cut a run into pieces of `n` bytes, the last one possibly shorter; `fuel` bounds the pieces. -/
def chunksF : Nat → Nat → Bytes → List Bytes
  | 0, _, _ => []
  | f + 1, n, bs => if bs.isEmpty then [] else bs.take n :: chunksF f n (bs.drop n)

/-- Pieces of `n` bytes. -/
def chunks (n : Nat) (bs : Bytes) : List Bytes := chunksF (bs.length + 1) n bs

/-- Smallest multiple of `m` not below `n`. -/
def roundUp (n m : Nat) : Nat := (n + m - 1) / m * m

/-- Saturating increment of a counter `w` bits wide (counters of the register maps saturate). -/
def satInc (w x n : Nat) : Nat := min (x + n) (2 ^ w - 1)

/-- The text's ASCII bytes. -/
def ascii (t : String) : Bytes := t.toList.map (fun c => BitVec.ofNat 8 c.toNat)

/-- The 4-bit halves of a byte run, high half first. -/
def nibbles (bs : Bytes) : List Nat :=
  bs.flatMap (fun b => [b.toNat / 16, b.toNat % 16])

/-- Pack 4-bit halves, high half first (an odd last half is padded with 0). -/
def packNibbles : List Nat → Bytes
  | [] => []
  | [h] => [BitVec.ofNat 8 (h * 16)]
  | h :: l :: rest => BitVec.ofNat 8 (h * 16 + l) :: packNibbles rest

/-- The ASCII digits of a run of decimal digits, or none where a byte is no digit. -/
def digitsOf (bs : Bytes) : Option (List Nat) :=
  bs.mapM (fun b => if 0x30 ≤ b.toNat ∧ b.toNat ≤ 0x39 then some (b.toNat - 0x30) else none)

/-- Decimal digits as ASCII bytes. -/
def digitBytes (ds : List Nat) : Bytes := ds.map (fun d => BitVec.ofNat 8 (0x30 + d))

/-- The value of decimal digits, most significant first. -/
def digitsVal (ds : List Nat) : Nat := ds.foldl (fun a d => a * 10 + d) 0

/-- `n` decimal digits of `x`, most significant first. -/
def decimal : Nat → Nat → List Nat
  | 0, _ => []
  | n + 1, x => decimal n (x / 10) ++ [x % 10]

end Sys2Proof.Machine

namespace Sys2Proof.Tbl


variable {α : Type}

/-- Look a key up. -/
def get? : Tbl α → Nat → Option α
  | [], _ => none
  | (k, v) :: t, i => if k = i then some v else get? t i

/-- Enter or replace a key's value, keeping the keys strictly rising. -/
def set : Tbl α → Nat → α → Tbl α
  | [], i, v => [(i, v)]
  | (k, w) :: t, i, v =>
    if i < k then (i, v) :: (k, w) :: t
    else if i = k then (i, v) :: t
    else (k, w) :: set t i v

/-- Remove a key. -/
def erase : Tbl α → Nat → Tbl α
  | [], _ => []
  | (k, w) :: t, i => if k = i then t else (k, w) :: erase t i

/-- The value of a key, or a default. -/
def getD (t : Tbl α) (i : Nat) (d : α) : α := (get? t i).getD d

/-- The key is entered. -/
def has (t : Tbl α) (i : Nat) : Bool := (get? t i).isSome

/-- Change the value of an entered key. -/
def modify (t : Tbl α) (i : Nat) (f : α → α) : Tbl α :=
  match get? t i with
  | none => t
  | some v => set t i (f v)

/-- Keep the entries that pass a test. -/
def filterT (t : Tbl α) (p : Nat → α → Bool) : Tbl α := t.filter (fun e => p e.1 e.2)

/-- Change every value. -/
def mapT (t : Tbl α) (f : Nat → α → α) : Tbl α := t.map (fun e => (e.1, f e.1 e.2))

/-- Keys strictly rising: the canonical form. -/
def wf : Tbl α → Bool
  | [] => true
  | [_] => true
  | (k, _) :: (j, v) :: t => decide (k < j) && wf ((j, v) :: t)

/-- The smallest key from `i` on that is not entered, within `fuel` steps. -/
def firstFree : Nat → Tbl α → Nat → Nat
  | 0, _, i => i
  | f + 1, t, i => if has t i then firstFree f t (i + 1) else i

end Sys2Proof.Tbl
end

