-- ==== Sys2Proof/Machine/Aes.lean ====
section
/-! DEFINITION. The AES block cipher (FIPS 197), named by the manual (Table 1.4, Table 4.1) and not written out in it:
PRESUMED from the standard (log 10). A block is 16 bytes. -/

namespace Sys2Proof.Machine

/-- Multiplication by x in GF(2^8) with the AES polynomial. -/
def xtime (b : Byte) : Byte := if b.msb then (b <<< 1) ^^^ 0x1b#8 else b <<< 1

/-- Product in GF(2^8), `n` low bits of the second factor still to do. -/
def gfMulF : Nat → Byte → Byte → Byte
  | 0, _, _ => 0
  | n + 1, a, b => (if b.getLsbD 0 then a else 0) ^^^ gfMulF n (xtime a) (b >>> 1)

/-- Product in GF(2^8). -/
def gfMul (a b : Byte) : Byte := gfMulF 8 a b

/-- Inverse in GF(2^8), 0 for 0: the 254th power. -/
def gfInv (a : Byte) : Byte :=
  let a2 := gfMul a a
  let a4 := gfMul a2 a2
  let a8 := gfMul a4 a4
  let a16 := gfMul a8 a8
  let a32 := gfMul a16 a16
  let a64 := gfMul a32 a32
  let a128 := gfMul a64 a64
  gfMul a128 (gfMul a64 (gfMul a32 (gfMul a16 (gfMul a8 (gfMul a4 a2)))))

/-- The AES substitution. -/
def sbox (a : Byte) : Byte :=
  let b := gfInv a
  b ^^^ b.rotateLeft 1 ^^^ b.rotateLeft 2 ^^^ b.rotateLeft 3 ^^^ b.rotateLeft 4 ^^^ 0x63#8

/-- The inverse substitution. -/
def invSbox (a : Byte) : Byte :=
  gfInv (a.rotateLeft 1 ^^^ a.rotateLeft 3 ^^^ a.rotateLeft 6 ^^^ 0x05#8)

/-- The substitution as a table, evaluated once. -/
def sboxTable : Array Byte := (Array.range 256).map (fun i => sbox (BitVec.ofNat 8 i))

/-- The inverse substitution as a table, evaluated once. -/
def invSboxTable : Array Byte := (Array.range 256).map (fun i => invSbox (BitVec.ofNat 8 i))

/-- Substitute one byte. -/
def subByte (b : Byte) : Byte := sboxTable.getD b.toNat 0

/-- Substitute one byte back. -/
def invSubByte (b : Byte) : Byte := invSboxTable.getD b.toNat 0

/-- The key schedule's words, `n` more words to make; `ws` holds the words so far, newest first. -/
def expandF (nk : Nat) : Nat → Nat → Byte → List Bytes → List Bytes
  | 0, _, _, ws => ws.reverse
  | n + 1, i, rc, ws =>
    let prev := ws.headD []
    let t :=
      if i % nk = 0 then
        match prev.map subByte with
        | [a, b, c, d] => [b ^^^ rc, c, d, a]
        | x => x
      else if nk > 6 ∧ i % nk = 4 then prev.map subByte
      else prev
    let rc' := if i % nk = 0 then xtime rc else rc
    expandF nk n (i + 1) rc' (xorB (ws.getD (nk - 1) []) t :: ws)

/-- The round keys (16 bytes each) of a 16, 24 or 32-byte key. -/
def roundKeys (key : Bytes) : List Bytes :=
  let nk := key.length / 4
  let first := (chunks 4 key).reverse
  chunks 16 (expandF nk (4 * (nk + 7) - nk) nk 1 first).flatten

/-- ShiftRows by column positions: byte `r + 4c` comes from column `c + r·d`. -/
def shiftRows (back : Bool) (st : Bytes) : Bytes :=
  (List.range 16).map (fun i =>
    let r := i % 4
    let c := i / 4
    st.getD (r + 4 * ((if back then c + 4 - r else c + r) % 4)) 0)

/-- One column times the circulant matrix of `m`. -/
def mixColumn (m : Bytes) (col : Bytes) : Bytes :=
  (List.range 4).map (fun r =>
    (List.range 4).foldl (fun a k => a ^^^ gfMul (m.getD ((k + 4 - r) % 4) 0) (col.getD k 0)) 0)

/-- MixColumns. -/
def mixColumns (m : Bytes) (st : Bytes) : Bytes := (chunks 4 st).flatMap (mixColumn m)

/-- The rounds of encryption over the remaining round keys. -/
def aesEncRounds : List Bytes → Bytes → Bytes
  | [], st => st
  | [k], st => xorB (shiftRows false (st.map subByte)) k
  | k :: ks, st => aesEncRounds ks (xorB (mixColumns [2, 3, 1, 1] (shiftRows false (st.map subByte))) k)

/-- The rounds of decryption over the remaining round keys, last round key first. -/
def aesDecRounds : List Bytes → Bytes → Bytes
  | [], st => st
  | [k], st => xorB ((shiftRows true st).map invSubByte) k
  | k :: ks, st => aesDecRounds ks (mixColumns [14, 11, 13, 9] (xorB ((shiftRows true st).map invSubByte) k))

/-- Encrypt one block. -/
def aesEnc (key blk : Bytes) : Bytes :=
  match roundKeys key with
  | [] => blk
  | k :: ks => aesEncRounds ks (xorB blk k)

/-- Decrypt one block. -/
def aesDec (key blk : Bytes) : Bytes :=
  match (roundKeys key).reverse with
  | [] => blk
  | k :: ks => aesDecRounds ks (xorB blk k)

end Sys2Proof.Machine
end

