-- ==== Sys2Proof/Machine/Des.lean ====
section
/-! DEFINITION. DES and TDES (FIPS 46-3), named by the manual (Table 1.4, R63) and not written out in it: PRESUMED from
the standard (log 10). A block is 8 bytes; bits are numbered from 1 at the most significant, as in the standard. -/

namespace Sys2Proof.Machine

/-- Permute: output bit `k` is input bit `t[k]` of a `w`-bit value, bits counted from 1 at the top. -/
def permute (w : Nat) (t : List Nat) (x : Nat) : Nat :=
  t.foldl (fun a p => a * 2 + (x >>> (w - p)) % 2) 0

/-- The rows of the initial permutation start at these bits, each falling by 8. -/
def desIp : List Nat := [58, 60, 62, 64, 57, 59, 61, 63].flatMap (fun a => (List.range 8).map (fun i => a - 8 * i))

/-- The final permutation, the inverse of the initial one. -/
def desFp : List Nat :=
  (List.range 8).flatMap (fun i => [40, 8, 48, 16, 56, 24, 64, 32].map (fun a => a - i))

/-- The expansion of a half block to 48 bits. -/
def desE : List Nat :=
  (List.range 8).flatMap (fun i => (List.range 6).map (fun j => (4 * i + j + 31) % 32 + 1))

/-- The permutation after the S-boxes. -/
def desP : List Nat :=
  [16, 7, 20, 21, 29, 12, 28, 17] ++ [1, 15, 23, 26, 5, 18, 31, 10] ++
  [2, 8, 24, 14, 32, 27, 3, 9] ++ [19, 13, 30, 6, 22, 11, 4, 25]

/-- Permuted choice 1. -/
def desPc1 : List Nat :=
  [57, 49, 41, 33, 25, 17, 9] ++ [1, 58, 50, 42, 34, 26, 18] ++ [10, 2, 59, 51, 43, 35, 27] ++
  [19, 11, 3, 60, 52, 44, 36] ++ [63, 55, 47, 39, 31, 23, 15] ++ [7, 62, 54, 46, 38, 30, 22] ++
  [14, 6, 61, 53, 45, 37, 29] ++ [21, 13, 5, 28, 20, 12, 4]

/-- Permuted choice 2. -/
def desPc2 : List Nat :=
  [14, 17, 11, 24, 1, 5, 3, 28] ++ [15, 6, 21, 10, 23, 19, 12, 4] ++ [26, 8, 16, 7, 27, 20, 13, 2] ++
  [41, 52, 31, 37, 47, 55, 30, 40] ++ [51, 45, 33, 48, 44, 49, 39, 56] ++ [34, 53, 46, 42, 50, 36, 29, 32]

/-- Left rotations of the key halves in each round. -/
def desShifts : List Nat := [1, 1, 2, 2, 2, 2, 2, 2] ++ [1, 2, 2, 2, 2, 2, 2, 1]

/-- The eight S-boxes, each 64 hexadecimal digits, row by row. -/
def desSboxes : List Nat :=
  [0xE4D12FB83A6C59070F74E2D1A6CB953841E8D62BFC973A50FC8249175B3EA06D,
   0xF18E6B34972DC05A3D47F28EC01A69B50E7BA4D158C6932FD8A13F42B67C05E9,
   0xA09E63F51DC7B428D709346A285ECBF1D6498F30B12C5AE71AD069874FE3B52C,
   0x7DE3069A1285BC4FD8B56F03472C1AE9A690CB7DF13E52843F06A1D8945BC72E,
   0x2C417AB6853FD0E9EB2C47D150FA3986421BAD78F9C5630EB8C71E2D6F09A453,
   0xC1AF92680D34E75BAF427C9561DE0B389EF528C3704A1DB6432C95FABE17608D,
   0x4B2EF08D3C975A61D0B7491AE35C2F8614BDC37EAF6805926BD814A7950FE23C,
   0xD2846FB1A93E50C71FD8A374C56B0E927B419CE206ADF35821E74A8DFC90356B]

/-- Entry of an S-box for a 6-bit input: outer bits give the row, inner bits the column. -/
def desSbox (table x : Nat) : Nat :=
  let row := x / 32 * 2 + x % 2
  let col := x / 2 % 16
  (table >>> (4 * (63 - (16 * row + col)))) % 16

/-- The cipher function of a half block and a 48-bit round key. -/
def desF (r k : Nat) : Nat :=
  let x := permute 32 desE r ^^^ k
  permute 32 desP
    ((desSboxes.zipIdx).foldl (fun a e => a * 16 + desSbox e.1 ((x >>> (42 - 6 * e.2)) % 64)) 0)

/-- Rotate a 28-bit half left. -/
def rot28 (x n : Nat) : Nat := ((x <<< n) ||| (x >>> (28 - n))) % 2 ^ 28

/-- The round keys, from the halves and the rotations to do. -/
def desKeysF : List Nat → Nat → Nat → List Nat
  | [], _, _ => []
  | n :: ns, c, d =>
    let c' := rot28 c n
    let d' := rot28 d n
    permute 56 desPc2 (c' * 2 ^ 28 + d') :: desKeysF ns c' d'

/-- The 16 round keys of an 8-byte key. -/
def desKeys (key : Bytes) : List Nat :=
  let k := permute 64 desPc1 (ofBe key)
  desKeysF desShifts (k / 2 ^ 28) (k % 2 ^ 28)

/-- The Feistel rounds on (left, right). -/
def desRounds : List Nat → Nat × Nat → Nat × Nat
  | [], lr => lr
  | k :: ks, (l, r) => desRounds ks (r, l ^^^ desF r k)

/-- DES with the round keys in the given order. -/
def desWith (ks : List Nat) (blk : Bytes) : Bytes :=
  let x := permute 64 desIp (ofBe blk)
  let lr := desRounds ks (x / 2 ^ 32, x % 2 ^ 32)
  be 8 (permute 64 desFp (lr.2 * 2 ^ 32 + lr.1))

/-- Encrypt one block under an 8-byte key. -/
def desEnc (key blk : Bytes) : Bytes := desWith (desKeys key) blk

/-- Decrypt one block under an 8-byte key. -/
def desDec (key blk : Bytes) : Bytes := desWith (desKeys key).reverse blk

/-- The three single keys of a TDES key of 8, 16 or 24 bytes. -/
def tdesParts (key : Bytes) : Bytes × Bytes × Bytes :=
  let k1 := key.take 8
  let k2 := if key.length > 8 then slice key 8 8 else k1
  let k3 := if key.length > 16 then slice key 16 8 else k1
  (k1, k2, k3)

/-- TDES encryption (encrypt, decrypt, encrypt). -/
def tdesEnc (key blk : Bytes) : Bytes :=
  let (k1, k2, k3) := tdesParts key
  desEnc k3 (desDec k2 (desEnc k1 blk))

/-- TDES decryption. -/
def tdesDec (key blk : Bytes) : Bytes :=
  let (k1, k2, k3) := tdesParts key
  desDec k1 (desEnc k2 (desDec k3 blk))

/-- A key byte with its low bit set for odd parity. -/
def oddParity (b : Byte) : Byte :=
  let ones := (List.range 7).foldl (fun a i => a + (b.toNat >>> (i + 1)) % 2) 0
  if ones % 2 = 0 then b ||| 1#8 else b &&& 0xFE#8

end Sys2Proof.Machine
end

