-- ==== Sys2Proof/Machine/Hash.lean ====
section
/-! DEFINITION. SHA-2 (FIPS 180-4), SHA-3 and SHAKE (FIPS 202), HMAC (FIPS 198-1), named by the manual and not written
out in it: PRESUMED from the standards (log 10). -/

namespace Sys2Proof.Machine

/-- Largest `r` with `r ^ k ≤ x`, by bisection on bits `n` down to 0. -/
def rootF (k x : Nat) : Nat → Nat → Nat
  | 0, r => r
  | n + 1, r => let r' := r + 2 ^ n; rootF k x n (if r' ^ k ≤ x then r' else r)

/-- No divisor of `p` from 2 up to `n`. -/
def noDivisor (p : Nat) : Nat → Bool
  | 0 => true
  | 1 => true
  | n + 2 => p % (n + 2) != 0 && noDivisor p (n + 1)

/-- The first 80 primes. -/
def primes80 : List Nat := (List.range 410).filter (fun p => decide (2 ≤ p) && noDivisor p (p - 1))

/-- The first 64 bits of the fraction of the `k`-th root of `p`. -/
def rootFrac (k p : Nat) : Nat := rootF k (p * 2 ^ (64 * k)) 70 0 % 2 ^ 64

/-- Round constants of SHA-512 (SHA-256 uses their upper halves). -/
def shaK : List Nat := primes80.map (rootFrac 3)

/-- Square-root fractions of the first 16 primes. -/
def shaH : List Nat := (primes80.take 16).map (rootFrac 2)

/-- What differs between the 32-bit and the 64-bit family: word width, rounds, rotation counts. -/
structure ShaShape where
  w : Nat
  rounds : Nat
  big0 : Nat × Nat × Nat
  big1 : Nat × Nat × Nat
  small0 : Nat × Nat × Nat
  small1 : Nat × Nat × Nat

/-- SHA-224 and SHA-256. -/
def sha32 : ShaShape := ⟨32, 64, (2, 13, 22), (6, 11, 25), (7, 18, 3), (17, 19, 10)⟩

/-- SHA-384 and SHA-512. -/
def sha64 : ShaShape := ⟨64, 80, (28, 34, 39), (14, 18, 41), (1, 8, 7), (19, 61, 6)⟩

/-- Rotate right in `w` bits. -/
def rotr (w x n : Nat) : Nat := (x >>> n) ||| ((x <<< (w - n)) % 2 ^ w)

/-- Σ functions: three rotations. -/
def shaBig (w : Nat) (t : Nat × Nat × Nat) (x : Nat) : Nat := rotr w x t.1 ^^^ rotr w x t.2.1 ^^^ rotr w x t.2.2

/-- σ functions: two rotations and a shift. -/
def shaSmall (w : Nat) (t : Nat × Nat × Nat) (x : Nat) : Nat := rotr w x t.1 ^^^ rotr w x t.2.1 ^^^ (x >>> t.2.2)

/-- The message schedule, newest word first, `n` more words to make. -/
def shaSched (p : ShaShape) : Nat → List Nat → List Nat
  | 0, ws => ws.reverse
  | n + 1, ws =>
    let x := (shaSmall p.w p.small1 (ws.getD 1 0) + ws.getD 6 0 + shaSmall p.w p.small0 (ws.getD 14 0) + ws.getD 15 0)
    shaSched p n (x % 2 ^ p.w :: ws)

/-- One round on the eight working words. -/
def shaRound (p : ShaShape) (v : List Nat) (kw : Nat × Nat) : List Nat :=
  match v with
  | [a, b, c, d, e, f, g, h] =>
    let ch := (e &&& f) ^^^ ((2 ^ p.w - 1 - e) &&& g)
    let maj := (a &&& b) ^^^ (a &&& c) ^^^ (b &&& c)
    let t1 := h + shaBig p.w p.big1 e + ch + kw.1 + kw.2
    let t2 := shaBig p.w p.big0 a + maj
    [(t1 + t2) % 2 ^ p.w, a, b, c, (d + t1) % 2 ^ p.w, e, f, g]
  | x => x

/-- Compress one block. -/
def shaBlock (p : ShaShape) (h : List Nat) (blk : Bytes) : List Nat :=
  let ws := shaSched p (p.rounds - 16) ((chunks (p.w / 8) blk).map ofBe).reverse
  let ks := (shaK.take p.rounds).map (fun k => k >>> (64 - p.w))
  let v := (ks.zip ws).foldl (shaRound p) h
  List.zipWith (fun a b => (a + b) % 2 ^ p.w) h v

/-- Pad a message: a 1 bit, zeros, and the bit length in the last two words. -/
def shaPad (p : ShaShape) (m : Bytes) : Bytes :=
  let blk := 2 * p.w
  let tail := p.w / 4
  let z := (blk - (m.length + 1 + tail) % blk) % blk
  m ++ (0x80#8 :: zeros z) ++ be tail (8 * m.length)

/-- Compress a whole message from a given chaining value. -/
def shaRun (p : ShaShape) (h : List Nat) (m : Bytes) : Bytes :=
  ((chunks (2 * p.w) (shaPad p m)).foldl (shaBlock p) h).flatMap (be (p.w / 8))

/-- SHA-224. -/
def sha224 (m : Bytes) : Bytes := (shaRun sha32 ((shaH.drop 8).map (· % 2 ^ 32)) m).take 28

/-- SHA-256. -/
def sha256 (m : Bytes) : Bytes := shaRun sha32 ((shaH.take 8).map (· >>> 32)) m

/-- SHA-384. -/
def sha384 (m : Bytes) : Bytes := (shaRun sha64 (shaH.drop 8) m).take 48

/-- SHA-512. -/
def sha512 (m : Bytes) : Bytes := shaRun sha64 (shaH.take 8) m

/-- Rotate left in 64 bits. -/
def rotl64 (x n : Nat) : Nat := rotr 64 x (64 - n % 64) % 2 ^ 64

/-- The round-constant shift register: `n` steps of x^8 + x^6 + x^5 + x^4 + 1. -/
def keccakLfsr : Nat → Nat → Nat
  | 0, r => r
  | n + 1, r => keccakLfsr n (let x := r * 2; if x ≥ 256 then (x ^^^ 0x171) else x)

/-- Round constant of round `i`. -/
def keccakRc (i : Nat) : Nat :=
  (List.range 7).foldl (fun a j => a ||| ((keccakLfsr (7 * i + j) 1 % 2) <<< (2 ^ j - 1))) 0

/-- Rotation offsets and positions along the walk of ρ and π: (target lane, rotation). -/
def keccakWalk : Nat → Nat → Nat → Nat → List (Nat × Nat)
  | 0, _, _, _ => []
  | n + 1, t, x, y => (x + 5 * y, (t + 1) * (t + 2) / 2 % 64) :: keccakWalk n (t + 1) y ((2 * x + 3 * y) % 5)

/-- One round of Keccak-f[1600] on 25 lanes. -/
def keccakRound (a : List Nat) (rc : Nat) : List Nat :=
  let col (x : Nat) : Nat := (List.range 5).foldl (fun s y => s ^^^ a.getD (x + 5 * y) 0) 0
  let cs := (List.range 5).map col
  let th := a.zipIdx.map (fun e => e.1 ^^^ cs.getD ((e.2 % 5 + 4) % 5) 0 ^^^ rotl64 (cs.getD ((e.2 % 5 + 1) % 5) 0) 1)
  let walk := keccakWalk 24 0 1 0
  let rp := walk.foldl (fun b e =>
      let x := e.1 % 5
      let y := e.1 / 5
      b.set (y + 5 * ((2 * x + 3 * y) % 5)) (rotl64 (th.getD e.1 0) e.2)) th
  let chi := rp.zipIdx.map (fun e =>
      let y5 := e.2 / 5 * 5
      e.1 ^^^ ((2 ^ 64 - 1 - rp.getD (y5 + (e.2 + 1) % 5) 0) &&& rp.getD (y5 + (e.2 % 5 + 2) % 5) 0))
  chi.set 0 (chi.getD 0 0 ^^^ rc)

/-- The round constants, evaluated once. -/
def keccakRcs : List Nat := (List.range 24).map keccakRc

/-- Keccak-f[1600]. -/
def keccakF (a : List Nat) : List Nat := keccakRcs.foldl keccakRound a

/-- Absorb padded blocks. -/
def keccakAbsorb (rate : Nat) (m : Bytes) : List Nat :=
  (chunks rate m).foldl (fun a blk =>
    keccakF (List.zipWith (· ^^^ ·) a ((chunks 8 (padTo 200 blk)).map ofLe))) (List.replicate 25 0)

/-- Squeeze `n` blocks. -/
def keccakSqueeze (rate : Nat) : Nat → List Nat → Bytes
  | 0, _ => []
  | n + 1, a => (a.flatMap (le 8)).take rate ++ keccakSqueeze rate n (keccakF a)

/-- The sponge: domain byte `d`, `out` bytes of output. -/
def keccak (rate : Nat) (d : Byte) (out : Nat) (m : Bytes) : Bytes :=
  let z := rate - m.length % rate
  let pad : Bytes := if z = 1 then [d ||| 0x80#8] else (d :: zeros (z - 2)) ++ [0x80#8]
  (keccakSqueeze rate (out / rate + 1) (keccakAbsorb rate (m ++ pad))).take out

/-- SHA3 of `n` bytes of output. -/
def sha3 (n : Nat) (m : Bytes) : Bytes := keccak (200 - 2 * n) 0x06#8 n m

/-- SHAKE128. -/
def shake128 (n : Nat) (m : Bytes) : Bytes := keccak 168 0x1f#8 n m

/-- SHAKE256. -/
def shake256 (n : Nat) (m : Bytes) : Bytes := keccak 136 0x1f#8 n m

/-- HMAC over a hash with the given block length. -/
def hmacWith (h : Bytes → Bytes) (block : Nat) (key m : Bytes) : Bytes :=
  let k := padTo block (if key.length > block then h key else key)
  h (k.map (· ^^^ 0x5c#8) ++ h (k.map (· ^^^ 0x36#8) ++ m))

/-- HMAC-SHA-256. -/
def hmac256 (key m : Bytes) : Bytes := hmacWith sha256 64 key m

/-- HMAC-SHA-384. -/
def hmac384 (key m : Bytes) : Bytes := hmacWith sha384 128 key m

end Sys2Proof.Machine
end

