-- ==== Sys2Proof/Machine/Modes.lean ====
section
/-! DEFINITION. Modes of operation, MACs, key wraps, key derivation and FF1 (R83, R94, R119, R128-R131, R143): the
standards the manual names (SP 800-38A/B/D/F/G, IEEE 1619, ISO/IEC 9797-1, SP 800-108, SP 800-56C) written out, PRESUMED
from those standards (log 10). A block cipher is passed as its one-block function. -/

namespace Sys2Proof.Machine

/-- ECB: every block by itself. -/
def ecb (n : Nat) (f : Bytes → Bytes) (m : Bytes) : Bytes := (chunks n m).flatMap f

/-- CBC encryption of the blocks after a chaining value. -/
def cbcEncL (f : Bytes → Bytes) : Bytes → List Bytes → Bytes
  | _, [] => []
  | iv, b :: bs => let c := f (xorB b iv); c ++ cbcEncL f c bs

/-- CBC decryption of the blocks after a chaining value. -/
def cbcDecL (f : Bytes → Bytes) : Bytes → List Bytes → Bytes
  | _, [] => []
  | iv, b :: bs => xorB (f b) iv ++ cbcDecL f b bs

/-- CBC encryption. -/
def cbcEnc (n : Nat) (f : Bytes → Bytes) (iv m : Bytes) : Bytes := cbcEncL f iv (chunks n m)

/-- CBC decryption. -/
def cbcDec (n : Nat) (f : Bytes → Bytes) (iv m : Bytes) : Bytes := cbcDecL f iv (chunks n m)

/-- CTR with a 128-bit big-endian counter (Table 4.8). -/
def ctrL (f : Bytes → Bytes) : Nat → List Bytes → Bytes
  | _, [] => []
  | c, b :: bs => xorB b (f (be 16 c)) ++ ctrL f ((c + 1) % 2 ^ 128) bs

/-- CTR from an initial counter block. -/
def ctr (f : Bytes → Bytes) (iv m : Bytes) : Bytes := ctrL f (ofBe iv) (chunks 16 m)

/-- The next tweak of XTS: times x in GF(2^128), little-endian. -/
def xtsMul (t : Bytes) : Bytes :=
  let x := ofLe t * 2
  le 16 (if x ≥ 2 ^ 128 then (x - 2 ^ 128) ^^^ 0x87 else x)

/-- One XTS block. -/
def xtsBlk (f : Bytes → Bytes) (t b : Bytes) : Bytes := xorB (f (xorB b t)) t

/-- XTS over pieces, ciphertext stealing on a last partial piece (IEEE 1619); `dec` swaps the last two tweaks. -/
def xtsL (dec : Bool) (f : Bytes → Bytes) : Bytes → List Bytes → Bytes
  | _, [] => []
  | t, [b] => xtsBlk f t b
  | t, [b, p] =>
    if p.length = 16 then xtsBlk f t b ++ xtsBlk f (xtsMul t) p
    else
      let t' := xtsMul t
      let cc := xtsBlk f (if dec then t' else t) b
      xtsBlk f (if dec then t else t') (p ++ cc.drop p.length) ++ cc.take p.length
  | t, b :: bs => xtsBlk f t b ++ xtsL dec f (xtsMul t) bs

/-- XTS encryption under a data key and a tweak key. -/
def xtsEnc (k1 k2 tweak m : Bytes) : Bytes := xtsL false (aesEnc k1) (aesEnc k2 tweak) (chunks 16 m)

/-- XTS decryption. -/
def xtsDec (k1 k2 tweak m : Bytes) : Bytes := xtsL true (aesDec k1) (aesEnc k2 tweak) (chunks 16 m)

/-- Product in the GCM field, bits most significant first, `n` bits of `x` to do from the top. -/
def ghashMulF : Nat → Nat → Nat → Nat → Nat
  | 0, _, _, z => z
  | n + 1, x, v, z =>
    let z' := if x.testBit n then z ^^^ v else z
    let v' := if v.testBit 0 then (v >>> 1) ^^^ (0xE1 <<< 120) else v >>> 1
    ghashMulF n x v' z'

/-- GHASH of whole blocks from a chaining value. -/
def ghashFrom (h y : Nat) (m : Bytes) : Nat :=
  (chunks 16 m).foldl (fun y b => ghashMulF 128 (y ^^^ ofBe (padTo 16 b)) h 0) y

/-- The GCM authentication tag (16 bytes) of additional data and ciphertext. -/
def gcmTag (key iv aad c : Bytes) : Bytes :=
  let h := ofBe (aesEnc key (zeros 16))
  let y := ghashFrom h (ghashFrom h 0 aad) c
  let y := ghashFrom h y (be 8 (8 * aad.length) ++ be 8 (8 * c.length))
  xorB (be 16 y) (aesEnc key (iv ++ be 4 1))

/-- GCM keystream applied to data, with a 12-byte IV. -/
def gcmCrypt (key iv m : Bytes) : Bytes := ctrL (aesEnc key) (ofBe (iv ++ be 4 2)) (chunks 16 m)

/-- GCM seal: ciphertext and the leftmost `tl` bytes of the tag. -/
def gcmSeal (key iv aad m : Bytes) (tl : Nat) : Bytes :=
  let c := gcmCrypt key iv m
  c ++ (gcmTag key iv aad c).take tl

/-- GCM open of ciphertext followed by a tag of `tl` bytes. -/
def gcmOpen (key iv aad ct : Bytes) (tl : Nat) : Option Bytes :=
  if ct.length < tl then none
  else
    let c := ct.take (ct.length - tl)
    if (gcmTag key iv aad c).take tl = ct.drop (ct.length - tl) then some (gcmCrypt key iv c) else none

/-- Doubling for CMAC in blocks of `n` bytes (16 for AES, 8 for TDES). -/
def cmacDbl (n x : Nat) : Nat :=
  let y := x * 2
  if y ≥ 2 ^ (8 * n) then (y - 2 ^ (8 * n)) ^^^ (if n = 16 then 0x87 else 0x1B) else y

/-- CMAC (SP 800-38B) over a block function with blocks of `n` bytes. -/
def cmacWith (n : Nat) (f : Bytes → Bytes) (m : Bytes) : Bytes :=
  let k1 := cmacDbl n (ofBe (f (zeros n)))
  let whole := m.length ≠ 0 ∧ m.length % n = 0
  let cut := if m.length = 0 then 0 else (m.length - 1) / n * n
  let last := m.drop cut
  let lastBlk := if whole then xorB last (be n k1) else xorB (padTo n (last ++ [0x80#8])) (be n (cmacDbl n k1))
  let y := (chunks n (m.take cut)).foldl (fun y b => f (xorB y b)) (zeros n)
  f (xorB y lastBlk)

/-- AES-CMAC. -/
def cmac (key m : Bytes) : Bytes := cmacWith 16 (aesEnc key) m

/-- Padding methods 1 and 2 of ISO/IEC 9797-1 for 8-byte blocks; empty data becomes one block (R119). -/
def pad9797 (method : Nat) (m : Bytes) : Bytes :=
  let m := if method = 2 then m ++ [0x80#8] else m
  padTo (max 8 (roundUp m.length 8)) m

/-- The CBC-MAC chain. -/
def cbcMac (f : Bytes → Bytes) (m : Bytes) : Bytes := (chunks 8 m).foldl (fun y b => f (xorB y b)) (zeros 8)

/-- ISO/IEC 9797-1 MAC algorithm 1 with TDES. -/
def mac1 (key : Bytes) (pad : Nat) (m : Bytes) : Bytes := cbcMac (tdesEnc key) (pad9797 pad m)

/-- ISO/IEC 9797-1 MAC algorithm 3: single DES chain under the left half, TDES on the last block. -/
def mac3 (key : Bytes) (pad : Nat) (m : Bytes) : Bytes :=
  let k1 := key.take 8
  desEnc k1 (desDec (slice key 8 8) (cbcMac (desEnc k1) (pad9797 pad m)))

/-- SP 800-108 counter-mode KDF with AES-CMAC: `bytes` of output (R94, R128). -/
def kdf108 (key label context : Bytes) (bytes : Nat) : Bytes :=
  ((List.range ((bytes + 15) / 16)).flatMap (fun i =>
    cmac key (be 4 (i + 1) ++ label ++ [0#8] ++ context ++ be 4 (8 * bytes)))).take bytes

/-- SP 800-56C one-step KDF with a hash (R138). -/
def kdf56 (h : Bytes → Bytes) (hlen : Nat) (z info : Bytes) (bytes : Nat) : Bytes :=
  ((List.range ((bytes + hlen - 1) / hlen)).flatMap (fun i => h (be 4 (i + 1) ++ z ++ info))).take bytes

/-- One inner step of key wrap W (SP 800-38F): registers A and R1..Rn, R1 in front. -/
def kwStep (f : Bytes → Bytes) (st : Bytes × List Bytes) (t : Nat) : Bytes × List Bytes :=
  match st.2 with
  | [] => st
  | r :: rs =>
    let b := f (st.1 ++ r)
    (xorB (b.take 8) (be 8 t), rs ++ [b.drop 8])

/-- One inner step of the inverse. -/
def kwUnstep (f : Bytes → Bytes) (st : Bytes × List Bytes) (t : Nat) : Bytes × List Bytes :=
  match st.2.reverse with
  | [] => st
  | r :: rs =>
    let b := f (xorB st.1 (be 8 t) ++ r)
    (b.take 8, b.drop 8 :: rs.reverse)

/-- The wrapping function W on A and n semiblocks. -/
def kwW (key a m : Bytes) : Bytes :=
  let rs := chunks 8 m
  let out := (List.range (6 * rs.length)).foldl (fun st i => kwStep (aesEnc key) st (i + 1)) (a, rs)
  out.1 ++ out.2.flatten

/-- The inverse of W: A and the semiblocks. -/
def kwUnW (key c : Bytes) : Bytes × Bytes :=
  let rs := chunks 8 (c.drop 8)
  let n := 6 * rs.length
  let out := (List.range n).foldl (fun st i => kwUnstep (aesDec key) st (n - i)) (c.take 8, rs)
  (out.1, out.2.flatten)

/-- KW wrap. -/
def kwWrap (key m : Bytes) : Bytes := kwW key (List.replicate 8 0xA6#8) m

/-- KW unwrap; none where the check fails. -/
def kwUnwrap (key c : Bytes) : Option Bytes :=
  if c.length < 24 ∨ c.length % 8 ≠ 0 then none
  else
    let (a, m) := kwUnW key c
    if a = List.replicate 8 0xA6#8 then some m else none

/-- KWP wrap. -/
def kwpWrap (key m : Bytes) : Bytes :=
  let a := be 4 0xA65959A6 ++ be 4 m.length
  let p := padTo (roundUp m.length 8) m
  if p.length = 8 then aesEnc key (a ++ p) else kwW key a p

/-- KWP unwrap; none where the check fails. -/
def kwpUnwrap (key c : Bytes) : Option Bytes :=
  if c.length < 16 ∨ c.length % 8 ≠ 0 then none
  else
    let (a, m) :=
      if c.length = 16 then (let b := aesDec key c; (b.take 8, b.drop 8)) else kwUnW key c
    let n := beAt a 4 4
    if a.take 4 = be 4 0xA65959A6 ∧ n ≤ m.length ∧ m.length < n + 8 ∧ allZero (m.drop n) then some (m.take n) else none

/-- One FF1 round value: the CBC-MAC of P and Q, stretched to `d` bytes, as a number. -/
def ff1Round (key tweak : Bytes) (n u b i : Nat) (x : List Nat) : Nat :=
  let d := 4 * ((b + 3) / 4) + 4
  let p := [1#8, 2#8, 1#8] ++ be 3 10 ++ [10#8, BitVec.ofNat 8 u] ++ be 4 n ++ be 4 tweak.length
  let q := tweak ++ zeros ((16 - (tweak.length + b + 1) % 16) % 16) ++ [BitVec.ofNat 8 i] ++ be b (digitsVal x)
  let r := (chunks 16 (p ++ q)).foldl (fun y blk => aesEnc key (xorB y blk)) (zeros 16)
  let s := r ++ (List.range ((d + 15) / 16 - 1)).flatMap (fun j => aesEnc key (xorB r (be 16 (j + 1))))
  ofBe (s.take d)

/-- The FF1 rounds (SP 800-38G, radix 10) on halves `a` and `b`: encryption for round numbers rising, decryption for
falling. -/
def ff1Step (enc : Bool) (key tweak : Bytes) (n : Nat) (ab : List Nat × List Nat) (i : Nat) : List Nat × List Nat :=
  let u := n / 2
  let v := n - u
  let bl := (((List.range 64).find? (fun k => decide (10 ^ v ≤ 2 ^ (8 * k)))).getD 64)
  let m := if i % 2 = 0 then u else v
  if enc then
    let y := ff1Round key tweak n u bl i ab.2
    (ab.2, decimal m ((digitsVal ab.1 + y) % 10 ^ m))
  else
    let y := ff1Round key tweak n u bl i ab.1
    (decimal m ((digitsVal ab.2 + 10 ^ m - y % 10 ^ m) % 10 ^ m), ab.1)

/-- FF1 encryption of decimal digits. -/
def ff1Enc (key tweak : Bytes) (x : List Nat) : List Nat :=
  let ab := (List.range 10).foldl (ff1Step true key tweak x.length) (x.take (x.length / 2), x.drop (x.length / 2))
  ab.1 ++ ab.2

/-- FF1 decryption of decimal digits. -/
def ff1Dec (key tweak : Bytes) (x : List Nat) : List Nat :=
  let ab := (List.range 10).reverse.foldl (ff1Step false key tweak x.length) (x.take (x.length / 2), x.drop (x.length / 2))
  ab.1 ++ ab.2

end Sys2Proof.Machine
end

