-- ==== Sys2Proof/Config.lean ====
section
/-! DEFINITION. What an implementation fixes and what the manual leaves open: free values and the public-key primitives,
all opaque (no body), so that no proof can use a value of them (log 1, log 4, log 9). -/

namespace Sys2Proof.Config

/-- The free values: byte `n` of everything the device draws or chooses without the manual giving it (log 1). The step
reads the counter `State.free` and advances it. -/
opaque freeByte : Nat → Byte

/-- The device serial number fuse (R527; log 4). -/
opaque deviceSerial : BitVec 64

/-- The unique device secret (R94; log 4). -/
opaque deviceSecret : Bytes

/-- The fused digest of the boot ROM (R522 step 4; log 4). -/
opaque romDigest : Bytes

/-- Ihlistam's firmware authority: its P-384 public key in the boot ROM (R525; log 4). -/
opaque firmwareP384 : Bytes

/-- Its ML-DSA-87 public key. -/
opaque firmwareMlDsa : Bytes

/-- Ihlistam's debug authority: its P-384 public key in the boot ROM (R454; log 4). -/
opaque debugP384 : Bytes

/-- Its ML-DSA-87 public key. -/
opaque debugMlDsa : Bytes

/-- The four certificates in one-time storage (R371, R374; log 4). -/
opaque certificates : List Bytes

/-- Public part of a private key: algorithm code, length byte, private material (Tables 3.4, 3.8; log 9). -/
opaque pkPublic : Nat → Nat → Bytes → Bytes

/-- Private material generated from drawn bytes: algorithm code, length byte, draw (R142; log 9). -/
opaque pkGenerate : Nat → Nat → Bytes → Bytes

/-- A signature: algorithm code, length byte, options of R135, private material, message, context, draw (log 9). -/
opaque pkSign : Nat → Nat → Nat → Bytes → Bytes → Bytes → Bytes → Bytes

/-- Iterations of a signing loop (R345): algorithm code, length byte, private material, message, draw (log 9). -/
opaque signIterations : Nat → Nat → Bytes → Bytes → Bytes → Nat

/-- Verification: algorithm code, length byte, options of R135, public key, message, context, signature (log 9). -/
opaque pkVerify : Nat → Nat → Nat → Bytes → Bytes → Bytes → Bytes → Bool

/-- Elliptic-curve Diffie-Hellman: algorithm code, length byte, private material, peer key. None: the point is not on the
curve, is the identity, or the X25519 result is zero (R139; log 9). -/
opaque ecdh : Nat → Nat → Bytes → Bytes → Option Bytes

/-- The encapsulation key check of FIPS 203 (R140; log 9). -/
opaque kemKeyOk : Nat → Bytes → Bool

/-- ML-KEM encapsulation: parameter set, encapsulation key, draw; the ciphertext and the shared secret (R140; log 9). -/
opaque kemEncaps : Nat → Bytes → Bytes → Bytes × Bytes

/-- ML-KEM decapsulation: parameter set, private material, ciphertext (R141; log 9). -/
opaque kemDecaps : Nat → Bytes → Bytes → Bytes

/-- RSA-OAEP encryption: length byte, public key, message, draw (R144; log 9). -/
opaque oaepSeal : Nat → Bytes → Bytes → Bytes → Bytes

/-- RSA-OAEP decryption: length byte, private material, ciphertext (R143; log 9). -/
opaque oaepOpen : Nat → Bytes → Bytes → Option Bytes

/-- The keyed hash of a flow key before reduction (R236; log 4): the hash key, the key's bytes. -/
opaque flowHash : Bytes → Bytes → Nat

/-- The bytes of message buffer that are the share of a port's priority (R251, R266; log 86): port, priority. -/
opaque bufferShare : Nat → Nat → Nat

/-- The quadrant of a PCIe function (R248; log 4). -/
opaque functionQuadrant : Nat → Nat

end Sys2Proof.Config
end

