-- ==== Sys2Proof/Machine/Status.lean ====
section
/-! DEFINITION. The status codes of Table 20.1 (R7, R530): the only codes the device produces. -/

namespace Sys2Proof.Machine

/-- The status codes of Table 20.1. -/
inductive Status where
  | ok
  | badOpcode
  | reservedNonzero
  | badLength
  | badFieldValue
  | badAlignment
  | pinBlockInvalid
  | parseFailed
  | parseLimit
  | keyNotFound
  | keyStale
  | keySlotBad
  | keyUsesExhausted
  | keyExpired
  | keyPageStale
  | keySpaceFull
  | keyPageFetchFailed
  | usageNotPermitted
  | algorithmMismatch
  | exportNotPermitted
  | dualControlRequired
  | translationForbidden
  | lengthLimit
  | partialBlock
  | invocationLimit
  | unsupportedParameter
  | contextUnknown
  | signRetryLimit
  | instanceDisabled
  | instanceQuiescing
  | instanceReset
  | queueFull
  | quotaExceeded
  | moveNotPermitted
  | moveAbandoned
  | lastSignatureInvalid
  | lastBadOpcode
  | lastBadReference
  | lastResourceExceeded
  | lastVersionRollback
  | lastNotForDevice
  | lastNoAuthority
  | lastImageChanged
  | stateMismatch
  | busy
  | placementPinConflict
  | deadlineMissed
  | flowNotLive
  | gatherFault
  | scatterFault
  | sessionUnknown
  | sessionReplay
  | transitAborted
  | noRoute
  | handshakeFailed
  | sequenceExhausted
  | notActive
  | claimSuperseded
  | mirrorUnavailable
  | claimUnreachable
  | rngFailed
  | tamperHalt
  | lifecycleForbidden
  | kumSignatureInvalid
  | kumCounterStale
  | kumCounterExhausted
  | kumWrongDevice
  | debugTokenInvalid
  | kumQuorumShort
  | lifecycleInProgress
  | firmwareInvalid
  | ledgerUnavailable
  | ledgerWorn
  | cardAbsent
  | cardWriteProtected
  | cardWriteUncertain
  | cardReadFailed
  | hwFault
  | accessDenied
  | macMismatch
  | pinMismatch
  | cryptogramMismatch
  | signatureInvalid
  | tagMismatch
  deriving DecidableEq, Repr

/-- The 16-bit code of a status: class in bits [15:8], detail in [7:0] (R7). -/
def Status.code : Status → Nat
  | .ok => 0x0000
  | .badOpcode => 0x0101
  | .reservedNonzero => 0x0102
  | .badLength => 0x0103
  | .badFieldValue => 0x0104
  | .badAlignment => 0x0105
  | .pinBlockInvalid => 0x0106
  | .parseFailed => 0x0107
  | .parseLimit => 0x0108
  | .keyNotFound => 0x0201
  | .keyStale => 0x0202
  | .keySlotBad => 0x0203
  | .keyUsesExhausted => 0x0204
  | .keyExpired => 0x0205
  | .keyPageStale => 0x0206
  | .keySpaceFull => 0x0207
  | .keyPageFetchFailed => 0x0208
  | .usageNotPermitted => 0x0301
  | .algorithmMismatch => 0x0302
  | .exportNotPermitted => 0x0303
  | .dualControlRequired => 0x0304
  | .translationForbidden => 0x0305
  | .lengthLimit => 0x0401
  | .partialBlock => 0x0402
  | .invocationLimit => 0x0403
  | .unsupportedParameter => 0x0404
  | .contextUnknown => 0x0405
  | .signRetryLimit => 0x0406
  | .instanceDisabled => 0x0501
  | .instanceQuiescing => 0x0502
  | .instanceReset => 0x0503
  | .queueFull => 0x0504
  | .quotaExceeded => 0x0505
  | .moveNotPermitted => 0x0506
  | .moveAbandoned => 0x0507
  | .lastSignatureInvalid => 0x0601
  | .lastBadOpcode => 0x0602
  | .lastBadReference => 0x0603
  | .lastResourceExceeded => 0x0604
  | .lastVersionRollback => 0x0605
  | .lastNotForDevice => 0x0606
  | .lastNoAuthority => 0x0607
  | .lastImageChanged => 0x0608
  | .stateMismatch => 0x0701
  | .busy => 0x0702
  | .placementPinConflict => 0x0703
  | .deadlineMissed => 0x0704
  | .flowNotLive => 0x0705
  | .gatherFault => 0x0801
  | .scatterFault => 0x0802
  | .sessionUnknown => 0x0803
  | .sessionReplay => 0x0804
  | .transitAborted => 0x0805
  | .noRoute => 0x0806
  | .handshakeFailed => 0x0807
  | .sequenceExhausted => 0x0808
  | .notActive => 0x0901
  | .claimSuperseded => 0x0902
  | .mirrorUnavailable => 0x0903
  | .claimUnreachable => 0x0904
  | .rngFailed => 0x0A01
  | .tamperHalt => 0x0A02
  | .lifecycleForbidden => 0x0A03
  | .kumSignatureInvalid => 0x0A04
  | .kumCounterStale => 0x0A05
  | .kumCounterExhausted => 0x0A06
  | .kumWrongDevice => 0x0A07
  | .debugTokenInvalid => 0x0A08
  | .kumQuorumShort => 0x0A09
  | .lifecycleInProgress => 0x0A0A
  | .firmwareInvalid => 0x0A0B
  | .ledgerUnavailable => 0x0B01
  | .ledgerWorn => 0x0B02
  | .cardAbsent => 0x0B03
  | .cardWriteProtected => 0x0B04
  | .cardWriteUncertain => 0x0B05
  | .cardReadFailed => 0x0B06
  | .hwFault => 0x0C01
  | .accessDenied => 0x0C02
  | .macMismatch => 0x0D01
  | .pinMismatch => 0x0D02
  | .cryptogramMismatch => 0x0D03
  | .signatureInvalid => 0x0D04
  | .tagMismatch => 0x0D05

/-- Every status, in the order of Table 20.1. -/
def Status.all : List Status :=
  [.ok, .badOpcode, .reservedNonzero, .badLength, .badFieldValue, .badAlignment, .pinBlockInvalid, .parseFailed] ++
  [.parseLimit, .keyNotFound, .keyStale, .keySlotBad, .keyUsesExhausted, .keyExpired, .keyPageStale, .keySpaceFull] ++
  [.keyPageFetchFailed, .usageNotPermitted, .algorithmMismatch, .exportNotPermitted, .dualControlRequired, .translationForbidden, .lengthLimit, .partialBlock] ++
  [.invocationLimit, .unsupportedParameter, .contextUnknown, .signRetryLimit, .instanceDisabled, .instanceQuiescing, .instanceReset, .queueFull] ++
  [.quotaExceeded, .moveNotPermitted, .moveAbandoned, .lastSignatureInvalid, .lastBadOpcode, .lastBadReference, .lastResourceExceeded, .lastVersionRollback] ++
  [.lastNotForDevice, .lastNoAuthority, .lastImageChanged, .stateMismatch, .busy, .placementPinConflict, .deadlineMissed, .flowNotLive] ++
  [.gatherFault, .scatterFault, .sessionUnknown, .sessionReplay, .transitAborted, .noRoute, .handshakeFailed, .sequenceExhausted] ++
  [.notActive, .claimSuperseded, .mirrorUnavailable, .claimUnreachable, .rngFailed, .tamperHalt, .lifecycleForbidden, .kumSignatureInvalid] ++
  [.kumCounterStale, .kumCounterExhausted, .kumWrongDevice, .debugTokenInvalid, .kumQuorumShort, .lifecycleInProgress, .firmwareInvalid, .ledgerUnavailable] ++
  [.ledgerWorn, .cardAbsent, .cardWriteProtected, .cardWriteUncertain, .cardReadFailed, .hwFault, .accessDenied, .macMismatch] ++
  [.pinMismatch, .cryptogramMismatch, .signatureInvalid, .tagMismatch]

/-- The code is one of Table 20.1 (R530, R535). -/
def statusDefined (c : Nat) : Bool := Status.all.any (fun s => s.code == c)

/-- The status is a verification outcome: class 0x0D (R7). -/
def Status.isOutcome (s : Status) : Bool := s.code / 256 == 0x0D

end Sys2Proof.Machine
end

