-- ==== Sys2Proof/Machine/Types.lean ====
section
/-! DEFINITION. The data that functions work on: key records (R63, R67), invocation records (R103) and results (R105).
Bit numbers and class codes of Tables 3.4 to 3.6 are named here. -/

namespace Sys2Proof.Machine

/-- A key as a resident slot holds it (Tables 3.2, 3.7), with what the rules attach to it: the durable figure (R74), the
holds (R73), deletion (R61), whether the integrity tag verifies (R70), the bank of its slot (R23), whether it must be
written back (R87) and its state version (R41). -/
structure KeyRec where
  handle : Nat := 0
  mat : Bytes := []
  uses : Nat := 0xFFFFFFFF
  usage : Nat := 0
  alg : Nat := 0
  len : Nat := 0
  cls : Nat := 0
  cap : Nat := 0
  flags : Nat := 0
  durable : Option Nat := none
  nextFigure : Option Nat := none
  resv : Nat := 0
  holds : Nat := 0
  deleted : Bool := false
  tagOk : Bool := true
  bank : Nat := 0
  dirty : Bool := false
  version : Nat := 1
  deriving DecidableEq, Repr, Inhabited

/-- Algorithm codes (Table 3.4). -/
def algAes : Nat := 0x01
/-- TDES. -/
def algTdes : Nat := 0x02
/-- HMAC secret. -/
def algHmac : Nat := 0x03
/-- RSA. -/
def algRsa : Nat := 0x10
/-- EC prime curve. -/
def algEc : Nat := 0x11
/-- EdDSA. -/
def algEd : Nat := 0x12
/-- X25519. -/
def algX : Nat := 0x13
/-- ML-DSA. -/
def algDsa : Nat := 0x14
/-- ML-KEM. -/
def algKem : Nat := 0x15

/-- The algorithm belongs to the symmetric store (R64). -/
def algSym (a : Nat) : Bool := decide (a = algAes ∨ a = algTdes ∨ a = algHmac)

/-- Usage bits (Table 3.5). -/
def uEncrypt : Nat := 0
def uDecrypt : Nat := 1
def uMacGenerate : Nat := 2
def uMacVerify : Nat := 3
def uPinEncrypt : Nat := 4
def uPinDecrypt : Nat := 5
def uPinVerify : Nat := 6
def uPinGenerate : Nat := 7
def uCardCryptogram : Nat := 8
def uCardValue : Nat := 9
def uDukptBase : Nat := 10
def uDerive : Nat := 11
def uWrap : Nat := 12
def uUnwrap : Nat := 13
def uToken : Nat := 14
def uSign : Nat := 15
def uVerify : Nat := 16
def uAgree : Nat := 17
def uDecapsulate : Nat := 18
def uEncapsulate : Nat := 19
def uCheckValue : Nat := 20

/-- Flag bits (Table 3.6). -/
def fExpires : Nat := 0
def fExportable : Nat := 1
def fPersistent : Nat := 2
def fDualControl : Nat := 3
def fMirrored : Nat := 4
def fPinned : Nat := 5
def fBad : Nat := 6

/-- Remaining uses that mean unlimited (Table 3.2). -/
def unlimited : Nat := 0xFFFFFFFF

/-- The key is counted (R72). -/
def KeyRec.counted (k : KeyRec) : Bool := k.uses != unlimited

/-- The class is symmetric, or the algorithm allows it: the classes of Table 3.4. -/
def classAllowed (alg len cls : Nat) : Bool :=
  if alg = algAes then decide (1 ≤ cls ∧ cls ≤ 8) && [16, 24, 32].contains len
  else if alg = algTdes then decide (1 ≤ cls ∧ cls ≤ 6) && [16, 24].contains len
  else if alg = algHmac then [1, 3, 8].contains cls && decide (16 ≤ len ∧ len ≤ 32)
  else if alg = algRsa ∨ alg = algEc then [0x10, 0x11].contains cls && [1, 2, 3].contains len
  else if alg = algEd then [0x10, 0x11].contains cls && [1, 2].contains len
  else if alg = algX then [0x10, 0x11].contains cls && len == 1
  else if alg = algDsa ∨ alg = algKem then [0x10, 0x12].contains cls && [1, 2, 3].contains len
  else false

/-- The usage bits a class may hold, as a mask (Table 4.3). -/
def classUsage (cls : Nat) : Nat :=
  let m (bs : List Nat) : Nat := bs.foldl setBit 0
  match cls with
  | 0x01 => m [uEncrypt, uDecrypt, uMacGenerate, uMacVerify, uCheckValue]
  | 0x02 => m [uPinEncrypt, uPinDecrypt, uPinVerify, uPinGenerate, uCheckValue]
  | 0x03 => m [uMacGenerate, uMacVerify, uCheckValue]
  | 0x04 => m [uWrap, uUnwrap, uCheckValue]
  | 0x05 => m [uCardCryptogram, uCardValue, uCheckValue]
  | 0x06 => m [uDukptBase, uCheckValue]
  | 0x07 => m [uToken, uCheckValue]
  | 0x08 => m [uDerive, uCheckValue]
  | 0x10 => m [uSign, uAgree, uDecapsulate, uUnwrap]
  | 0x11 => m [uVerify, uEncapsulate, uWrap]
  | 0x12 => m [uVerify, uEncapsulate]
  | _ => 0

/-- The usage mask obeys Table 4.3 and the SIGN rule (R110). -/
def usageAllowed (cls usage : Nat) : Bool :=
  (usage &&& classUsage cls) == usage &&
  !(cls == 0x10 && bit usage uSign && (bit usage uAgree || bit usage uDecapsulate || bit usage uUnwrap))

/-- Strength rank (Table 4.4a); none: the key has no rank (R111). -/
def strengthRank (alg len : Nat) : Option Nat :=
  if alg = algTdes then (if len = 16 then some 1 else some 2)
  else if alg = algRsa then (if len = 1 then some 2 else some 3)
  else if alg = algAes then (if len = 16 then some 3 else if len = 24 then some 4 else some 5)
  else if alg = algHmac then (if len < 24 then some 3 else if len < 32 then some 4 else some 5)
  else none

/-- The instance, store, index and generation fields of a key handle (Table 3.1). -/
def hInst (h : Nat) : Nat := bits h 63 52
def hStore (h : Nat) : Nat := bits h 51 48
def hIndex (h : Nat) : Nat := bits h 47 20
def hGen (h : Nat) : Nat := bits h 19 0

/-- The handle without its generation: the key of the resident table. -/
def hSlot (h : Nat) : Nat := h / 2 ^ 20

/-- A handle from its fields. -/
def mkHandle (inst store index gen : Nat) : Nat := inst * 2 ^ 52 + store * 2 ^ 48 + index * 2 ^ 20 + gen

/-- The index lies in the ephemeral partition (R60). -/
def hEphemeral (h : Nat) : Bool := decide (0xF000000 ≤ hIndex h)

/-- An invocation (R103, R104): the record of Table 4.1 with its input operands I0 to I5 and the capacities of O0 and O1. -/
structure Invoc where
  fn : Nat := 0
  opts : Nat := 0
  flags : Nat := 0
  rsv : Bool := false
  k1 : Nat := 0
  k2 : Nat := 0
  k3 : Nat := 0
  p1 : Nat := 0
  p2 : Nat := 0
  p3 : Nat := 0
  ins : List Bytes := []
  cap0 : Nat := 0
  cap1 : Nat := 0
  deriving DecidableEq, Repr, Inhabited

/-- Input operand `k`; an absent one is empty. -/
def Invoc.inp (v : Invoc) (k : Nat) : Bytes := v.ins.getD k []

/-- DUKPT_K1 (R108). -/
def Invoc.dukpt (v : Invoc) : Bool := bit v.flags 0

/-- Read the 64 bytes of Table 4.1. -/
def Invoc.ofBytes (b : Bytes) : Invoc :=
  { fn := leAt b 0 2, opts := leAt b 2 2, flags := byteAt b 4,
    rsv := !(allZero (slice b 5 3) && allZero (slice b 56 8)) || decide (byteAt b 4 ≥ 2),
    k1 := leAt b 8 8, k2 := leAt b 16 8, k3 := leAt b 24 8, p1 := leAt b 32 8, p2 := leAt b 40 8, p3 := leAt b 48 8 }

/-- A key to be created (R109). `mat` is its material. -/
structure NewKey where
  alg : Nat
  len : Nat
  cls : Nat
  cap : Nat
  usage : Nat
  flags : Nat
  uses : Nat
  mat : Bytes
  deriving DecidableEq, Repr, Inhabited

/-- A saved cipher context (R325-R331, Table 11.5): what the first piece fixed, the chaining state, and the item that holds
it. `chain` is the chaining value, the next counter block or the XTS tweak of the next block. -/
structure CipherCtx where
  fn : Nat := 0
  opts : Nat := 0
  inst : Nat := 0
  k1 : Nat := 0
  k2 : Nat := 0
  chain : Bytes := []
  j0 : Bytes := []
  ghash : Bytes := []
  aadLen : Nat := 0
  textLen : Nat := 0
  blockIx : Nat := 0
  reuse : Nat := 0
  holder : Option Nat := none
  lastUse : Nat := 0
  deriving DecidableEq, Repr, Inhabited

/-- What a function's computation answers (R105 steps 7 and 8): a status, the outputs, how many free bytes it drew, a
key to create with the output (0 or 1) that receives its handle, whether K2 was used (R121), and the context after a piece (R328). -/
structure FnOut where
  st : Status := .ok
  o0 : Bytes := []
  o1 : Bytes := []
  drawn : Nat := 0
  newKey : Option NewKey := none
  handleTo : Nat := 0
  usedK2 : Bool := true
  ctx : Option CipherCtx := none
  deriving DecidableEq, Repr, Inhabited

/-- `n` free bytes from position `p` of the free values. -/
def freeBytes (p n : Nat) : Bytes := (List.range n).map (fun i => Config.freeByte (p + i))

/-- What a key role asks of a key: the usage bit and the algorithms (R105 step 5). -/
structure Role where
  usage : Option Nat
  algOk : KeyRec → Bool

/-- What the computation of a function sees: the invocation, its keys (as found in step 5, R107), the position in the
free values, what the checks of new keys need, the saved context a piece resumes (R325), and the
bytes the machine has prepared for ATTEST. -/
structure FnCtx where
  inv : Invoc
  k1 : KeyRec := {}
  k2 : KeyRec := {}
  seed : Nat := 0
  symRoom : Bool := true
  asymRoom : Bool := true
  ctx : Option CipherCtx := none
  extra : Bytes := []

/-- A function of Table 4.4: its format checks (R105 steps 2 to 4; none passes), its key roles, the checks of step 6
(with the capacities that depend on keys), and its computation. -/
structure FnSpec where
  form : Invoc → Option Status
  roles : Invoc → List Role
  policy : FnCtx → Option Status
  compute : FnCtx → FnOut
  random : Invoc → Bool := fun _ => false

/-- The first check that fails gives the status. -/
def firstFail : List (Bool × Status) → Option Status
  | [] => none
  | (ok, st) :: rest => if ok then firstFail rest else some st

/-- The lower of two failures. -/
def lower (a b : Option Status) : Option Status :=
  match a, b with
  | none, b => b
  | a, none => a
  | some x, some y => if x.code ≤ y.code then some x else some y

/-- Of the checks of an operation whose rules give no order, the failure with the lowest code (R531). -/
def lowestFail : List (Bool × Status) → Option Status
  | [] => none
  | (ok, st) :: rest => lower (if ok then none else some st) (lowestFail rest)

end Sys2Proof.Machine
end

