-- ==== Sys2Proof/Machine/FnForm.lean ====
section
/-! DEFINITION. The format checks that the functions share (R103, R104, R105 steps 2 to 4, R109). -/

namespace Sys2Proof.Machine

/-- Bits of `x` outside the mask `m` are zero. -/
def within (x m : Nat) : Bool := (x &&& m) == x

/-- What a function uses of the record (R103): option bits, the roles, and the bits of the parameter words. -/
structure Uses where
  opts : Nat := 0
  k1 : Bool := true
  k2 : Bool := false
  p1 : Nat := 0
  p2 : Nat := 0
  p3 : Nat := 0

/-- All 64 bits of a parameter word. -/
def allBits : Nat := 2 ^ 64 - 1

/-- Step 2 of R105: reserved bits and bytes, unused roles and words. -/
def rsvOk (u : Uses) (v : Invoc) : Bool :=
  !v.rsv && within v.opts u.opts && (u.k1 || v.k1 == 0) && (u.k2 || v.k2 == 0) && v.k3 == 0 &&
  within v.p1 u.p1 && within v.p2 u.p2 && within v.p3 u.p3

/-- Functions for which DUKPT_K1 is defined (R108). -/
def dukptFns : List Nat := [0x0101, 0x0102, 0x0103, 0x0201, 0x0202, 0x0203, 0x0602]

/-- A KSN has one of the two lengths of R126 where one is due, and is absent otherwise. -/
def ksnLenOk (v : Invoc) : Bool :=
  if v.dukpt then (v.inp 5).length == 10 || (v.inp 5).length == 12 else (v.inp 5).isEmpty

/-- The inputs from `k` on (I5 apart) are absent (R104). -/
def absentFrom (v : Invoc) (k : Nat) : Bool := ((v.ins.take 5).drop k).all List.isEmpty

/-- No input beyond I5. -/
def noExtra (v : Invoc) : Bool := decide (v.ins.length ≤ 6)

/-- Steps 2 to 4 of R105 in order: reserved fields, values, lengths, encodings, limits. Within a step the lowest code is
reported (R531). -/
def formOf (u : Uses) (v : Invoc) (vals lens : List (Bool × Status)) : Option Status :=
  firstFail ([(rsvOk u v, .reservedNonzero), (!v.dukpt || dukptFns.contains v.fn, .badFieldValue)] ++ vals ++
    [(noExtra v, .badLength)] ++ lens)

/-- A length check. -/
def lenIs (b : Bool) : Bool × Status := (b, .badLength)

/-- A value check. -/
def valIs (b : Bool) : Bool × Status := (b, .badFieldValue)

/-- A check for values that the standard defines and the device does not support. -/
def supIs (b : Bool) : Bool × Status := (b, .unsupportedParameter)

/-- A limit check. -/
def limIs (b : Bool) : Bool × Status := (b, .lengthLimit)

/-- The bytes are decimal digits (Table 4.2). -/
def isDigits (b : Bytes) : Bool := (digitsOf b).isSome

/-- The bytes are hexadecimal digits (Table 4.2). -/
def isHexDigits (b : Bytes) : Bool :=
  b.all (fun c => decide (0x30 ≤ c.toNat ∧ c.toNat ≤ 0x39) || decide (0x41 ≤ c.toNat ∧ c.toNat ≤ 0x46))

/-- Value of one hexadecimal digit character. -/
def hexVal (c : Byte) : Nat := if c.toNat ≤ 0x39 then c.toNat - 0x30 else c.toNat - 0x37

/-- Hexadecimal digit characters of bytes. -/
def hexOf (bs : Bytes) : Bytes :=
  (nibbles bs).map (fun n => BitVec.ofNat 8 (if n < 10 then 0x30 + n else 0x37 + n))

/-- Bytes of hexadecimal digit characters. -/
def unhex (bs : Bytes) : Bytes := packNibbles (bs.map hexVal)

/-- 16 MiB, the largest data operand (R119, R130, R133). -/
def mib16 : Nat := 16 * 2 ^ 20

/-- The key is TDES, two-key or three-key. -/
def isTdes (k : KeyRec) : Bool := k.alg == algTdes

/-- The key is AES. -/
def isAes (k : KeyRec) : Bool := k.alg == algAes

/-- The key fits a role that needs TDES (or AES), directly or as a DUKPT base key (R108, R126). -/
def roleAlg (v : Invoc) (needAes : Bool) (k : KeyRec) : Bool :=
  if v.dukpt then isAes k || (!needAes && isTdes k) else if needAes then isAes k else isTdes k

/-- The K1 role of a function, or DUKPT_BASE under DUKPT_K1 (R108). -/
def k1Role (v : Invoc) (usage : Nat) (ok : KeyRec → Bool) : Role :=
  { usage := some (if v.dukpt then uDukptBase else usage), algOk := ok }

/-- New-key parameters (R109) from attribute word, usage mask, flags and uses. -/
def newKeyOf (attr usage flags uses : Nat) : NewKey :=
  { alg := attr % 256, len := attr / 256 % 256, cls := attr / 65536 % 256, cap := attr / 2 ^ 24 % 256,
    usage := usage, flags := flags, uses := uses, mat := [] }

/-- New-key parameters of P2 and P3 (R109). -/
def newKeyParams (v : Invoc) : NewKey :=
  newKeyOf (v.p2 % 2 ^ 32) (v.p2 / 2 ^ 32) (v.p3 % 2 ^ 32) (v.p3 / 2 ^ 32)

/-- The checks of R109 on a new key, in order. `src` is K1 where the key comes from K1 (check 4). -/
def newKeyFail (n : NewKey) (src : Option KeyRec) (room : Bool) : Option Status :=
  firstFail
    [ (within n.usage (2 ^ 21 - 1) && within n.flags 0x3F, .reservedNonzero),
      (classAllowed n.alg n.len n.cls && decide (n.cap ≤ 13), .badFieldValue),
      (!bit n.flags fPersistent && !bit n.flags fPinned, .badFieldValue),
      (bit n.flags fExpires || n.uses != unlimited, .badFieldValue),
      (usageAllowed n.cls n.usage, .usageNotPermitted),
      ((match src with | none => true | some k => !bit n.flags fExportable || bit k.flags fExportable),
        .exportNotPermitted),
      (room, .quotaExceeded) ]

/-- Room in the quota of the store a new key goes to. -/
def FnCtx.room (c : FnCtx) (n : NewKey) : Bool := if algSym n.alg then c.symRoom else c.asymRoom

/-- Bytes of key material of a symmetric key made from drawn or derived bytes; TDES keys get odd parity where the rule
says so. -/
def parityIf (n : NewKey) (m : Bytes) : Bytes := if n.alg == algTdes then m.map oddParity else m

end Sys2Proof.Machine
end

