-- ==== Sys2Proof/Machine/Dukpt.lean ====
section
/-! DEFINITION. DUKPT on the receiving side (R108, R126, R127): ANSI X9.24-1 for TDES base keys and X9.24-3 for AES base
keys, PRESUMED from those standards (log 10). -/

namespace Sys2Proof.Machine

/-- What a working key is for (R127 options). -/
inductive DukptUse where
  | pin
  | macResponse
  | macRequest
  | dataResponse
  | dataRequest
  deriving DecidableEq, Repr

/-- The counter of a KSN (R126): low 21 bits, or low 32 bits for an AES base key. -/
def ksnCounter (aes : Bool) (ksn : Bytes) : Nat := if aes then ofBe ksn % 2 ^ 32 else ofBe ksn % 2 ^ 21

/-- Number of one bits among the low `n`. -/
def popCount (x n : Nat) : Nat := (List.range n).foldl (fun a i => a + x / 2 ^ i % 2) 0

/-- The KSN fits the base key (R126). -/
def ksnFail (base : KeyRec) (ksn : Bytes) : Option Status :=
  let aes := isAes base
  let c := ksnCounter aes ksn
  firstFail
    [ (ksn.length == (if aes then 12 else 10), .badLength),
      (c != 0 && decide (popCount c 32 ≤ if aes then 16 else 10), .badFieldValue) ]

/-- The TDES key mask of X9.24-1. -/
def dukptMask : Bytes := be 16 0xC0C0C0C000000000C0C0C0C000000000

/-- The non-reversible key generation step of X9.24-1. -/
def dukptStep (key reg : Bytes) : Bytes :=
  let one (k : Bytes) : Bytes := xorB (desEnc (k.take 8) (xorB reg (k.drop 8))) (k.drop 8)
  one (xorB key dukptMask) ++ one key

/-- The derived key of X9.24-1 at a KSN, before the variant. -/
def dukptTdesKey (bdk ksn : Bytes) : Bytes :=
  let c := ksnCounter false ksn
  let base := be 10 (ofBe ksn - c)
  let ik := tdesEnc bdk (base.take 8) ++ tdesEnc (xorB bdk (dukptMask ++ dukptMask.take 8)) (base.take 8)
  let reg0 := ofBe (base.drop 2)
  ((List.range 21).reverse.foldl (fun (st : Bytes × Nat) i =>
      if bit c i then
        let reg := st.2 + 2 ^ i
        (dukptStep st.1 (be 8 reg), reg)
      else st) (ik, reg0)).1

/-- The standard variant of a use; the data variants are enciphered under themselves. -/
def dukptTdesWorking (bdk ksn : Bytes) (u : DukptUse) : Bytes :=
  let k := dukptTdesKey bdk ksn
  let var (m : Nat) : Bytes := xorB k (be 8 m ++ be 8 m)
  let self (w : Bytes) : Bytes := tdesEnc w (w.take 8) ++ tdesEnc w (w.drop 8)
  match u with
  | .pin => var 0xFF
  | .macRequest => var 0xFF00
  | .macResponse => var 0xFF000000
  | .dataRequest => self (var 0xFF0000)
  | .dataResponse => self (var 0xFF00000000)

/-- Algorithm indicator of X9.24-3. -/
def dukptAlgCode (alg len : Nat) : Nat :=
  if alg = algTdes then (if len = 16 then 0 else 1) else if len = 16 then 2 else if len = 24 then 3 else 4

/-- The derivation of X9.24-3: usage indicator, key type, and the last eight bytes of the derivation data. -/
def dukptAesDerive (key : Bytes) (usage alg len : Nat) (tail : Bytes) : Bytes :=
  ((List.range ((len + 15) / 16)).flatMap (fun i =>
    aesEnc key ([1#8, BitVec.ofNat 8 (i + 1)] ++ be 2 usage ++ be 2 (dukptAlgCode alg len) ++ be 2 (8 * len) ++ tail))).take len

/-- The working key of X9.24-3 at a KSN, of the given type. -/
def dukptAesWorking (bdk ksn : Bytes) (u : DukptUse) (alg len : Nat) : Bytes :=
  let n := bdk.length
  let ikid := ksn.take 8
  let c := ksnCounter true ksn
  let ik := dukptAesDerive bdk 0x8001 algAes n ikid
  let dk := ((List.range 32).reverse.foldl (fun (st : Bytes × Nat) i =>
      if bit c i then
        let w := st.2 + 2 ^ i
        (dukptAesDerive st.1 0x8000 algAes n (ikid.drop 4 ++ be 4 w), w)
      else st) (ik, 0)).1
  let code := match u with
    | .pin => 0x1000
    | .macRequest => 0x2000
    | .macResponse => 0x2001
    | .dataRequest => 0x3000
    | .dataResponse => 0x3001
  dukptAesDerive dk code alg len (ikid.drop 4 ++ be 4 c)

/-- The working key that takes K1's place (R108, R126): its type follows from what the role needs. -/
def dukptWorking (base : KeyRec) (ksn : Bytes) (u : DukptUse) (needTdes : Bool) : KeyRec :=
  if isAes base then
    if needTdes then { base with alg := algTdes, len := 16, mat := dukptAesWorking base.mat ksn u algTdes 16 }
    else { base with mat := dukptAesWorking base.mat ksn u algAes base.mat.length }
  else { base with alg := algTdes, len := 16, mat := dukptTdesWorking base.mat ksn u }

/-- K1 as the computation uses it. -/
def effK1 (c : FnCtx) (u : DukptUse) (needTdes : Bool) : KeyRec :=
  if c.inv.dukpt then dukptWorking c.k1 (c.inv.inp 5) u needTdes else c.k1

/-- The KSN check where one is due. -/
def ksnPolicy (c : FnCtx) : Option Status := if c.inv.dukpt then ksnFail c.k1 (c.inv.inp 5) else none

/-- A handle output with a new key. -/
def outKey (n : NewKey) (dest : Nat) : FnOut := { newKey := some n, handleTo := dest }

/-- DUKPT_DERIVE options (R127): the working use. -/
def dukptUseOf (opts : Nat) : DukptUse :=
  match opts % 8 with
  | 1 => .pin
  | 2 => .macResponse
  | 3 => .macRequest
  | 4 => .dataResponse
  | _ => .dataRequest

/-- The working key's algorithm and length by DUKPT_DERIVE options (R127). -/
def dukptType (base : KeyRec) (opts : Nat) : Nat × Nat :=
  match opts / 16 % 8 with
  | 0 => if isAes base then (algAes, base.len) else (algTdes, 16)
  | 1 => (algTdes, 16)
  | 2 => (algTdes, 24)
  | 3 => (algAes, 16)
  | 4 => (algAes, 24)
  | _ => (algAes, 32)

/-- The new key of DUKPT_DERIVE: class and usage by R127. -/
def dukptNewKey (c : FnCtx) : NewKey :=
  let v := c.inv
  let (alg, len) := dukptType c.k1 v.opts
  let (cls, u) := match v.opts % 8 with
    | 1 => (0x02, uPinDecrypt)
    | 2 => (0x03, uMacGenerate)
    | 3 => (0x03, uMacVerify)
    | 4 => (0x01, uEncrypt)
    | _ => (0x01, uDecrypt)
  { newKeyOf (alg + 256 * len + 65536 * cls) (2 ^ u) (v.p3 % 2 ^ 32) (v.p3 / 2 ^ 32) with
    mat := if isAes c.k1 then dukptAesWorking c.k1.mat (v.inp 0) (dukptUseOf v.opts) alg len
           else dukptTdesWorking c.k1.mat (v.inp 0) (dukptUseOf v.opts) }

/-- DUKPT_DERIVE (R127). -/
def fnDukptDerive : FnSpec where
  form v := formOf { opts := 0x77, p3 := allBits } v
    [valIs (decide (1 ≤ v.opts % 8 ∧ v.opts % 8 ≤ 5) && decide (v.opts / 16 % 8 ≤ 5))]
    [lenIs ([10, 12].contains (v.inp 0).length && absentFrom v 1 && (v.inp 5).isEmpty && decide (8 ≤ v.cap0))]
  roles _ := [{ usage := some uDukptBase, algOk := fun k => isAes k || isTdes k }]
  policy c :=
    match ksnFail c.k1 (c.inv.inp 0) with
    | some st => some st
    | none =>
      let (alg, len) := dukptType c.k1 c.inv.opts
      match firstFail [valIs (isAes c.k1 || c.inv.opts / 16 % 8 == 0),
                       valIs (!(isAes c.k1 && alg == algAes) || decide (len ≤ c.k1.len))] with
      | some st => some st
      | none => newKeyFail (dukptNewKey c) (some c.k1) c.symRoom
  compute c := outKey (dukptNewKey c) 0

end Sys2Proof.Machine
end

