-- ==== Sys2Proof/Machine/Bulk.lean ====
section
/-! DEFINITION. The bulk functions and their pieces (R130, R131, R319-R334). -/

namespace Sys2Proof.Machine

/-- CONTINUE and RESUME (R325). -/
def isContinue (v : Invoc) : Bool := bit v.opts 15
/-- RESUME. -/
def isResume (v : Invoc) : Bool := bit v.opts 14
/-- The invocation is a piece. -/
def isPiece (v : Invoc) : Bool := isContinue v || isResume v

/-- The modes of Table 4.8 that ENCRYPT and DECRYPT take. -/
def bulkModes : List Nat := [0x1, 0x2, 0x3, 0x4, 0x9, 0xA]

/-- Block size of a mode. -/
def modeBlock (m : Nat) : Nat := if m = 0x9 ∨ m = 0xA then 8 else 16

/-- Length of I1 in a mode (Table 4.8). -/
def modeIv (m : Nat) : Nat := if m = 0x1 ∨ m = 0x9 then 0 else if m = 0xA then 8 else 16

/-- Data lengths a mode allows in a whole request or a piece (Tables 4.8, 11.3). -/
def bulkLenOk (v : Invoc) (m n : Nat) : Bool :=
  match m with
  | 0x3 => !isContinue v || n % 16 == 0
  | 0x4 => if isContinue v then n % 16 == 0 else decide (16 ≤ n) || (isResume v && n == 0)
  | _ => n % modeBlock m == 0

/-- The counter of CTR wraps within the data (R130). -/
def ctrWraps (iv : Bytes) (n : Nat) : Bool := decide (2 ^ 128 < ofBe iv + (n + 15) / 16)

/-- Format checks of ENCRYPT and DECRYPT. -/
def bulkForm (v : Invoc) : Option Status :=
  let m := v.opts % 16
  let n := (v.inp 0).length
  formOf { opts := 0xC00F, k2 := m == 0x4, p1 := if isResume v then 2 ^ 32 - 1 else 0 } v
    [valIs (bulkModes.contains m && !(isPiece v && v.dukpt))]
    [ lenIs ((v.inp 1).length == (if isResume v then 0 else modeIv m)),
      lenIs (absentFrom v 2 && ksnLenOk v && decide (n ≤ v.cap0) && (!isContinue v || decide (4 ≤ v.cap1))),
      lenIs (isPiece v || m != 0x4 || decide (16 ≤ n)),
      limIs (decide (n ≤ mib16)), (bulkLenOk v m n, .partialBlock),
      (isResume v || m != 0x3 || !ctrWraps (v.inp 1) n, .invocationLimit) ]

/-- Keys a mode takes (Table 4.8). -/
def modeKeyOk (v : Invoc) (k : KeyRec) : Bool :=
  match v.opts % 16 with
  | 0x4 => isAes k && k.len != 24
  | m => roleAlg v (modeBlock m == 16) k

/-- Roles of ENCRYPT and DECRYPT. -/
def bulkRoles (u : Nat) (v : Invoc) : List Role :=
  k1Role v u (modeKeyOk v) ::
    (if v.opts % 16 = 0x4 then [{ usage := some uEncrypt, algOk := fun k => isAes k && k.len != 24 }] else [])

/-- XTS takes two keys of one length and different material (R130); the KSN fits; a resumed counter does not wrap and a
data unit stays within 2^20 blocks (R330). -/
def bulkPolicy (c : FnCtx) : Option Status :=
  let v := c.inv
  let m := v.opts % 16
  let n := (v.inp 0).length
  match ksnPolicy c with
  | some st => some st
  | none =>
    firstFail
      [ (m != 0x4 || c.k1.len == c.k2.len, .algorithmMismatch),
        (m != 0x4 || (v.k1 != v.k2 && c.k1.mat != c.k2.mat), .badFieldValue),
        (match c.ctx with
         | none => true
         | some x => (m != 0x3 || !ctrWraps x.chain n) && (m != 0x4 || decide (x.textLen + n ≤ mib16)) &&
                     decide (x.textLen + n ≤ 2 ^ 40), .invocationLimit) ]

/-- The chaining state a request or piece starts from. -/
def bulkStart (c : FnCtx) (k2 : Bytes) : CipherCtx :=
  match c.ctx with
  | some x => x
  | none =>
    let iv := c.inv.inp 1
    { fn := c.inv.fn, opts := c.inv.opts % 0x4000, k1 := c.inv.k1, k2 := c.inv.k2,
      chain := if c.inv.opts % 16 = 0x4 then aesEnc k2 iv else iv }

/-- The XTS tweak `n` blocks on. -/
def xtsSkip : Nat → Bytes → Bytes
  | 0, t => t
  | n + 1, t => xtsSkip n (xtsMul t)

/-- The data transformed, and the state after it. -/
def bulkRun (dec : Bool) (m : Nat) (k1 : Bytes) (x : CipherCtx) (d : Bytes) : Bytes × CipherCtx :=
  let f := if m = 0x9 ∨ m = 0xA then (if dec then tdesDec k1 else tdesEnc k1) else (if dec then aesDec k1 else aesEnc k1)
  let bl := modeBlock m
  let out := match m with
    | 0x2 => if dec then cbcDec 16 f x.chain d else cbcEnc 16 f x.chain d
    | 0xA => if dec then cbcDec 8 f x.chain d else cbcEnc 8 f x.chain d
    | 0x3 => ctr (aesEnc k1) x.chain d
    | 0x4 => xtsL dec f x.chain (chunks 16 d)
    | _ => ecb bl f d
  let last (b : Bytes) : Bytes := if b.length < bl then x.chain else b.drop (b.length - bl)
  let chain := match m with
    | 0x2 => last (if dec then d else out)
    | 0xA => last (if dec then d else out)
    | 0x3 => be 16 ((ofBe x.chain + d.length / 16) % 2 ^ 128)
    | 0x4 => xtsSkip (d.length / 16) x.chain
    | _ => x.chain
  (out, { x with chain := chain, textLen := x.textLen + d.length, blockIx := x.blockIx + d.length / 16 })

/-- The computation of ENCRYPT and DECRYPT, given the data request key where DUKPT_K1 derives one. -/
def bulkCompute (dec : Bool) (k1 : Bytes) (c : FnCtx) : FnOut :=
  let r := bulkRun dec (c.inv.opts % 16) k1 (bulkStart c c.k2.mat) (c.inv.inp 0)
  { o0 := r.1, ctx := some r.2 }

/-- ENCRYPT (R130). -/
def fnEncrypt : FnSpec where
  form := bulkForm
  roles := bulkRoles uEncrypt
  policy := bulkPolicy
  compute c := bulkCompute false c.k1.mat c

/-- DECRYPT (R130); under DUKPT_K1 with the data request key. -/
def fnDecrypt : FnSpec where
  form := bulkForm
  roles := bulkRoles uDecrypt
  policy := bulkPolicy
  compute c := bulkCompute true (effK1 c .dataRequest (modeBlock (c.inv.opts % 16) == 8)).mat c

/-- Tag length of the AEAD functions (R131). -/
def aeadTagLen (v : Invoc) : Nat := let t := v.opts / 256 % 16; if t = 0 then 16 else t

/-- Format checks of the AEAD functions (R131, R327). UNVERIFIED_RELEASE (R314) travels as bit 15 of `flags`, set by the
shell that carries the invocation. -/
def aeadForm (sealing : Bool) (v : Invoc) : Option Status :=
  let t := v.opts / 256 % 16
  let n := (v.inp 0).length
  let ivLen := (v.inp 1).length
  let tag := aeadTagLen v
  let outLen := if sealing then (if isContinue v then n else n + tag) else if isContinue v then n else n - tag
  let drawIv := sealing && !isResume v && ivLen == 0
  let o1 := (if drawIv then 12 else 0) + (if isContinue v then 4 else 0)
  let rsv := { v with flags := v.flags % 2 ^ 15 }
  formOf { opts := 0xCF0F, p1 := if isResume v then 2 ^ 32 - 1 else 0 } rsv
    [ valIs (v.opts % 16 == 5 && (t == 0 || decide (12 ≤ t)) && (sealing || !isPiece v || bit v.flags 15)) ]
    [ lenIs (if isResume v then ivLen == 0 && (v.inp 2).isEmpty else sealing || ivLen != 0),
      lenIs (absentFrom v 3 && (v.inp 5).isEmpty && (sealing || isContinue v || decide (tag ≤ n))),
      lenIs (decide (outLen ≤ v.cap0 ∧ o1 ≤ v.cap1)),
      limIs (decide (n ≤ mib16 + (if sealing ∨ isContinue v then 0 else tag) ∧ (v.inp 2).length ≤ 2 ^ 20)),
      (!isContinue v || n % 16 == 0, .partialBlock), supIs (ivLen == 0 || ivLen == 12) ]

/-- R330: text and additional data of a context, and device-chosen IVs under an uncounted key. -/
def aeadPolicy (sealing : Bool) (c : FnCtx) : Option Status :=
  let v := c.inv
  let seen := match c.ctx with | none => 0 | some x => x.textLen
  firstFail
    [ (decide (seen + (v.inp 0).length ≤ 2 ^ 36 - 32), .invocationLimit),
      (!(sealing && c.ctx.isNone && (v.inp 1).isEmpty) || c.k1.counted, .invocationLimit) ]

/-- AEAD_SEAL and AEAD_OPEN, whole or piece by piece (R131, R329). -/
def aeadCompute (sealing : Bool) (c : FnCtx) : FnOut :=
  let v := c.inv
  let key := c.k1.mat
  let draw := sealing && c.ctx.isNone && (v.inp 1).isEmpty
  let iv := if draw then freeBytes c.seed 12 else v.inp 1
  let h := ofBe (aesEnc key (zeros 16))
  let x : CipherCtx := match c.ctx with
    | some x => x
    | none =>
      { fn := v.fn, opts := v.opts % 0x4000, k1 := v.k1, k2 := v.k2, chain := iv ++ be 4 2, j0 := iv ++ be 4 1,
        ghash := be 16 (ghashFrom h 0 (v.inp 2)), aadLen := (v.inp 2).length }
  let tl := aeadTagLen v
  let d := v.inp 0
  let text := if sealing ∨ isContinue v then d else d.take (d.length - tl)
  let out := ctrL (aesEnc key) (ofBe x.chain) (chunks 16 text)
  let gh := ghashFrom h (ofBe x.ghash) (if sealing then out else text)
  let total := x.textLen + text.length
  let tag := (xorB (be 16 (ghashFrom h gh (be 8 (8 * x.aadLen) ++ be 8 (8 * total)))) (aesEnc key x.j0)).take tl
  let next := { x with chain := be 16 ((ofBe x.chain + text.length / 16) % 2 ^ 128), ghash := be 16 gh, textLen := total,
                       blockIx := x.blockIx + text.length / 16 }
  let o1 := if draw then iv else []
  let dn := if draw then 12 else 0
  if isContinue v then { o0 := out, o1 := o1, drawn := dn, ctx := some next }
  else if sealing then { o0 := out ++ tag, o1 := o1, drawn := dn, ctx := some next }
  else if tag = d.drop (d.length - tl) then { o0 := out, ctx := some next }
  else { st := .tagMismatch, o0 := if bit v.flags 15 then out else [], ctx := some next }

/-- AEAD_SEAL (R131). -/
def fnAeadSeal : FnSpec where
  form := aeadForm true
  roles _ := [{ usage := some uEncrypt, algOk := isAes }]
  policy := aeadPolicy true
  compute := aeadCompute true
  random v := (v.inp 1).isEmpty && !isResume v

/-- AEAD_OPEN (R131). -/
def fnAeadOpen : FnSpec where
  form := aeadForm false
  roles _ := [{ usage := some uDecrypt, algOk := isAes }]
  policy := aeadPolicy false
  compute := aeadCompute false

/-- The 80 state bytes of an exported context (Table 11.5). -/
def ctxState (x : CipherCtx) : Bytes :=
  padTo 16 x.chain ++ padTo 16 x.j0 ++ padTo 16 x.ghash ++ be 8 x.aadLen ++ be 8 x.textLen ++ be 8 x.blockIx ++ zeros 8

/-- Bytes 0 to 39 of an exported context (Table 11.5). -/
def ctxHead (x : CipherCtx) (inst : Nat) (nonce : Bytes) : Bytes :=
  [1#8, 0#8] ++ be 2 x.fn ++ be 2 x.opts ++ be 2 inst ++ zeros 4 ++ nonce ++ be 8 x.k1 ++ be 8 x.k2

/-- Seal a context under a context key (R332). -/
def ctxSeal (key : Bytes) (x : CipherCtx) (inst : Nat) (nonce : Bytes) : Bytes :=
  let hd := ctxHead x inst nonce
  hd ++ gcmSeal key nonce hd (ctxState x) 16

/-- Open an exported context (R334). -/
def ctxOpen (key : Bytes) (inst : Nat) (b : Bytes) : Option CipherCtx :=
  let hd := b.take 40
  if byteAt b 0 = 1 ∧ byteAt b 1 = 0 ∧ allZero (slice b 8 4) ∧ beAt b 6 2 = inst then
    match gcmOpen key (slice b 12 12) hd (b.drop 40) 16 with
    | none => none
    | some s =>
      some { fn := beAt b 2 2, opts := beAt b 4 2, inst := inst, k1 := beAt b 24 8, k2 := beAt b 32 8,
             chain := if [0x9, 0xA].contains (beAt b 4 2 % 16) then s.take 8 else s.take 16,
             j0 := slice s 16 16, ghash := slice s 32 16, aadLen := beAt s 48 8, textLen := beAt s 56 8, blockIx := beAt s 64 8 }
  else none

/-- CONTEXT_EXPORT (R132, R333): the sealed context is prepared in `extra`. -/
def fnContextExport : FnSpec where
  form v := formOf { k1 := false, p1 := 2 ^ 32 - 1 } v [] [lenIs (absentFrom v 0 && (v.inp 5).isEmpty && decide (136 ≤ v.cap0))]
  roles _ := []
  policy _ := none
  compute c := { o0 := c.extra, drawn := 12 }
  random _ := true

/-- CONTEXT_IMPORT (R132, R334): the machine opens the context. -/
def fnContextImport : FnSpec where
  form v := formOf { k1 := false } v []
    [lenIs ((v.inp 0).length == 136 && absentFrom v 1 && (v.inp 5).isEmpty && decide (4 ≤ v.cap0))]
  roles _ := []
  policy _ := none
  compute _ := {}

/-- A quantum's bytes for a request, whole ticks of 1 µs or more, or the 0.5 µs tick (Table 11.2). -/
def quantumBytes (half : Bool) (v : Invoc) : Nat :=
  let big := match v.fn with
    | 0x0601 => (match v.opts % 16 with | 0x2 => 64 * 16 | 0x9 => 8192 | 0xA => 64 * 8 | _ => 16384)
    | 0x0602 => (match v.opts % 16 with | 0x9 => 8192 | 0xA => 8192 | _ => 16384)
    | 0x0603 => 16384
    | 0x0604 => 16384
    | 0x0701 => (match v.opts % 16 with
        | 1 => 2048 | 2 => 2048 | 3 => 4096 | 4 => 4096 | 5 => 32 * 136 | 6 => 32 * 104 | 7 => 32 * 72 | 8 => 32 * 168
        | _ => 32 * 136)
    | 0x0702 => if v.opts % 16 ≤ 2 then 2048 else 4096
    | 0x0703 => if v.opts % 16 ≤ 2 then 2048 else 4096
    | _ => if v.p1 % 16 = 3 then 64 * 16 else 64 * 8
  if half then big / 2 else big

/-- Functions that run as bulk requests (R319). -/
def bulkFns : List Nat := [0x0601, 0x0602, 0x0603, 0x0604, 0x0701, 0x0702, 0x0703, 0x0201, 0x0202, 0x0203]

/-- Quanta of a request: at least one (R319, R323). -/
def quantaOf (half : Bool) (v : Invoc) : Nat :=
  let n := if v.fn = 0x0203 then max (v.inp 0).length (v.inp 2).length else (v.inp 0).length
  let q := quantumBytes half v
  max 1 ((n + q - 1) / q + ((v.inp 2).length + 16383) / 16384 * (if v.fn = 0x0603 ∨ v.fn = 0x0604 then 1 else 0))

/-- The TDES chained limit of the 0.5 µs tick (R323). -/
def halfTickFail (half : Bool) (v : Invoc) : Option Status :=
  let chained := match v.fn with
    | 0x0601 => v.opts % 16 == 0xA
    | 0x0201 => v.p1 % 16 != 3
    | 0x0202 => v.p1 % 16 != 3
    | 0x0203 => v.p1 % 16 != 3 || v.p1 / 65536 % 16 != 3
    | _ => false
  let n := if v.fn = 0x0203 then max (v.inp 0).length (v.inp 2).length else (v.inp 0).length
  if half && chained && decide (8 * 2 ^ 20 < n) then some .lengthLimit else none

end Sys2Proof.Machine
end

