-- ==== Sys2Proof/Machine/Pin.lean ====
section
/-! DEFINITION. The PIN functions (R113-R118). -/

namespace Sys2Proof.Machine

/-- The PAN has 12 to 19 digits (R113). -/
def panLenOk (p : Bytes) : Bool := decide (12 ≤ p.length ∧ p.length ≤ 19)

/-- A format is PAN-bound (Table 4.5). -/
def panBound (f : Nat) : Bool := f != 1

/-- Bytes of a PIN block (Table 4.5). -/
def pinBlockLen (f : Nat) : Nat := if f = 4 then 16 else 8

/-- The PAN block of formats 0 and 3 (R113). -/
def panBlock (pan : List Nat) : Bytes :=
  let ds := pan.dropLast
  let r := ds.drop (ds.length - 12)
  packNibbles (List.replicate (16 - r.length) 0 ++ r)

/-- The PAN field of format 4 (R113). -/
def panField (pan : List Nat) : Bytes :=
  packNibbles (((pan.length - 12) :: pan) ++ List.replicate (31 - pan.length) 0)

/-- The PIN of a plain PIN field, where it is valid (R114). `ns` are the 16 nibbles of control, length, digits and fill. -/
def pinOfField (f : Nat) (ns : List Nat) : Option (List Nat) :=
  let n := ns.getD 1 0
  let pin := (ns.drop 2).take n
  let fill := ns.drop (2 + n)
  let fillOk : Bool := match f with
    | 0 => fill.all (· == 0xF)
    | 3 => fill.all (fun x => decide (0xA ≤ x))
    | 4 => fill.all (· == 0xA)
    | _ => true
  if ns.getD 0 0 = f ∧ 4 ≤ n ∧ n ≤ 12 ∧ pin.all (fun d => decide (d ≤ 9)) ∧ fillOk then some pin else none

/-- Decipher and check a PIN block (R114). -/
def pinDecode (f : Nat) (key : Bytes) (pan : List Nat) (blk : Bytes) : Option (List Nat) :=
  if f = 4 then pinOfField 4 ((nibbles (aesDec key (xorB (aesDec key blk) (panField pan)))).take 16)
  else
    let p := tdesDec key blk
    pinOfField f (nibbles (if f = 1 then p else xorB p (panBlock pan)))

/-- The random fill of a PIN field: nibbles 0x0-0xF for format 1, 0xA-0xF for format 3 (Table 4.5). -/
def randomFill (f p n : Nat) : List Nat :=
  (freeBytes p n).map (fun b => if f = 1 then b.toNat % 16 else 10 + b.toNat % 6)

/-- The 16 nibbles of a plain PIN field (Table 4.5). -/
def pinField (f p : Nat) (pin : List Nat) : List Nat :=
  let n := 14 - pin.length
  let fill := match f with
    | 0 => List.replicate n 0xF
    | 4 => List.replicate n 0xA
    | _ => randomFill f p n
  [f, pin.length] ++ pin ++ fill

/-- Encipher a PIN (Table 4.5); `p` is the position of the free values for fill. -/
def pinEncode (f p : Nat) (key : Bytes) (pan pin : List Nat) : Bytes :=
  if f = 4 then
    aesEnc key (xorB (aesEnc key (packNibbles (pinField 4 p pin) ++ freeBytes p 8)) (panField pan))
  else
    let x := packNibbles (pinField f p pin)
    tdesEnc key (if f = 1 then x else xorB x (panBlock pan))

/-- Free bytes that enciphering in a format draws. -/
def pinDrawn (f : Nat) : Nat := if f = 0 then 0 else 16

/-- Table 4.6. -/
def translationAllowed (src dst : Nat) : Bool :=
  if src = 1 then true else if src = 4 then dst == 4 else dst != 1

/-- The PIN block format codes that are undefined, and the one that is not supported (R113). -/
def formatVals (fs : List Nat) : List (Bool × Status) :=
  [valIs (fs.all (fun f => decide (f ≤ 4))), supIs (fs.all (· != 2))]

/-- Strength of the destination at least that of the source (R115). -/
def strengthOk (src dst : KeyRec) : Bool :=
  match strengthRank src.alg src.len, strengthRank dst.alg dst.len with
  | some a, some b => decide (a ≤ b)
  | _, _ => false

/-- The PAN operand of an invocation. -/
def panOf (b : Bytes) : List Nat := (digitsOf b).getD []

/-- PIN_TRANSLATE (R116). -/
def fnPinTranslate : FnSpec where
  form v :=
    let s := v.opts % 16
    let d := v.opts / 16 % 16
    let needPan := panBound s || panBound d
    formOf { opts := 0xFF, k2 := true } v (formatVals [s, d])
      [ lenIs ((v.inp 0).length == pinBlockLen s), lenIs (if needPan then panLenOk (v.inp 1) else (v.inp 1).isEmpty),
        lenIs (absentFrom v 2 && ksnLenOk v), lenIs (decide (pinBlockLen d ≤ v.cap0)), valIs (isDigits (v.inp 1)) ]
  roles v :=
    [ k1Role v uPinDecrypt (roleAlg v (v.opts % 16 == 4)),
      { usage := some uPinEncrypt, algOk := if v.opts / 16 % 16 = 4 then isAes else isTdes } ]
  policy c :=
    let s := c.inv.opts % 16
    let d := c.inv.opts / 16 % 16
    match ksnPolicy c with
    | some st => some st
    | none =>
      firstFail [(translationAllowed s d && strengthOk (effK1 c .pin (s != 4)) c.k2, .translationForbidden)]
  compute c :=
    let s := c.inv.opts % 16
    let d := c.inv.opts / 16 % 16
    let pan := panOf (c.inv.inp 1)
    match pinDecode s (effK1 c .pin (s != 4)).mat pan (c.inv.inp 0) with
    | none => { st := .pinBlockInvalid }
    | some pin => { o0 := pinEncode d c.seed c.k2.mat pan pin, drawn := pinDrawn d }
  random v := v.opts / 16 % 16 != 0

/-- A decimalisation table has only digits, and every digit (R117). -/
def decTableOk (t : Nat) : Bool :=
  let ns := (List.range 16).map (fun k => t / 16 ^ k % 16)
  ns.all (fun n => decide (n ≤ 9)) && (List.range 10).all (fun d => ns.contains d)

/-- Decimalise nibbles by a table (R117). -/
def decimaliseBy (t : Nat) (ns : List Nat) : List Nat := ns.map (fun k => t / 16 ^ k % 16)

/-- The natural PIN of the offset method (R117): its leftmost `n` digits. -/
def naturalPin (k2 : Bytes) (validation : Bytes) (table n : Nat) : List Nat :=
  (decimaliseBy table (nibbles (tdesEnc k2 (unhex validation)))).take n

/-- Format checks that the offset functions share; `verify` adds the offset operand. -/
def offsetForm (verify : Bool) (v : Invoc) : Option Status :=
  let f := v.opts % 16
  let n := v.opts / 16 % 16
  formOf { opts := 0xFF, k2 := true, p1 := allBits } v
    ([valIs (decide (4 ≤ n ∧ n ≤ 12) && decTableOk v.p1)] ++ formatVals [f])
    [ lenIs ((v.inp 0).length == pinBlockLen f), lenIs (if panBound f then panLenOk (v.inp 1) else (v.inp 1).isEmpty),
      lenIs ((v.inp 2).length == 16), lenIs (if verify then (v.inp 3).length == n else (v.inp 3).isEmpty),
      lenIs (absentFrom v 4 && ksnLenOk v), lenIs (verify || decide (n ≤ v.cap0)),
      valIs (isDigits (v.inp 1) && isHexDigits (v.inp 2) && isDigits (v.inp 3)) ]

/-- Roles of the verification functions: K1 by the format, K2 TDES. -/
def pinRoles (u2 : Nat) (v : Invoc) : List Role :=
  [k1Role v uPinDecrypt (roleAlg v (v.opts % 16 == 4)), { usage := some u2, algOk := isTdes }]

/-- The PIN of I0 under K1 in the format of the options. -/
def pinOf (c : FnCtx) : Option (List Nat) :=
  let f := c.inv.opts % 16
  pinDecode f (effK1 c .pin (f != 4)).mat (panOf (c.inv.inp 1)) (c.inv.inp 0)

/-- PIN_VERIFY_OFFSET (R117). -/
def fnPinVerifyOffset : FnSpec where
  form := offsetForm true
  roles := pinRoles uPinVerify
  policy := ksnPolicy
  compute c :=
    let n := c.inv.opts / 16 % 16
    match pinOf c with
    | none => { st := .pinBlockInvalid }
    | some pin =>
      let nat := naturalPin c.k2.mat (c.inv.inp 2) c.inv.p1 n
      let sum := List.zipWith (fun a b => (a + b) % 10) nat (panOf (c.inv.inp 3))
      { st := if n ≤ pin.length ∧ sum = pin.take n then .ok else .pinMismatch }

/-- PIN_GENERATE_OFFSET (R117). -/
def fnPinGenerateOffset : FnSpec where
  form := offsetForm false
  roles := pinRoles uPinGenerate
  policy := ksnPolicy
  compute c :=
    let n := c.inv.opts / 16 % 16
    match pinOf c with
    | none => { st := .pinBlockInvalid }
    | some pin =>
      if pin.length < n then { st := .pinBlockInvalid }
      else
        let nat := naturalPin c.k2.mat (c.inv.inp 2) c.inv.p1 n
        { o0 := digitBytes (List.zipWith (fun p a => (p + 10 - a) % 10) (pin.take n) nat) }

/-- Decimalisation of R118: the digits 0-9 in order, then A-F reduced by 10; the first `n`. -/
def decimaliseScan (n : Nat) (ns : List Nat) : List Nat :=
  (ns.filter (· ≤ 9) ++ (ns.filter (fun x => decide (9 < x))).map (· - 10)).take n

/-- PIN_VERIFY_PVV (R118). -/
def fnPinVerifyPvv : FnSpec where
  form v :=
    let f := v.opts % 16
    formOf { opts := 0xFF, k2 := true } v ([valIs (decide (v.opts / 16 % 16 ≤ 9))] ++ formatVals [f])
      [ lenIs ((v.inp 0).length == pinBlockLen f), lenIs (panLenOk (v.inp 1)), lenIs ((v.inp 2).length == 4),
        lenIs (absentFrom v 3 && ksnLenOk v), valIs (isDigits (v.inp 1) && isDigits (v.inp 2)) ]
  roles := pinRoles uPinVerify
  policy := ksnPolicy
  compute c :=
    match pinOf c with
    | none => { st := .pinBlockInvalid }
    | some pin =>
      let ds := (panOf (c.inv.inp 1)).dropLast
      let tsp := ds.drop (ds.length - 11) ++ [c.inv.opts / 16 % 16] ++ pin.take 4
      let pvv := decimaliseScan 4 (nibbles (tdesEnc c.k2.mat (packNibbles tsp)))
      { st := if pvv = panOf (c.inv.inp 2) then .ok else .pinMismatch }

end Sys2Proof.Machine
end

