-- ==== Sys2Proof/Machine/CardFn.lean ====
section
/-! DEFINITION. The card functions (R122-R125). -/

namespace Sys2Proof.Machine

/-- Issuer master keys: two-key TDES or AES-128 (R122). -/
def issuerKey (k : KeyRec) : Bool := (isTdes k || isAes k) && k.len == 16

/-- The EMV session key of R122 (option A master key, common session key). -/
def emvSession (k1 : KeyRec) (pan psn atc : Bytes) : Bytes :=
  let ds := panOf pan ++ (if psn.isEmpty then [0, 0] else panOf psn)
  let r := ds.drop (ds.length - 16)
  let y := packNibbles (List.replicate (16 - r.length) 0 ++ r)
  let ny := y.map (· ^^^ 0xFF#8)
  if isTdes k1 then
    let mk := (tdesEnc k1.mat y ++ tdesEnc k1.mat ny).map oddParity
    (tdesEnc mk (atc ++ [0xF0#8] ++ zeros 5) ++ tdesEnc mk (atc ++ [0x0F#8] ++ zeros 5)).map oddParity
  else aesEnc (aesEnc k1.mat (y ++ ny)) (atc ++ [0xF0#8] ++ zeros 13)

/-- mac(data) of R122. -/
def emvMac (k1 : KeyRec) (sk m : Bytes) : Bytes := if isTdes k1 then mac3 sk 2 m else (cmac sk m).take 8

/-- Length and encoding checks of I0 to I2 (R122). -/
def emvLens (v : Invoc) : List (Bool × Status) :=
  [lenIs (panLenOk (v.inp 0) && [0, 2].contains (v.inp 1).length && (v.inp 2).length == 2)]

/-- ARQC_VERIFY (R123). -/
def fnArqcVerify : FnSpec where
  form v := formOf {} v []
    (emvLens v ++
     [ lenIs (decide (1 ≤ (v.inp 3).length ∧ (v.inp 3).length ≤ 1024) && (v.inp 4).length == 8 && (v.inp 5).isEmpty),
       valIs (isDigits (v.inp 0) && isDigits (v.inp 1)) ])
  roles _ := [{ usage := some uCardCryptogram, algOk := issuerKey }]
  policy _ := none
  compute c :=
    let sk := emvSession c.k1 (c.inv.inp 0) (c.inv.inp 1) (c.inv.inp 2)
    { st := if emvMac c.k1 sk (c.inv.inp 3) = c.inv.inp 4 then .ok else .cryptogramMismatch }

/-- ARPC_GENERATE (R124). -/
def fnArpcGenerate : FnSpec where
  form v :=
    let m := v.opts % 4
    formOf { opts := 3 } v [valIs (m == 1 || m == 2)]
      (emvLens v ++
       [ lenIs ((v.inp 3).length == 8 && (v.inp 4).length == (if m = 1 then 2 else 4)),
         lenIs (if m = 1 then (v.inp 5).isEmpty else decide ((v.inp 5).length ≤ 8)),
         lenIs (decide ((if m = 1 then 8 else 4) ≤ v.cap0)), valIs (isDigits (v.inp 0) && isDigits (v.inp 1)) ])
  roles _ := [{ usage := some uCardCryptogram, algOk := issuerKey }]
  policy c := firstFail [supIs (!(c.inv.opts % 4 == 1 && isAes c.k1))]
  compute c :=
    let v := c.inv
    let sk := emvSession c.k1 (v.inp 0) (v.inp 1) (v.inp 2)
    if v.opts % 4 = 1 then { o0 := tdesEnc sk (xorB (v.inp 3) (v.inp 4 ++ zeros 6)) }
    else { o0 := (emvMac c.k1 sk (v.inp 3 ++ v.inp 4 ++ v.inp 5)).take 4 }

/-- The card verification value (R125). -/
def cardValue (key : Bytes) (n : Nat) (pan expiry svc : Bytes) : List Nat :=
  let ds := panOf pan ++ panOf expiry ++ panOf svc
  let b := packNibbles (ds ++ List.replicate (32 - ds.length) 0)
  let ka := key.take 8
  decimaliseScan n (nibbles (tdesEnc key (xorB (desEnc ka (b.take 8)) (b.drop 8))))

/-- Format checks of the card value functions (R125). -/
def cardValueForm (verify : Bool) (v : Invoc) : Option Status :=
  let n := v.opts % 16
  formOf { opts := 0xF } v [valIs (n == 3 || n == 4)]
    [ lenIs (panLenOk (v.inp 0) && (v.inp 1).length == 4 && (v.inp 2).length == 3),
      lenIs ((if verify then (v.inp 3).length == n else (v.inp 3).isEmpty) && absentFrom v 4 && (v.inp 5).isEmpty),
      lenIs (verify || decide (n ≤ v.cap0)),
      valIs (isDigits (v.inp 0) && isDigits (v.inp 1) && isDigits (v.inp 2) && isDigits (v.inp 3)) ]

/-- Two-key TDES (R125). -/
def cardValueRole : Role := { usage := some uCardValue, algOk := fun k => isTdes k && k.len == 16 }

/-- CARD_VALUE_VERIFY (R125). -/
def fnCardValueVerify : FnSpec where
  form := cardValueForm true
  roles _ := [cardValueRole]
  policy _ := none
  compute c :=
    let v := cardValue c.k1.mat (c.inv.opts % 16) (c.inv.inp 0) (c.inv.inp 1) (c.inv.inp 2)
    { st := if v = panOf (c.inv.inp 3) then .ok else .cryptogramMismatch }

/-- CARD_VALUE_GENERATE (R125). -/
def fnCardValueGenerate : FnSpec where
  form := cardValueForm false
  roles _ := [cardValueRole]
  policy _ := none
  compute c := { o0 := digitBytes (cardValue c.k1.mat (c.inv.opts % 16) (c.inv.inp 0) (c.inv.inp 1) (c.inv.inp 2)) }

end Sys2Proof.Machine
end

