-- ==== Sys2Proof/Machine/FnKey.lean ====
section
/-! DEFINITION. Key derivation, tokens, hashes, HMAC, key generation, import, export, check values and random bytes
(R128, R129, R133, R134, R142-R146). Key blocks follow ANSI X9.143 and ISO 20038, PRESUMED from those standards
(log 10). -/

namespace Sys2Proof.Machine

/-- The new key of a derivation is AES, TDES or an HMAC secret (R128, R138). -/
def symNew (n : NewKey) : Option Status :=
  if classAllowed n.alg n.len n.cls && !algSym n.alg then some .algorithmMismatch else none

/-- KEY_DERIVE (R128). -/
def fnKeyDerive : FnSpec where
  form v := formOf { p2 := allBits, p3 := allBits } v []
    [lenIs (decide ((v.inp 0).length ≤ 64 ∧ (v.inp 1).length ≤ 64 ∧ 8 ≤ v.cap0) && absentFrom v 2 && (v.inp 5).isEmpty)]
  roles _ := [{ usage := some uDerive, algOk := isAes }]
  policy c :=
    let n := newKeyParams c.inv
    match symNew n with
    | some st => some st
    | none => newKeyFail n (some c.k1) c.symRoom
  compute c :=
    let n := newKeyParams c.inv
    outKey { n with mat := parityIf n (kdf108 c.k1.mat (c.inv.inp 0) (c.inv.inp 1) n.len) } 0

/-- Sum of the Luhn check over digits, last digit first, every second one doubled. -/
def luhnSum : Bool → List Nat → Nat
  | _, [] => 0
  | dbl, d :: ds => (if dbl then (if 2 * d > 9 then 2 * d - 9 else 2 * d) else d) + luhnSum (!dbl) ds

/-- The check digit that makes the digits before it pass the Luhn check. -/
def luhnDigit (ds : List Nat) : Nat := (10 - luhnSum true ds.reverse % 10) % 10

/-- Leading digits kept, trailing digits kept, and Luhn (R129). -/
def tokenShape (opts : Nat) : Nat × Nat × Bool := (opts % 16, opts / 16 % 8, bit opts 8)

/-- Digits that FF1 processes. -/
def tokenCore (opts len : Nat) : Nat :=
  let (l, t, k) := tokenShape opts
  len - (l + t + b2n k)

/-- Apply FF1 to the digits between those kept, and set the check digit again (R129). -/
def tokenApply (f : List Nat → List Nat) (opts : Nat) (ds : List Nat) : List Nat :=
  let (l, _, k) := tokenShape opts
  let n := tokenCore opts ds.length
  let body := ds.take l ++ f ((ds.drop l).take n) ++ (if k then (ds.drop (l + n)).dropLast else ds.drop (l + n))
  if k then body ++ [luhnDigit body] else body

/-- Format checks of the token functions (R129). -/
def tokenForm (v : Invoc) : Option Status :=
  let (l, t, k) := tokenShape v.opts
  let n := (v.inp 0).length
  let ds := (digitsOf (v.inp 0)).getD []
  formOf { opts := 0x17F } v [valIs (decide (l ≤ 8 ∧ t ≤ 4) && !(k && t == 4))]
    [ lenIs (decide (6 ≤ n ∧ n ≤ 64 ∧ (v.inp 1).length ≤ 32 ∧ n ≤ v.cap0) && absentFrom v 2 && (v.inp 5).isEmpty),
      lenIs (decide (6 ≤ tokenCore v.opts n)),
      valIs (isDigits (v.inp 0) && (!k || ds.getLastD 0 == luhnDigit ds.dropLast)) ]

/-- AES-256 (R129). -/
def tokenRole : Role := { usage := some uToken, algOk := fun k => isAes k && k.len == 32 }

/-- TOKENISE (R129). -/
def fnTokenise : FnSpec where
  form := tokenForm
  roles _ := [tokenRole]
  policy _ := none
  compute c :=
    { o0 := digitBytes (tokenApply (ff1Enc c.k1.mat (c.inv.inp 1)) c.inv.opts ((digitsOf (c.inv.inp 0)).getD [])) }

/-- DETOKENISE (R129). -/
def fnDetokenise : FnSpec where
  form := tokenForm
  roles _ := [tokenRole]
  policy _ := none
  compute c :=
    { o0 := digitBytes (tokenApply (ff1Dec c.k1.mat (c.inv.inp 1)) c.inv.opts ((digitsOf (c.inv.inp 0)).getD [])) }

/-- Digest lengths of R133 (0 for SHAKE). -/
def hashLen (a : Nat) : Nat := [0, 28, 32, 48, 64, 32, 48, 64].getD a 0

/-- The digest of R133; `n` bytes for SHAKE. -/
def hashOf (a n : Nat) (m : Bytes) : Bytes :=
  match a with
  | 1 => sha224 m
  | 2 => sha256 m
  | 3 => sha384 m
  | 4 => sha512 m
  | 5 => sha3 32 m
  | 6 => sha3 48 m
  | 7 => sha3 64 m
  | 8 => shake128 n m
  | _ => shake256 n m

/-- HASH (R133). -/
def fnHash : FnSpec where
  form v :=
    let a := v.opts % 16
    let xof := a == 8 || a == 9
    let n := v.p1 % 65536
    formOf { opts := 0xF, k1 := false, p1 := if xof then 0xFFFF else 0 } v
      [valIs (decide (1 ≤ a ∧ a ≤ 9) && (!xof || decide (1 ≤ n ∧ n ≤ 1024)))]
      [ lenIs (absentFrom v 1 && (v.inp 5).isEmpty && decide ((if xof then n else hashLen a) ≤ v.cap0)),
        limIs (decide ((v.inp 0).length ≤ mib16)) ]
  roles _ := []
  policy _ := none
  compute c := { o0 := hashOf (c.inv.opts % 16) (c.inv.p1 % 65536) (c.inv.inp 0) }

/-- Tag length of R134. -/
def hmacLen (v : Invoc) : Nat := let n := v.p1 % 128; if n = 0 then hashLen (v.opts % 16) else n

/-- HMAC of R134. -/
def hmacOf (a : Nat) (key m : Bytes) : Bytes := hmacWith (hashOf a 0) (if a ≤ 2 then 64 else 128) key m

/-- Format checks of the HMAC functions (R134). -/
def hmacForm (verify : Bool) (v : Invoc) : Option Status :=
  let a := v.opts % 16
  let d := hashLen a
  let t := v.p1 % 128
  formOf { opts := 0xF, p1 := 0x7F } v
    [ valIs (decide (1 ≤ a ∧ a ≤ 7) && (t == 0 || decide (10 ≤ t ∧ d ≤ 2 * t ∧ t ≤ d))), supIs (decide (a ≤ 4)) ]
    [ lenIs ((if verify then (v.inp 1).length == hmacLen v && absentFrom v 2
              else absentFrom v 1 && decide (hmacLen v ≤ v.cap0)) && (v.inp 5).isEmpty),
      limIs (decide ((v.inp 0).length ≤ mib16)) ]

/-- HMAC_GENERATE (R134). -/
def fnHmacGenerate : FnSpec where
  form := hmacForm false
  roles _ := [{ usage := some uMacGenerate, algOk := fun k => k.alg == algHmac }]
  policy _ := none
  compute c := { o0 := (hmacOf (c.inv.opts % 16) c.k1.mat (c.inv.inp 0)).take (hmacLen c.inv) }

/-- HMAC_VERIFY (R134). -/
def fnHmacVerify : FnSpec where
  form := hmacForm true
  roles _ := [{ usage := some uMacVerify, algOk := fun k => k.alg == algHmac }]
  policy _ := none
  compute c :=
    let t := (hmacOf (c.inv.opts % 16) c.k1.mat (c.inv.inp 0)).take (hmacLen c.inv)
    { st := if t = c.inv.inp 1 then .ok else .macMismatch }

/-- Length of the public form of an asymmetric key (Table 3.8, FIPS 203, FIPS 204). -/
def publicLen (alg len : Nat) : Nat :=
  if alg = algRsa then [0, 260, 388, 516].getD len 0
  else if alg = algEc then [0, 65, 97, 133].getD len 0
  else if alg = algEd then [0, 32, 57].getD len 0
  else if alg = algX then 32
  else if alg = algDsa then [0, 1312, 1952, 2592].getD len 0
  else [0, 800, 1184, 1568].getD len 0

/-- Bytes drawn to generate an asymmetric key: more than any algorithm needs. -/
def genDraw : Nat := 1536

/-- KEY_GENERATE (R142); RSA keys are not generated (R343). -/
def fnKeyGenerate : FnSpec where
  form v :=
    let n := newKeyParams v
    formOf { k1 := false, p2 := allBits, p3 := allBits } v [supIs (n.alg != algRsa)]
      [lenIs (absentFrom v 0 && (v.inp 5).isEmpty && decide (8 ≤ v.cap0) &&
        (algSym n.alg || decide (publicLen n.alg n.len ≤ v.cap1)))]
  roles _ := []
  policy c :=
    let n := newKeyParams c.inv
    match newKeyFail n none true with
    | some st => some st
    | none =>
      if !algSym n.alg && n.cls != 0x10 then some .badFieldValue
      else firstFail [(c.room n, .quotaExceeded)]
  compute c :=
    let n := newKeyParams c.inv
    if algSym n.alg then { newKey := some { n with mat := freeBytes c.seed n.len }, drawn := n.len }
    else
      let mat := Config.pkGenerate n.alg n.len (freeBytes c.seed genDraw)
      { newKey := some { n with mat := mat }, o1 := Config.pkPublic n.alg n.len mat, drawn := genDraw }
  random _ := true

/-- One row of Table 4.9: usage code, class, usage bits. -/
structure BlockUse where
  code : String
  cls : Nat
  usage : List Nat

/-- Table 4.9. -/
def blockUses : List BlockUse :=
  [ ⟨"B0", 0x06, [uDukptBase]⟩, ⟨"C0", 0x05, [uCardValue]⟩, ⟨"D0", 0x01, [uEncrypt, uDecrypt]⟩,
    ⟨"E0", 0x05, [uCardCryptogram]⟩, ⟨"K0", 0x04, [uWrap, uUnwrap]⟩, ⟨"M1", 0x03, [uMacGenerate, uMacVerify]⟩,
    ⟨"M3", 0x03, [uMacGenerate, uMacVerify]⟩ ] ++
  [ ⟨"M6", 0x03, [uMacGenerate, uMacVerify]⟩, ⟨"M7", 0x03, [uMacGenerate, uMacVerify]⟩,
    ⟨"P0", 0x02, [uPinEncrypt, uPinDecrypt]⟩, ⟨"V1", 0x02, [uPinVerify, uPinGenerate]⟩,
    ⟨"V2", 0x02, [uPinVerify, uPinGenerate]⟩ ]

/-- Usage bits a mode of use keeps (Table 4.9); none: the mode is not listed. -/
def modeBits (m : Byte) : Option (List Nat) :=
  if m = 0x45 then some [uEncrypt, uWrap, uPinEncrypt]
  else if m = 0x44 then some [uDecrypt, uUnwrap, uPinDecrypt]
  else if m = 0x47 then some [uMacGenerate, uPinGenerate]
  else if m = 0x56 then some [uMacVerify, uPinVerify]
  else if m = 0x42 ∨ m = 0x43 then some (List.range 21)
  else none

/-- A key block taken apart: header with optional blocks, wrapped key data, MAC, and its header fields. -/
structure KeyBlock where
  header : Bytes
  data : Bytes
  mac : Bytes
  alg : Byte
  mode : Byte
  usage : Bytes
  exportByte : Byte

/-- Skip `n` optional blocks from offset `off`; the offset after them, none where one is malformed. -/
def skipOptional (b : Bytes) : Nat → Nat → Option Nat
  | 0, off => some off
  | n + 1, off =>
    let l := slice b (off + 2) 2
    if l.length = 2 ∧ isHexDigits l then
      let k := ofBe (unhex l)
      if 4 ≤ k ∧ off + k ≤ b.length then skipOptional b n (off + k) else none
    else none

/-- The version letter of a block: "D" (AES, CBC), "B" (TDES, CBC), "E" (AES, CTR of ISO 20038). -/
def blockVersion (fmt : Nat) (k1Aes : Bool) : Byte := if fmt = 2 then 0x45 else if k1Aes then 0x44 else 0x42

/-- MAC length of a version. -/
def blockMacLen (ver : Byte) : Nat := if ver = 0x42 then 8 else 16

/-- Take a key block apart (R143): malformed header, other versions, unlisted codes. -/
def parseBlock (ver : Byte) (b : Bytes) : Except Status KeyBlock :=
  let ml := blockMacLen ver
  match digitsOf (slice b 1 4), digitsOf (slice b 12 2) with
  | some len, some nopt =>
    if b.headD 0 != ver then .error .unsupportedParameter
    else if digitsVal len != b.length ∨ b.length < 16 + 2 * ml then .error .badFieldValue
    else
      match skipOptional b (digitsVal nopt) 16 with
      | none => .error .badFieldValue
      | some off =>
        let body := b.drop off
        if isHexDigits body ∧ body.length % 2 = 0 ∧ 2 * ml < body.length then
          let raw := unhex body
          .ok { header := b.take off, data := raw.take (raw.length - ml), mac := raw.drop (raw.length - ml),
                alg := byteAt b 7, mode := byteAt b 8, usage := slice b 5 2, exportByte := byteAt b 11 }
        else .error .badFieldValue
  | _, _ => .error .badFieldValue

/-- Encryption and MAC keys of a block protection key: CMAC in counter mode over the derivation data of X9.143. -/
def blockKeys (k : KeyRec) : Bytes × Bytes :=
  let aes := isAes k
  let n := k.mat.length
  let code := if aes then (if n = 16 then 2 else if n = 24 then 3 else 4) else if n = 16 then 0 else 1
  let bl := if aes then 16 else 8
  let derive (u : Nat) : Bytes :=
    ((List.range ((n + bl - 1) / bl)).flatMap (fun i =>
      cmacWith bl (if aes then aesEnc k.mat else tdesEnc k.mat)
        ([BitVec.ofNat 8 (i + 1)] ++ be 2 u ++ [0#8] ++ be 2 code ++ be 2 (8 * n)))).take n
  (derive 0, derive 1)

/-- The MAC of a block: CMAC of header and plain key data. -/
def blockMac (ver : Byte) (km m : Bytes) : Bytes :=
  if ver = 0x42 then cmacWith 8 (tdesEnc km) m else cmac km m

/-- Encipher or decipher the key data of a block, the MAC as IV. -/
def blockCrypt (ver : Byte) (dec : Bool) (ke iv m : Bytes) : Bytes :=
  if ver = 0x42 then (if dec then cbcDec 8 (tdesDec ke) iv m else cbcEnc 8 (tdesEnc ke) iv m)
  else if ver = 0x44 then (if dec then cbcDec 16 (aesDec ke) iv m else cbcEnc 16 (aesEnc ke) iv m)
  else ctr (aesEnc ke) iv m

/-- Algorithm of a header's algorithm letter: A, T, H. -/
def blockAlg (c : Byte) : Option Nat :=
  if c = 0x41 then some algAes else if c = 0x54 then some algTdes else if c = 0x48 then some algHmac else none

/-- The new key that a block's header gives (Table 4.9), its length still open. -/
def blockNewKey (kb : KeyBlock) (p3 len : Nat) : Except Status NewKey :=
  match blockAlg kb.alg, blockUses.find? (fun u => ascii u.code == kb.usage), modeBits kb.mode with
  | some alg, some u, some keep =>
    let usage := (u.usage.filter keep.contains).foldl setBit (2 ^ uCheckValue)
    let fl := p3 % 2 ^ 32
    let flags := if kb.exportByte = 0x45 then setBit fl fExportable else fl
    if [0x45#8, 0x4E#8, 0x53#8].contains kb.exportByte then
      .ok { alg := alg, len := len, cls := u.cls, cap := 0, usage := usage, flags := flags, uses := p3 / 2 ^ 32, mat := [] }
    else .error .badFieldValue
  | _, _, _ => .error .unsupportedParameter

/-- The wrapped key of an import (R143) under K1's material: the new key with its material, or the failure. Used by
KEY_IMPORT_BLOCK and by the WRITE_KEY op (R362). -/
def unwrapKey (fmt : Nat) (k1 : KeyRec) (blk : Bytes) (p2 p3 : Nat) : Except Status NewKey :=
  let direct (m : Option Bytes) : Except Status NewKey :=
    match m with
    | none => .error .tagMismatch
    | some m =>
      let n := newKeyOf (p2 % 2 ^ 32) (p2 / 2 ^ 32) (p3 % 2 ^ 32) (p3 / 2 ^ 32)
      if m.length = n.len then .ok { n with mat := m } else .error .badFieldValue
  match fmt with
  | 3 => direct (kwUnwrap k1.mat blk)
  | 4 => direct (kwpUnwrap k1.mat blk)
  | 5 => direct (Config.oaepOpen k1.len k1.mat blk)
  | _ =>
    let ver := blockVersion fmt (isAes k1)
    match parseBlock ver blk with
    | .error e => .error e
    | .ok kb =>
      match blockNewKey kb p3 0 with
      | .error e => .error e
      | .ok n =>
        let (ke, km) := blockKeys k1
        let plain := blockCrypt ver true ke kb.mac kb.data
        let bitsLen := beAt plain 0 2
        if blockMac ver km (kb.header ++ plain) != kb.mac then .error .tagMismatch
        else if bitsLen % 8 != 0 ∨ plain.length < 2 + bitsLen / 8 ∨ bitsLen / 8 > 255 then .error .badFieldValue
        else .ok { n with len := bitsLen / 8, mat := slice plain 2 (bitsLen / 8) }

/-- Strength of an imported or exported key at most that of the wrapping key (R143, R144). -/
def wrapStrength (n : Nat × Nat) (k1 : KeyRec) (bad : Status) : Option Status :=
  match strengthRank n.1 n.2, strengthRank k1.alg k1.len with
  | some a, some b => if a ≤ b then none else some bad
  | _, _ => some .algorithmMismatch

/-- Keys that protect a format (R143). -/
def wrapKeyOk (fmt : Nat) (cls : Nat) (k : KeyRec) : Bool :=
  match fmt with
  | 1 => isAes k || isTdes k
  | 5 => k.alg == algRsa && k.cls == cls
  | _ => isAes k

/-- KEY_IMPORT_BLOCK (R143). -/
def fnKeyImportBlock : FnSpec where
  form v :=
    let f := v.opts % 16
    formOf { opts := 0xF, p2 := if f = 1 ∨ f = 2 then 0 else allBits, p3 := allBits } v
      [valIs (decide (1 ≤ f ∧ f ≤ 5))] [lenIs (absentFrom v 1 && (v.inp 5).isEmpty && decide (8 ≤ v.cap0))]
  roles v := [{ usage := some uUnwrap, algOk := wrapKeyOk (v.opts % 16) 0x10 }]
  policy c :=
    let v := c.inv
    let f := v.opts % 16
    if hEphemeral c.k1.handle then some .usageNotPermitted
    else if f = 1 ∨ f = 2 then
      match parseBlock (blockVersion f (isAes c.k1)) (v.inp 0) with
      | .error e => some e
      | .ok kb =>
        match blockNewKey kb v.p3 16 with
        | .error e => some e
        | .ok n => newKeyFail n none c.symRoom
    else
      let n := newKeyParams v
      match newKeyFail n none c.symRoom with
      | some st => some st
      | none =>
        if !algSym n.alg then some .unsupportedParameter else wrapStrength (n.alg, n.len) c.k1 .usageNotPermitted
  compute c :=
    match unwrapKey (c.inv.opts % 16) c.k1 (c.inv.inp 0) c.inv.p2 c.inv.p3 with
    | .error e => { st := e }
    | .ok n =>
      match newKeyFail n none c.symRoom, wrapStrength (n.alg, n.len) c.k1 .usageNotPermitted with
      | some st, _ => { st := st }
      | none, some st => { st := st }
      | none, none => { newKey := some n }

/-- The usage code and mode of use of an exported key (R144); none: no row of Table 4.9 fits. -/
def exportRow (k : KeyRec) : Option (String × Byte) :=
  let u := clearBit k.usage uCheckValue
  let pair (code : String) (a b : Nat) (ea eb : Byte) (both : Byte) : Option (String × Byte) :=
    if u = 2 ^ a + 2 ^ b then some (code, both) else if u = 2 ^ a then some (code, ea)
    else if u = 2 ^ b then some (code, eb) else none
  match k.cls with
  | 0x06 => if u = 2 ^ uDukptBase then some ("B0", 0x43) else none
  | 0x05 => if u = 2 ^ uCardValue then some ("C0", 0x43) else if u = 2 ^ uCardCryptogram then some ("E0", 0x43) else none
  | 0x01 => pair "D0" uEncrypt uDecrypt 0x45 0x44 0x42
  | 0x04 => pair "K0" uWrap uUnwrap 0x45 0x44 0x42
  | 0x03 => pair (if k.alg = algAes then "M6" else if k.alg = algHmac then "M7" else "M1")
              uMacGenerate uMacVerify 0x47 0x56 0x43
  | 0x02 =>
    match pair "P0" uPinEncrypt uPinDecrypt 0x45 0x44 0x42 with
    | some r => some r
    | none => pair "V1" uPinGenerate uPinVerify 0x47 0x56 0x43
  | _ => none

/-- Length of the wrapped form of a key (R144). -/
def exportLen (fmt : Nat) (k1 k2 : KeyRec) : Nat :=
  let n := k2.mat.length
  match fmt with
  | 3 => n + 8
  | 4 => roundUp n 8 + 8
  | 5 => [0, 256, 384, 512].getD k1.len 0
  | 2 => 16 + 2 * (2 + n) + 32
  | _ => if isAes k1 then 16 + 2 * roundUp (2 + n) 16 + 32 else 16 + 2 * roundUp (2 + n) 8 + 16

/-- Wrap a key (R144). `p` is the position of the free values for padding. -/
def wrapKey (fmt p : Nat) (k1 k2 : KeyRec) : Bytes :=
  match fmt with
  | 3 => kwWrap k1.mat k2.mat
  | 4 => kwpWrap k1.mat k2.mat
  | 5 => Config.oaepSeal k1.len k1.mat k2.mat (freeBytes p 32)
  | _ =>
    let ver := blockVersion fmt (isAes k1)
    let bl := if ver = 0x44 then 16 else if ver = 0x42 then 8 else 1
    let body := be 2 (8 * k2.mat.length) ++ k2.mat
    let plain := body ++ freeBytes p (roundUp body.length bl - body.length)
    let (code, mode) := (exportRow k2).getD ("D0", 0x42)
    let alg : Byte := if k2.alg = algAes then 0x41 else if k2.alg = algTdes then 0x54 else 0x48
    let hdr := [ver] ++ digitBytes (decimal 4 (exportLen fmt k1 k2)) ++ ascii code ++ [alg, mode] ++ ascii "00" ++
      [0x45#8] ++ ascii "0000"
    let (ke, km) := blockKeys k1
    let mac := blockMac ver km (hdr ++ plain)
    hdr ++ hexOf (blockCrypt ver false ke mac plain) ++ hexOf mac

/-- KEY_EXPORT_BLOCK (R144). -/
def fnKeyExportBlock : FnSpec where
  form v :=
    let f := v.opts % 16
    formOf { opts := 0xF, k2 := true } v [valIs (decide (1 ≤ f ∧ f ≤ 5))] [lenIs (absentFrom v 0 && (v.inp 5).isEmpty)]
  roles v := [{ usage := some uWrap, algOk := wrapKeyOk (v.opts % 16) 0x11 }, { usage := none, algOk := fun _ => true }]
  policy c :=
    let f := c.inv.opts % 16
    match firstFail
      [ (decide (exportLen f c.k1 c.k2 ≤ c.inv.cap0) && (f != 3 || c.k2.mat.length % 8 == 0), .badLength),
        (algSym c.k2.alg, .unsupportedParameter), (bit c.k2.flags fExportable, .exportNotPermitted),
        (!bit c.k2.flags fDualControl, .dualControlRequired),
        (!(f == 1 || f == 2) || (exportRow c.k2).isSome, .unsupportedParameter) ] with
    | some st => some st
    | none => wrapStrength (c.k2.alg, c.k2.len) c.k1 .exportNotPermitted
  compute c := { o0 := wrapKey (c.inv.opts % 16) c.seed c.k1 c.k2, drawn := 32 }
  random v := [1, 2, 5].contains (v.opts % 16)

/-- The check value of a key (R145). -/
def checkValue (k : KeyRec) : Bytes :=
  if isTdes k then (tdesEnc k.mat (zeros 8)).take 3
  else if isAes k then (cmac k.mat (zeros 16)).take 5
  else (hmac256 k.mat (zeros 16)).take 5

/-- KEY_CHECK_VALUE (R145). -/
def fnKeyCheckValue : FnSpec where
  form v := formOf {} v [] [lenIs (absentFrom v 0 && (v.inp 5).isEmpty)]
  roles _ := [{ usage := some uCheckValue, algOk := fun k => algSym k.alg }]
  policy c := firstFail [lenIs (decide ((if isTdes c.k1 then 3 else 5) ≤ c.inv.cap0))]
  compute c := { o0 := checkValue c.k1 }

/-- RANDOM (R146). -/
def fnRandom : FnSpec where
  form v :=
    let n := v.p1
    formOf { opts := 1, k1 := false, p1 := 0x1FFF } v [valIs (decide (1 ≤ n ∧ n ≤ 4096))]
      [lenIs (decide ((v.inp 0).length ≤ 32 ∧ n ≤ v.cap0) && absentFrom v 1 && (v.inp 5).isEmpty)]
  roles _ := []
  policy _ := none
  compute c := { o0 := freeBytes c.seed c.inv.p1, drawn := c.inv.p1 }
  random _ := true

/-- DRBG_RESEED (R146). -/
def fnDrbgReseed : FnSpec where
  form v := formOf { k1 := false } v []
    [lenIs (decide ((v.inp 0).length ≤ 32) && absentFrom v 1 && (v.inp 5).isEmpty)]
  roles _ := []
  policy _ := none
  compute _ := {}
  random _ := true

end Sys2Proof.Machine
end

