-- ==== Sys2Proof/Machine/FnPk.lean ====
section
/-! DEFINITION. Signatures, agreement and key encapsulation as functions (R68, R135-R141). The algorithms themselves are
opaque (Config; log 9). -/

namespace Sys2Proof.Machine

/-- Scheme and hash of the options (R135). -/
def sigScheme (opts : Nat) : Nat := opts % 16
/-- The hash code. -/
def sigHash (opts : Nat) : Nat := opts / 16 % 16

/-- Digest length of a hash code of R135. -/
def sigHashLen (h : Nat) : Nat := [0, 32, 48, 64, 32, 48, 64].getD h 0

/-- Format checks that SIGN and VERIFY share (R135). -/
def sigForm (verify : Bool) (v : Invoc) : Option Status :=
  let s := sigScheme v.opts
  let h := sigHash v.opts
  let hashed := s == 1 || s == 2 || s == 3
  formOf { opts := 0x3FF } v
    [ valIs (decide (1 ≤ s ∧ s ≤ 5 ∧ h ≤ 6) && (if hashed then h != 0 else s == 5 || h == 0) &&
        (hashed || !bit v.opts 8) && (s == 3 || !bit v.opts 9)),
      supIs (s != 5 || h == 0) ]
    [ lenIs (!bit v.opts 8 || (v.inp 0).length == sigHashLen h),
      lenIs (decide ((v.inp 1).length ≤ 255) && (s == 4 || s == 5 || (v.inp 1).isEmpty)),
      lenIs ((if verify then (v.inp 4).isEmpty else absentFrom v 2) && (v.inp 5).isEmpty),
      limIs (decide ((v.inp 0).length ≤ 2 ^ 20)) ]

/-- The scheme matches the key's algorithm (R135). -/
def sigAlgOk (opts : Nat) (k : KeyRec) : Bool :=
  match sigScheme opts with
  | 1 => k.alg == algRsa
  | 2 => k.alg == algRsa
  | 3 => k.alg == algEc
  | 4 => k.alg == algEd
  | _ => k.alg == algDsa

/-- Longest signature of a key under the options (R105 step 5). -/
def sigLen (opts : Nat) (k : KeyRec) : Nat :=
  if k.alg = algRsa then [0, 256, 384, 512].getD k.len 0
  else if k.alg = algEc then (if bit opts 9 then [0, 72, 104, 139].getD k.len 0 else [0, 64, 96, 132].getD k.len 0)
  else if k.alg = algEd then [0, 64, 114].getD k.len 0
  else [0, 2420, 3309, 4627].getD k.len 0

/-- A context string only for Ed448 and ML-DSA (R135). -/
def ctxOk (c : FnCtx) : Bool := !(c.k1.alg == algEd && c.k1.len == 1) || (c.inv.inp 1).isEmpty

/-- Bytes drawn for a signature: more than any scheme needs. -/
def signDraw : Nat := 96

/-- SIGN (R136). A signature that the retry limit of R345 leaves out gives SIGN_RETRY_LIMIT. -/
def fnSign : FnSpec where
  form := sigForm false
  roles v := [{ usage := some uSign, algOk := sigAlgOk v.opts }]
  policy c := firstFail [lenIs (ctxOk c && decide (sigLen c.inv.opts c.k1 ≤ c.inv.cap0))]
  compute c :=
    let draw := freeBytes c.seed signDraw
    if 256 < Config.signIterations c.k1.alg c.k1.len c.k1.mat (c.inv.inp 0) draw then { st := .signRetryLimit, drawn := signDraw }
    else
      let sig := Config.pkSign c.k1.alg c.k1.len c.inv.opts c.k1.mat (c.inv.inp 0) (c.inv.inp 1) draw
      if Config.pkVerify c.k1.alg c.k1.len c.inv.opts (Config.pkPublic c.k1.alg c.k1.len c.k1.mat) (c.inv.inp 0)
          (c.inv.inp 1) sig then { o0 := sig, drawn := signDraw }
      else { st := .hwFault, drawn := signDraw }
  random v := sigScheme v.opts == 2 || sigScheme v.opts == 3 || sigScheme v.opts == 5

/-- The public key an operation works with: K1's, or the one supplied for an anchor (R68). -/
def publicOf (k : KeyRec) (supplied : Bytes) : Bytes := if k.cls == 0x12 then supplied else k.mat

/-- The anchor check (R68) and the presence of the supplied key (R137). -/
def anchorFail (k : KeyRec) (supplied : Bytes) : Option Status :=
  if k.cls == 0x12 then
    firstFail [lenIs (!supplied.isEmpty), valIs (sha3 32 supplied == k.mat.take 32)]
  else firstFail [lenIs supplied.isEmpty]

/-- RSA public exponents are odd, from 3 (R137). -/
def rsaExponentOk (k : KeyRec) : Bool :=
  k.alg != algRsa || (let e := ofBe (k.mat.drop (k.mat.length - 4)); e % 2 == 1 && decide (3 ≤ e))

/-- VERIFY (R137). -/
def fnVerify : FnSpec where
  form := sigForm true
  roles v := [{ usage := some uVerify, algOk := sigAlgOk v.opts }]
  policy c :=
    match firstFail [lenIs (ctxOk c), valIs (rsaExponentOk c.k1)] with
    | some st => some st
    | none => anchorFail c.k1 (c.inv.inp 3)
  compute c :=
    { st := if Config.pkVerify c.k1.alg c.k1.len c.inv.opts (publicOf c.k1 (c.inv.inp 3)) (c.inv.inp 0) (c.inv.inp 1)
                (c.inv.inp 2) then .ok else .signatureInvalid }

/-- The KDF of R138 over a shared secret. -/
def agreeKdf (opts : Nat) (z info : Bytes) (n : Nat) : Bytes :=
  if opts % 16 = 1 then kdf56 sha256 32 z info n else kdf56 sha384 48 z info n

/-- The key a shared secret gives (R138). -/
def agreedKey (v : Invoc) (z : Bytes) : NewKey :=
  let n := newKeyParams v
  { n with mat := agreeKdf v.opts z (v.inp 1) n.len }

/-- KDF hash codes (R138). -/
def kdfVal (v : Invoc) : Bool × Status := valIs (v.opts % 16 == 1 || v.opts % 16 == 2)

/-- Checks of the new key of an agreement (R109, R138). -/
def agreeNewFail (c : FnCtx) (src : Option KeyRec) : Option Status :=
  let n := newKeyParams c.inv
  match symNew n with
  | some st => some st
  | none => newKeyFail n src c.symRoom

/-- KEY_AGREE (R139). -/
def fnKeyAgree : FnSpec where
  form v := formOf { opts := 0xF, p2 := allBits, p3 := allBits } v [kdfVal v]
    [lenIs ([32, 65, 97, 133].contains (v.inp 0).length && decide ((v.inp 1).length ≤ 64 ∧ 8 ≤ v.cap0) &&
      absentFrom v 2 && (v.inp 5).isEmpty)]
  roles _ := [{ usage := some uAgree, algOk := fun k => k.alg == algEc || k.alg == algX }]
  policy c :=
    match firstFail [lenIs ((c.inv.inp 0).length == publicLen c.k1.alg c.k1.len)] with
    | some st => some st
    | none => agreeNewFail c (some c.k1)
  compute c :=
    match Config.ecdh c.k1.alg c.k1.len c.k1.mat (c.inv.inp 0) with
    | none => { st := .badFieldValue }
    | some z => outKey (agreedKey c.inv z) 0

/-- The parameter set of an encapsulation (R140): the anchor's, or the options'. -/
def kemSet (v : Invoc) (k : KeyRec) : Nat := if v.k1 = 0 then v.opts / 16 % 4 else k.len

/-- Ciphertext lengths of ML-KEM (R140). -/
def kemCtLen (set : Nat) : Nat := [0, 768, 1088, 1568].getD set 0

/-- KEM_ENCAPS (R140). -/
def fnKemEncaps : FnSpec where
  form v :=
    let s := v.opts / 16 % 4
    formOf { opts := 0x3F, p2 := allBits, p3 := allBits } v [kdfVal v, valIs ((v.k1 == 0) == (s != 0))]
      [lenIs ([800, 1184, 1568].contains (v.inp 0).length && (v.k1 != 0 || (v.inp 0).length == publicLen algKem s) &&
        (v.k1 != 0 || decide (kemCtLen s ≤ v.cap0)) &&
        decide ((v.inp 1).length ≤ 64 ∧ 8 ≤ v.cap1) && absentFrom v 2 && (v.inp 5).isEmpty)]
  roles v := if v.k1 = 0 then [] else [{ usage := some uEncapsulate, algOk := fun k => k.alg == algKem }]
  policy c :=
    let v := c.inv
    let s := kemSet v c.k1
    match firstFail [ lenIs ((v.inp 0).length == publicLen algKem s && decide (kemCtLen s ≤ v.cap0)),
                      valIs (v.k1 == 0 || sha3 32 (v.inp 0) == c.k1.mat.take 32), valIs (Config.kemKeyOk s (v.inp 0)) ] with
    | some st => some st
    | none => agreeNewFail c none
  compute c :=
    let (ct, z) := Config.kemEncaps (kemSet c.inv c.k1) (c.inv.inp 0) (freeBytes c.seed 32)
    { newKey := some (agreedKey c.inv z), handleTo := 1, o0 := ct, drawn := 32 }
  random _ := true

/-- KEM_DECAPS (R141). -/
def fnKemDecaps : FnSpec where
  form v := formOf { opts := 0xF, p2 := allBits, p3 := allBits } v [kdfVal v]
    [lenIs ([768, 1088, 1568].contains (v.inp 0).length && decide ((v.inp 1).length ≤ 64 ∧ 8 ≤ v.cap0) &&
      absentFrom v 2 && (v.inp 5).isEmpty)]
  roles _ := [{ usage := some uDecapsulate, algOk := fun k => k.alg == algKem }]
  policy c :=
    match firstFail [lenIs ((c.inv.inp 0).length == kemCtLen c.k1.len)] with
    | some st => some st
    | none => agreeNewFail c (some c.k1)
  compute c := outKey (agreedKey c.inv (Config.kemDecaps c.k1.len c.k1.mat (c.inv.inp 0))) 0

end Sys2Proof.Machine
end

