-- ==== Sys2Proof/Machine/Mac.lean ====
section
/-! DEFINITION. The MAC functions (R119-R121). -/

namespace Sys2Proof.Machine

/-- Block size of a MAC specification's algorithm (R119). -/
def macBlock (spec : Nat) : Nat := if spec % 16 = 3 then 16 else 8

/-- MAC length of a specification. -/
def macLen (spec : Nat) : Nat := let n := spec / 256 % 32; if n = 0 then macBlock spec else n

/-- Defined bits of a MAC specification. -/
def macMask : Nat := 0x1F3F

/-- Value checks of MAC specifications (R119). -/
def macVals (specs : List Nat) : List (Bool × Status) :=
  [ valIs (specs.all (fun s =>
      let alg := s % 16
      let pad := s / 16 % 4
      let n := s / 256 % 32
      decide (1 ≤ alg ∧ alg ≤ 3) && (if alg = 3 then pad == 0 else pad != 0) &&
      (n == 0 || decide (4 ≤ n ∧ n ≤ macBlock s)))),
    supIs (specs.all (fun s => s % 16 == 3 || s / 16 % 4 != 3)) ]

/-- Keys a specification's algorithm takes (R119). -/
def macKeyOk (spec : Nat) (k : KeyRec) : Bool :=
  match spec % 16 with
  | 1 => isTdes k
  | 2 => isTdes k && k.len == 16
  | _ => isAes k

/-- Keys of role K1 under a specification, directly or as a DUKPT base key. -/
def macK1Ok (v : Invoc) (spec : Nat) (k : KeyRec) : Bool :=
  if v.dukpt then roleAlg v (spec % 16 == 3) k else macKeyOk spec k

/-- The MAC of data under key material. -/
def macOf (spec : Nat) (key m : Bytes) : Bytes :=
  let full := match spec % 16 with
    | 1 => mac1 key (spec / 16 % 4) m
    | 2 => mac3 key (spec / 16 % 4) m
    | _ => cmac key m
  full.take (macLen spec)

/-- MAC_GENERATE (R120). -/
def fnMacGenerate : FnSpec where
  form v := formOf { p1 := macMask } v (macVals [v.p1])
    [lenIs (absentFrom v 1 && ksnLenOk v && decide (macLen v.p1 ≤ v.cap0)), limIs (decide ((v.inp 0).length ≤ mib16))]
  roles v := [k1Role v uMacGenerate (macK1Ok v v.p1)]
  policy := ksnPolicy
  compute c := { o0 := macOf c.inv.p1 (effK1 c .macResponse (c.inv.p1 % 16 != 3)).mat (c.inv.inp 0) }

/-- MAC_VERIFY (R120). -/
def fnMacVerify : FnSpec where
  form v := formOf { p1 := macMask } v (macVals [v.p1])
    [lenIs (absentFrom v 2 && ksnLenOk v && (v.inp 1).length == macLen v.p1), limIs (decide ((v.inp 0).length ≤ mib16))]
  roles v := [k1Role v uMacVerify (macK1Ok v v.p1)]
  policy := ksnPolicy
  compute c :=
    let m := macOf c.inv.p1 (effK1 c .macRequest (c.inv.p1 % 16 != 3)).mat (c.inv.inp 0)
    { st := if m = c.inv.inp 1 then .ok else .macMismatch }

/-- MAC_TRANSLATE (R121). -/
def fnMacTranslate : FnSpec where
  form v :=
    let a := v.p1 % 65536
    let b := v.p1 / 65536
    formOf { opts := 1, k2 := true, p1 := macMask * 65536 + macMask } v (macVals [a, b])
      [ lenIs ((v.inp 1).length == macLen a && ksnLenOk v), lenIs (bit v.opts 0 || (v.inp 2).isEmpty),
        lenIs (absentFrom v 3 && decide (macLen b ≤ v.cap0)),
        limIs (decide ((v.inp 0).length ≤ mib16 ∧ (v.inp 2).length ≤ mib16)) ]
  roles v := [k1Role v uMacVerify (macK1Ok v (v.p1 % 65536)),
              { usage := some uMacGenerate, algOk := macKeyOk (v.p1 / 65536) }]
  policy := ksnPolicy
  compute c :=
    let a := c.inv.p1 % 65536
    let m := macOf a (effK1 c .macRequest (a % 16 != 3)).mat (c.inv.inp 0)
    if m = c.inv.inp 1 then
      { o0 := macOf (c.inv.p1 / 65536) c.k2.mat (if bit c.inv.opts 0 then c.inv.inp 2 else c.inv.inp 0) }
    else { st := .macMismatch, usedK2 := false }

end Sys2Proof.Machine
end

