-- ==== Sys2Proof/Machine/FnTable.lean ====
section
/-! DEFINITION. The function table (R112, Table 4.4) and what each function uses of its operands (R104, R186). -/

namespace Sys2Proof.Machine

/-- ATTEST (R147): the machine prepares the statement in `extra`. -/
def fnAttest : FnSpec where
  form v := formOf { opts := 1, k1 := false } v []
    [lenIs (decide (8 ≤ (v.inp 0).length ∧ (v.inp 0).length ≤ 64) && absentFrom v 1 && (v.inp 5).isEmpty)]
  roles _ := []
  policy c := firstFail [lenIs (decide (c.extra.length ≤ c.inv.cap0))]
  compute c := { o0 := c.extra, drawn := 96 }
  random _ := true

/-- Table 4.4: the defined functions. -/
def fnSpec (code : Nat) : Option FnSpec :=
  match code with
  | 0x0101 => some fnPinTranslate
  | 0x0102 => some fnPinVerifyOffset
  | 0x0103 => some fnPinVerifyPvv
  | 0x0104 => some fnPinGenerateOffset
  | 0x0201 => some fnMacGenerate
  | 0x0202 => some fnMacVerify
  | 0x0203 => some fnMacTranslate
  | 0x0301 => some fnArqcVerify
  | 0x0302 => some fnArpcGenerate
  | 0x0303 => some fnCardValueVerify
  | 0x0304 => some fnCardValueGenerate
  | 0x0401 => some fnDukptDerive
  | 0x0402 => some fnKeyDerive
  | 0x0501 => some fnTokenise
  | 0x0502 => some fnDetokenise
  | 0x0601 => some fnEncrypt
  | 0x0602 => some fnDecrypt
  | 0x0603 => some fnAeadSeal
  | 0x0604 => some fnAeadOpen
  | 0x0605 => some fnContextExport
  | 0x0606 => some fnContextImport
  | 0x0701 => some fnHash
  | 0x0702 => some fnHmacGenerate
  | 0x0703 => some fnHmacVerify
  | 0x0801 => some fnSign
  | 0x0802 => some fnVerify
  | 0x0901 => some fnKeyAgree
  | 0x0902 => some fnKemEncaps
  | 0x0903 => some fnKemDecaps
  | 0x0A01 => some fnKeyGenerate
  | 0x0A02 => some fnKeyImportBlock
  | 0x0A03 => some fnKeyExportBlock
  | 0x0A04 => some fnKeyCheckValue
  | 0x0B01 => some fnRandom
  | 0x0B02 => some fnDrbgReseed
  | 0x0C01 => some fnAttest
  | _ => none

/-- Functions not marked "Yes" under "In seams" (Table 4.4). -/
def serviceOnly : List Nat :=
  [0x0401, 0x0402, 0x0605, 0x0606, 0x0901, 0x0902, 0x0903, 0x0A01, 0x0A02, 0x0A03, 0x0B02, 0x0C01]

/-- The function may be applied by a seam (R112). -/
def inSeams (code : Nat) : Bool := (fnSpec code).isSome && !serviceOnly.contains code

/-- Input operands an invocation may use: those its function's rule names, I5 only with DUKPT_K1 and I2 of MAC_TRANSLATE only with option
bit 0 (R104, R186; log 29). -/
def usedInputs (v : Invoc) : List Nat :=
  let base := match v.fn with
    | 0x0101 => [0, 1]
    | 0x0102 => [0, 1, 2, 3]
    | 0x0103 => [0, 1, 2]
    | 0x0104 => [0, 1, 2]
    | 0x0201 => [0]
    | 0x0202 => [0, 1]
    | 0x0203 => if bit v.opts 0 then [0, 1, 2] else [0, 1]
    | 0x0301 => [0, 1, 2, 3, 4]
    | 0x0302 => [0, 1, 2, 3, 4, 5]
    | 0x0303 => [0, 1, 2, 3]
    | 0x0304 => [0, 1, 2]
    | 0x0501 => [0, 1]
    | 0x0502 => [0, 1]
    | 0x0601 => [0, 1]
    | 0x0602 => [0, 1]
    | 0x0603 => [0, 1, 2]
    | 0x0604 => [0, 1, 2]
    | 0x0701 => [0]
    | 0x0702 => [0]
    | 0x0703 => [0, 1]
    | 0x0801 => [0, 1]
    | 0x0802 => [0, 1, 2, 3]
    | 0x0B01 => [0]
    | _ => []
  if v.dukpt then base ++ [5] else base

/-- Output operands a function writes. -/
def usedOutputs (v : Invoc) : List Nat :=
  match v.fn with
  | 0x0102 => []
  | 0x0103 => []
  | 0x0202 => []
  | 0x0301 => []
  | 0x0303 => []
  | 0x0703 => []
  | 0x0802 => []
  | 0x0603 => [0, 1]
  | _ => [0]

/-- Key roles a function uses. -/
def usesK1 (v : Invoc) : Bool := !([0x0701, 0x0B01].contains v.fn)
/-- K2 is used. -/
def usesK2 (v : Invoc) : Bool :=
  [0x0101, 0x0102, 0x0103, 0x0104, 0x0203].contains v.fn || ([0x0601, 0x0602].contains v.fn && v.opts % 16 == 4)

/-- The invocation runs on the public-key engines (R342): it is a public-key job. -/
def isPkFn (v : Invoc) : Bool :=
  [0x0801, 0x0802, 0x0901, 0x0902, 0x0903, 0x0C01].contains v.fn ||
  (v.fn == 0x0A01 && !algSym (v.p2 % 256)) || ([0x0A02, 0x0A03].contains v.fn && v.opts % 16 == 5)

end Sys2Proof.Machine
end

