-- ==== Sys2Proof/Machine/Pattern.lean ====
section
/-! DEFINITION. Patterns (chapter 5): the pattern section's layout and validation (R160-R166), parsing (R149-R159, R168),
reading and writing through selectors (R167, R172, R173), and rebuilding (R170, R171). A parsed message keeps every raw
byte, so that what no write changed is rebuilt bit for bit. -/

namespace Sys2Proof.Machine

/-- A field entry (Table 5.5). -/
structure FieldDef where
  element : Nat
  cls : Nat
  wire : Nat
  kind : Nat
  penc : Nat
  len : Nat
  off : Nat
  flags : Nat
  deriving DecidableEq, Repr, Inhabited

/-- A TLV path entry (Table 5.6); `tags` has one tag for each level. -/
structure PathDef where
  container : Nat
  occ : Nat
  tags : List Bytes
  deriving DecidableEq, Repr, Inhabited

/-- A view entry (Table 5.7). -/
structure ViewDef where
  src : Nat
  start : Nat
  len : Nat
  fromRight : Bool
  deriving DecidableEq, Repr, Inhabited

/-- A pattern description (Table 5.4). -/
structure PatternDef where
  grammar : Nat := 1
  edition : Nat := 0
  pfx : Nat := 0
  hdrLen : Nat := 0
  mtiEnc : Nat := 0
  bmEnc : Nat := 0
  flags : Nat := 0
  notice : Bool := false
  macSel : Nat := 0
  recLen : Nat := 0
  fields : List FieldDef := []
  paths : List PathDef := []
  views : List ViewDef := []
  deriving DecidableEq, Repr, Inhabited

/-- The pattern section (Table 5.3): EBCDIC table and patterns by number. -/
structure PatternSec where
  ebcdic : Bytes := []
  patterns : Tbl PatternDef := []
  deriving DecidableEq, Repr, Inhabited

/-- SECONDARY, TERTIARY and the other header flags (Table 5.4). -/
def PatternDef.pfxSelf (p : PatternDef) : Bool := bit p.flags 0
def PatternDef.secondary (p : PatternDef) : Bool := bit p.flags 1
def PatternDef.tertiary (p : PatternDef) : Bool := bit p.flags 2
def PatternDef.mtiCheck (p : PatternDef) : Bool := bit p.flags 3
def PatternDef.trim (p : PatternDef) : Bool := bit p.flags 4

/-- A field present in a message: its index, raw prefix, length in units, raw wire bytes. -/
structure MsgField where
  ix : Nat
  pre : Bytes
  units : Nat
  raw : Bytes
  deriving DecidableEq, Repr, Inhabited

/-- A parsed message (raw parts in wire order). `body` is the record of grammar 2. -/
structure Msg where
  hdr : Bytes := []
  mti : Bytes := []
  bms : List Bytes := []
  fields : List MsgField := []
  body : Bytes := []
  deriving DecidableEq, Repr, Inhabited

/-- Wire bytes of `n` units of a field (R151). -/
def wireLen (f : FieldDef) (n : Nat) : Nat :=
  if f.cls = 1 ∧ f.wire = 2 then (n + 1) / 2
  else if (f.cls = 4 ∨ f.cls = 5) ∧ f.wire = 1 then n / 2
  else n

/-- ASCII of one EBCDIC digit or hex character; none where it is none (R151). -/
def ebcHex (b : Byte) : Option Byte :=
  let x := b.toNat
  if 0xF0 ≤ x ∧ x ≤ 0xF9 then some (BitVec.ofNat 8 (x - 0xC0))
  else if 0xC1 ≤ x ∧ x ≤ 0xC6 then some (BitVec.ofNat 8 (x - 0x80))
  else if 0x81 ≤ x ∧ x ≤ 0x86 then some (BitVec.ofNat 8 (x - 0x40))
  else none

/-- One ASCII hex character in uppercase; none where it is none. -/
def ascHex (b : Byte) : Option Byte :=
  let x := b.toNat
  if (0x30 ≤ x ∧ x ≤ 0x39) ∨ (0x41 ≤ x ∧ x ≤ 0x46) then some b
  else if 0x61 ≤ x ∧ x ≤ 0x66 then some (BitVec.ofNat 8 (x - 0x20))
  else none

/-- An uppercase hex character in EBCDIC. -/
def toEbcHex (b : Byte) : Byte := if b.toNat ≤ 0x39 then b + 0xC0#8 else b + 0x80#8

/-- Map every byte; on the first that fails, its position. -/
def mapAt (f : Byte → Option Byte) : Nat → Bytes → Except Nat Bytes
  | _, [] => .ok []
  | i, b :: bs =>
    match f b with
    | none => .error i
    | some c => match mapAt f (i + 1) bs with
      | .error e => .error e
      | .ok cs => .ok (c :: cs)

/-- The EBCDIC table's image of a byte (R152). -/
def ebcMap (tbl : Bytes) (b : Byte) : Option Byte :=
  let a := tbl.getD b.toNat 0
  if a = 0 then none else some a

/-- The byte whose image is `a`. -/
def ebcUnmap (tbl : Bytes) (a : Byte) : Option Byte :=
  if a = 0 then none else (tbl.findIdx? (· == a)).map (BitVec.ofNat 8)

/-- An odd list of hex digits packed with a 0 nibble on the left (R151). -/
def packHex (ds : Bytes) : Bytes := unhex (if ds.length % 2 = 1 then 0x30#8 :: ds else ds)

/-- The value of a field as an operand (R151); an invalid byte gives its position in the raw bytes. -/
def fieldValue (ebc : Bytes) (f : FieldDef) (units : Nat) (raw : Bytes) : Except Nat Bytes :=
  match f.cls with
  | 1 =>
    if f.wire = 2 then
      let ns := nibbles raw
      let skip := if units % 2 = 1 ∧ ¬ bit f.flags 0 then 1 else 0
      let ds := (ns.drop skip).take units
      match ds.findIdx? (fun d => decide (9 < d)) with
      | some i => .error ((i + skip) / 2)
      | none => .ok (digitBytes ds)
    else if f.wire = 3 then mapAt (fun b => if 0x30 ≤ b.toNat ∧ b.toNat ≤ 0x39 then some b else none) 0 raw
    else mapAt (fun b => if 0xF0 ≤ b.toNat ∧ b.toNat ≤ 0xF9 then some (b - 0xC0#8) else none) 0 raw
  | 2 => if f.wire = 4 then mapAt (ebcMap ebc) 0 raw else .ok raw
  | 3 => .ok raw
  | c =>
    if f.wire = 1 then .ok (if c = 4 then raw else hexOf raw)
    else
      match mapAt (if f.wire = 4 then ebcHex else ascHex) 0 raw with
      | .error e => .error e
      | .ok ds => .ok (if c = 4 then packHex ds else ds)

/-- The wire form of digits in BCD with the field's pad (R151, R171). -/
def bcdWire (flags : Nat) (ds : List Nat) : Bytes :=
  let p := if bit flags 1 then 0xF else 0
  packNibbles (if ds.length % 2 = 0 then ds else if bit flags 0 then ds ++ [p] else p :: ds)

/-- The wire form of an operand value for a field: its units and bytes, or the refusal (R151, R173). -/
def fieldWire (ebc : Bytes) (f : FieldDef) (v : Bytes) : Except Status (Nat × Bytes) :=
  let chars (ds : Bytes) : Nat × Bytes := (ds.length, if f.wire = 4 then ds.map toEbcHex else ds)
  match f.cls with
  | 1 =>
    match digitsOf v with
    | none => .error .badFieldValue
    | some ds =>
      .ok (ds.length, if f.wire = 2 then bcdWire f.flags ds else if f.wire = 4 then v.map (· + 0xC0#8) else v)
  | 2 =>
    if f.wire = 4 then
      match v.mapM (ebcUnmap ebc) with
      | none => .error .badFieldValue
      | some r => .ok (v.length, r)
    else .ok (v.length, v)
  | 3 => .ok (v.length, v)
  | 4 =>
    if f.wire = 1 then .ok (2 * v.length, v)
    else if f.kind = 0 ∧ f.len % 2 = 1 ∧ v.length = (f.len + 1) / 2 then
      if byteAt v 0 ≥ 16 then .error .badFieldValue else .ok (chars ((hexOf v).drop 1))
    else .ok (chars (hexOf v))
  | _ =>
    if !isHexDigits v then .error .badFieldValue
    else if f.wire = 1 then (if v.length % 2 = 1 then .error .badLength else .ok (v.length, unhex v))
    else .ok (chars v)

/-- Bytes of a length prefix (Table 5.2). -/
def pfxLen (f : FieldDef) : Nat :=
  if f.kind = 0 then 0
  else if f.penc = 1 ∨ f.penc = 2 then (if f.kind = 2 then 1 else 2)
  else f.kind

/-- Read a length prefix (Table 5.2). -/
def pfxRead (f : FieldDef) (b : Bytes) : Option Nat :=
  let lim := if f.kind = 2 then 99 else 999
  let v := match f.penc with
    | 1 => some (ofBe b)
    | 2 => let ns := nibbles b; if ns.all (fun d => decide (d ≤ 9)) then some (digitsVal ns) else none
    | 3 => (digitsOf b).map digitsVal
    | _ => (digitsOf (b.map (fun c => if 0xF0 ≤ c.toNat ∧ c.toNat ≤ 0xF9 then c - 0xC0#8 else 0))).map digitsVal
  match v with
  | some n => if n ≤ lim then some n else none
  | none => none

/-- Write a length prefix (Table 5.2). -/
def pfxWrite (f : FieldDef) (n : Nat) : Bytes :=
  match f.penc with
  | 1 => be (pfxLen f) n
  | 2 => packNibbles (decimal (2 * pfxLen f) n)
  | 3 => digitBytes (decimal f.kind n)
  | _ => (digitBytes (decimal f.kind n)).map (· + 0xC0#8)

/-- What a prefix counts: units, or wire bytes under COUNT_BYTES (R155). -/
def pfxCount (f : FieldDef) (units : Nat) (raw : Bytes) : Nat := if bit f.flags 2 then raw.length else units

/-- Units that a prefix value stands for. -/
def pfxUnits (f : FieldDef) (n : Nat) : Nat :=
  if bit f.flags 2 ∧ (f.cls = 4 ∨ f.cls = 5) ∧ f.wire = 1 then 2 * n else n

/-! ### BER-TLV (R157) -/

/-- A piece of a TLV series: a padding byte, or an object with its raw tag, raw length and value. -/
inductive Tlv where
  | pad
  | obj (tag len value : Bytes)
  deriving DecidableEq, Repr, Inhabited

/-- Bytes of a tag at the head; none: it would need a fourth byte, or the bytes end. -/
def tagLen (b : Bytes) : Option Nat :=
  match b with
  | [] => none
  | t :: r =>
    if t.toNat % 32 = 0x1F then
      match r with
      | [] => none
      | u :: r' =>
        if u.toNat < 128 then some 2
        else match r' with
          | [] => none
          | w :: _ => if w.toNat < 128 then some 3 else none
    else some 1

/-- Length bytes at the head: how many and the value. -/
def berLen (b : Bytes) : Option (Nat × Nat) :=
  match b with
  | [] => none
  | l :: r =>
    if l.toNat < 128 then some (1, l.toNat)
    else if l = 0x81 ∧ 1 ≤ r.length then some (2, byteAt r 0)
    else if l = 0x82 ∧ 2 ≤ r.length then some (3, beAt r 0 2)
    else none

/-- The shortest form of a length (R171). -/
def berLenBytes (n : Nat) : Bytes :=
  if n < 128 then [BitVec.ofNat 8 n] else if n < 256 then [0x81#8, BitVec.ofNat 8 n] else 0x82#8 :: be 2 n

/-- The pieces of one level, with the offset of a malformed object on failure. -/
def tlvItems : Nat → Nat → Bytes → Except Nat (List Tlv)
  | 0, off, b => if b.isEmpty then .ok [] else .error off
  | fuel + 1, off, b =>
    match b with
    | [] => .ok []
    | t :: r =>
      if t = 0 then
        match tlvItems fuel (off + 1) r with
        | .error e => .error e
        | .ok is => .ok (.pad :: is)
      else
        match tagLen b with
        | none => .error off
        | some tl =>
          match berLen (b.drop tl) with
          | none => .error off
          | some (ll, n) =>
            let rest := b.drop (tl + ll)
            if rest.length < n then .error off
            else
              match tlvItems fuel (off + tl + ll + n) (rest.drop n) with
              | .error e => .error e
              | .ok is => .ok (.obj (b.take tl) ((b.drop tl).take ll) (rest.take n) :: is)

/-- One level's pieces; empty where malformed. -/
def tlvLevel (b : Bytes) : List Tlv := match tlvItems (b.length + 1) 0 b with | .ok is => is | .error _ => []

/-- A tag is constructed (R157). -/
def tagConstructed (t : Bytes) : Bool := bit (byteAt t 0) 5

/-- Bytes of pieces. -/
def tlvBytes (is : List Tlv) : Bytes :=
  is.flatMap (fun i => match i with | .pad => [0#8] | .obj t l v => t ++ l ++ v)

/-- Walk a series by R157, objects in the order in which they stand: `depth` levels remain, `used` objects of the message
came before, and no more than `lim` may stand in it. The count after the series, or the failure with its object's offset. -/
def tlvWalk (lim : Nat) : Nat → Nat → Nat → Nat → Bytes → Except (Status × Nat) Nat
  | 0, _, off, used, b => if b.isEmpty then .ok used else .error (.parseFailed, off)
  | fuel + 1, depth, off, used, b =>
    match b with
    | [] => .ok used
    | t :: r =>
      if t = 0 then tlvWalk lim fuel depth (off + 1) used r
      else if depth = 0 ∨ lim ≤ used then .error (.parseLimit, off)
      else
        match tagLen b with
        | none => .error (.parseFailed, off)
        | some tl =>
          match berLen (b.drop tl) with
          | none => .error (.parseFailed, off)
          | some (ll, n) =>
            let rest := b.drop (tl + ll)
            let o := off + tl + ll
            if rest.length < n then .error (.parseFailed, off)
            else
              match (if tagConstructed (b.take tl) then tlvWalk lim fuel (depth - 1) o (used + 1) (rest.take n)
                else .ok (used + 1)) with
              | .error e => .error e
              | .ok u => tlvWalk lim fuel depth (o + n) u (rest.drop n)

/-- Check a series with no bound on its objects: their number, or the failure. -/
def tlvCheck (b : Bytes) : Except (Status × Nat) Nat := tlvWalk (b.length + 1) (b.length + 1) 4 0 0 b

/-- Objects in a series, all levels together. -/
def tlvCount (b : Bytes) : Nat := match tlvCheck b with | .ok n => n | .error _ => 0

/-- The object a path names, in a level's pieces (R163). -/
def tlvFind : List Bytes → Nat → Bytes → Option Bytes
  | [], _, _ => none
  | [t], occ, b =>
    let hits := (tlvLevel b).filterMap (fun i => match i with | .pad => none | .obj t' _ v => if t' = t then some v else none)
    hits[occ]?
  | t :: ts, occ, b =>
    let hits := (tlvLevel b).filterMap (fun i => match i with | .pad => none | .obj t' _ v => if t' = t then some v else none)
    match hits with
    | [] => none
    | v :: _ => tlvFind ts occ v

/-- An object with a changed value: its length keeps its form where the length is unchanged (R170, R171). -/
def tlvPut (t l old v : Bytes) : Tlv := .obj t (if v.length = old.length then l else berLenBytes v.length) v

/-- Change the `occ`-th object of a tag: `f` gives its new form, or none to delete it. -/
def tlvAlter (t : Bytes) (f : Bytes → Option Bytes) : Nat → List Tlv → List Tlv
  | _, [] => []
  | occ, .pad :: is => .pad :: tlvAlter t f occ is
  | occ, .obj t' l v :: is =>
    if t' = t then
      match occ with
      | 0 => match f v with
        | none => is
        | some v' => tlvPut t' l v v' :: is
      | occ + 1 => .obj t' l v :: tlvAlter t f occ is
    else .obj t' l v :: tlvAlter t f occ is

/-- Write (or, with none, remove) the object a path names within a series (R172, R173). -/
def tlvWrite (new : Option Bytes) (occ : Nat) : List Bytes → Bytes → Except Status Bytes
  | [], _ => .error .badFieldValue
  | [t], b =>
    let is := tlvLevel b
    let n := is.countP (fun i => match i with | .pad => false | .obj t' _ _ => t' == t)
    match new with
    | none => .ok (tlvBytes (tlvAlter t (fun _ => none) occ is))
    | some v =>
      if tagConstructed t then .error .badFieldValue
      else if occ < n then .ok (tlvBytes (tlvAlter t (fun _ => some v) occ is))
      else if occ = n then .ok (b ++ t ++ berLenBytes v.length ++ v)
      else .error .badFieldValue
  | t :: ts, b =>
    let is := tlvLevel b
    let hit := is.findSome? (fun i => match i with | .pad => none | .obj t' _ v => if t' = t then some v else none)
    match hit with
    | none => if new.isNone then .ok b else .error .badFieldValue
    | some inner =>
      match tlvWrite new occ ts inner with
      | .error e => .error e
      | .ok inner' => .ok (tlvBytes (tlvAlter t (fun _ => some inner') 0 is))

/-! ### Parsing (R153-R159, R168) -/

/-- Parse one field at offset `off`; `b` holds the bytes from there, and `used` TLV objects came before. The field, the
offset after it and the objects so far. -/
def parseField (ebc : Bytes) (ix : Nat) (f : FieldDef) (off used : Nat) (b : Bytes) :
    Except (Status × Nat) (MsgField × Nat × Nat) :=
  let pl := pfxLen f
  let raw (units : Nat) (pre : Bytes) : Except (Status × Nat) (MsgField × Nat × Nat) :=
    let n := wireLen f units
    if b.length < pl + n then .error (.parseFailed, off)
    else
      let r := slice b pl n
      match fieldValue ebc f units r with
      | .error i => .error (.parseFailed, off + pl + i)
      | .ok _ =>
        if bit f.flags 3 then
          match tlvWalk 256 (r.length + 1) 4 (off + pl) used r with
          | .error e => .error e
          | .ok u => .ok (⟨ix, pre, units, r⟩, off + pl + n, u)
        else .ok (⟨ix, pre, units, r⟩, off + pl + n, used)
  if f.kind = 0 then raw f.len []
  else if b.length < pl then .error (.parseFailed, off)
  else
    match pfxRead f (b.take pl) with
    | none => .error (.parseFailed, off)
    | some n =>
      let u := pfxUnits f n
      if f.len < n ∨ ((f.cls = 4 ∨ f.cls = 5) ∧ f.wire = 1 ∧ u % 2 = 1) then .error (.parseFailed, off)
      else raw u (b.take pl)

/-- Parse the given fields one after another; the fields and the offset after them. -/
def parseFields (ebc : Bytes) (m : Bytes) : List (Nat × FieldDef) → Nat → Nat → Except (Status × Nat) (List MsgField × Nat)
  | [], off, _ => .ok ([], off)
  | (ix, f) :: fs, off, used =>
    match parseField ebc ix f off used (m.drop off) with
    | .error e => .error e
    | .ok (mf, off', u) =>
      match parseFields ebc m fs off' u with
      | .error e => .error e
      | .ok (rest, e) => .ok (mf :: rest, e)

/-- Grammar 3: mandatory fields, then optional ones while bytes remain (R159). -/
def parseSeq (ebc : Bytes) (m : Bytes) : List (Nat × FieldDef) → Nat → Nat → Except (Status × Nat) (List MsgField × Nat)
  | [], off, _ => .ok ([], off)
  | (ix, f) :: fs, off, used =>
    if off = m.length then
      if bit f.flags 4 then .ok ([], off) else .error (.parseFailed, off)
    else
      match parseField ebc ix f off used (m.drop off) with
      | .error e => .error e
      | .ok (mf, off', u) =>
        match parseSeq ebc m fs off' u with
        | .error e => .error e
        | .ok (rest, e) => .ok (mf :: rest, e)

/-- Bytes of a bitmap on the wire (R154). -/
def bmLen (p : PatternDef) : Nat := if p.bmEnc = 1 then 8 else 16

/-- The 64 bits of a raw bitmap, most significant first; none where a character is no hex digit. -/
def bmBits (p : PatternDef) (raw : Bytes) : Option Nat :=
  if p.bmEnc = 1 then some (ofBe raw)
  else match mapAt (if p.bmEnc = 4 then ebcHex else ascHex) 0 raw with
    | .error _ => none
    | .ok ds => some (ofBe (unhex ds))

/-- A bitmap's wire form, hex in uppercase (R172). -/
def bmWire (p : PatternDef) (x : Nat) : Bytes :=
  if p.bmEnc = 1 then be 8 x else if p.bmEnc = 4 then (hexOf (be 8 x)).map toEbcHex else hexOf (be 8 x)

/-- Bit `k` (from 1) of a bitmap is set. -/
def bmBit (x k : Nat) : Bool := bit x (64 - k)

/-- The index of a data element's entry. -/
def elementIx (p : PatternDef) (e : Nat) : Option Nat := p.fields.findIdx? (fun f => f.element == e)

/-- Elements of bitmap `j` (0, 1, 2) that announce no further bitmap. -/
def bmElements (p : PatternDef) (j x : Nat) : List Nat :=
  ((List.range 64).map (· + 1)).filterMap (fun k =>
    let e := k + 64 * j
    if bmBit x k ∧ ¬ (j = 0 ∧ k = 1) ∧ ¬ (j = 1 ∧ k = 1 ∧ p.tertiary) then some e else none)

/-- The bits of bitmap `j` are acceptable (R154). -/
def bmOk (p : PatternDef) (j x : Nat) : Bool :=
  (j != 0 || !bmBit x 1 || p.secondary) && (j != 2 || !bmBit x 1) &&
  (bmElements p j x).all (fun e => (elementIx p e).isSome)

/-- A further bitmap follows bitmap `j`. -/
def bmMore (p : PatternDef) (j x : Nat) : Bool := bmBit x 1 && (j == 0 || (j == 1 && p.tertiary))

/-- Read the bitmaps from offset `off`: raw bitmaps, elements, and the offset after them. -/
def parseBms (p : PatternDef) (m : Bytes) : Nat → Nat → Nat → Except (Status × Nat) (List Bytes × List Nat × Nat)
  | 0, _, off => .ok ([], [], off)
  | fuel + 1, j, off =>
    let raw := slice m off (bmLen p)
    match bmBits p raw with
    | none => .error (.parseFailed, off)
    | some x =>
      if raw.length < bmLen p ∨ ¬ bmOk p j x then .error (.parseFailed, off)
      else if bmMore p j x then
        match parseBms p m fuel (j + 1) (off + bmLen p) with
        | .error e => .error e
        | .ok (bs, es, e) => .ok (raw :: bs, bmElements p j x ++ es, e)
      else .ok ([raw], bmElements p j x, off + bmLen p)

/-- The MTI as a field: four digits (R153). -/
def mtiDef (p : PatternDef) : FieldDef :=
  { element := 0, cls := 1, wire := p.mtiEnc, kind := 0, penc := 0, len := 4, off := 0, flags := 0 }

/-- Bytes of the message prefix (R156). -/
def msgPfxLen (p : PatternDef) : Nat := [0, 2, 4, 4].getD p.pfx 0

/-- Bytes of the MTI. -/
def mtiLen (p : PatternDef) : Nat := if p.grammar = 1 then wireLen (mtiDef p) 4 else 0

/-- The message prefix agrees with the real length (R156). -/
def msgPfxOk (p : PatternDef) (m : Bytes) : Bool :=
  let n := msgPfxLen p
  let want := if p.pfxSelf then m.length else m.length - n
  match p.pfx with
  | 0 => true
  | 3 => (digitsOf (m.take n)).map digitsVal == some want
  | _ => ofBe (m.take n) == want

/-- TLV objects of a message, all containers together. -/
def msgTlvCount (p : PatternDef) (fs : List MsgField) : Nat :=
  fs.foldl (fun a mf => a + (if bit (p.fields.getD mf.ix default).flags 3 then tlvCount mf.raw else 0)) 0

/-- Parse a message under a pattern (R168): the parsed message, or the status and the offset reported. -/
def parseMsg (ebc : Bytes) (p : PatternDef) (m : Bytes) : Except (Status × Nat) Msg :=
  let pl := msgPfxLen p
  let h0 := pl + p.hdrLen
  let start := h0 + mtiLen p
  let hdr := slice m pl p.hdrLen
  let idx := p.fields.zipIdx.map (fun e => (e.2, e.1))
  let finish (r : Except (Status × Nat) (List MsgField × Nat)) (mk : List MsgField → Msg) : Except (Status × Nat) Msg :=
    match r with
    | .error e => .error e
    | .ok (fs, off) =>
      if off < m.length then .error (.parseFailed, off)
      else .ok (mk fs)
  if 8192 < m.length then .error (.parseLimit, 8192)
  else if m.length < start ∨ ¬ msgPfxOk p m then .error (.parseFailed, 0)
  else match p.grammar with
    | 1 =>
      let mti := slice m h0 (mtiLen p)
      match fieldValue ebc (mtiDef p) 4 mti with
      | .error _ => .error (.parseFailed, h0)
      | .ok ds =>
        if p.mtiCheck ∧ byteAt ds 0 ≠ 0x2F + p.edition then .error (.parseFailed, h0)
        else
          match parseBms p m 3 0 start with
          | .error e => .error e
          | .ok (bms, es, off) =>
            let fs := es.filterMap (fun e => (elementIx p e).map (fun ix => (ix, p.fields.getD ix default)))
            finish (parseFields ebc m fs off 0) (fun fs => { hdr := hdr, mti := mti, bms := bms, fields := fs })
    | 2 =>
      if m.length - pl ≠ p.recLen then .error (.parseFailed, 0)
      else
        let go := idx.foldl (fun (acc : Except (Status × Nat) (List MsgField × Nat)) e =>
          match acc with
          | .error x => .error x
          | .ok (fs, used) => match parseField ebc e.1 e.2 (pl + e.2.off) used (m.drop (pl + e.2.off)) with
            | .error x => .error x
            | .ok (mf, _, u) => .ok (fs ++ [mf], u)) (.ok ([], 0))
        match go with
        | .error e => .error e
        | .ok (fs, _) => .ok { body := m.drop pl, fields := fs }
    | _ => finish (parseSeq ebc m idx h0 0) (fun fs => { hdr := hdr, fields := fs })

/-! ### Rebuilding (R170, R171) -/

/-- Bytes of a record with the fields written over it (grammar 2). -/
def recordBytes (p : PatternDef) (msg : Msg) : Bytes :=
  msg.fields.foldl (fun b mf =>
    let o := (p.fields.getD mf.ix default).off
    b.take o ++ mf.raw ++ b.drop (o + mf.raw.length)) msg.body

/-- The message after its prefix. -/
def msgBody (p : PatternDef) (msg : Msg) : Bytes :=
  if p.grammar = 2 then recordBytes p msg
  else msg.hdr ++ msg.mti ++ msg.bms.flatten ++ msg.fields.flatMap (fun f => f.pre ++ f.raw)

/-- The whole message, prefix first. -/
def rebuild (p : PatternDef) (msg : Msg) : Bytes :=
  let b := msgBody p msg
  let n := if p.pfxSelf then b.length + msgPfxLen p else b.length
  (match p.pfx with
   | 0 => []
   | 3 => digitBytes (decimal 4 n)
   | _ => be (msgPfxLen p) n) ++ b

/-- Nodes of a message (R174). -/
def msgNodes (p : PatternDef) (msg : Msg) : Nat :=
  b2n (p.pfx != 0) + b2n (p.hdrLen != 0) + b2n (p.grammar == 1) + msg.bms.length + msg.fields.length +
    msgTlvCount p msg.fields

/-! ### Presence (R172) -/

/-- Set or clear an element's bitmap bit, inserting bitmaps as needed and trimming them under TRIM_BITMAPS. -/
def bmUpdate (p : PatternDef) (bms : List Bytes) (e : Nat) (on : Bool) : List Bytes :=
  let x (j : Nat) : Nat := match bms[j]? with | none => 0 | some r => (bmBits p r).getD 0
  let j := (e - 1) / 64
  let k := (e - 1) % 64 + 1
  let put (v n : Nat) (b : Bool) : Nat := if b then setBit v (64 - n) else clearBit v (64 - n)
  let b0 := if j = 0 then put (x 0) k on else x 0
  let b1 := if j = 1 then put (x 1) k on else x 1
  let b2 := if j = 2 then put (x 2) k on else x 2
  let has2 := bms.length > 2 || (on && j == 2)
  let keep2 := has2 && (!p.trim || b2 != 0)
  let has1 := bms.length > 1 || (on && j ≥ 1) || keep2
  let b1 := if p.tertiary then put b1 1 keep2 else b1
  let keep1 := has1 && (!p.trim || b1 != 0)
  let b0 := put b0 1 keep1
  let out (i v : Nat) : Bytes := match bms[i]? with
    | some r => if (bmBits p r).getD 0 = v then r else bmWire p v
    | none => bmWire p v
  [out 0 b0] ++ (if keep1 then [out 1 b1] else []) ++ (if keep1 ∧ keep2 then [out 2 b2] else [])

/-- Insert a field before the first one that comes after it in the pattern's order. -/
def insertField (p : PatternDef) (fs : List MsgField) (mf : MsgField) : List MsgField :=
  let key (m : MsgField) : Nat := if p.grammar = 1 then (p.fields.getD m.ix default).element else m.ix
  fs.takeWhile (fun m => decide (key m < key mf)) ++ [mf] ++ fs.dropWhile (fun m => decide (key m < key mf))

/-- The field of an index in a message. -/
def Msg.field? (msg : Msg) (ix : Nat) : Option MsgField := msg.fields.find? (fun f => f.ix == ix)

/-- A field may be added (R172). -/
def mayAdd (p : PatternDef) (msg : Msg) (ix : Nat) : Bool :=
  let f := p.fields.getD ix default
  match p.grammar with
  | 1 => decide (f.element ≤ 64) || (decide (f.element ≤ 128) && p.secondary) || p.tertiary
  | 3 => bit f.flags 4 && msg.fields.length == ix
  | _ => false

/-- A field may be removed: grammar 1, or the last optional entry present under grammar 3. -/
def mayRemove (p : PatternDef) (msg : Msg) (ix : Nat) : Bool :=
  match p.grammar with
  | 1 => true
  | 3 => bit (p.fields.getD ix default).flags 4 && msg.fields.length == ix + 1
  | _ => false

/-- The limits that a changed message must keep (R173). -/
def limitsOk (p : PatternDef) (msg : Msg) : Except Status Msg :=
  if 8192 < (rebuild p msg).length ∨ 256 < msgTlvCount p msg.fields then .error .lengthLimit else .ok msg

/-- A new value for a TLV field: well formed, and no object at depth 5 (Table 5.10). -/
def tlvFieldFail (f : FieldDef) (v : Bytes) : Option Status :=
  if bit f.flags 3 then
    match tlvCheck v with
    | .ok _ => none
    | .error (.parseLimit, _) => some .lengthLimit
    | .error _ => some .badFieldValue
  else none

/-- Units an operand value gives (R151), by its length alone. -/
def unitsOf (f : FieldDef) (v : Bytes) : Nat :=
  if f.cls = 4 then
    (if f.wire ≠ 1 ∧ f.kind = 0 ∧ f.len % 2 = 1 ∧ v.length = (f.len + 1) / 2 then f.len else 2 * v.length)
  else v.length

/-- The value's length does not fit the field (Table 5.10, BAD_LENGTH). -/
def lenMisfit (f : FieldDef) (v : Bytes) : Bool :=
  let u := unitsOf f v
  let cnt := if bit f.flags 2 then wireLen f u else u
  decide ((f.kind = 0 ∧ u ≠ f.len) ∨ (f.kind ≠ 0 ∧ f.len < cnt) ∨ (f.cls = 5 ∧ f.wire = 1 ∧ u % 2 = 1))

/-- Write a field by index (R170-R173). -/
def writeField (ebc : Bytes) (p : PatternDef) (msg : Msg) (ix : Nat) (v : Bytes) : Except Status Msg :=
  let f := p.fields.getD ix default
  if lenMisfit f v then .error .badLength
  else match fieldWire ebc f v, tlvFieldFail f v with
    | .error e, _ => .error e
    | _, some st => .error st
    | .ok (u, raw), none =>
      let pre := if f.kind = 0 then [] else pfxWrite f (pfxCount f u raw)
      match msg.field? ix with
      | some old =>
        let pre := if old.units = u ∧ old.raw.length = raw.length then old.pre else pre
        limitsOk p { msg with fields := msg.fields.map (fun m => if m.ix = ix then ⟨ix, pre, u, raw⟩ else m) }
      | none =>
        if !mayAdd p msg ix then .error .badFieldValue
        else
          limitsOk p { msg with
            fields := insertField p msg.fields ⟨ix, pre, u, raw⟩,
            bms := if p.grammar = 1 then bmUpdate p msg.bms f.element true else msg.bms }

/-- Remove a field by index (R172, R184). -/
def removeField (p : PatternDef) (msg : Msg) (ix : Nat) : Except Status Msg :=
  match msg.field? ix with
  | none => .ok msg
  | some _ =>
    if !mayRemove p msg ix then .error .badFieldValue
    else
      .ok { msg with
        fields := msg.fields.filter (fun m => m.ix != ix),
        bms := if p.grammar = 1 then bmUpdate p msg.bms (p.fields.getD ix default).element false else msg.bms }

/-! ### Selectors (R166, R167) -/

/-- Kind and number of a selector. -/
def selKind (s : Nat) : Nat := s / 4096
/-- Number. -/
def selNum (s : Nat) : Nat := s % 4096

/-- The field index a selector of kind 0x1 or 0x2 names. -/
def selField (p : PatternDef) (s : Nat) : Option Nat :=
  if selKind s = 1 then elementIx p (selNum s) else if selNum s < p.fields.length then some (selNum s) else none

/-- A field's value; none where it is absent. -/
def readField (ebc : Bytes) (p : PatternDef) (msg : Msg) (ix : Nat) : Option Bytes :=
  match msg.field? ix with
  | none => none
  | some mf => match fieldValue ebc (p.fields.getD ix default) mf.units mf.raw with
    | .ok v => some v
    | .error _ => none

/-- The value of a selector of kind 0x1, 0x2 or 0x3. -/
def readItem (ebc : Bytes) (p : PatternDef) (msg : Msg) (s : Nat) : Option Bytes :=
  match selKind s with
  | 3 =>
    match p.paths[selNum s]? with
    | none => none
    | some t => match msg.field? t.container with
      | none => none
      | some mf => tlvFind t.tags t.occ mf.raw
  | k =>
    if k = 1 ∧ selNum s = 0 then
      (match fieldValue ebc (mtiDef p) 4 msg.mti with | .ok v => some v | .error _ => none)
    else match selField p s with
      | none => none
      | some ix => readField ebc p msg ix

/-- Where a view's range starts within a value of `n` bytes; none where it does not lie wholly within. -/
def viewStart (v : ViewDef) (n : Nat) : Option Nat :=
  let st := if v.fromRight then n - v.start - v.len else v.start
  if v.start + v.len ≤ n then some st else none

/-- The bytes of the MAC span (R167). -/
def macSpan (p : PatternDef) (msg : Msg) : Bytes :=
  match selField p p.macSel with
  | none => []
  | some ix =>
    let f := p.fields.getD ix default
    if p.grammar = 2 then (recordBytes p msg).take f.off
    else
      let present := (msg.field? ix).isSome
      let bms := if present ∨ p.grammar ≠ 1 then msg.bms else bmUpdate p msg.bms f.element true
      let before := msg.fields.takeWhile (fun m =>
        decide ((if p.grammar = 1 then (p.fields.getD m.ix default).element else m.ix) <
                (if p.grammar = 1 then f.element else ix)))
      msg.mti ++ bms.flatten ++ before.flatMap (fun m => m.pre ++ m.raw)

/-- Read through a selector (R167); none: absent. `vars` are the seam variables. -/
def selRead (ebc : Bytes) (p : PatternDef) (msg : Msg) (vars : Tbl Bytes) (s : Nat) : Option Bytes :=
  match selKind s with
  | 8 => vars.get? (selNum s)
  | 4 =>
    match p.views[selNum s]? with
    | none => none
    | some v => match readItem ebc p msg v.src with
      | none => none
      | some b => match viewStart v b.length with
        | none => none
        | some o => some (slice b o v.len)
  | 5 =>
    match selNum s with
    | 0 => some (msgBody p msg)
    | 1 => some (macSpan p msg)
    | _ => if p.hdrLen = 0 then none else some msg.hdr
  | 0 => none
  | _ => readItem ebc p msg s

/-- Cost of a read or write through a selector (R174). -/
def selCost (s len : Nat) : Nat := if selKind s = 8 then 1 else 1 + (len + 15) / 16

/-- Write an item of kind 0x1, 0x2 or 0x3. -/
def writeItem (ebc : Bytes) (p : PatternDef) (msg : Msg) (s : Nat) (v : Bytes) : Except Status Msg :=
  match selKind s with
  | 3 =>
    match p.paths[selNum s]? with
    | none => .error .badFieldValue
    | some t => match msg.field? t.container with
      | none => .error .badFieldValue
      | some mf => match tlvWrite (some v) t.occ t.tags mf.raw with
        | .error e => .error e
        | .ok raw => writeField ebc p msg t.container raw
  | k =>
    if k = 1 ∧ selNum s = 0 then
      match fieldWire ebc (mtiDef p) v with
      | .error e => .error e
      | .ok (u, raw) => if u = 4 then .ok { msg with mti := raw } else .error .badLength
    else match selField p s with
      | none => .error .badFieldValue
      | some ix => writeField ebc p msg ix v

/-- Write a message item through a selector of kind 0x1 to 0x4 (R173). -/
def selWrite (ebc : Bytes) (p : PatternDef) (msg : Msg) (s : Nat) (v : Bytes) : Except Status Msg :=
  if selKind s = 4 then
    match p.views[selNum s]? with
    | none => .error .badFieldValue
    | some w =>
      if v.length ≠ w.len then .error .badLength
      else match readItem ebc p msg w.src with
        | none => .error .badFieldValue
        | some b => match viewStart w b.length with
          | none => .error .badFieldValue
          | some o => writeItem ebc p msg w.src (b.take o ++ v ++ b.drop (o + w.len))
  else writeItem ebc p msg s v

/-- Remove a message item (R172, R184). -/
def selRemove (ebc : Bytes) (p : PatternDef) (msg : Msg) (s : Nat) : Except Status Msg :=
  match selKind s with
  | 3 =>
    match p.paths[selNum s]? with
    | none => .error .badFieldValue
    | some t => match msg.field? t.container with
      | none => .ok msg
      | some mf =>
        match tlvFind t.tags t.occ mf.raw with
        | none => .ok msg
        | some _ => match tlvWrite none t.occ t.tags mf.raw with
          | .error e => .error e
          | .ok raw => writeField ebc p msg t.container raw
  | _ => match selField p s with
    | none => .error .badFieldValue
    | some ix => removeField p msg ix

/-- Output capacity of a selector (R187 step 3). -/
def selCap (p : PatternDef) (s : Nat) : Nat :=
  let field (f : FieldDef) : Nat :=
    if f.cls = 4 then (f.len + 1) / 2
    else f.len
  match selKind s with
  | 8 => 256
  | 4 => match p.views[selNum s]? with | none => 0 | some v => v.len
  | 3 => match p.paths[selNum s]? with | none => 0 | some t => field (p.fields.getD t.container default)
  | 0 => 0
  | k => if k = 1 ∧ selNum s = 0 then 4 else match selField p s with | none => 0 | some ix => field (p.fields.getD ix default)

end Sys2Proof.Machine
end

