-- ==== Sys2Proof/Machine/Sections.lean ====
section
/-! DEFINITION. The sections of a last that this manual lays out in chapters 5, 6 and 7 and their validation: patterns
(R152-R166), seams, apply entries and selector tables (R178-R205), TIMING and ENABLES (R216, R217, R20). A failure is a
status with the byte offset in the section (R219). -/

namespace Sys2Proof.Machine

/-- The outcome of a check: a failure with its offset in the section. -/
abbrev Chk (α : Type) := Except (Status × Nat) α

/-- Require a condition, or fail with a status at an offset. -/
def need (c : Bool) (st : Status) (off : Nat) : Chk Unit := if c then .ok () else .error (st, off)

/-- Run checks over a list and collect the results. -/
def chkAll {α β : Type} (f : α → Chk β) : List α → Chk (List β)
  | [] => .ok []
  | a :: as => match f a with
    | .error e => .error e
    | .ok b => match chkAll f as with
      | .error e => .error e
      | .ok bs => .ok (b :: bs)

/-- No two of the ranges overlap; a range is (start, length). -/
def disjoint : List (Nat × Nat) → Bool
  | [] => true
  | (s, n) :: rs => rs.all (fun r => decide (s + n ≤ r.1 ∨ r.1 + r.2 ≤ s ∨ n = 0 ∨ r.2 = 0)) && disjoint rs

/-! ### Patterns -/

/-- Wire encodings a class allows (Table 5.1). -/
def classWire (cls wire : Nat) : Bool :=
  match cls with
  | 1 => [2, 3, 4].contains wire
  | 2 => [3, 4].contains wire
  | 3 => wire == 1
  | 4 => [1, 3, 4].contains wire
  | 5 => [1, 3, 4].contains wire
  | _ => false

/-- A field entry (R155, R157-R159, R162). -/
def chkField (g : Nat) (tertiary : Bool) (recLen : Nat) (b : Bytes) (o : Nat) : Chk FieldDef := do
  let f : FieldDef :=
    { element := leAt b o 2, cls := byteAt b (o + 2), wire := byteAt b (o + 3), kind := byteAt b (o + 4),
      penc := byteAt b (o + 5), len := leAt b (o + 6) 2, off := leAt b (o + 8) 2, flags := byteAt b (o + 10) }
  need (allZero (slice b (o + 11) 5) && decide (f.flags < 32)) .reservedNonzero o
  need (if g = 1 then decide (2 ≤ f.element ∧ f.element ≤ 192) && f.element != 129 && !(tertiary && f.element == 65)
        else f.element == 0) .badFieldValue o
  need (classWire f.cls f.wire) .badFieldValue (o + 2)
  need ([0, 2, 3].contains f.kind && (g != 2 || f.kind == 0)) .badFieldValue (o + 4)
  need (if f.kind = 0 then f.penc == 0 else decide (1 ≤ f.penc ∧ f.penc ≤ 4)) .badFieldValue (o + 5)
  need (decide (1 ≤ f.len ∧ f.len ≤ (if f.kind = 0 then 8192 else if f.kind = 2 then 99 else 999)) &&
        !((f.cls == 4 || f.cls == 5) && f.wire == 1 && f.len % 2 == 1)) .badFieldValue (o + 6)
  need (g == 2 || f.off == 0) .badFieldValue (o + 8)
  need (g != 2 || decide (f.off + wireLen f f.len ≤ recLen)) .badFieldValue (o + 8)
  need (!(bit f.flags 2 && f.cls == 1 && f.wire == 2) && (!bit f.flags 3 || f.cls == 3) && (!bit f.flags 4 || g == 3))
    .badFieldValue (o + 10)
  return f

/-- A tag slot within the depth (R157, R163): the tag, trailing zeros dropped. -/
def chkTag (above : Bool) (slot : Bytes) (o : Nat) : Chk Bytes :=
  match tagLen slot with
  | none => .error (.badFieldValue, o)
  | some n =>
    let t := slot.take n
    if byteAt t 0 ≠ 0 ∧ allZero (slot.drop n) ∧ (above → tagConstructed t) then .ok t else .error (.badFieldValue, o)

/-- A TLV path entry (R163). -/
def chkPath (fields : List FieldDef) (b : Bytes) (o : Nat) : Chk PathDef := do
  let depth := byteAt b (o + 1)
  need (byteAt b (o + 3) == 0) .reservedNonzero o
  need (decide (1 ≤ depth ∧ depth ≤ 4)) .badFieldValue (o + 1)
  need (allZero (slice b (o + 4 + 3 * depth) (12 - 3 * depth))) .reservedNonzero (o + 4 + 3 * depth)
  match fields[byteAt b o]? with
  | none => .error (.lastBadReference, o)
  | some f =>
    need (bit f.flags 3) .badFieldValue o
    let tags ← chkAll (fun k => chkTag (decide (k + 1 < depth)) (slice b (o + 4 + 3 * k) 3) (o + 4 + 3 * k)) (List.range depth)
    return { container := byteAt b o, occ := byteAt b (o + 2), tags := tags }

/-- The fault of a field selector under a pattern, if any (R166). -/
def selFail (p : PatternDef) (s : Nat) : Option Status :=
  let n := selNum s
  let range (ok : Bool) (named : Bool) : Option Status :=
    if !ok then some .badFieldValue else if !named then some .lastBadReference else none
  match selKind s with
  | 0 => range (n == 0) true
  | 1 => range (p.grammar == 1 && (n == 0 || decide (2 ≤ n ∧ n ≤ 192)) && n != 129 && !(p.tertiary && n == 65))
           (n == 0 || (elementIx p n).isSome)
  | 2 => range true (decide (n < p.fields.length))
  | 3 => range true (decide (n < p.paths.length))
  | 4 => range true (decide (n < p.views.length))
  | 5 => range (decide (n ≤ 2)) (n != 1 || p.macSel != 0)
  | 8 => range (decide (n ≤ 63)) true
  | _ => some .badFieldValue

/-- A view entry (R164). -/
def chkView (p : PatternDef) (b : Bytes) (o : Nat) : Chk ViewDef := do
  let v : ViewDef := { src := leAt b o 2, start := leAt b (o + 2) 2, len := leAt b (o + 4) 2, fromRight := bit (byteAt b (o + 6)) 0 }
  need (byteAt b (o + 7) == 0 && decide (byteAt b (o + 6) < 2)) .reservedNonzero o
  need ([1, 2, 3].contains (selKind v.src)) .badFieldValue o
  match selFail p v.src with
  | some st => .error (st, o)
  | none => pure ()
  need (decide (v.start ≤ 8191)) .badFieldValue (o + 2)
  need (decide (1 ≤ v.len ∧ v.len ≤ 8192)) .badFieldValue (o + 4)
  return v

/-- No value stands twice in a list. -/
def distinct : List Nat → Bool
  | [] => true
  | x :: xs => !xs.contains x && distinct xs

/-- A pattern description at offset `o` (R161). The result carries its length. -/
def chkPattern (b : Bytes) (o : Nat) : Chk (PatternDef × Nat) := do
  let g := byteAt b o
  let fl := byteAt b (o + 6)
  let nf := leAt b (o + 10) 2
  let np := leAt b (o + 12) 2
  let nv := leAt b (o + 14) 2
  let rl := leAt b (o + 16) 2
  let ft := leAt b (o + 20) 4
  let pt := leAt b (o + 24) 4
  let vt := leAt b (o + 28) 4
  let dl := leAt b (o + 32) 4
  need (o % 8 == 0 && decide (o + 64 ≤ b.length)) .badFieldValue o
  need (decide (fl < 32) && allZero (slice b (o + 18) 2) && allZero (slice b (o + 36) 4) && allZero (slice b (o + 48) 16))
    .reservedNonzero o
  need (decide (1 ≤ g ∧ g ≤ 3)) .badFieldValue o
  need (if g = 1 then decide (1 ≤ byteAt b (o + 1) ∧ byteAt b (o + 1) ≤ 3) else byteAt b (o + 1) == 0) .badFieldValue (o + 1)
  need (decide (byteAt b (o + 2) ≤ 3)) .badFieldValue (o + 2)
  need (decide (byteAt b (o + 3) ≤ 64) && (g != 2 || byteAt b (o + 3) == 0)) .badFieldValue (o + 3)
  need (if g = 1 then decide (2 ≤ byteAt b (o + 4) ∧ byteAt b (o + 4) ≤ 4) else byteAt b (o + 4) == 0) .badFieldValue (o + 4)
  need (if g = 1 then [1, 3, 4].contains (byteAt b (o + 5)) else byteAt b (o + 5) == 0) .badFieldValue (o + 5)
  need ((!bit fl 2 || bit fl 1) && (g == 1 || fl / 2 % 16 == 0)) .badFieldValue (o + 6)
  need (decide (byteAt b (o + 7) ≤ 1)) .badFieldValue (o + 7)
  need (decide (nf ≤ 192 ∧ np ≤ 1024 ∧ nv ≤ 1024)) .lastResourceExceeded (o + 10)
  need (nf != 0) .badFieldValue (o + 10)
  need (if g = 2 then decide (1 ≤ rl ∧ rl ≤ 8192) else rl == 0) .badFieldValue (o + 16)
  need (decide (64 ≤ dl ∧ o + dl ≤ b.length)) .badFieldValue (o + 32)
  need (ft % 8 == 0 && decide (64 ≤ ft ∧ ft + 16 * nf ≤ dl)) .badFieldValue (o + 20)
  need (if np = 0 then pt == 0 else pt % 8 == 0 && decide (64 ≤ pt ∧ pt + 16 * np ≤ dl)) .badFieldValue (o + 24)
  need (if nv = 0 then vt == 0 else vt % 8 == 0 && decide (64 ≤ vt ∧ vt + 8 * nv ≤ dl)) .badFieldValue (o + 28)
  need (disjoint [(ft, 16 * nf), (pt, 16 * np), (vt, 8 * nv)]) .badFieldValue (o + 20)
  let fields ← chkAll (fun k => chkField g (bit fl 2) rl b (o + ft + 16 * k)) (List.range nf)
  need (g != 1 || distinct (fields.map FieldDef.element)) .badFieldValue (o + ft)
  need (g != 2 || disjoint (fields.map (fun f => (f.off, wireLen f f.len)))) .badFieldValue (o + ft)
  need (g != 3 || (fields.dropWhile (fun f => !bit f.flags 4)).all (fun f => bit f.flags 4)) .badFieldValue (o + ft)
  let paths ← chkAll (fun k => chkPath fields b (o + pt + 16 * k)) (List.range np)
  let p0 : PatternDef :=
    { grammar := g, edition := byteAt b (o + 1), pfx := byteAt b (o + 2), hdrLen := byteAt b (o + 3),
      mtiEnc := byteAt b (o + 4), bmEnc := byteAt b (o + 5), flags := fl, notice := byteAt b (o + 7) == 1,
      macSel := leAt b (o + 8) 2, recLen := rl, fields := fields, paths := paths }
  let views ← chkAll (fun k => chkView p0 b (o + vt + 8 * k)) (List.range nv)
  let ms := leAt b (o + 8) 2
  need (ms == 0 || (selKind ms == 1 && selNum ms != 0) || selKind ms == 2) .badFieldValue (o + 8)
  match (if ms = 0 then none else selFail p0 ms) with
  | some st => .error (st, o + 8)
  | none => return ({ p0 with views := views }, dl)

/-- The EBCDIC table (R152). -/
def ebcdicOk (t : Bytes) : Bool :=
  byteAt t 0 == 0 && slice t 0xF0 10 == (List.range 10).map (fun i => BitVec.ofNat 8 (0x30 + i)) &&
  slice t 0xC1 6 == (List.range 6).map (fun i => BitVec.ofNat 8 (0x41 + i)) &&
  distinct ((t.filter (· != 0)).map BitVec.toNat)

/-- The PATTERNS section (R160). -/
def chkPatterns (b : Bytes) : Chk PatternSec := do
  need (decide (1288 ≤ b.length)) .badFieldValue 0
  let offs := (List.range 256).map (fun n => (n, leAt b (264 + 4 * n) 4))
  let live := offs.filter (fun e => e.2 != 0)
  need (allZero (slice b 4 4)) .reservedNonzero 4
  need (decide (leAt b 0 4 ≤ 256)) .lastResourceExceeded 0
  need (leAt b 0 4 != 0 && leAt b 0 4 == live.length) .badFieldValue 0
  need (ebcdicOk (slice b 8 256)) .badFieldValue 8
  need (live.all (fun e => decide (1288 ≤ e.2))) .badFieldValue 264
  let ps ← chkAll (fun e => (chkPattern b e.2).map (fun p => (e, p))) live
  need (disjoint (ps.map (fun x => (x.1.2, x.2.2)))) .badFieldValue 264
  return { ebcdic := slice b 8 256, patterns := ps.map (fun x => (x.1.1, x.2.1)) }

/-! ### Seams -/

/-- A stitch word (Table 6.2). -/
structure Stitch where
  op : Nat
  flags : Nat
  a : Nat
  b : Nat
  ix : Nat
  imm : Nat
  deriving DecidableEq, Repr, Inhabited

/-- A seam description (Table 6.6). -/
structure SeamDef where
  pattern : Nat := 0
  cut : Bool := false
  disp : Nat := 0
  handler : Nat := 0
  stitches : List Stitch := []
  deriving DecidableEq, Repr, Inhabited

/-- An apply entry (Table 6.4). -/
structure ApplyEntry where
  inv : Invoc := {}
  ins : List Nat := []
  out0 : Nat := 0
  out1 : Nat := 0
  deriving DecidableEq, Repr, Inhabited

/-- A selector table (Table 6.7): value length, kind, entries in order of their padded values. -/
structure SelTable where
  vlen : Nat := 1
  kind : Nat := 1
  entries : List (Bytes × Nat) := []
  deriving DecidableEq, Repr, Inhabited

/-- Seams by number and apply entries by index (Table 6.5). -/
structure SeamSec where
  seams : Tbl SeamDef := []
  entries : List ApplyEntry := []
  deriving DecidableEq, Repr, Inhabited

/-- Read a stitch word, little-endian (R178). -/
def Stitch.ofBytes (w : Bytes) : Stitch :=
  { op := byteAt w 15, flags := byteAt w 14, a := leAt w 12 2, b := leAt w 10 2, ix := leAt w 8 2, imm := leAt w 0 8 }

/-- Opcodes (Table 6.3). -/
def opExtract : Nat := 0x01
def opSelectKey : Nat := 0x02
def opApply : Nat := 0x03
def opRewrite : Nat := 0x04
def opTest : Nat := 0x05
def opSkipIf : Nat := 0x06
def opRoute : Nat := 0x07
def opRespond : Nat := 0x08
def opReject : Nat := 0x09
def opDrop : Nat := 0x0A
def opHold : Nat := 0x0B
def opSetFlow : Nat := 0x0C
def opCount : Nat := 0x0D
def opEmit : Nat := 0x0E

/-- What an opcode is given (Table 6.3): flag bits, A, B, Index, immediate bits. -/
def opFields (op : Nat) : Option (Nat × Bool × Bool × Bool × Nat) :=
  match op with
  | 0x01 => some (0x81, true, true, false, 0xFFFFFFFFF)
  | 0x02 => some (0x80, true, true, true, 7)
  | 0x03 => some (0xC0, true, true, true, 0xFFF)
  | 0x04 => some (0x81, true, true, false, 2 ^ 56 - 1)
  | 0x05 => some (0, true, true, false, 2 ^ 64 - 1)
  | 0x06 => some (1, false, false, false, 0x3F)
  | 0x07 => some (0x81, true, false, true, 0xFFF)
  | 0x08 => some (0, false, false, false, 0)
  | 0x09 => some (1, false, true, false, 2 ^ 56 - 1)
  | 0x0A => some (1, false, false, false, 0xFFFF)
  | 0x0B => some (0, false, false, false, 0xFF)
  | 0x0C => some (1, true, false, false, 0xFFFF)
  | 0x0D => some (0, false, false, true, 2 ^ 32 - 1)
  | 0x0E => some (0, false, false, false, 0)
  | _ => none

/-- The stitch is terminal (Table 6.3). -/
def Stitch.terminal (s : Stitch) : Bool := [opRespond, opReject, opDrop, opEmit].contains s.op

/-- The bytes of a constant (R182). -/
def constBytes (imm : Nat) : Bytes := (be 6 (imm % 2 ^ 48)).take (bits imm 55 48)

/-- A constant is well formed: at most 6 bytes, zero beyond its length. -/
def constOk (imm : Nat) : Bool :=
  decide (bits imm 55 48 ≤ 6) && allZero ((be 6 (imm % 2 ^ 48)).drop (bits imm 55 48))

/-- The comparison code of TEST (R189). -/
def testCmp (imm : Nat) : Nat := bits imm 63 60

/-- The key source of role `k` in an APPLY stitch (R186). -/
def keySource (imm k : Nat) : Nat := bits imm (4 * k + 3) (4 * k)

/-- A class byte holds a code of Table 20.1 (R189). -/
def statusClassDefined (c : Nat) : Bool := Status.all.any (fun s => s.code / 256 == c)

/-- The selector names something that may be written by the stitch (Table 5.8). -/
def writable (kinds : List Nat) (s : Nat) : Bool := kinds.contains (selKind s)

/-- What stitches may refer to. -/
structure StitchEnv where
  pat : PatternDef
  entries : List ApplyEntry
  tables : List SelTable
  count : Nat
  cut : Bool

/-- Functions that a deferred APPLY may invoke (R205). -/
def deferrable : List Nat := [0x0102, 0x0103, 0x0202, 0x0301, 0x0303, 0x0703, 0x0802]

/-- Value checks of one opcode at index `i` (R179, R183-R205); references last. -/
def stitchVals (e : StitchEnv) (i : Nat) (s : Stitch) : List (Bool × Status) :=
  let dflt : ApplyEntry := {}
  let ent := e.entries.getD s.ix dflt
  let sel (ok : Bool) (x : Nat) : List (Bool × Status) :=
    [(ok, .badFieldValue), (match selFail e.pat x with | none => true | some st => st != .badFieldValue, .badFieldValue),
     (match selFail e.pat x with | none => true | some st => st != .lastBadReference, .lastBadReference)]
  let tableOk (k : Nat) : List (Bool × Status) :=
    match e.tables[s.ix]? with
    | none => [(false, .lastBadReference)]
    | some t => [(t.kind == k, .badFieldValue)]
  match s.op with
  | 0x01 => sel (s.a != 0) s.a ++ sel (selKind s.b == 8) s.b ++ [(decide (bits s.imm 35 32 ≤ 4), .badFieldValue)]
  | 0x02 => sel (s.a != 0) s.a ++ sel true s.b ++ tableOk 1
  | 0x03 =>
    if e.entries.length ≤ s.ix then [(false, .lastBadReference)]
    else
      let ins := usedInputs ent.inv
      let outs := usedOutputs ent.inv
      let src (k : Nat) (used : Bool) (rec_ : Nat) : List (Bool × Status) :=
        [(decide (keySource s.imm k ≤ 8) && (used || keySource s.imm k == 0), .badFieldValue),
         (keySource s.imm k == 0 || rec_ == 0, .reservedNonzero)]
      src 0 (usesK1 ent.inv) ent.inv.k1 ++ src 1 (usesK2 ent.inv) ent.inv.k2 ++ src 2 false ent.inv.k3 ++
      sel (s.a == 0 || ins.contains 0) s.a ++
      sel (s.b == 0 || (outs.contains 0 && writable [1, 2, 3, 4, 8] s.b)) s.b ++
      (ent.ins.flatMap (fun x => sel true x)) ++
      (sel (ent.out0 == 0 || writable [1, 2, 3, 4, 8] ent.out0) ent.out0) ++
      (sel (ent.out1 == 0 || writable [1, 2, 3, 4, 8] ent.out1) ent.out1) ++
      [(!bit s.flags 6 || (e.cut && deferrable.contains ent.inv.fn && !bit s.flags 7 && s.b == 0 && ent.out0 == 0 &&
          ent.out1 == 0), .badFieldValue)]
  | 0x04 =>
    if bit s.flags 0 then
      (s.a == 0 && s.imm == 0, .badFieldValue) :: sel (writable [1, 2, 3, 8] s.b && s.b != 0x1000) s.b
    else
      sel true s.a ++ sel (writable [1, 2, 3, 4, 8] s.b) s.b ++
      [(if s.a = 0 then constOk s.imm && decide (1 ≤ bits s.imm 55 48) else s.imm == 0, .badFieldValue)]
  | 0x05 =>
    let c := testCmp s.imm
    let low := s.imm % 2 ^ 60
    if c = 7 ∨ c = 8 then
      [(s.a == 0 && s.b == 0 && decide (low < 65536), .badFieldValue),
       (if c = 7 then statusDefined low else low % 256 == 0 && statusClassDefined (low / 256), .badFieldValue)]
    else if c = 5 ∨ c = 6 then (s.b == 0 && low == 0, .badFieldValue) :: sel (s.a != 0) s.a
    else
      (decide (1 ≤ c ∧ c ≤ 4), .badFieldValue) :: sel (s.a != 0) s.a ++ sel true s.b ++
      [(if s.b = 0 then constOk (s.imm % 2 ^ 56) && bits s.imm 59 56 == 0 else low == 0, .badFieldValue)]
  | 0x06 => [(s.imm != 0, .badFieldValue), (decide (i + 1 + s.imm < e.count), .lastBadReference)]
  | 0x07 =>
    if bit s.flags 0 then (s.imm == 0, .badFieldValue) :: sel (s.a != 0) s.a ++ tableOk 2
    else [(s.a == 0 && s.ix == 0, .badFieldValue)]
  | 0x09 =>
    (constOk s.imm, .badFieldValue) :: (!bit s.flags 0 || e.pat.grammar == 1, .badFieldValue) ::
    sel (writable [1, 2, 3, 4] s.b) s.b
  | 0x0A => [(if bit s.flags 0 then s.imm == 0 || statusDefined s.imm else s.imm == 0, .badFieldValue)]
  | 0x0B => [(s.imm != 0, .badFieldValue)]
  | 0x0C => sel (s.a != 0) s.a ++ [(decide (0x100 ≤ s.imm % 65536), .badFieldValue)]
  | 0x0D => [(decide (s.ix ≤ 16383) && s.imm != 0, .badFieldValue)]
  | _ => []

/-- One stitch at offset `o` of the section (R179). -/
def chkStitch (e : StitchEnv) (b : Bytes) (o i : Nat) : Chk Stitch := do
  let s := Stitch.ofBytes (slice b o 16)
  match opFields s.op with
  | none => .error (.lastBadOpcode, o)
  | some (fl, ua, ub, ui, im) =>
    need (within s.flags fl && (ua || s.a == 0) && (ub || s.b == 0) && (ui || s.ix == 0) && within s.imm im) .reservedNonzero o
    match firstFail (stitchVals e i s) with
    | some st => .error (st, o)
    | none => return s

/-- No HOLD and no TEST 7 or 8 after a deferred stitch (R205). -/
def deferredOk (ss : List Stitch) : Bool :=
  (ss.dropWhile (fun s => !(s.op == opApply && bit s.flags 6))).all (fun s =>
    s.op != opHold && !(s.op == opTest && (testCmp s.imm == 7 || testCmp s.imm == 8)))

/-- A seam description at offset `o` (R180, R201). -/
def chkSeam (pats : PatternSec) (entries : List ApplyEntry) (tables : List SelTable) (b : Bytes) (o : Nat) :
    Chk (SeamDef × Nat) := do
  let n := byteAt b (o + 1)
  need (o % 16 == 0 && decide (o + 16 ≤ b.length)) .badFieldValue o
  need (decide (byteAt b (o + 2) < 2) && allZero (slice b (o + 5) 3)) .reservedNonzero o
  need (decide (n ≤ 64)) .lastResourceExceeded (o + 1)
  need (decide (1 ≤ n ∧ o + 16 + 16 * n ≤ b.length)) .badFieldValue (o + 1)
  need (decide (byteAt b (o + 3) ≤ 2)) .badFieldValue (o + 3)
  need (if byteAt b (o + 3) = 2 then decide (1 ≤ byteAt b (o + 4) ∧ byteAt b (o + 4) < n) else byteAt b (o + 4) == 0)
    .badFieldValue (o + 4)
  match pats.patterns.get? (byteAt b o) with
  | none => .error (.lastBadReference, o)
  | some pat =>
    let e : StitchEnv := { pat := pat, entries := entries, tables := tables, count := n, cut := bit (byteAt b (o + 2)) 0 }
    let ss ← chkAll (fun i => chkStitch e b (o + 16 + 16 * i) i) (List.range n)
    need (match ss.getLast? with | none => false | some s => s.terminal) .badFieldValue (o + 16 * n)
    need (deferredOk ss) .badFieldValue (o + 16)
    return ({ pattern := byteAt b o, cut := e.cut, disp := byteAt b (o + 3), handler := byteAt b (o + 4), stitches := ss },
      16 + 16 * n)

/-- A handle in an apply entry or table (R188): generation 0 must name the persistent partition. -/
def lastHandleOk (h : Nat) : Bool := h == 0 || hGen h != 0 || !hEphemeral h

/-- An apply entry at offset `o` (R186). -/
def chkEntry (b : Bytes) (o : Nat) : Chk ApplyEntry := do
  let v := Invoc.ofBytes (slice b o 64)
  let ins := (List.range 6).map (fun k => leAt b (o + 64 + 2 * k) 2)
  let o0 := leAt b (o + 76) 2
  let o1 := leAt b (o + 78) 2
  need (inSeams v.fn) .badFieldValue o
  need (!(bulkFns.contains v.fn && decide (0x4000 ≤ v.opts) && [0x0601, 0x0602, 0x0603, 0x0604].contains v.fn))
    .badFieldValue (o + 2)
  need (!v.rsv && allZero (slice b (o + 80) 16) && (usesK1 v || v.k1 == 0) && (usesK2 v || v.k2 == 0) && v.k3 == 0)
    .reservedNonzero o
  need (match fnSpec v.fn with | none => false | some f => f.form { v with ins := [] } != some .reservedNonzero)
    .reservedNonzero o
  need (ins.zipIdx.all (fun e => e.1 == 0 || (usedInputs v).contains e.2) && (o0 == 0 || (usedOutputs v).contains 0) &&
    (o1 == 0 || (usedOutputs v).contains 1)) .reservedNonzero (o + 64)
  need (lastHandleOk v.k1) .badFieldValue (o + 8)
  need (lastHandleOk v.k2) .badFieldValue (o + 16)
  return { inv := v, ins := ins, out0 := o0, out1 := o1 }

/-- The SEAMS section over the patterns and tables of the resulting set (R201). -/
def chkSeams (pats : PatternSec) (tables : List SelTable) (b : Bytes) : Chk SeamSec := do
  need (decide (16400 ≤ b.length)) .badFieldValue 0
  let na := leAt b 4 4
  let ao := leAt b 8 4
  let offs := (List.range 4096).map (fun n => (n, leAt b (16 + 4 * n) 4))
  let live := offs.filter (fun e => e.2 != 0)
  need (allZero (slice b 12 4)) .reservedNonzero 12
  need (decide (leAt b 0 4 ≤ 4096 ∧ na ≤ 65536)) .lastResourceExceeded 0
  need (leAt b 0 4 != 0 && leAt b 0 4 == live.length) .badFieldValue 0
  need (if na = 0 then ao == 0 else ao % 16 == 0 && decide (16400 ≤ ao ∧ ao + 96 * na ≤ b.length)) .badFieldValue 8
  need (live.all (fun e => decide (16400 ≤ e.2))) .badFieldValue 16
  let entries ← chkAll (fun k => chkEntry b (ao + 96 * k)) (List.range na)
  let ss ← chkAll (fun e => (chkSeam pats entries tables b e.2).map (fun s => (e, s))) live
  need (disjoint ((ao, 96 * na) :: ss.map (fun x => (x.1.2, x.2.2)))) .badFieldValue 16
  return { seams := ss.map (fun x => (x.1.1, x.2.1)), entries := entries }

/-- One selector table's entries (R202). -/
def chkTable (b : Bytes) (t : Nat) : Chk SelTable := do
  let h := 8 + 16 * t
  let off := leAt b h 4
  let n := leAt b (h + 4) 4
  let vl := byteAt b (h + 8)
  let kind := byteAt b (h + 9)
  let pl := roundUp vl 8
  need (allZero (slice b (h + 10) 6)) .reservedNonzero (h + 10)
  need (decide (1 ≤ vl ∧ vl ≤ 32)) .badFieldValue (h + 8)
  need (kind == 1 || kind == 2) .badFieldValue (h + 9)
  need (decide (n ≤ 1048576)) .lastResourceExceeded (h + 4)
  need (n != 0) .badFieldValue (h + 4)
  need (off % 8 == 0 && decide (off + n * (pl + 8) ≤ b.length)) .badFieldValue h
  let es ← chkAll (fun k => do
    let o := off + k * (pl + 8)
    let r := leAt b (o + pl) 8
    need (allZero (slice b (o + vl) (pl - vl))) .reservedNonzero o
    need (kind == 1 || decide (r < 4096)) .reservedNonzero (o + pl)
    need (kind == 2 || lastHandleOk r) .badFieldValue (o + pl)
    need (k == 0 || decide (ofBe (slice b (o - pl - 8) pl) < ofBe (slice b o pl))) .badFieldValue o
    return (slice b o vl, r)) (List.range n)
  return { vlen := vl, kind := kind, entries := es }

/-- The SELECTORS section (R202). -/
def chkSelectors (b : Bytes) : Chk (List SelTable) := do
  let n := leAt b 0 4
  need (decide (8 ≤ b.length)) .badFieldValue 0
  need (allZero (slice b 4 4)) .reservedNonzero 4
  need (decide (n ≤ 4096)) .lastResourceExceeded 0
  need (decide (8 + 16 * n ≤ b.length)) .badFieldValue 0
  let ts ← chkAll (chkTable b) (List.range n)
  need (decide ((ts.map (fun t => t.entries.length)).foldl (· + ·) 0 ≤ 1048576)) .lastResourceExceeded 0
  return ts

/-! ### TIMING and ENABLES -/

/-- The TIMING section (Table 7.5). -/
structure Timing where
  period : Nat := 1
  bound : Nat := 4
  fetch : Nat := 32
  deriving DecidableEq, Repr, Inhabited

/-- TIMING (R216). -/
def chkTiming (b : Bytes) : Chk Timing := do
  need (allZero (slice b 3 13)) .reservedNonzero 3
  need (decide (byteAt b 0 ≤ 4)) .badFieldValue 0
  need (decide (2 ≤ byteAt b 1 ∧ byteAt b 1 ≤ 16)) .badFieldValue 1
  need (decide (8 ≤ byteAt b 2)) .badFieldValue 2
  return { period := byteAt b 0, bound := byteAt b 1, fetch := byteAt b 2 }

/-- The ENABLES section (Table 7.6): one map for each kind of engine, little-endian. -/
structure Enables where
  aes : Nat := 2 ^ 256 - 1
  tdes : Nat := 2 ^ 64 - 1
  hash : Nat := 2 ^ 64 - 1
  field : Nat := 2 ^ 64 - 1
  bignum : Nat := 2 ^ 64 - 1
  lattice : Nat := 2 ^ 32 - 1
  fronds : Nat := 2 ^ 16 - 1
  ports : Nat := 2 ^ 64 - 1
  plls : Nat := 15
  welt : Bool := true
  card : Bool := true
  deriving DecidableEq, Repr, Inhabited

/-- Set bits of a map lie only in enabled fronds; `per` units to a frond. -/
def inFronds (map fronds per : Nat) : Bool :=
  (List.range 16).all (fun f => bit fronds f || map >>> (per * f) % 2 ^ per == 0)

/-- ENABLES (R20, R217). The checks against PORTS and TWIN are made with those sections (`enablesRefs`). -/
def chkEnables (b : Bytes) : Chk Enables := do
  let e : Enables :=
    { aes := leAt b 0 32, tdes := leAt b 32 8, hash := leAt b 40 8, field := leAt b 48 8, bignum := leAt b 56 8,
      lattice := leAt b 64 4, fronds := leAt b 68 2, ports := leAt b 72 8, plls := byteAt b 80,
      welt := bit (byteAt b 81) 0, card := bit (byteAt b 81) 1 }
  need (allZero (slice b 70 2) && decide (e.plls < 16 ∧ byteAt b 81 < 4) && allZero (slice b 82 6)) .reservedNonzero 70
  need (e.aes != 0 && inFronds e.aes e.fronds 16) .badFieldValue 0
  need (e.tdes != 0 && inFronds e.tdes e.fronds 4) .badFieldValue 32
  need (e.hash != 0 && inFronds e.hash e.fronds 4) .badFieldValue 40
  need (e.field != 0 && inFronds e.field e.fronds 4) .badFieldValue 48
  need (e.bignum != 0 && inFronds e.bignum e.fronds 4) .badFieldValue 56
  need (e.lattice != 0 && inFronds e.lattice e.fronds 2) .badFieldValue 64
  need ((List.range 4).all (fun q => bit e.plls q || e.ports >>> (16 * q) % 65536 == 0)) .badFieldValue 80
  return e

end Sys2Proof.Machine
end

