-- ==== Sys2Proof/Machine/Image.lean ====
section
/-! DEFINITION. The other sections of a last (PORTS R268, HTT R269 and R276, SLOT_TABLES R496, INSTANCE_DEFAULTS R380,
DISPATCH R259, TWIN R406) and the validation of a whole image (R211-R223). -/

namespace Sys2Proof.Machine

/-! ### PORTS and HTT -/

/-- A sub-port entry (Table 9.3). -/
structure SubDef where
  mac : Bytes := []
  flags : Nat := 0
  pfc : Nat := 0
  vid : Nat := 0
  prio : Nat := 0
  ip4 : Bytes := []
  ip6 : Bytes := []
  deriving DecidableEq, Repr, Inhabited

/-- ENABLED (Table 9.3). -/
def SubDef.enabled (d : SubDef) : Bool := bit d.flags 0
/-- MACSEC. -/
def SubDef.macsec (d : SubDef) : Bool := bit d.flags 1
/-- TAGGED. -/
def SubDef.tagged (d : SubDef) : Bool := bit d.flags 2
/-- LLDP. -/
def SubDef.lldp (d : SubDef) : Bool := bit d.flags 3
/-- PRESENCE. -/
def SubDef.presence (d : SubDef) : Bool := bit d.flags 4

/-- A port entry (Table 9.2): its mode and the sub-ports the mode cuts. -/
structure PortDef where
  mode : Nat := 0
  subs : List SubDef := []
  deriving DecidableEq, Repr, Inhabited

/-- Sub-ports of a mode (Table 9.1). -/
def modeSubs (m : Nat) : Nat := [0, 1, 2, 4, 1, 2, 4].getD m 0

/-- One sub-port entry at offset `o` (R268). -/
def chkSub (b : Bytes) (o : Nat) : Chk SubDef := do
  let d : SubDef :=
    { mac := slice b o 6, flags := byteAt b (o + 6), pfc := byteAt b (o + 7), vid := leAt b (o + 8) 2,
      prio := byteAt b (o + 10), ip4 := slice b (o + 12) 4, ip6 := slice b (o + 16) 16 }
  need (decide (d.flags < 32 ∧ d.vid < 4096) && byteAt b (o + 11) == 0) .reservedNonzero o
  need (!allZero d.mac && !bit (byteAt b o) 0) .badFieldValue o
  need (if d.tagged then decide (1 ≤ d.vid ∧ d.vid ≤ 4094) else d.vid == 0) .badFieldValue (o + 8)
  need (decide (d.prio ≤ 7)) .badFieldValue (o + 10)
  return d

/-- One port entry at offset `o` (R268). -/
def chkPort (b : Bytes) (o : Nat) : Chk PortDef := do
  let m := byteAt b o
  need (allZero (slice b (o + 1) 15)) .reservedNonzero (o + 1)
  need (decide (m ≤ 6)) .badFieldValue o
  let n := modeSubs m
  let subs ← chkAll (fun s => chkSub b (o + 16 + 32 * s)) (List.range n)
  let _ ← chkAll (fun s => need (allZero (slice b (o + 16 + 32 * s) 32)) .badFieldValue (o + 16 + 32 * s))
    ((List.range 4).drop n)
  return { mode := m, subs := subs }

/-- The sub-port has an address for each enabled encapsulation (R268). -/
def subAddressed (encaps : Nat) (d : SubDef) : Bool :=
  !d.enabled || ((!bit encaps 0 || !allZero d.ip6) && (!bit encaps 1 || !allZero d.ip4))

/-- The PORTS section, given the encapsulations of the resulting set's HTT section (R268). -/
def chkPorts (encaps : Nat) (b : Bytes) : Chk (List PortDef) := do
  let ps ← chkAll (fun p => chkPort b (144 * p)) (List.range 64)
  let macs := ps.flatMap (fun p => p.subs.map (fun d => ofBe d.mac))
  need (distinct macs) .badFieldValue 0
  need (ps.all (fun p => p.subs.all (subAddressed encaps))) .badFieldValue 0
  return ps

/-- A binding (Table 9.11). -/
structure Binding where
  seam : Nat := 0xFFFF
  flags : Nat := 0
  cls : Nat := 0xFF
  prio : Nat := 0
  maxMsg : Nat := 256
  credit : Nat := 1
  deriving DecidableEq, Repr, Inhabited

/-- TRANSIT (Table 9.11). -/
def Binding.transit (x : Binding) : Bool := bit x.flags 0
/-- SERVICE. -/
def Binding.service (x : Binding) : Bool := bit x.flags 1

/-- The HTT section (Table 9.4). -/
structure HttSec where
  udp : Nat := 0
  encaps : Nat := 4
  setup : Nat := 1000
  presence : Nat := 10000
  bindings : List Binding := []
  deriving DecidableEq, Repr, Inhabited

/-- One binding at offset `o` (R276). -/
def chkBinding (b : Bytes) (o : Nat) : Chk Binding := do
  let x : Binding :=
    { seam := leAt b o 2, flags := byteAt b (o + 2), cls := byteAt b (o + 3), prio := byteAt b (o + 4),
      maxMsg := leAt b (o + 6) 2, credit := leAt b (o + 8) 2 }
  need (decide (x.flags < 4) && byteAt b (o + 5) == 0 && allZero (slice b (o + 10) 6)) .reservedNonzero o
  need (if x.transit then decide (x.seam ≤ 4095) else x.seam == 0xFFFF) .badFieldValue o
  need (x.flags != 0) .badFieldValue (o + 2)
  need (decide (x.cls ≤ 7) || x.cls == 0xFF) .badFieldValue (o + 3)
  need (decide (x.prio ≤ 7)) .badFieldValue (o + 4)
  need (decide (256 ≤ x.maxMsg ∧ x.maxMsg ≤ 8192)) .badFieldValue (o + 6)
  need (decide (1 ≤ x.credit ∧ x.credit ≤ 4096)) .badFieldValue (o + 8)
  return x

/-- The HTT section (R269). -/
def chkHtt (b : Bytes) : Chk HttSec := do
  let e := byteAt b 2
  let n := leAt b 6 2
  let u := leAt b 0 2
  need (decide (e < 8) && byteAt b 3 == 0 && allZero (slice b 12 20)) .reservedNonzero 2
  need (e != 0) .badFieldValue 2
  need (if e % 4 = 0 then u == 0 else decide (1 ≤ u)) .badFieldValue 0
  need (decide (1000 ≤ leAt b 4 2 ∧ leAt b 4 2 ≤ 60000)) .badFieldValue 4
  need (decide (1 ≤ n ∧ n ≤ 4096)) .badFieldValue 6
  need (decide (10000 ≤ leAt b 8 4 ∧ leAt b 8 4 ≤ 100000000)) .badFieldValue 8
  let bs ← chkAll (fun k => chkBinding b (32 + 16 * k)) (List.range n)
  return { udp := u, encaps := e, setup := leAt b 4 2, presence := leAt b 8 4, bindings := bs }

/-! ### SLOT_TABLES, INSTANCE_DEFAULTS, DISPATCH, TWIN -/

/-- SLOT_TABLES (R496): each byte a requester number or 0xFF. -/
def chkSlots (b : Bytes) : Chk Bytes := do
  let _ ← chkAll (fun k => need (decide (byteAt b k ≤ 71) || byteAt b k == 0xFF) .badFieldValue k) (List.range 1536)
  return b

/-- An instance record (Table 14.4). -/
structure InstRec where
  sym : Nat := 0
  asym : Nat := 0
  qps : Nat := 0
  flows : Nat := 0
  sessions : Nat := 0
  cipher : Nat := 1
  field : Nat := 1
  pk : Nat := 1
  weight : Nat := 1
  fronds : Nat := 0xFFFF
  deriving DecidableEq, Repr, Inhabited

/-- An instance record of 64 bytes at offset `o` (R380). -/
def chkInstRec (b : Bytes) (o : Nat) : Chk InstRec := do
  let r : InstRec :=
    { sym := leAt b o 4, asym := leAt b (o + 4) 2, qps := leAt b (o + 6) 2, flows := leAt b (o + 8) 4,
      sessions := leAt b (o + 12) 4, cipher := leAt b (o + 16) 4, field := leAt b (o + 20) 4, pk := leAt b (o + 24) 2,
      weight := byteAt b (o + 26), fronds := leAt b (o + 28) 2 }
  need (byteAt b (o + 27) == 0 && allZero (slice b (o + 30) 34)) .reservedNonzero (o + 27)
  need (decide (r.sym ≤ 1048576)) .badFieldValue o
  need (decide (r.asym ≤ 16384)) .badFieldValue (o + 4)
  need (decide (r.qps ≤ 256)) .badFieldValue (o + 6)
  need (decide (r.flows ≤ 1044480)) .badFieldValue (o + 8)
  need (decide (r.sessions ≤ 1048576)) .badFieldValue (o + 12)
  need (decide (1 ≤ r.cipher ∧ r.cipher ≤ 16777215)) .badFieldValue (o + 16)
  need (decide (1 ≤ r.field ∧ r.field ≤ 16777215)) .badFieldValue (o + 20)
  need (decide (1 ≤ r.pk ∧ r.pk ≤ 1024)) .badFieldValue (o + 24)
  need (decide (1 ≤ r.weight)) .badFieldValue (o + 26)
  need (r.fronds != 0) .badFieldValue (o + 28)
  return r

/-- The DISPATCH section with its defaults (Table 8.6). -/
structure DispSec where
  affinity : Nat := 4096
  linger : Nat := 1000000
  xoff : Nat := 80
  xon : Nat := 60
  flowBudget : Nat := 16384
  slotBudget : Nat := 32768
  sessCls : Nat := 2
  qpCls : Nat := 4
  deriving DecidableEq, Repr, Inhabited

/-- DISPATCH (R259). -/
def chkDisp (b : Bytes) : Chk DispSec := do
  let d : DispSec :=
    { affinity := leAt b 0 4, linger := leAt b 4 4, xoff := byteAt b 8, xon := byteAt b 9, flowBudget := leAt b 10 2,
      slotBudget := leAt b 12 4, sessCls := byteAt b 16, qpCls := byteAt b 17 }
  need (allZero (slice b 18 14)) .reservedNonzero 18
  need (decide (64 ≤ d.affinity ∧ d.affinity ≤ 65536)) .badFieldValue 0
  need (decide (1000 ≤ d.linger ∧ d.linger ≤ 100000000)) .badFieldValue 4
  need (decide (50 ≤ d.xoff ∧ d.xoff ≤ 95)) .badFieldValue 8
  need (decide (10 ≤ d.xon ∧ d.xon ≤ 85 ∧ d.xon + 10 ≤ d.xoff)) .badFieldValue 9
  need (decide (d.slotBudget ≤ 131072)) .badFieldValue 12
  need (decide (d.sessCls ≤ 7)) .badFieldValue 16
  need (decide (d.qpCls ≤ 7)) .badFieldValue 17
  return d

/-- The TWIN section (Table 15.1), zero fields replaced by their defaults. -/
structure TwinSec where
  role : Nat := 1
  autoReturn : Bool := false
  holdOff : Nat := 10
  startWait : Nat := 2000000
  partner : Nat := 0
  deriving DecidableEq, Repr, Inhabited

/-- TWIN, for the device with this serial number (R406). -/
def chkTwin (serial : Nat) (b : Bytes) : Chk TwinSec := do
  let t : TwinSec :=
    { role := byteAt b 0, autoReturn := bit (byteAt b 1) 0,
      holdOff := if leAt b 2 2 = 0 then 10 else leAt b 2 2,
      startWait := if leAt b 4 4 = 0 then 2000000 else leAt b 4 4, partner := leAt b 8 8 }
  need (decide (byteAt b 1 < 2) && allZero (slice b 16 16)) .reservedNonzero 1
  need (t.role == 1 || t.role == 2) .badFieldValue 0
  need (decide (t.holdOff ≤ 1000)) .badFieldValue 2
  need (decide (1000 ≤ t.startWait ∧ t.startWait ≤ 100000000)) .badFieldValue 4
  need (t.partner != 0 && t.partner != serial) .badFieldValue 8
  return t

/-! ### The whole image -/

/-- A last as the device holds it: the sections as bytes, by type, and what they say. -/
structure LastConfig where
  raw : Tbl Bytes := []
  timing : Timing := {}
  enables : Enables := {}
  ports : List PortDef := []
  htt : HttSec := {}
  pats : PatternSec := {}
  seams : SeamSec := {}
  tables : List SelTable := []
  slots : Bytes := []
  dflt : InstRec := {}
  disp : DispSec := {}
  twin : Option TwinSec := none
  deriving DecidableEq, Repr, Inhabited

/-- An enrolled authority (R213, R361): its two public keys and its identifier. -/
structure Authority where
  p384 : Bytes := []
  mldsa : Bytes := []
  ident : Bytes := []
  deriving DecidableEq, Repr, Inhabited

/-- The authority of two public keys; the identifier of R213. -/
def Authority.of (p384 mldsa : Bytes) : Authority := { p384 := p384, mldsa := mldsa, ident := sha3 32 (p384 ++ mldsa) }

/-- A header section number: 0x0000 for header and section table, 0xFFFF for the signature block (R219). -/
structure ImageFail where
  st : Status
  sec : Nat
  off : Nat
  deriving DecidableEq, Repr

/-- Options of R135: ECDSA with SHA-384, r ‖ s. -/
def optEcdsa384 : Nat := 0x23
/-- Options of R135: pure ML-DSA. -/
def optMlDsa : Nat := 0x05

/-- Signed by both keys: ECDSA P-384 (parameter set 2) with SHA-384, and pure ML-DSA-87 (set 3) with a context (R213; log 9). -/
def doubleSigned (p384 mldsa context msg sig1 sig2 : Bytes) : Bool :=
  Config.pkVerify algEc 2 optEcdsa384 p384 msg [] sig1 && Config.pkVerify algDsa 3 optMlDsa mldsa msg context sig2

/-- The serial rule a validation uses: by command (R218 step 5), the start-up load of the full image, or of a logged
amendment (R223). -/
inductive SerialRule where
  | command (floor fullSerial : Nat)
  | bootFull (fullSerial : Nat)
  | bootAmend (fullSerial before floor : Nat)
  deriving DecidableEq, Repr

/-- What validation needs to know of the device: its serial number, life-cycle state, image authority, the serial rule,
the running configuration (none without a last), and the bindings that sessions in use name (R276). -/
structure ImageEnv where
  serial : Nat
  life : Nat
  authority : Option Authority
  rule : SerialRule
  running : Option LastConfig
  used : List Nat

/-- A validated image. -/
structure Parsed where
  kind : Nat
  serial : Nat
  base : Nat
  signed : Bytes
  cfg : LastConfig
  deriving DecidableEq, Repr, Inhabited

/-- Step 5 of R218, or the rules of R223. -/
def serialFail (rule : SerialRule) (kind serial base : Nat) : Option (Status × Nat) :=
  match rule with
  | .command floor full =>
    if serial ≤ floor then some (.lastVersionRollback, 8)
    else if kind = 2 ∧ base ≠ full then some (.lastBadReference, 16)
    else none
  | .bootFull full => if serial = full then none else some (.lastVersionRollback, 8)
  | .bootAmend full before floor =>
    if base ≠ full then some (.lastBadReference, 16)
    else if serial ≤ before ∨ floor < serial then some (.lastVersionRollback, 8)
    else none

/-- Sections that an amendment may carry (Table 7.4). -/
def amendable (t : Nat) : Bool := [1, 4, 5, 6, 7, 8, 9, 10].contains t

/-- Sections that a full image must carry. -/
def requiredSecs : List Nat := [1, 2, 3, 4, 5, 6, 9]

/-- Whether a section's length is what its type or its own count says (R215). -/
def secLenOk (t : Nat) (s : Bytes) : Bool :=
  match t with
  | 1 => s.length == 16
  | 2 => s.length == 88
  | 3 => s.length == 9216
  | 4 => s.length == 32 + 16 * leAt s 6 2
  | 8 => s.length == 1536
  | 9 => s.length == 64
  | 10 => s.length == 32
  | 11 => s.length == 32
  | _ => true

/-- The ENABLES rules that PORTS and TWIN bear on (R217): a used port's domain is enabled, a twin's welt link is. -/
def enablesRefs (raw : Tbl Bytes) (e : Enables) : Chk Unit := do
  need ((List.range 64).all (fun p => byteAt (raw.getD 3 []) (144 * p) == 0 || bit e.ports p)) .badFieldValue 72
  need (!raw.has 11 || e.welt) .badFieldValue 81

/-- Validate one section into the configuration (R218 step 7); `period` is the running tick period that an amendment must
repeat (R32, R216). -/
def chkSection (serial : Nat) (period : Option Nat) (raw : Tbl Bytes) (c : LastConfig) (t : Nat) : Chk LastConfig := do
  let b := raw.getD t []
  need (secLenOk t b) .badFieldValue 0
  match t with
  | 1 =>
    let x ← chkTiming b
    need (match period with | none => true | some p => x.period == p) .badFieldValue 0
    return { c with timing := x }
  | 2 =>
    let e ← chkEnables b
    enablesRefs raw e
    return { c with enables := e }
  | 3 => return { c with ports := (← chkPorts (byteAt (raw.getD 4 []) 2) b) }
  | 4 => return { c with htt := (← chkHtt b) }
  | 5 => return { c with pats := (← chkPatterns b) }
  | 6 =>
    let ts := match raw.get? 7 with
      | none => []
      | some x => (match chkSelectors x with | .ok ts => ts | .error _ => [])
    return { c with seams := (← chkSeams c.pats ts b) }
  | 7 => return { c with tables := (← chkSelectors b) }
  | 8 => return { c with slots := (← chkSlots b) }
  | 9 => return { c with dflt := (← chkInstRec b 0) }
  | 10 => return { c with disp := (← chkDisp b) }
  | 11 => return { c with twin := some (← chkTwin serial b) }
  | _ => .error (.badFieldValue, 0)

/-- Validate sections in ascending type order, the first failure naming its section (R218 step 7, R219). -/
def chkSections (serial : Nat) (period : Option Nat) (raw : Tbl Bytes) (offOf : Nat → Nat) :
    LastConfig → List Nat → Except ImageFail LastConfig
  | c, [] => .ok c
  | c, t :: ts => match chkSection serial period raw c t with
    | .error (st, o) => .error ⟨st, t, offOf t + o⟩
    | .ok c' => chkSections serial period raw offOf c' ts

/-- References over the resulting set that no content check has needed (R218 step 8): each TRANSIT binding's seam exists
(R276); after an amendment, the running seams still fit changed patterns and tables, the sub-ports have addresses for the
encapsulations (R268), and bindings that sessions in use name are unchanged (R276). -/
def chkRefs (env : ImageEnv) (amend : Bool) (carried : List Nat) (offOf : Nat → Nat) (c : LastConfig) :
    Except ImageFail Unit :=
  let seamBad := c.htt.bindings.findIdx? (fun x => x.transit && !c.seams.seams.has x.seam)
  let stale := amend && !carried.contains 6 && (carried.contains 5 || carried.contains 7) &&
    (match chkSeams c.pats c.tables (c.raw.getD 6 []) with | .ok _ => false | .error _ => true)
  let addr := amend && carried.contains 4 && !c.ports.all (fun p => p.subs.all (subAddressed c.htt.encaps))
  let old := match env.running with | none => [] | some r => r.htt.bindings
  let changed := amend && carried.contains 4 && env.used.any (fun k => c.htt.bindings[k]? != old[k]?)
  if addr then .error ⟨.badFieldValue, 4, offOf 4 + 2⟩
  else if stale then .error ⟨.lastBadReference, if carried.contains 5 then 5 else 7, offOf (if carried.contains 5 then 5 else 7)⟩
  else match seamBad with
    | some k => .error ⟨.lastBadReference, if carried.contains 4 then 4 else 6, if carried.contains 4 then offOf 4 + 32 + 16 * k else offOf 6⟩
    | none => if changed then .error ⟨.lastBadReference, 4, offOf 4⟩ else .ok ()

/-- Require a condition of the header (0x0000), or fail at an offset. -/
def needI (c : Bool) (st : Status) (off : Nat) (sec : Nat := 0) : Except ImageFail Unit :=
  if c then .ok () else .error ⟨st, sec, off⟩

/-- Validation of an image of `len` bytes (R218). `kinds` are the kinds the command takes. -/
def validateImage (env : ImageEnv) (kinds : List Nat) (len : Nat) (img : Bytes) : Except ImageFail Parsed := do
  let b := img.take len
  let sb := leAt b 56 4
  let n := leAt b 48 4
  let kind := byteAt b 6
  let ent (k : Nat) : Nat × Nat × Nat := (leAt b (128 + 16 * k) 2, leAt b (132 + 16 * k) 4, leAt b (136 + 16 * k) 4)
  let ents := (List.range n).map ent
  let types := ents.map (fun e => e.1)
  let tblEnd := 128 + 16 * n
  -- step 1
  needI (decide (128 ≤ len ∧ len ≤ 25165824)) .lastResourceExceeded 52
  needI (leAt b 0 4 == 0x4C415354) .badFieldValue 0
  needI (leAt b 4 2 == 1) .badFieldValue 4
  needI (kind == 1 || kind == 2) .badFieldValue 6
  needI (kinds.contains kind) .badFieldValue 6
  needI (leAt b 52 4 == len && b.length == len) .badFieldValue 52
  needI (decide (1 ≤ n ∧ n ≤ 11 ∧ tblEnd ≤ len)) .badFieldValue 48
  needI (sb % 8 == 0 && decide (tblEnd ≤ sb ∧ sb + 7432 = len)) .badFieldValue 56
  -- step 2
  needI (byteAt b 7 == 0) .reservedNonzero 7
  needI (allZero (slice b 28 4)) .reservedNonzero 28
  needI (decide (byteAt b 32 < 16) && allZero (slice b 33 7)) .reservedNonzero 32
  needI (allZero (slice b 60 4)) .reservedNonzero 60
  needI (allZero (slice b 96 32)) .reservedNonzero 96
  needI (allZero (slice b (sb + 4) 4)) .reservedNonzero (sb + 4) 0xFFFF
  needI (allZero (slice b (sb + 7420) 12)) .reservedNonzero (sb + 7420) 0xFFFF
  -- values of Tables 7.1 and 7.3 that no step names
  needI (leAt b 8 8 != 0) .badFieldValue 8
  needI (kind == 2 || leAt b 16 8 == 0) .badFieldValue 16
  needI (byteAt b 32 != 0) .badFieldValue 32
  needI (leAt b sb 2 == 96 && leAt b (sb + 2) 2 == 4627) .badFieldValue sb 0xFFFF
  -- step 3
  needI (leAt b 24 4 == 0x5120) .lastNotForDevice 24
  needI (leAt b 40 8 == 0 || leAt b 40 8 == env.serial) .lastNotForDevice 40
  needI (decide (env.life < 4) && bit (byteAt b 32) env.life) .lifecycleForbidden 32
  -- step 4
  match env.authority with
  | none => .error ⟨.lastNoAuthority, 0, 64⟩
  | some a =>
    let signed := b.take sb
    let k1 := slice b (sb + 8) 97
    let k2 := slice b (sb + 105) 2592
    needI (slice b 64 32 == a.ident) .lastSignatureInvalid 64
    needI (sha3 32 (k1 ++ k2) == a.ident) .lastSignatureInvalid (sb + 8) 0xFFFF
    needI (doubleSigned k1 k2 (ascii "LV5120-LAST") signed (slice b (sb + 2697) 96) (slice b (sb + 2793) 4627))
      .lastSignatureInvalid (sb + 2697) 0xFFFF
    -- step 5
    match serialFail env.rule kind (leAt b 8 8) (leAt b 16 8) with
    | some (st, o) => .error ⟨st, 0, o⟩
    | none =>
      -- step 6
      needI (types.all (fun t => decide (1 ≤ t ∧ t ≤ 11))) .badFieldValue 128
      needI (distinct types) .badFieldValue 128
      needI (kind == 1 || types.all amendable) .badFieldValue 128
      needI (ents.all (fun e => e.2.1 % 8 == 0 && decide (tblEnd ≤ e.2.1 ∧ 1 ≤ e.2.2 ∧ e.2.1 + e.2.2 ≤ sb))) .badFieldValue 132
      needI (disjoint (ents.map (fun e => (e.2.1, e.2.2)))) .badFieldValue 132
      needI ((List.range n).all (fun k => allZero (slice b (130 + 16 * k) 2) && allZero (slice b (140 + 16 * k) 4)))
        .reservedNonzero 130
      needI (kind == 2 || requiredSecs.all types.contains) .lastBadReference 128
      -- steps 7 to 9 over the resulting set
      let start : LastConfig := if kind = 2 then env.running.getD {} else {}
      let raw := ents.foldl (fun r e => r.set e.1 (slice b e.2.1 e.2.2)) start.raw
      let offOf (t : Nat) : Nat := match ents.find? (fun e => e.1 == t) with | none => 0 | some e => e.2.1
      let order := (List.range 12).filter types.contains
      let cfg ← chkSections env.serial (if kind = 2 then some start.timing.period else none) raw offOf { start with raw := raw } order
      chkRefs env (kind == 2) types offOf cfg
      needI (decide (raw.foldl (fun (a : Nat) e => a + e.2.length) 0 ≤ 25165824)) .lastResourceExceeded 0
      return { kind := kind, serial := leAt b 8 8, base := leAt b 16 8, signed := signed, cfg := cfg }

end Sys2Proof.Machine
end

