-- ==== Sys2Proof/Machine/Durable.lean ====
section
/-! DEFINITION. The durable state that snapshots hold (R96), its changes (journal entries, mirrored changes R410), and the
session record of R279-R284, which is mirrored but not durable. -/

namespace Sys2Proof.Machine

/-- Instance states (Table 14.1). -/
inductive InstState where
  | free | created | enabled | quiescing | disabled | resetting | moving
  deriving DecidableEq, Repr, Inhabited

/-- STATE of Table 14.1. -/
def InstState.code : InstState → Nat
  | .free => 0 | .created => 1 | .enabled => 2 | .quiescing => 3 | .disabled => 4 | .resetting => 5 | .moving => 6

/-- What is kept of an instance across resets (R377-R401): state, record, incarnation, page range, roster, counter, move. -/
structure InstDur where
  st : InstState := .free
  error : Bool := false
  cause : Nat := 0
  version : Nat := 0
  lim : InstRec := {}
  inc : Nat := 0
  base : Nat := 0
  p : Nat := 0
  k : Nat := 0
  roster : Bytes := zeros 16
  counter : Nat := 0
  moveId : Nat := 0
  moveEc : Bytes := []
  moveKem : Bytes := []
  movePeerId : Bytes := []
  offer : Bytes := []
  moveSource : Bool := false
  movePeer : Nat := 0
  arrived : Bytes := []
  abandoned : List Nat := []
  deriving DecidableEq, Repr, Inhabited

/-- The snapshot device record: device roster and counter (R357, R363), authorities (R221, R361), membership record (R398),
claim number (R413), last floor and committed full serial (R220), retired banks and engines (R503). -/
structure DevDur where
  roster : Bytes := zeros 16
  counter : Nat := 0
  image : Option Authority := none
  domain : Option Authority := none
  member : Bytes := []
  claim : Nat := 0
  floor : Nat := 0
  fullSerial : Nat := 0
  banks : Tbl Nat := []
  engines : List Nat := []
  deriving DecidableEq, Repr, Inhabited

/-- A sealed key page: its version entry (R84), frozen (R91), the version of a begin entry without its end, or 0 (R88), STALE and retry (R86),
its state version (R41), and whether a reset has erased the keys in it that expire at a reset (R78). -/
structure PageEnt where
  ver : Nat := 0
  frozen : Bool := false
  begun : Nat := 0
  stale : Bool := false
  retry : Bool := false
  purge : Bool := false
  version : Nat := 1
  deriving DecidableEq, Repr, Inhabited

/-- Session states (Table 9.12). -/
inductive SessState where
  | free | parked | handshake | opened
  deriving DecidableEq, Repr, Inhabited

/-- State byte of Table 9.12. -/
def SessState.code : SessState → Nat
  | .free => 0 | .parked => 1 | .handshake => 2 | .opened => 3

/-- A setup in progress (R280-R283): its side, the session IDs, HELLO and OFFER payloads, the private halves of the
ephemeral keys, the keys derived, fragments received, the peer's addresses (Ethernet, UDP port, IP), and its timers. `stage` 0: waits for OFFER (initiator) or ACCEPT
(responder); 1: the initiator has sent ACCEPT and waits for CREDIT. -/
structure Setup where
  initiator : Bool
  stage : Nat := 0
  myId : Nat
  peerId : Nat := 0
  hello : Bytes := []
  offer : Bytes := []
  accept : Bytes := []
  ecPriv : Bytes := []
  kemPriv : Bytes := []
  z : Bytes := []
  maxMsg : Nat := 0
  keyTx : Bytes := []
  keyRx : Bytes := []
  frags : Tbl Bytes := []
  mac : Bytes := []
  udp : Nat := 0
  ip : Bytes := []
  since : Nat := 0
  lastSend : Nat := 0
  deriving DecidableEq, Repr, Inhabited

/-- An HTT session (Tables 9.9, 9.12; R273, R274): its record, state, keys, and the phase, sequence and credit of each
direction. `peerMac`, `peerUdp` and `peerIp` are the addresses in use, `recMac`, `recUdp` and `recIp` those of the record. `granted` is the limit G last given to the peer; `limit` the peer's G for this device's phase. -/
structure Sess where
  inst : Nat := 0
  port : Nat := 0
  sub : Nat := 0
  encap : Nat := 0
  initiator : Bool := false
  binding : Nat := 0
  service : Nat := 0
  keyEc : Nat := 0
  keyDsa : Nat := 0
  peerMac : Bytes := []
  peerUdp : Nat := 0
  peerIp : Bytes := []
  recMac : Bytes := []
  recUdp : Nat := 0
  recIp : Bytes := []
  park : Nat := 0
  reclaim : Nat := 0
  st : SessState := .free
  reason : Nat := 0
  version : Nat := 0
  myId : Nat := 0
  peerId : Nat := 0
  maxMsg : Nat := 0
  keyTx : Bytes := []
  keyRx : Bytes := []
  txPhase : Nat := 0
  txSeq : Nat := 0
  txData : Nat := 0
  limit : Nat := 0
  rxPhase : Option Nat := none
  rxHigh : Nat := 0
  rxSeen : List Nat := []
  rxData : Nat := 0
  rxSent : Nat := 0
  granted : Nat := 0
  grantSent : Nat := 0
  held : Nat := 0
  lastData : Nat := 0
  parkedAt : Nat := 0
  creditAt : Nat := 0
  grantAt : Nat := 0
  answered : Tbl Nat := []
  setup : Option Setup := none
  deriving DecidableEq, Repr, Inhabited

/-- A change of durable or mirrored state: a journal entry (R96) or a mirrored change (R410). -/
inductive Delta where
  /-- The record of a key slot, or its removal. -/
  | key (slot : Nat) (r : Option KeyRec)
  /-- The durable figure of a key (R74). -/
  | figure (slot n : Nat)
  /-- An instance's durable record. -/
  | inst (i : Nat) (r : InstDur)
  /-- The device record. -/
  | dev (r : DevDur)
  /-- A page version entry, with its begin or end entry (R87). -/
  | page (p : Nat) (e : PageEnt)
  /-- A remap entry: the page number a logical page had, and its new page (R90). -/
  | remap (p t : Nat)
  /-- A session (mirrored, not durable). -/
  | sess (n : Nat) (x : Sess)
  /-- A destination binding (mirrored, not durable). -/
  | dest (i d : Nat) (n : Option Nat)
  deriving DecidableEq, Repr

/-- What one snapshot copy restores (R96, R97). -/
structure Durable where
  dev : DevDur := {}
  inst : Tbl InstDur := []
  keys : Tbl KeyRec := []
  pages : Tbl PageEnt := []
  remap : Tbl Nat := []
  deriving DecidableEq, Repr, Inhabited

/-- A key record as a snapshot holds it: the durable figure in place of the live count, no holds (R74, R82). -/
def KeyRec.stored (r : KeyRec) : KeyRec :=
  { r with uses := r.durable.getD r.uses, nextFigure := none, holds := 0, durable := r.durable }

/-- Apply a journal entry to a durable image. Sessions and destinations are not held there (R289). -/
def Durable.apply (d : Durable) : Delta → Durable
  | .key s none => { d with keys := d.keys.erase s }
  | .key s (some r) => { d with keys := d.keys.set s r.stored }
  | .figure s n => { d with keys := d.keys.modify s (fun r => { r with uses := n, durable := some n }) }
  | .inst i r => { d with inst := d.inst.set i r }
  | .dev r => { d with dev := r }
  | .page p e => { d with pages := d.pages.set p e }
  | .remap p t => { d with remap := d.remap.set p t }
  | .sess _ _ => d
  | .dest _ _ _ => d

end Sys2Proof.Machine
end

