-- ==== Sys2Proof/Syntax.lean ====
section
/-! DEFINITION. The commands of the LV5120 (a block: every row of spec/opcode_table.json is a command) and their operands. A
command carries what the device receives or reads for it: bytes where the spec gives a layout, and records of what the
environment shows where it does not (log 3). -/

namespace Sys2Proof

open Sys2Proof.Machine

/-- A management command (R43): its 64-byte descriptor, what the device reads from host memory at the addresses the
descriptor names (and at its second read, R228 step 3), and the outcome of a test, copy or card access it starts. -/
structure Cmd where
  desc : Bytes
  data : Bytes := []
  data2 : Bytes := []
  pass : Bool := true
  deriving DecidableEq, Repr

/-- What start-up meets (R522): whether the boot ROM matches its fused digest, the four start-test windows of each noise
source (window i belongs to source i mod 8, R441), whether the ledger's last record is incomplete (R471), which snapshot
copies verify (bit 0 A, bit 1 B), and the milliseconds it takes. -/
structure StartEnv where
  romOk : Bool
  noise : List Bytes
  torn : Bool
  snaps : Nat
  ms : Nat
  deriving DecidableEq, Repr

/-- A received Ethernet frame (R264): port, sub-port, whether its FCS is good, and its bytes from the destination address up to
the FCS, which is not included. -/
structure RxFrame where
  port : Nat
  sub : Nat
  fcsOk : Bool
  bytes : Bytes
  deriving DecidableEq, Repr

/-- One op of a key update message (R361): the target (instance, or 0xFFFF), the key handle and the body. -/
structure KeyOp where
  target : Nat
  handle : Nat
  body : Bytes
  deriving DecidableEq, Repr

/-- A fetched service descriptor (R307): the queue pair, the descriptor, the operand table (none: the read faults), the list
segments read for each operand (one missing: that read faults), and the inputs I0 to I5 in host memory. -/
structure ServiceFetch where
  qp : Nat
  desc : Bytes
  table : Option Bytes
  segs : List (List Bytes)
  ins : List Bytes
  deriving DecidableEq, Repr

/-- The end of a bulk quantum (R322-R324): the item, a scatter fault met at an output (operand, element), and how often an
engine error has hit the quantum (0, 1 or 2). -/
structure QuantumEnd where
  item : Nat
  scatter : Option (Nat × Nat)
  errors : Nat
  deriving DecidableEq, Repr

/-- An ECC error (R500): the bank's global number, whether it was corrected, and what the word held: a key handle, an
instance's state, an item, a section of the last (its type of Table 7.4). -/
structure EccEvent where
  bank : Nat
  corrected : Bool
  key : Nat
  inst : Nat
  item : Nat
  sect : Nat
  deriving DecidableEq, Repr

/-- A move of the placement engine (R253): kind 0 a flow to a frond, 1 a symmetric slot to a quadrant, 2 a session entry to a
quadrant, 3 an eviction, 4 a flow's target that a pin blocks; and what is moved where. -/
structure PlanMove where
  kind : Nat
  id : Nat
  dest : Nat
  deriving DecidableEq, Repr

/-- The welt link comes up (R408, R409): lanes trained, the partner's serial number, the serial number its TWIN section
names, its role, its domain membership record, identity hash, tick counter and claim. -/
structure WeltUp where
  lanes : Nat
  serial : Nat
  names : Nat
  role : Nat
  record : Bytes
  ident : Bytes
  tick : Nat
  claim : Nat
  active : Bool
  deriving DecidableEq, Repr

/-- A heartbeat (R417): the partner's tick counter, state, pair status and claim number, and the offset measured in ns. -/
structure Heartbeat where
  tick : Nat
  active : Bool
  pair : Nat
  claim : Nat
  offsetNs : Nat
  deriving DecidableEq, Repr

/-- A mirrored change (R410, R411): its number, the claim it carries, whether it is privileged, and the change. -/
structure MirrorRx where
  id : Nat
  claim : Nat
  priv : Bool
  change : Delta
  deriving DecidableEq, Repr

/-- What identification finds of a card (R478, R479). -/
structure CardSeen where
  typ : Nat
  blocks : Nat
  wide : Bool
  fast : Bool
  ready : Bool
  voltage : Bool
  sdio : Bool
  wpSwitch : Bool
  wpCsd : Bool
  cid : Bytes
  deriving DecidableEq, Repr

/-- The end of a card's busy time (R481): card-detect stayed asserted, CMD13 answered, the state is tran, and the error
bits [31:19]. -/
structure CardBusy where
  present : Bool
  answered : Bool
  tran : Bool
  errors : Nat
  deriving DecidableEq, Repr

/-- A register access through a BAR (R3, R497): function (0 PF0, n VF n), offset, size in bytes, value written. -/
structure RegAccess where
  fn : Nat
  off : Nat
  size : Nat
  value : Nat
  deriving DecidableEq, Repr

/-- A JTAG access (R453, R497): read or write, interconnect address, bytes. -/
structure DebugAcc where
  write : Bool
  addr : Nat
  data : Bytes
  deriving DecidableEq, Repr


/-- The commands of the device: one constructor for each row of spec/opcode_table.json (R numbers are the rows' rules). -/
inductive Instr where
  /-- POWER_ON (R517). -/
  | powerOn (inOrder : Bool)
  /-- POWER_LOSS (R517). -/
  | powerLoss
  /-- SYS_RST_N (R518). -/
  | sysRstN (lowNs : Nat)
  /-- PERST_N (R519). -/
  | perstN (low : Bool)
  /-- DEV_RESET_REQUEST (R528). -/
  | devResetRequest (value : Nat)
  /-- START_UP (R522). -/
  | startUp (env : StartEnv)
  /-- BUS_MASTER_ENABLE (R316). -/
  | busMasterEnable (fn : Nat) (on : Bool)
  /-- FLR_PF0 (R316). -/
  | flrPf0
  /-- VF_FLR (R315). -/
  | vfFlr (fn : Nat)
  /-- TICK_BOUNDARY (R33). -/
  | tickBoundary
  /-- EPOCH_BOUNDARY (R45). -/
  | epochBoundary
  /-- PLACEMENT_RUN (R253). -/
  | placementRun (moves : List PlanMove)
  /-- MGMT_SQ_TAIL (R56). -/
  | mgmtSqTail (value : Nat)
  /-- MGMT_CQ_HEAD (R56). -/
  | mgmtCqHead (value : Nat)
  /-- MGMT_DIGEST_ACK (R51). -/
  | mgmtDigestAck (value : Nat)
  /-- MGMT_URGENT (R57). -/
  | mgmtUrgent (value : Nat)
  /-- MGMT_DESCRIPTOR_FETCH (R43). -/
  | mgmtDescriptorFetch (urgent : Bool) (c : Cmd)
  /-- EPOCH_FENCE (R50). -/
  | epochFence (c : Cmd)
  /-- READ_STATE (R50). -/
  | readState (c : Cmd)
  /-- DIGEST_RESYNC (R51). -/
  | digestResync (c : Cmd)
  /-- KS_PAGE_RANGE_SET (R98). -/
  | ksPageRangeSet (c : Cmd)
  /-- KS_PIN_RESIDENT (R93). -/
  | ksPinResident (c : Cmd)
  /-- KS_KEY_INFO (R98). -/
  | ksKeyInfo (c : Cmd)
  /-- KS_PAGE_RETRY (R86). -/
  | ksPageRetry (c : Cmd)
  /-- KS_SNAPSHOT_BASE (R98). -/
  | ksSnapshotBase (c : Cmd)
  /-- CEREMONY_BEGIN (R369). -/
  | ceremonyBegin (c : Cmd)
  /-- CEREMONY_READ (R369). -/
  | ceremonyRead (c : Cmd)
  /-- CEREMONY_COMMIT (R369). -/
  | ceremonyCommit (c : Cmd)
  /-- CEREMONY_ABORT (R369). -/
  | ceremonyAbort (c : Cmd)
  /-- CEREMONY_TIMEOUT (R369). -/
  | ceremonyTimeout
  /-- IDENTITY_READ (R371). -/
  | identityRead (c : Cmd)
  /-- LAST_LOAD (R228). -/
  | lastLoad (c : Cmd)
  /-- LAST_AMEND (R230). -/
  | lastAmend (c : Cmd)
  /-- LAST_CHECK (R226). -/
  | lastCheck (c : Cmd)
  /-- LAST_STATS (R231). -/
  | lastStats (c : Cmd)
  /-- LAST_VALIDATION_DONE (R227). -/
  | lastValidationDone
  /-- LAST_STORE_PERSISTED (R225). -/
  | lastStorePersisted
  /-- DISP_FLOW_LOOKUP (R258). -/
  | dispFlowLookup (c : Cmd)
  /-- DISP_PIN_FLOW (R258). -/
  | dispPinFlow (c : Cmd)
  /-- DISP_HINT_FLOW (R258). -/
  | dispHintFlow (c : Cmd)
  /-- DISP_FRONDS (R257). -/
  | dispFronds (c : Cmd)
  /-- DISP_HINT_KEY (R258). -/
  | dispHintKey (c : Cmd)
  /-- DISP_PLACEMENT (R253). -/
  | dispPlacement (c : Cmd)
  /-- PORT_ADMIN (R293). -/
  | portAdmin (c : Cmd)
  /-- PORT_SHUTDOWN (R287). -/
  | portShutdown (c : Cmd)
  /-- SESSION_CREATE (R279). -/
  | sessionCreate (c : Cmd)
  /-- SESSION_CONNECT (R293). -/
  | sessionConnect (c : Cmd)
  /-- SESSION_CLOSE (R287). -/
  | sessionClose (c : Cmd)
  /-- SESSION_DEST (R293). -/
  | sessionDest (c : Cmd)
  /-- PORT_PEERS (R291). -/
  | portPeers (c : Cmd)
  /-- MACSEC_SA_INSTALL (R337). -/
  | macsecSaInstall (c : Cmd)
  /-- MACSEC_TX_USE (R337). -/
  | macsecTxUse (c : Cmd)
  /-- MACSEC_SA_REMOVE (R337). -/
  | macsecSaRemove (c : Cmd)
  /-- MACSEC_SA_STATUS (R337). -/
  | macsecSaStatus (c : Cmd)
  /-- QUEUE_CREATE (R317). -/
  | queueCreate (c : Cmd)
  /-- QUEUE_DESTROY (R317). -/
  | queueDestroy (c : Cmd)
  /-- QUEUE_STATUS (R317). -/
  | queueStatus (c : Cmd)
  /-- INSTANCE_CREATE (R380). -/
  | instanceCreate (c : Cmd)
  /-- INSTANCE_ENABLE (R378). -/
  | instanceEnable (c : Cmd)
  /-- INSTANCE_DISABLE (R384). -/
  | instanceDisable (c : Cmd)
  /-- INSTANCE_RESET (R389). -/
  | instanceReset (c : Cmd)
  /-- INSTANCE_RESET_DONE (R390). -/
  | instanceResetDone (inst : Nat)
  /-- INSTANCE_QUIET (R386). -/
  | instanceQuiet (inst : Nat)
  /-- INSTANCE_DESTROY (R391). -/
  | instanceDestroy (c : Cmd)
  /-- INSTANCE_SET_LIMITS (R382). -/
  | instanceSetLimits (c : Cmd)
  /-- MOVE_PREPARE (R402). -/
  | movePrepare (c : Cmd)
  /-- MOVE_OUT (R399). -/
  | moveOut (c : Cmd)
  /-- MOVE_IN (R400). -/
  | moveIn (c : Cmd)
  /-- MOVE_FINISH (R401). -/
  | moveFinish (c : Cmd)
  /-- MOVE_ABANDON (R401). -/
  | moveAbandon (c : Cmd)
  /-- MOVE_CANCEL (R401). -/
  | moveCancel (c : Cmd)
  /-- MOVE_MEMBERSHIP (R398). -/
  | moveMembership (c : Cmd)
  /-- FORCED_FAILOVER (R424). -/
  | forcedFailover (c : Cmd)
  /-- TWIN_RETURN_HOLD (R424). -/
  | twinReturnHold (c : Cmd)
  /-- ZEROISE (R430). -/
  | zeroise (c : Cmd)
  /-- PROT_FUSE_OPTIONS (R433). -/
  | protFuseOptions (c : Cmd)
  /-- DEBUG_UNLOCK (R455). -/
  | debugUnlock (c : Cmd)
  /-- LEDGER_EXPORT (R476). -/
  | ledgerExport (c : Cmd)
  /-- CARD_READ (R482). -/
  | cardRead (c : Cmd)
  /-- FIRMWARE_UPDATE (R526). -/
  | firmwareUpdate (c : Cmd)
  /-- FAB_BANK_POWER (R491). -/
  | fabBankPower (c : Cmd)
  /-- FAB_UNRETIRE (R505). -/
  | fabUnretire (c : Cmd)
  /-- FAB_SELFTEST (R505). -/
  | fabSelftest (c : Cmd)
  /-- KUM_SQ_TAIL (R370). -/
  | kumSqTail (value : Nat)
  /-- KUM_CQ_HEAD (R370). -/
  | kumCqHead (value : Nat)
  /-- KEY_UPDATE_MESSAGE (R363). -/
  | keyUpdateMessage (entry : Bytes) (msg : Bytes)
  /-- WRITE_KEY (R362). -/
  | writeKey (op : KeyOp)
  /-- DELETE (R362). -/
  | delete (op : KeyOp)
  /-- REPLENISH (R362). -/
  | replenish (op : KeyOp)
  /-- SET_ATTRIBUTES (R362). -/
  | setAttributes (op : KeyOp)
  /-- MARK_PERSISTENT (R79). -/
  | markPersistent (op : KeyOp)
  /-- SET_ROSTER (R358). -/
  | setRoster (op : KeyOp)
  /-- SET_ROSTER_DEVICE (R359). -/
  | setRosterDevice (op : KeyOp)
  /-- ENROL_IMAGE_AUTHORITY (R221). -/
  | enrolImageAuthority (op : KeyOp)
  /-- ENROL_DOMAIN_AUTHORITY (R361). -/
  | enrolDomainAuthority (op : KeyOp)
  /-- ESTABLISH_ROSTER (R358). -/
  | establishRoster (op : KeyOp)
  /-- LIFECYCLE_STEP (R451). -/
  | lifecycleStep (op : KeyOp)
  /-- LIFECYCLE_RECEIPT_TIMEOUT (R451). -/
  | lifecycleReceiptTimeout
  /-- FUSE_BURN_DONE (R451). -/
  | fuseBurnDone
  /-- DEBUG_ENABLE (R453). -/
  | debugEnable (op : KeyOp)
  /-- CLEAR_TAMPER (R436). -/
  | clearTamper (op : KeyOp)
  /-- SQ_TAIL (R301). -/
  | sqTail (fn : Nat) (q : Nat) (value : Nat)
  /-- CQ_HEAD (R302). -/
  | cqHead (fn : Nat) (q : Nat) (value : Nat)
  /-- SERVICE_DESCRIPTOR_FETCH (R307). -/
  | serviceDescriptorFetch (f : ServiceFetch)
  /-- GATHER_FAULT (R313). -/
  | gatherFault (item : Nat) (operand : Nat) (element : Nat)
  /-- ITEM_ADMIT (R244). -/
  | itemAdmit (frond : Nat)
  /-- WAIT_POOL_FULL_COUNT (R251). -/
  | waitPoolFullCount (frond : Nat)
  /-- EXTRACT (R183). -/
  | extract (item : Nat)
  /-- SELECT_KEY (R185). -/
  | selectKey (item : Nat)
  /-- APPLY (R187). -/
  | apply (item : Nat)
  /-- REWRITE (R184). -/
  | rewrite (item : Nat)
  /-- TEST (R189). -/
  | test (item : Nat)
  /-- SKIP_IF (R190). -/
  | skipIf (item : Nat)
  /-- ROUTE (R191). -/
  | route (item : Nat)
  /-- RESPOND (R193). -/
  | respond (item : Nat)
  /-- REJECT (R194). -/
  | reject (item : Nat)
  /-- DROP (R195). -/
  | drop (item : Nat)
  /-- HOLD (R196). -/
  | hold (item : Nat)
  /-- HOLD_DUE (R247). -/
  | holdDue (item : Nat)
  /-- SET_FLOW (R197). -/
  | setFlow (item : Nat)
  /-- COUNT (R198). -/
  | count (item : Nat)
  /-- EMIT (R192). -/
  | emit (item : Nat)
  /-- DEADLINE_EXPIRY (R40). -/
  | deadlineExpiry (item : Nat)
  /-- PIN_TRANSLATE (R116). -/
  | pinTranslate (item : Nat)
  /-- PIN_VERIFY_OFFSET (R117). -/
  | pinVerifyOffset (item : Nat)
  /-- PIN_VERIFY_PVV (R118). -/
  | pinVerifyPvv (item : Nat)
  /-- PIN_GENERATE_OFFSET (R117). -/
  | pinGenerateOffset (item : Nat)
  /-- MAC_GENERATE (R120). -/
  | macGenerate (item : Nat)
  /-- MAC_VERIFY (R120). -/
  | macVerify (item : Nat)
  /-- MAC_TRANSLATE (R121). -/
  | macTranslate (item : Nat)
  /-- ARQC_VERIFY (R123). -/
  | arqcVerify (item : Nat)
  /-- ARPC_GENERATE (R124). -/
  | arpcGenerate (item : Nat)
  /-- CARD_VALUE_VERIFY (R125). -/
  | cardValueVerify (item : Nat)
  /-- CARD_VALUE_GENERATE (R125). -/
  | cardValueGenerate (item : Nat)
  /-- DUKPT_DERIVE (R127). -/
  | dukptDerive (item : Nat)
  /-- KEY_DERIVE (R128). -/
  | keyDerive (item : Nat)
  /-- TOKENISE (R129). -/
  | tokenise (item : Nat)
  /-- DETOKENISE (R129). -/
  | detokenise (item : Nat)
  /-- ENCRYPT (R130). -/
  | encrypt (item : Nat)
  /-- DECRYPT (R130). -/
  | decrypt (item : Nat)
  /-- AEAD_SEAL (R131). -/
  | aeadSeal (item : Nat)
  /-- AEAD_OPEN (R131). -/
  | aeadOpen (item : Nat)
  /-- CONTEXT_EXPORT (R333). -/
  | contextExport (item : Nat)
  /-- CONTEXT_IMPORT (R334). -/
  | contextImport (item : Nat)
  /-- HASH (R133). -/
  | hash (item : Nat)
  /-- HMAC_GENERATE (R134). -/
  | hmacGenerate (item : Nat)
  /-- HMAC_VERIFY (R134). -/
  | hmacVerify (item : Nat)
  /-- SIGN (R136). -/
  | sign (item : Nat)
  /-- VERIFY (R137). -/
  | verify (item : Nat)
  /-- KEY_AGREE (R139). -/
  | keyAgree (item : Nat)
  /-- KEM_ENCAPS (R140). -/
  | kemEncaps (item : Nat)
  /-- KEM_DECAPS (R141). -/
  | kemDecaps (item : Nat)
  /-- KEY_GENERATE (R142). -/
  | keyGenerate (item : Nat)
  /-- KEY_IMPORT_BLOCK (R143). -/
  | keyImportBlock (item : Nat)
  /-- KEY_EXPORT_BLOCK (R144). -/
  | keyExportBlock (item : Nat)
  /-- KEY_CHECK_VALUE (R145). -/
  | keyCheckValue (item : Nat)
  /-- RANDOM (R146). -/
  | random (item : Nat)
  /-- DRBG_RESEED (R146). -/
  | drbgReseed (item : Nat)
  /-- ATTEST (R147). -/
  | attest (item : Nat)
  /-- QUANTUM_END (R322). -/
  | quantumEnd (q : QuantumEnd)
  /-- PK_JOB_ADMIT (R349). -/
  | pkJobAdmit (frond : Nat)
  /-- SEGMENT_END (R351). -/
  | segmentEnd (frond : Nat) (lattice : Bool) (releaseOk : Bool)
  /-- PAGE_FETCH_DONE (R85). -/
  | pageFetchDone (page : Nat) (data : Option Bytes)
  /-- PAGE_FETCH_TIMEOUT (R38). -/
  | pageFetchTimeout (page : Nat)
  /-- PAGE_WRITE_BACK (R87). -/
  | pageWriteBack (page : Nat) (data : Option Bytes)
  /-- PAGE_WRITE_CONFIRM (R87). -/
  | pageWriteConfirm (page : Nat) (header : Option Bytes)
  /-- KPG_NOTICE_HEAD (R100). -/
  | kpgNoticeHead (value : Nat)
  /-- JOURNAL_COMMIT (R96). -/
  | journalCommit
  /-- SNAPSHOT_BASE_COMMIT (R96). -/
  | snapshotBaseCommit
  /-- ETHERNET_FRAME_RX (R264). -/
  | ethernetFrameRx (f : RxFrame)
  /-- PFC_FRAME (R266). -/
  | pfcFrame (f : RxFrame)
  /-- ARP_REQUEST (R265). -/
  | arpRequest (f : RxFrame)
  /-- NEIGHBOUR_SOLICITATION (R265). -/
  | neighbourSolicitation (f : RxFrame)
  /-- LLDPDU (R267). -/
  | lldpdu (f : RxFrame)
  /-- DATA_FRAME (R276). -/
  | dataFrame (f : RxFrame)
  /-- NOTICE_FRAME (R275). -/
  | noticeFrame (f : RxFrame)
  /-- CREDIT_FRAME (R274). -/
  | creditFrame (f : RxFrame)
  /-- CLOSE_FRAME (R285). -/
  | closeFrame (f : RxFrame)
  /-- HELLO (R283). -/
  | hello (f : RxFrame)
  /-- OFFER (R283). -/
  | offer (f : RxFrame)
  /-- ACCEPT (R283). -/
  | accept (f : RxFrame)
  /-- PRESENCE_FRAME (R290). -/
  | presenceFrame (f : RxFrame)
  /-- SETUP_TIMEOUT (R283). -/
  | setupTimeout (session : Nat)
  /-- HELLO_RESEND (R283). -/
  | helloResend (session : Nat)
  /-- ACCEPT_RESEND (R283). -/
  | acceptResend (session : Nat)
  /-- CREDIT_RESEND (R274). -/
  | creditResend (session : Nat)
  /-- CREDIT_GRANT_SEND (R274). -/
  | creditGrantSend (session : Nat)
  /-- SERVICE_RESPONSE_TIMEOUT (R277). -/
  | serviceResponseTimeout (item : Nat)
  /-- PARK_TIME_EXPIRY (R285). -/
  | parkTimeExpiry (session : Nat)
  /-- RECLAIM_TIME_EXPIRY (R286). -/
  | reclaimTimeExpiry (session : Nat)
  /-- PRESENCE_ANNOUNCE (R290). -/
  | presenceAnnounce (port : Nat) (sub : Nat)
  /-- LLDP_ANNOUNCE (R267). -/
  | lldpAnnounce (port : Nat) (sub : Nat)
  /-- SOLITARY_ENTRY (R292). -/
  | solitaryEntry (port : Nat) (sub : Nat)
  /-- PEER_ENTRY_AGEING (R291). -/
  | peerEntryAgeing (port : Nat) (ix : Nat)
  /-- LINK_CHANGE (R293). -/
  | linkChange (port : Nat) (sub : Nat) (up : Bool)
  /-- FLOW_LINGER_EXPIRY (R238). -/
  | flowLingerExpiry (flow : Nat)
  /-- CONTEXT_IDLE_EXPIRY (R331). -/
  | contextIdleExpiry (entry : Nat)
  /-- MBX_SEND (R392). -/
  | mbxSend (inst : Nat) (value : Nat)
  /-- INST_MBX_IN (R392). -/
  | instMbxIn (inst : Nat) (value : Nat)
  /-- INST_MBX_OUT_POST (R393). -/
  | instMbxOutPost (inst : Nat) (value : Nat) (msgs : Bytes) (fault : Bool)
  /-- MBX_RX (R393). -/
  | mbxRx (inst : Nat) (value : Nat)
  /-- INST_LOG_HEAD (R396). -/
  | instLogHead (inst : Nat) (value : Nat)
  /-- ECC_ERROR (R500). -/
  | eccError (e : EccEvent)
  /-- ENGINE_ERROR (R501). -/
  | engineError (unit : Nat) (item : Nat)
  /-- ENGINE_KAT_DONE (R503). -/
  | engineKatDone (unit : Nat) (pass : Bool)
  /-- BANK_COPY_DONE (R502). -/
  | bankCopyDone (quadrant : Nat)
  /-- BANK_MARCH_TEST_DONE (R502). -/
  | bankMarchTestDone (quadrant : Nat) (pass : Bool)
  /-- BANK_COPY_BACK_DONE (R502). -/
  | bankCopyBackDone (quadrant : Nat)
  /-- BANK_RETENTION_TIMEOUT (R490). -/
  | bankRetentionTimeout (bank : Nat)
  /-- ARBITER_STARVATION (R495). -/
  | arbiterStarvation (requester : Nat) (unit : Nat) (crossbar : Bool)
  /-- MONITOR_ASSERT (R429). -/
  | monitorAssert (source : Nat)
  /-- TEMP_WARN (R527). -/
  | tempWarn (temp : Nat)
  /-- NOISE_WINDOW (R440). -/
  | noiseWindow (source : Nat) (window : Bytes)
  /-- DRBG_RESEED_COUNT (R444). -/
  | drbgReseedCount (kind : Nat) (number : Nat)
  /-- RNG_TEST_CONTROL (R447). -/
  | rngTestControl (value : Nat)
  /-- RNG_TEST_DATA (R447). -/
  | rngTestData (value : Nat)
  /-- PROT_DEBUG_REVOKE (R453). -/
  | protDebugRevoke
  /-- PROT_DEBUG_NEW_NONCE (R455). -/
  | protDebugNewNonce
  /-- WELT_LINK_UP (R409). -/
  | weltLinkUp (w : WeltUp)
  /-- WELT_FRAME_TIMEOUT (R409). -/
  | weltFrameTimeout
  /-- HEARTBEAT_RX (R418). -/
  | heartbeatRx (h : Heartbeat)
  /-- HEARTBEAT_LOSS (R417). -/
  | heartbeatLoss
  /-- FENCE_PROMOTION_ATTEMPT (R417). -/
  | fencePromotionAttempt
  /-- START_WAIT_EXPIRY (R417). -/
  | startWaitExpiry
  /-- RETURN_OF_PRIMARY (R422). -/
  | returnOfPrimary
  /-- RETURN_RESUME_TIMEOUT (R422). -/
  | returnResumeTimeout
  /-- MIRRORED_CHANGE_RX (R411). -/
  | mirroredChangeRx (m : MirrorRx)
  /-- MIRROR_ACK (R410). -/
  | mirrorAck (id : Nat)
  /-- RESYNC_COMPLETE (R412). -/
  | resyncComplete
  /-- CLAIM_CAS_RESULT (R415). -/
  | claimCasResult (id : Nat) (value : Nat)
  /-- CLAIM_CAS_TIMEOUT (R414). -/
  | claimCasTimeout (id : Nat)
  /-- LEDGER_RECORD_COMMIT (R465). -/
  | ledgerRecordCommit (outcome : Nat)
  /-- LEDGER_SEAL_COUNT (R469). -/
  | ledgerSealCount
  /-- LEDGER_SEAL_TIMER (R469). -/
  | ledgerSealTimer
  /-- SECTOR_ERASE_AHEAD (R468). -/
  | sectorEraseAhead (ok : Bool)
  /-- LEDGER_VERIFY_DONE (R471). -/
  | ledgerVerifyDone (damaged : Nat) (brk : Bool)
  /-- CARD_DETECT (R479). -/
  | cardDetect (card : CardSeen)
  /-- CARD_REMOVAL (R478). -/
  | cardRemoval (us : Nat)
  /-- CARD_IDENTIFY_TIMEOUT (R479). -/
  | cardIdentifyTimeout
  /-- CARD_BUSY_END (R481). -/
  | cardBusyEnd (b : CardBusy)
  /-- CARD_BUSY_TIMEOUT (R481). -/
  | cardBusyTimeout
  /-- ERR_CODE_SELECT (R535). -/
  | errCodeSelect (value : Nat)
  /-- RC_REGISTER_READ (R534). -/
  | rcRegisterRead (r : RegAccess)
  /-- REGISTER_WRITE (R4). -/
  | registerWrite (r : RegAccess)
  /-- WELT_LINK_DOWN (R409). -/
  | weltLinkDown
  /-- MONITOR_DEASSERT (R432). -/
  | monitorDeassert (source : Nat)
  /-- BATTERY_DOMAIN_LOSS (R521). -/
  | batteryDomainLoss
  /-- REGISTER_READ (R3). -/
  | registerRead (r : RegAccess)
  /-- DEBUG_ACCESS (R497). -/
  | debugAccess (d : DebugAcc)
  /-- VF_ENABLE (R298). -/
  | vfEnable (numVfs : Nat)
  /-- PCIE_POWER_STATE (R296). -/
  | pciePowerState (fn : Nat) (d3 : Bool)
  /-- PCIE_LINK_CHANGE (R296). -/
  | pcieLinkChange (up : Bool) (rate : Nat) (width : Nat) (flit : Bool)
  /-- FIRMWARE_WRITE_DONE (R526). -/
  | firmwareWriteDone (ok : Bool)
  /-- WIPE_DONE (R451). -/
  | wipeDone
  deriving DecidableEq, Repr

end Sys2Proof
end

