-- ==== Sys2Proof/Decode.lean ====
section
/-! DEFINITION. The decoder the host asks for. The device is a block: no row of spec/opcode_table.json gives a command bits (every
row's fields are empty), so no word spells a command. -/

namespace Sys2Proof

/-- The command that a word of the table spells: none, as the table gives its rows no bits. -/
def decodeTableWord (_nbits _w : Nat) : Option Instr := none

end Sys2Proof
end

