-- ==== Sys2Proof/Machine/RegMap.lean ====
section
/-! DEFINITION. The register map of PF0 BAR0: the blocks of Table 0.3 (R9) and, for each register of the register tables
(Tables 2.8, 2.9, 3.14, 3.15, 7.10, 8.8, 9.16, 10.12, 11.8, 12.5, 13.12, 14.11, 15.6, 16.10, 16.11, 17.9, 17.10, 18.6,
19.9, 20.3), which of its bits are RW, RC and reserved and what its stored bits are after reset. Bits in no mask are
RO: the machine computes them (RegView). -/

namespace Sys2Proof.Machine

/-- One register: its offset in its block and the masks of its RW, RC and reserved bits (R4), and its stored reset value. -/
structure RegDef where
  off : Nat
  rw : Nat
  rc : Nat
  rsv : Nat
  reset : Nat
  deriving DecidableEq, Repr

/-- One block of Table 0.3: its ERR number (chapter 20), first and last offset, and the stride of its copies (0: one copy). -/
structure BlockDef where
  num : Nat
  base : Nat
  last : Nat
  stride : Nat
  regs : List RegDef
  deriving DecidableEq, Repr

/-- DEV DEV_ID. -/
def oDevId : Nat := 0x0
/-- DEV DEV_SERIAL. -/
def oDevSerial : Nat := 0x8
/-- DEV DEV_STATUS. -/
def oDevStatus : Nat := 0x10
/-- DEV DEV_RESET_CAUSE. -/
def oDevResetCause : Nat := 0x18
/-- DEV DEV_START_TIME. -/
def oDevStartTime : Nat := 0x20
/-- DEV DEV_FIRMWARE. -/
def oDevFirmware : Nat := 0x28
/-- DEV DEV_FW_SERIAL. -/
def oDevFwSerial : Nat := 0x30
/-- DEV DEV_TEMP. -/
def oDevTemp : Nat := 0x38
/-- DEV DEV_RAILS. -/
def oDevRails : Nat := 0x40
/-- DEV DEV_RESET_REQUEST. -/
def oDevResetRequest : Nat := 0x48
/-- DEV DEV_TEMP_WARN. -/
def oDevTempWarn : Nat := 0x50
/-- DEV DEV_IRQ. -/
def oDevIrq : Nat := 0x58
/-- DEV LAST_REJECT. -/
def oDevLastReject : Nat := 0x60
/-- TICK TICK_CONFIG. -/
def oTickConfig : Nat := 0x10000
/-- TICK TICK_COUNT. -/
def oTickCount : Nat := 0x10008
/-- TICK EPOCH_STATUS. -/
def oEpochStatus : Nat := 0x10010
/-- TICK TWIN_ALIGN. -/
def oTwinAlign : Nat := 0x10018
/-- TICK TICK_DEADLINE_MISSED. -/
def oTickDeadlineMissed : Nat := 0x10020
/-- TICK TICK_IRQ. -/
def oTickIrq : Nat := 0x10028
/-- TICK LAST_REJECT. -/
def oTickLastReject : Nat := 0x10030
/-- LAST LAST_STATE. -/
def oLastState : Nat := 0x20000
/-- LAST LAST_SERIAL. -/
def oLastSerial : Nat := 0x20008
/-- LAST LAST_AMEND_SERIAL. -/
def oLastAmendSerial : Nat := 0x20010
/-- LAST LAST_FLOOR. -/
def oLastFloor : Nat := 0x20018
/-- LAST LAST_MEASURE_0–5. -/
def oLastMeasure : Nat := 0x20020
/-- LAST LAST_AUTHORITY_0–3. -/
def oLastAuthority : Nat := 0x20050
/-- LAST LAST_RESULT. -/
def oLastResult : Nat := 0x20070
/-- LAST LAST_BOOT. -/
def oLastBoot : Nat := 0x20078
/-- LAST LAST_IRQ. -/
def oLastIrq : Nat := 0x20080
/-- LAST LAST_STORE. -/
def oLastStore : Nat := 0x20088
/-- LAST LAST_REJECT. -/
def oLastLastReject : Nat := 0x20090
/-- MGMT MGMT_SQ_BASE. -/
def oMgmtSqBase : Nat := 0x30000
/-- MGMT MGMT_SQ_SIZE. -/
def oMgmtSqSize : Nat := 0x30008
/-- MGMT MGMT_SQ_TAIL. -/
def oMgmtSqTail : Nat := 0x30010
/-- MGMT MGMT_SQ_HEAD. -/
def oMgmtSqHead : Nat := 0x30018
/-- MGMT MGMT_CQ_BASE. -/
def oMgmtCqBase : Nat := 0x30020
/-- MGMT MGMT_CQ_SIZE. -/
def oMgmtCqSize : Nat := 0x30028
/-- MGMT MGMT_CQ_HEAD. -/
def oMgmtCqHead : Nat := 0x30030
/-- MGMT MGMT_CQ_TAIL. -/
def oMgmtCqTail : Nat := 0x30038
/-- MGMT MGMT_DIGEST_BASE. -/
def oMgmtDigestBase : Nat := 0x30040
/-- MGMT MGMT_DIGEST_LIMIT. -/
def oMgmtDigestLimit : Nat := 0x30048
/-- MGMT MGMT_DIGEST_ACK. -/
def oMgmtDigestAck : Nat := 0x30050
/-- MGMT MGMT_CONTROL. -/
def oMgmtControl : Nat := 0x30058
/-- MGMT MGMT_STATUS. -/
def oMgmtStatus : Nat := 0x30060
/-- MGMT MGMT_CUTOFF. -/
def oMgmtCutoff : Nat := 0x30068
/-- MGMT LAST_REJECT. -/
def oMgmtLastReject : Nat := 0x30070
/-- MGMT MGMT_URGENT. -/
def oMgmtUrgent : Nat := 0x30078
/-- INST INST_STATE. -/
def oInstState : Nat := 0x100000
/-- INST INST_QUOTA_KEYS. -/
def oInstQuotaKeys : Nat := 0x100008
/-- INST INST_QUOTA_FLOWS. -/
def oInstQuotaFlows : Nat := 0x100010
/-- INST INST_QUOTA_OTHER. -/
def oInstQuotaOther : Nat := 0x100018
/-- INST INST_CREDITS. -/
def oInstCredits : Nat := 0x100020
/-- INST INST_PK_CREDIT. -/
def oInstPkCredit : Nat := 0x100028
/-- INST INST_USE_KEYS. -/
def oInstUseKeys : Nat := 0x100030
/-- INST INST_USE_FLOWS. -/
def oInstUseFlows : Nat := 0x100038
/-- INST INST_USE_OTHER. -/
def oInstUseOther : Nat := 0x100040
/-- INST INST_INCARNATION. -/
def oInstIncarnation : Nat := 0x100048
/-- INST INST_UPDATE_COUNTER. -/
def oInstUpdateCounter : Nat := 0x100050
/-- INST INST_MBX_BASE. -/
def oInstMbxBase : Nat := 0x100058
/-- INST INST_MBX_IN. -/
def oInstMbxIn : Nat := 0x100060
/-- INST INST_MBX_OUT. -/
def oInstMbxOut : Nat := 0x100068
/-- INST INST_LOG_BASE. -/
def oInstLogBase : Nat := 0x100070
/-- INST INST_LOG_SIZE. -/
def oInstLogSize : Nat := 0x100078
/-- INST INST_LOG_TAIL. -/
def oInstLogTail : Nat := 0x100080
/-- INST INST_LOG_HEAD. -/
def oInstLogHead : Nat := 0x100088
/-- INST INST_LOG_CONTROL. -/
def oInstLogControl : Nat := 0x100090
/-- INST INST_LOG_STATUS. -/
def oInstLogStatus : Nat := 0x100098
/-- INST INST_IRQ. -/
def oInstIrq : Nat := 0x1000a0
/-- INST INST_ERRORS. -/
def oInstErrors : Nat := 0x1000a8
/-- INST LAST_REJECT. -/
def oInstLastReject : Nat := 0x1000f8
/-- DISP DISP_AFFINITY. -/
def oDispAffinity : Nat := 0x200000
/-- DISP DISP_LINGER. -/
def oDispLinger : Nat := 0x200008
/-- DISP DISP_PFC. -/
def oDispPfc : Nat := 0x200010
/-- DISP DISP_FLOWS. -/
def oDispFlows : Nat := 0x200018
/-- DISP DISP_FLOW_OVERFLOW. -/
def oDispFlowOverflow : Nat := 0x200020
/-- DISP DISP_WAIT_POOL. -/
def oDispWaitPool : Nat := 0x200028
/-- DISP DISP_DELAY_0–3. -/
def oDispDelay : Nat := 0x200030
/-- DISP DISP_PIN_CONFLICT. -/
def oDispPinConflict : Nat := 0x200050
/-- DISP DISP_HINT_OVERRIDES. -/
def oDispHintOverrides : Nat := 0x200058
/-- DISP DISP_HOME_MOVES. -/
def oDispHomeMoves : Nat := 0x200060
/-- DISP DISP_PLACE_STATUS. -/
def oDispPlaceStatus : Nat := 0x200068
/-- DISP DISP_IRQ. -/
def oDispIrq : Nat := 0x200070
/-- DISP DISP_PFC_EVENTS. -/
def oDispPfcEvents : Nat := 0x200078
/-- DISP DISP_FROND_0–15. -/
def oDispFrond : Nat := 0x200080
/-- DISP LAST_REJECT. -/
def oDispLastReject : Nat := 0x200100
/-- KS KS_STATUS. -/
def oKsStatus : Nat := 0x300000
/-- KS KS_ASYM_STATUS. -/
def oKsAsymStatus : Nat := 0x300008
/-- KS KS_BAD_SLOTS. -/
def oKsBadSlots : Nat := 0x300010
/-- KS KS_RESERVE_WAITS. -/
def oKsReserveWaits : Nat := 0x300018
/-- KS KS_RESERVE_COMMITS. -/
def oKsReserveCommits : Nat := 0x300020
/-- KS KS_IRQ. -/
def oKsIrq : Nat := 0x300028
/-- KS KS_SNAPSHOT. -/
def oKsSnapshot : Nat := 0x300030
/-- KS KS_SNAPSHOT_SEQ. -/
def oKsSnapshotSeq : Nat := 0x300038
/-- KS LAST_REJECT. -/
def oKsLastReject : Nat := 0x300040
/-- KPG KPG_BACKING_BASE. -/
def oKpgBackingBase : Nat := 0x340000
/-- KPG KPG_CONTROL. -/
def oKpgControl : Nat := 0x340008
/-- KPG KPG_NOTICE_BASE. -/
def oKpgNoticeBase : Nat := 0x340010
/-- KPG KPG_NOTICE_SIZE. -/
def oKpgNoticeSize : Nat := 0x340018
/-- KPG KPG_NOTICE_TAIL. -/
def oKpgNoticeTail : Nat := 0x340020
/-- KPG KPG_NOTICE_HEAD. -/
def oKpgNoticeHead : Nat := 0x340028
/-- KPG KPG_STATUS. -/
def oKpgStatus : Nat := 0x340030
/-- KPG KPG_FETCHES. -/
def oKpgFetches : Nat := 0x340038
/-- KPG KPG_FETCH_FAILED. -/
def oKpgFetchFailed : Nat := 0x340040
/-- KPG KPG_STALE. -/
def oKpgStale : Nat := 0x340048
/-- KPG KPG_WRITEBACKS. -/
def oKpgWritebacks : Nat := 0x340050
/-- KPG LAST_REJECT. -/
def oKpgLastReject : Nat := 0x340058
/-- PORT PORT_CONFIG. -/
def oPortConfig : Nat := 0x400000
/-- PORT PORT_STATUS. -/
def oPortStatus : Nat := 0x400008
/-- PORT PORT_SESSIONS. -/
def oPortSessions : Nat := 0x400010
/-- PORT PORT_RX_FRAMES. -/
def oPortRxFrames : Nat := 0x400018
/-- PORT PORT_TX_FRAMES. -/
def oPortTxFrames : Nat := 0x400020
/-- PORT PORT_RX_BAD_FCS. -/
def oPortRxBadFcs : Nat := 0x400028
/-- PORT PORT_RX_OVERSIZE. -/
def oPortRxOversize : Nat := 0x400030
/-- PORT PORT_RX_NOT_HTT. -/
def oPortRxNotHtt : Nat := 0x400038
/-- PORT PORT_HTT_FORMAT. -/
def oPortHttFormat : Nat := 0x400040
/-- PORT PORT_SESSION_UNKNOWN. -/
def oPortSessionUnknown : Nat := 0x400048
/-- PORT PORT_SESSION_REPLAY. -/
def oPortSessionReplay : Nat := 0x400050
/-- PORT PORT_CREDIT_VIOLATION. -/
def oPortCreditViolation : Nat := 0x400058
/-- PORT PORT_TAG_FAIL. -/
def oPortTagFail : Nat := 0x400060
/-- PORT PORT_BUFFER_DROPS. -/
def oPortBufferDrops : Nat := 0x400068
/-- PORT PORT_STOMPS. -/
def oPortStomps : Nat := 0x400070
/-- PORT PORT_HANDSHAKES. -/
def oPortHandshakes : Nat := 0x400078
/-- PORT PORT_UNDELIVERABLE. -/
def oPortUndeliverable : Nat := 0x400080
/-- PORT PORT_PEERS. -/
def oPortPeers : Nat := 0x400088
/-- PORT PORT_IRQ. -/
def oPortIrq : Nat := 0x400090
/-- PORT LAST_REJECT. -/
def oPortLastReject : Nat := 0x400098
/-- HQ HQ_STATUS. -/
def oHqStatus : Nat := 0x500000
/-- HQ HQ_LINK. -/
def oHqLink : Nat := 0x500008
/-- HQ HQ_DESCRIPTORS. -/
def oHqDescriptors : Nat := 0x500010
/-- HQ HQ_FORMAT_REJECTS. -/
def oHqFormatRejects : Nat := 0x500018
/-- HQ HQ_GATHER_FAULTS. -/
def oHqGatherFaults : Nat := 0x500020
/-- HQ HQ_SCATTER_FAULTS. -/
def oHqScatterFaults : Nat := 0x500028
/-- HQ HQ_UNVERIFIED. -/
def oHqUnverified : Nat := 0x500030
/-- HQ HQ_FLR. -/
def oHqFlr : Nat := 0x500038
/-- HQ HQ_IRQ. -/
def oHqIrq : Nat := 0x500040
/-- HQ LAST_REJECT. -/
def oHqLastReject : Nat := 0x500048
/-- CIPH CIPH_ENGINES. -/
def oCiphEngines : Nat := 0x600000
/-- CIPH CIPH_CONTEXTS. -/
def oCiphContexts : Nat := 0x600008
/-- CIPH CIPH_CONTEXT_IDLE. -/
def oCiphContextIdle : Nat := 0x600010
/-- CIPH CIPH_CONTEXT_EXPIRED. -/
def oCiphContextExpired : Nat := 0x600018
/-- CIPH CIPH_QUANTA. -/
def oCiphQuanta : Nat := 0x600020
/-- CIPH CIPH_QUANTUM_RETRIES. -/
def oCiphQuantumRetries : Nat := 0x600028
/-- CIPH CIPH_MACSEC_PN_WARN. -/
def oCiphMacsecPnWarn : Nat := 0x600030
/-- CIPH CIPH_IRQ. -/
def oCiphIrq : Nat := 0x600038
/-- CIPH LAST_REJECT. -/
def oCiphLastReject : Nat := 0x600040
/-- CIPH + 32p MACSEC_STATUS. -/
def oMacsecStatus : Nat := 0x600100
/-- CIPH + 32p MACSEC_RX_UNTAGGED. -/
def oMacsecRxUntagged : Nat := 0x600108
/-- CIPH + 32p MACSEC_RX_ICV_FAIL. -/
def oMacsecRxIcvFail : Nat := 0x600110
/-- CIPH + 32p MACSEC_RX_LATE. -/
def oMacsecRxLate : Nat := 0x600118
/-- PK PK_ENGINES. -/
def oPkEngines : Nat := 0x640000
/-- PK PK_JOBS. -/
def oPkJobs : Nat := 0x640008
/-- PK PK_SEGMENTS. -/
def oPkSegments : Nat := 0x640010
/-- PK PK_JOBS_DONE. -/
def oPkJobsDone : Nat := 0x640018
/-- PK PK_RELEASE_FAIL. -/
def oPkReleaseFail : Nat := 0x640020
/-- PK PK_RETRY_LIMIT. -/
def oPkRetryLimit : Nat := 0x640028
/-- PK PK_ABANDONED. -/
def oPkAbandoned : Nat := 0x640030
/-- PK PK_PLACE_WAITS. -/
def oPkPlaceWaits : Nat := 0x640038
/-- PK PK_AGED. -/
def oPkAged : Nat := 0x640040
/-- PK PK_POINT_CACHE. -/
def oPkPointCache : Nat := 0x640048
/-- PK PK_IRQ. -/
def oPkIrq : Nat := 0x640050
/-- PK LAST_REJECT. -/
def oPkLastReject : Nat := 0x640058
/-- PK PK_FROND_0–15. -/
def oPkFrond : Nat := 0x640100
/-- KUM KUM_SQ_BASE. -/
def oKumSqBase : Nat := 0x680000
/-- KUM KUM_SQ_SIZE. -/
def oKumSqSize : Nat := 0x680008
/-- KUM KUM_SQ_TAIL. -/
def oKumSqTail : Nat := 0x680010
/-- KUM KUM_SQ_HEAD. -/
def oKumSqHead : Nat := 0x680018
/-- KUM KUM_CQ_BASE. -/
def oKumCqBase : Nat := 0x680020
/-- KUM KUM_CQ_SIZE. -/
def oKumCqSize : Nat := 0x680028
/-- KUM KUM_CQ_HEAD. -/
def oKumCqHead : Nat := 0x680030
/-- KUM KUM_CQ_TAIL. -/
def oKumCqTail : Nat := 0x680038
/-- KUM KUM_CONTROL. -/
def oKumControl : Nat := 0x680040
/-- KUM KUM_STATUS. -/
def oKumStatus : Nat := 0x680048
/-- KUM KUM_DEVICE_COUNTER. -/
def oKumDeviceCounter : Nat := 0x680050
/-- KUM KUM_ACCEPTED. -/
def oKumAccepted : Nat := 0x680058
/-- KUM KUM_REJECTED. -/
def oKumRejected : Nat := 0x680060
/-- KUM KUM_CEREMONY_TIMEOUT. -/
def oKumCeremonyTimeout : Nat := 0x680068
/-- KUM KUM_IDENTITY_0–3. -/
def oKumIdentity : Nat := 0x680070
/-- KUM KUM_DEVICE_ROSTER. -/
def oKumDeviceRoster : Nat := 0x680090
/-- KUM KUM_IRQ. -/
def oKumIrq : Nat := 0x680098
/-- KUM LAST_REJECT. -/
def oKumLastReject : Nat := 0x6800a0
/-- TWIN TWIN_CONFIG. -/
def oTwinConfig : Nat := 0x700000
/-- TWIN TWIN_PARTNER. -/
def oTwinPartner : Nat := 0x700008
/-- TWIN TWIN_STATE. -/
def oTwinState : Nat := 0x700010
/-- TWIN TWIN_CLAIM. -/
def oTwinClaim : Nat := 0x700018
/-- TWIN TWIN_PARTNER_CLAIM. -/
def oTwinPartnerClaim : Nat := 0x700020
/-- TWIN TWIN_CLAIM_ADDR. -/
def oTwinClaimAddr : Nat := 0x700028
/-- TWIN TWIN_HEARTBEAT_MISSED. -/
def oTwinHeartbeatMissed : Nat := 0x700030
/-- TWIN TWIN_TRANSITIONS. -/
def oTwinTransitions : Nat := 0x700038
/-- TWIN TWIN_MIRROR. -/
def oTwinMirror : Nat := 0x700040
/-- TWIN TWIN_CLAIM_FAILS. -/
def oTwinClaimFails : Nat := 0x700048
/-- TWIN TWIN_STANDBY_DISCARDS. -/
def oTwinStandbyDiscards : Nat := 0x700050
/-- TWIN TWIN_LAST_CHANGE. -/
def oTwinLastChange : Nat := 0x700058
/-- TWIN TWIN_IRQ. -/
def oTwinIrq : Nat := 0x700060
/-- TWIN LAST_REJECT. -/
def oTwinLastReject : Nat := 0x700068
/-- PROT PROT_LIFECYCLE. -/
def oProtLifecycle : Nat := 0x740000
/-- PROT PROT_FUSE_OPTIONS. -/
def oProtFuseOptions : Nat := 0x740008
/-- PROT PROT_STICKY. -/
def oProtSticky : Nat := 0x740010
/-- PROT PROT_LIVE. -/
def oProtLive : Nat := 0x740018
/-- PROT PROT_RESPONSE. -/
def oProtResponse : Nat := 0x740020
/-- PROT PROT_EVENTS. -/
def oProtEvents : Nat := 0x740028
/-- PROT PROT_HALT. -/
def oProtHalt : Nat := 0x740030
/-- PROT PROT_DECISIONS. -/
def oProtDecisions : Nat := 0x740038
/-- PROT PROT_DEBUG. -/
def oProtDebug : Nat := 0x740040
/-- PROT PROT_DEBUG_NONCE_0–3. -/
def oProtDebugNonce : Nat := 0x740048
/-- PROT PROT_IRQ. -/
def oProtIrq : Nat := 0x740068
/-- PROT LAST_REJECT. -/
def oProtLastReject : Nat := 0x740070
/-- RNG RNG_STATUS. -/
def oRngStatus : Nat := 0x750000
/-- RNG RNG_THRESHOLDS. -/
def oRngThresholds : Nat := 0x750008
/-- RNG RNG_SOURCE_0–7. -/
def oRngSource : Nat := 0x750010
/-- RNG RNG_WINDOWS. -/
def oRngWindows : Nat := 0x750050
/-- RNG RNG_RESEEDS. -/
def oRngReseeds : Nat := 0x750058
/-- RNG RNG_TEST_CONTROL. -/
def oRngTestControl : Nat := 0x750060
/-- RNG RNG_TEST_DATA. -/
def oRngTestData : Nat := 0x750068
/-- RNG RNG_IRQ. -/
def oRngIrq : Nat := 0x750070
/-- RNG LAST_REJECT. -/
def oRngLastReject : Nat := 0x750078
/-- LDG LDG_STATUS. -/
def oLdgStatus : Nat := 0x780000
/-- LDG LDG_FLASH. -/
def oLdgFlash : Nat := 0x780008
/-- LDG LDG_NEXT_SEQ. -/
def oLdgNextSeq : Nat := 0x780010
/-- LDG LDG_FIRST. -/
def oLdgFirst : Nat := 0x780018
/-- LDG LDG_CIRCULAR. -/
def oLdgCircular : Nat := 0x780020
/-- LDG LDG_SPARES. -/
def oLdgSpares : Nat := 0x780028
/-- LDG LDG_ENDURANCE. -/
def oLdgEndurance : Nat := 0x780030
/-- LDG LDG_CIRC_MIN. -/
def oLdgCircMin : Nat := 0x780038
/-- LDG LDG_VERIFY. -/
def oLdgVerify : Nat := 0x780040
/-- LDG LDG_HOURS. -/
def oLdgHours : Nat := 0x780048
/-- LDG LDG_POWER_CYCLES. -/
def oLdgPowerCycles : Nat := 0x780050
/-- LDG LDG_SEAL. -/
def oLdgSeal : Nat := 0x780058
/-- LDG LDG_LOST. -/
def oLdgLost : Nat := 0x780060
/-- LDG LDG_IRQ. -/
def oLdgIrq : Nat := 0x780068
/-- LDG LAST_REJECT. -/
def oLdgLastReject : Nat := 0x780070
/-- CARD CARD_STATUS. -/
def oCardStatus : Nat := 0x790000
/-- CARD CARD_CAPACITY. -/
def oCardCapacity : Nat := 0x790008
/-- CARD CARD_CID_0. -/
def oCardCid0 : Nat := 0x790010
/-- CARD CARD_CID_1. -/
def oCardCid1 : Nat := 0x790018
/-- CARD CARD_UNCERTAIN. -/
def oCardUncertain : Nat := 0x790020
/-- CARD CARD_RETRIES. -/
def oCardRetries : Nat := 0x790028
/-- CARD CARD_IRQ. -/
def oCardIrq : Nat := 0x790030
/-- CARD LAST_REJECT. -/
def oCardLastReject : Nat := 0x790038
/-- FAB FAB_STATUS. -/
def oFabStatus : Nat := 0x800000
/-- FAB FAB_ECC. -/
def oFabEcc : Nat := 0x800008
/-- FAB FAB_SELFTEST. -/
def oFabSelftest : Nat := 0x800010
/-- FAB FAB_RETIRED. -/
def oFabRetired : Nat := 0x800018
/-- FAB FAB_SPARES. -/
def oFabSpares : Nat := 0x800020
/-- FAB FAB_STARVE_THRESHOLD. -/
def oFabStarveThreshold : Nat := 0x800028
/-- FAB FAB_STARVED. -/
def oFabStarved : Nat := 0x800030
/-- FAB FAB_DENIED. -/
def oFabDenied : Nat := 0x800038
/-- FAB FAB_DENIED_ADDR. -/
def oFabDeniedAddr : Nat := 0x800040
/-- FAB FAB_RULE_SELECT. -/
def oFabRuleSelect : Nat := 0x800048
/-- FAB FAB_RULE_BASE. -/
def oFabRuleBase : Nat := 0x800050
/-- FAB FAB_RULE_PERM. -/
def oFabRulePerm : Nat := 0x800058
/-- FAB FAB_IRQ. -/
def oFabIrq : Nat := 0x800060
/-- FAB LAST_REJECT. -/
def oFabLastReject : Nat := 0x800068
/-- ERR ERR_PENDING. -/
def oErrPending : Nat := 0xf00000
/-- ERR ERR_MASK. -/
def oErrMask : Nat := 0xf00008
/-- ERR ERR_REJECTS. -/
def oErrRejects : Nat := 0xf00010
/-- ERR ERR_CODE_SELECT. -/
def oErrCodeSelect : Nat := 0xf00018
/-- ERR ERR_CODE_COUNT. -/
def oErrCodeCount : Nat := 0xf00020
/-- ERR ERR_IRQ. -/
def oErrIrq : Nat := 0xf00028
/-- ERR ERR_FIRST_REJECT. -/
def oErrFirstReject : Nat := 0xf00030
/-- ERR LAST_REJECT. -/
def oErrLastReject : Nat := 0xf00038

/-- Registers of the DEV block. -/
def devRegs : List RegDef :=
  [⟨0x0, 0, 0, 0xffff00000000ff00, 0⟩,
   ⟨0x8, 0, 0, 0, 0⟩,
   ⟨0x10, 0, 0, 0xfffffffffff0f0f8, 0⟩,
   ⟨0x18, 0, 0, 0xfffffffffffffff8, 0⟩,
   ⟨0x20, 0, 0, 0xffffffff00000000, 0⟩,
   ⟨0x28, 0, 0, 0xfffffffffffffffe, 0⟩,
   ⟨0x30, 0, 0, 0, 0⟩,
   ⟨0x38, 0, 0, 0xffffffff00000000, 0⟩,
   ⟨0x40, 0, 0, 0, 0⟩,
   ⟨0x48, 0xffffffff, 0, 0xffffffff00000000, 0⟩,
   ⟨0x50, 0xffff, 0, 0xffffffffffff0000, 0x640⟩,
   ⟨0x58, 0x7ff0003, 0, 0xfffffffff800fffc, 0⟩] ++
  [⟨0x60, 0, 0xffffffffffffffff, 0, 0⟩]

/-- Registers of the TICK block. -/
def tickRegs : List RegDef :=
  [⟨0x0, 0, 0, 0xffffffffff0000f8, 0⟩,
   ⟨0x8, 0, 0, 0, 0⟩,
   ⟨0x10, 0, 0, 0xfff0000000000000, 0⟩,
   ⟨0x18, 0, 0, 0xfffffffe00000000, 0⟩,
   ⟨0x20, 0, 0xffffffff, 0xffffffff00000000, 0⟩,
   ⟨0x28, 0x7ff0001, 0, 0xfffffffff800fffe, 0⟩,
   ⟨0x30, 0, 0xffffffffffffffff, 0, 0⟩]

/-- Registers of the LAST block. -/
def lastRegs : List RegDef :=
  [⟨0x0, 0, 0, 0xfffffffffffe00f8, 0⟩,
   ⟨0x8, 0, 0, 0, 0⟩,
   ⟨0x10, 0, 0, 0, 0⟩,
   ⟨0x18, 0, 0, 0, 0⟩,
   ⟨0x20, 0, 0, 0, 0⟩,
   ⟨0x28, 0, 0, 0, 0⟩,
   ⟨0x30, 0, 0, 0, 0⟩,
   ⟨0x38, 0, 0, 0, 0⟩,
   ⟨0x40, 0, 0, 0, 0⟩,
   ⟨0x48, 0, 0, 0, 0⟩,
   ⟨0x50, 0, 0, 0, 0⟩,
   ⟨0x58, 0, 0, 0, 0⟩] ++
  [⟨0x60, 0, 0, 0, 0⟩,
   ⟨0x68, 0, 0, 0, 0⟩,
   ⟨0x70, 0, 0, 0, 0⟩,
   ⟨0x78, 0, 0, 0, 0⟩,
   ⟨0x80, 0x7ff0003, 0, 0xfffffffff800fffc, 0⟩,
   ⟨0x88, 0, 0, 0xffffffff00000000, 0⟩,
   ⟨0x90, 0, 0xffffffffffffffff, 0, 0⟩]

/-- Registers of the MGMT block. -/
def mgmtRegs : List RegDef :=
  [⟨0x0, 0xffffffffffffffc0, 0, 0x3f, 0⟩,
   ⟨0x8, 0x1f, 0, 0xffffffffffffffe0, 0x6⟩,
   ⟨0x10, 0xffff, 0, 0xffffffffffff0000, 0⟩,
   ⟨0x18, 0, 0, 0xffffffffffff0000, 0⟩,
   ⟨0x20, 0xfffffffffffffff0, 0, 0xf, 0⟩,
   ⟨0x28, 0x1f, 0, 0xffffffffffffffe0, 0x6⟩,
   ⟨0x30, 0xffff, 0, 0xffffffffffff0000, 0⟩,
   ⟨0x38, 0, 0, 0xffffffffffff0000, 0⟩,
   ⟨0x40, 0xfffffffffffff000, 0, 0xfff, 0⟩,
   ⟨0x48, 0x1fffff, 0, 0xffffffffffe00000, 0x1000⟩,
   ⟨0x50, 0x1, 0, 0xfffffffffffffffe, 0x1⟩,
   ⟨0x58, 0x7ff07ff0001, 0, 0xfffff800f800fffe, 0⟩] ++
  [⟨0x60, 0, 0, 0xfffffffcfffe0000, 0⟩,
   ⟨0x68, 0x1ffff, 0, 0xfffffffffffe0000, 0x3e8⟩,
   ⟨0x70, 0, 0xffffffffffffffff, 0, 0⟩,
   ⟨0x78, 0xffffffffffffff80, 0, 0x7e, 0⟩]

/-- Registers of the INST block. -/
def instRegs : List RegDef :=
  [⟨0x0, 0, 0, 0xfffe0000, 0⟩,
   ⟨0x8, 0, 0, 0xffff8000ffe00000, 0⟩,
   ⟨0x10, 0, 0, 0xffe00000ffe00000, 0⟩,
   ⟨0x18, 0, 0, 0xff00fffffe00, 0⟩,
   ⟨0x20, 0, 0, 0xff000000ff000000, 0⟩,
   ⟨0x28, 0, 0, 0xfffffffffffff800, 0⟩,
   ⟨0x30, 0, 0, 0, 0⟩,
   ⟨0x38, 0, 0, 0, 0⟩,
   ⟨0x40, 0, 0, 0xfff80000f8000000, 0⟩,
   ⟨0x48, 0, 0, 0xffffffff00000000, 0⟩,
   ⟨0x50, 0, 0, 0xffff000000000000, 0⟩,
   ⟨0x58, 0xfffffffffffff000, 0, 0xfff, 0⟩] ++
  [⟨0x60, 0xffff, 0, 0xffffffffffff0000, 0⟩,
   ⟨0x68, 0xffff, 0, 0xffffffff00000000, 0⟩,
   ⟨0x70, 0xfffffffffffff000, 0, 0xfff, 0⟩,
   ⟨0x78, 0x1f, 0, 0xffffffffffffffe0, 0xc⟩,
   ⟨0x80, 0, 0, 0xfffffffffff00000, 0⟩,
   ⟨0x88, 0xfffff, 0, 0xfffffffffff00000, 0⟩,
   ⟨0x90, 0x1, 0, 0xfffffffffffffffe, 0⟩,
   ⟨0x98, 0, 0x1ffffffff, 0xfffffffe00000000, 0⟩,
   ⟨0xa0, 0x7ff000f, 0, 0xfffffffff800fff0, 0⟩,
   ⟨0xa8, 0, 0xffffffff, 0xffffffff00000000, 0⟩,
   ⟨0xf8, 0, 0xffffffffffffffff, 0, 0⟩]

/-- Registers of the DISP block. -/
def dispRegs : List RegDef :=
  [⟨0x0, 0, 0, 0xfffffffffffe0000, 0⟩,
   ⟨0x8, 0, 0, 0xfffffffff8000000, 0⟩,
   ⟨0x10, 0, 0, 0xffffffffffff0000, 0⟩,
   ⟨0x18, 0, 0, 0xffffffffffe00000, 0⟩,
   ⟨0x20, 0, 0xffffffff, 0xffffffff00000000, 0⟩,
   ⟨0x28, 0, 0, 0xfffffffffffc0000, 0⟩,
   ⟨0x30, 0, 0, 0xfffffffffffe0000, 0⟩,
   ⟨0x38, 0, 0, 0xfffffffffffe0000, 0⟩,
   ⟨0x40, 0, 0, 0xfffffffffffe0000, 0⟩,
   ⟨0x48, 0, 0, 0xfffffffffffe0000, 0⟩,
   ⟨0x50, 0, 0xffffffff, 0xffffffff00000000, 0⟩,
   ⟨0x58, 0, 0xffffffff, 0xffffffff00000000, 0⟩] ++
  [⟨0x60, 0, 0xffffffffffffffff, 0, 0⟩,
   ⟨0x68, 0, 0, 0, 0⟩,
   ⟨0x70, 0x7ff0003, 0, 0xfffffffff800fffc, 0⟩,
   ⟨0x78, 0, 0xffffffff, 0xffffffff00000000, 0⟩,
   ⟨0x80, 0, 0, 0xffffc000fffe0000, 0⟩,
   ⟨0x88, 0, 0, 0xffffc000fffe0000, 0⟩,
   ⟨0x90, 0, 0, 0xffffc000fffe0000, 0⟩,
   ⟨0x98, 0, 0, 0xffffc000fffe0000, 0⟩,
   ⟨0xa0, 0, 0, 0xffffc000fffe0000, 0⟩,
   ⟨0xa8, 0, 0, 0xffffc000fffe0000, 0⟩,
   ⟨0xb0, 0, 0, 0xffffc000fffe0000, 0⟩,
   ⟨0xb8, 0, 0, 0xffffc000fffe0000, 0⟩] ++
  [⟨0xc0, 0, 0, 0xffffc000fffe0000, 0⟩,
   ⟨0xc8, 0, 0, 0xffffc000fffe0000, 0⟩,
   ⟨0xd0, 0, 0, 0xffffc000fffe0000, 0⟩,
   ⟨0xd8, 0, 0, 0xffffc000fffe0000, 0⟩,
   ⟨0xe0, 0, 0, 0xffffc000fffe0000, 0⟩,
   ⟨0xe8, 0, 0, 0xffffc000fffe0000, 0⟩,
   ⟨0xf0, 0, 0, 0xffffc000fffe0000, 0⟩,
   ⟨0xf8, 0, 0, 0xffffc000fffe0000, 0⟩,
   ⟨0x100, 0, 0xffffffffffffffff, 0, 0⟩]

/-- Registers of the KS block. -/
def ksRegs : List RegDef :=
  [⟨0x0, 0, 0, 0xfffffffcffe00000, 0⟩,
   ⟨0x8, 0, 0, 0xffffffffffff8000, 0⟩,
   ⟨0x10, 0, 0xffffffff, 0xffffffff00000000, 0⟩,
   ⟨0x18, 0, 0xffffffff, 0xffffffff00000000, 0⟩,
   ⟨0x20, 0, 0xffffffff, 0xffffffff00000000, 0⟩,
   ⟨0x28, 0x7ff0003, 0, 0xfffffffff800fffc, 0⟩,
   ⟨0x30, 0, 0, 0xfffffefeffffff80, 0⟩,
   ⟨0x38, 0, 0, 0, 0⟩,
   ⟨0x40, 0, 0xffffffffffffffff, 0, 0⟩]

/-- Registers of the KPG block. -/
def kpgRegs : List RegDef :=
  [⟨0x0, 0xfffffffffffff000, 0, 0xfff, 0⟩,
   ⟨0x8, 0x7ff0001, 0, 0xfffffffff800fffe, 0⟩,
   ⟨0x10, 0xfffffffffffff000, 0, 0xfff, 0⟩,
   ⟨0x18, 0x1f, 0, 0xffffffffffffffe0, 0xc⟩,
   ⟨0x20, 0, 0, 0xfffffffffff00000, 0⟩,
   ⟨0x28, 0xfffff, 0, 0xfffffffffff00000, 0⟩,
   ⟨0x30, 0, 0, 0xff800000fff80000, 0⟩,
   ⟨0x38, 0, 0xffffffffffffffff, 0, 0⟩,
   ⟨0x40, 0, 0xffffffff, 0xffffffff00000000, 0⟩,
   ⟨0x48, 0, 0xffffffff, 0xffffffff00000000, 0⟩,
   ⟨0x50, 0, 0xffffffffffffffff, 0, 0⟩,
   ⟨0x58, 0, 0xffffffffffffffff, 0, 0⟩]

/-- Registers of the PORT block. -/
def portRegs : List RegDef :=
  [⟨0x0, 0, 0, 0xfffffffffff00008, 0⟩,
   ⟨0x8, 0, 0, 0xffffffffffff0000, 0⟩,
   ⟨0x10, 0, 0, 0xffffffffffe00000, 0⟩,
   ⟨0x18, 0, 0xffffffffffffffff, 0, 0⟩,
   ⟨0x20, 0, 0xffffffffffffffff, 0, 0⟩,
   ⟨0x28, 0, 0xffffffff, 0xffffffff00000000, 0⟩,
   ⟨0x30, 0, 0xffffffff, 0xffffffff00000000, 0⟩,
   ⟨0x38, 0, 0xffffffff, 0xffffffff00000000, 0⟩,
   ⟨0x40, 0, 0xffffffff, 0xffffffff00000000, 0⟩,
   ⟨0x48, 0, 0xffffffff, 0xffffffff00000000, 0⟩,
   ⟨0x50, 0, 0xffffffff, 0xffffffff00000000, 0⟩,
   ⟨0x58, 0, 0xffffffff, 0xffffffff00000000, 0⟩] ++
  [⟨0x60, 0, 0xffffffff, 0xffffffff00000000, 0⟩,
   ⟨0x68, 0, 0xffffffff, 0xffffffff00000000, 0⟩,
   ⟨0x70, 0, 0xffffffff, 0xffffffff00000000, 0⟩,
   ⟨0x78, 0, 0xffffffffffffffff, 0, 0⟩,
   ⟨0x80, 0, 0xffffffff, 0xffffffff00000000, 0⟩,
   ⟨0x88, 0, 0xffffffff, 0xfffffe0000000000, 0⟩,
   ⟨0x90, 0x7ff0003, 0, 0xfffffffff800fffc, 0⟩,
   ⟨0x98, 0, 0xffffffffffffffff, 0, 0⟩]

/-- Registers of the HQ block. -/
def hqRegs : List RegDef :=
  [⟨0x0, 0, 0, 0xfffe0000fffff000, 0⟩,
   ⟨0x8, 0, 0, 0xffffffffffffe000, 0⟩,
   ⟨0x10, 0, 0xffffffffffffffff, 0, 0⟩,
   ⟨0x18, 0, 0xffffffff, 0xffffffff00000000, 0⟩,
   ⟨0x20, 0, 0xffffffff, 0xffffffff00000000, 0⟩,
   ⟨0x28, 0, 0xffffffff, 0xffffffff00000000, 0⟩,
   ⟨0x30, 0, 0xffffffffffffffff, 0, 0⟩,
   ⟨0x38, 0, 0xffffffff, 0xffffffff00000000, 0⟩,
   ⟨0x40, 0x7ff0003, 0, 0xfffffffff800fffc, 0⟩,
   ⟨0x48, 0, 0xffffffffffffffff, 0, 0⟩]

/-- Registers of the CIPH block. -/
def ciphRegs : List RegDef :=
  [⟨0x0, 0, 0, 0xfffffe00ff80ff80, 0⟩,
   ⟨0x8, 0, 0, 0xfffffffffff80000, 0⟩,
   ⟨0x10, 0xffffffff, 0, 0xffffffff00000000, 0x989680⟩,
   ⟨0x18, 0, 0xffffffff, 0xffffffff00000000, 0⟩,
   ⟨0x20, 0, 0xffffffffffffffff, 0, 0⟩,
   ⟨0x28, 0, 0xffffffffffffffff, 0, 0⟩,
   ⟨0x30, 0xffffffffffffffff, 0, 0, 0x40000000⟩,
   ⟨0x38, 0x7ff0003, 0, 0xfffffffff800fffc, 0⟩,
   ⟨0x40, 0, 0xffffffffffffffff, 0, 0⟩] ++
  (List.range 64).map (fun p => ⟨0x100 + 32 * p, 0, 0, 0xffffffffffff0000, 0⟩) ++
  (List.range 64).map (fun p => ⟨0x108 + 32 * p, 0, 0xffffffff, 0xffffffff00000000, 0⟩) ++
  (List.range 64).map (fun p => ⟨0x110 + 32 * p, 0, 0xffffffff, 0xffffffff00000000, 0⟩) ++
  (List.range 64).map (fun p => ⟨0x118 + 32 * p, 0, 0xffffffff, 0xffffffff00000000, 0⟩)

/-- Registers of the PK block. -/
def pkRegs : List RegDef :=
  [⟨0x0, 0, 0, 0xffffffc0ffffff80, 0⟩,
   ⟨0x8, 0, 0, 0xfffc0000fffff000, 0⟩,
   ⟨0x10, 0, 0xffffffffffffffff, 0, 0⟩,
   ⟨0x18, 0, 0xffffffffffffffff, 0, 0⟩,
   ⟨0x20, 0, 0xffffffff, 0xffffffff00000000, 0⟩,
   ⟨0x28, 0, 0xffffffff, 0xffffffff00000000, 0⟩,
   ⟨0x30, 0, 0xffffffff, 0xffffffff00000000, 0⟩,
   ⟨0x38, 0, 0xffffffff, 0xffffffff00000000, 0⟩,
   ⟨0x40, 0, 0xffffffff, 0xffffffff00000000, 0⟩,
   ⟨0x48, 0, 0xffffffff, 0xffffffff00000000, 0⟩,
   ⟨0x50, 0x7ff0003, 0, 0xfffffffff800fffc, 0⟩,
   ⟨0x58, 0, 0xffffffffffffffff, 0, 0⟩] ++
  [⟨0x100, 0, 0, 0xffffc000ffc0ff00, 0⟩,
   ⟨0x108, 0, 0, 0xffffc000ffc0ff00, 0⟩,
   ⟨0x110, 0, 0, 0xffffc000ffc0ff00, 0⟩,
   ⟨0x118, 0, 0, 0xffffc000ffc0ff00, 0⟩,
   ⟨0x120, 0, 0, 0xffffc000ffc0ff00, 0⟩,
   ⟨0x128, 0, 0, 0xffffc000ffc0ff00, 0⟩,
   ⟨0x130, 0, 0, 0xffffc000ffc0ff00, 0⟩,
   ⟨0x138, 0, 0, 0xffffc000ffc0ff00, 0⟩,
   ⟨0x140, 0, 0, 0xffffc000ffc0ff00, 0⟩,
   ⟨0x148, 0, 0, 0xffffc000ffc0ff00, 0⟩,
   ⟨0x150, 0, 0, 0xffffc000ffc0ff00, 0⟩,
   ⟨0x158, 0, 0, 0xffffc000ffc0ff00, 0⟩] ++
  [⟨0x160, 0, 0, 0xffffc000ffc0ff00, 0⟩,
   ⟨0x168, 0, 0, 0xffffc000ffc0ff00, 0⟩,
   ⟨0x170, 0, 0, 0xffffc000ffc0ff00, 0⟩,
   ⟨0x178, 0, 0, 0xffffc000ffc0ff00, 0⟩]

/-- Registers of the KUM block. -/
def kumRegs : List RegDef :=
  [⟨0x0, 0xffffffffffffffe0, 0, 0x1f, 0⟩,
   ⟨0x8, 0x1f, 0, 0xffffffffffffffe0, 0x6⟩,
   ⟨0x10, 0xffff, 0, 0xffffffffffff0000, 0⟩,
   ⟨0x18, 0, 0, 0xffffffffffff0000, 0⟩,
   ⟨0x20, 0xfffffffffffffff0, 0, 0xf, 0⟩,
   ⟨0x28, 0x1f, 0, 0xffffffffffffffe0, 0x6⟩,
   ⟨0x30, 0xffff, 0, 0xffffffffffff0000, 0⟩,
   ⟨0x38, 0, 0, 0xffffffffffff0000, 0⟩,
   ⟨0x40, 0x7ff0001, 0, 0xfffffffff800fffe, 0⟩,
   ⟨0x48, 0, 0, 0xfffffe00f000e0fe, 0⟩,
   ⟨0x50, 0, 0, 0xffff000000000000, 0⟩,
   ⟨0x58, 0, 0xffffffffffffffff, 0, 0⟩] ++
  [⟨0x60, 0, 0xffffffff, 0xffffffff00000000, 0⟩,
   ⟨0x68, 0xfff, 0, 0xfffffffffffff000, 0x258⟩,
   ⟨0x70, 0, 0, 0, 0⟩,
   ⟨0x78, 0, 0, 0, 0⟩,
   ⟨0x80, 0, 0, 0, 0⟩,
   ⟨0x88, 0, 0, 0, 0⟩,
   ⟨0x90, 0, 0, 0xffffffffffff0000, 0⟩,
   ⟨0x98, 0x7ff0001, 0, 0xfffffffff800fffe, 0⟩,
   ⟨0xa0, 0, 0xffffffffffffffff, 0, 0⟩]

/-- Registers of the TWIN block. -/
def twinRegs : List RegDef :=
  [⟨0x0, 0, 0, 0xfffffffcfffefc00, 0⟩,
   ⟨0x8, 0, 0, 0, 0⟩,
   ⟨0x10, 0, 0, 0xfffffffffff0fce0, 0⟩,
   ⟨0x18, 0, 0, 0, 0⟩,
   ⟨0x20, 0, 0, 0, 0⟩,
   ⟨0x28, 0xfffffffffffffff8, 0, 0x7, 0⟩,
   ⟨0x30, 0, 0xffffffff, 0xffffffff00000000, 0⟩,
   ⟨0x38, 0, 0xffffffffffffffff, 0, 0⟩,
   ⟨0x40, 0, 0, 0xffffffff00000080, 0⟩,
   ⟨0x48, 0, 0xffffffffffffffff, 0, 0⟩,
   ⟨0x50, 0, 0xffffffffffffffff, 0, 0⟩,
   ⟨0x58, 0, 0, 0, 0⟩] ++
  [⟨0x60, 0x7ff0007, 0, 0xfffffffff800fff8, 0⟩,
   ⟨0x68, 0, 0xffffffffffffffff, 0, 0⟩]

/-- Registers of the PROT block. -/
def protRegs : List RegDef :=
  [⟨0x0, 0, 0, 0xfffffffffffffff8, 0⟩,
   ⟨0x8, 0, 0, 0xfffffffffffe0000, 0⟩,
   ⟨0x10, 0, 0, 0xffffffffffff0000, 0⟩,
   ⟨0x18, 0, 0, 0xffffffffffff0000, 0⟩,
   ⟨0x20, 0xffffffff, 0, 0xffffffff00000000, 0xfb7ffeea⟩,
   ⟨0x28, 0, 0xffffffff, 0xffffffff00000000, 0⟩,
   ⟨0x30, 0, 0, 0xfffffffffffe0000, 0⟩,
   ⟨0x38, 0, 0xffffffffffffffff, 0, 0⟩,
   ⟨0x40, 0x300, 0, 0xfffffffffffffcfc, 0⟩,
   ⟨0x48, 0, 0, 0, 0⟩,
   ⟨0x50, 0, 0, 0, 0⟩,
   ⟨0x58, 0, 0, 0, 0⟩] ++
  [⟨0x60, 0, 0, 0, 0⟩,
   ⟨0x68, 0x7ff0003, 0, 0xfffffffff800fffc, 0⟩,
   ⟨0x70, 0, 0xffffffffffffffff, 0, 0⟩]

/-- Registers of the RNG block. -/
def rngRegs : List RegDef :=
  [⟨0x0, 0, 0, 0xffffff00fffcfff8, 0⟩,
   ⟨0x8, 0xfff0fff1fff1fff, 0, 0xf000f000e000e000, 0x8cc073308cd0733⟩,
   ⟨0x10, 0, 0, 0xfffffffff000e000, 0⟩,
   ⟨0x18, 0, 0, 0xfffffffff000e000, 0⟩,
   ⟨0x20, 0, 0, 0xfffffffff000e000, 0⟩,
   ⟨0x28, 0, 0, 0xfffffffff000e000, 0⟩,
   ⟨0x30, 0, 0, 0xfffffffff000e000, 0⟩,
   ⟨0x38, 0, 0, 0xfffffffff000e000, 0⟩,
   ⟨0x40, 0, 0, 0xfffffffff000e000, 0⟩,
   ⟨0x48, 0, 0, 0xfffffffff000e000, 0⟩,
   ⟨0x50, 0, 0xffffffffffffffff, 0, 0⟩,
   ⟨0x58, 0, 0xffffffffffffffff, 0, 0⟩] ++
  [⟨0x60, 0x1, 0, 0xfffffffffffffffe, 0⟩,
   ⟨0x68, 0xffffffffffffffff, 0, 0, 0⟩,
   ⟨0x70, 0x7ff0001, 0, 0xfffffffff800fffe, 0⟩,
   ⟨0x78, 0, 0xffffffffffffffff, 0, 0⟩]

/-- Registers of the LDG block. -/
def ldgRegs : List RegDef :=
  [⟨0x0, 0, 0, 0xffffffffffe0, 0⟩,
   ⟨0x8, 0, 0, 0xffff00000000fffe, 0⟩,
   ⟨0x10, 0, 0, 0, 0⟩,
   ⟨0x18, 0, 0, 0xffffffffffff8000, 0⟩,
   ⟨0x20, 0, 0, 0xfffff800fffff800, 0⟩,
   ⟨0x28, 0, 0, 0xfffffc0000000000, 0⟩,
   ⟨0x30, 0xfffff, 0, 0xfffffffffff00000, 0x186a0⟩,
   ⟨0x38, 0x7ff, 0, 0xfffffffffffff800, 0x400⟩,
   ⟨0x40, 0, 0, 0xfffffffc, 0⟩,
   ⟨0x48, 0, 0, 0xffff000000000000, 0⟩,
   ⟨0x50, 0, 0, 0xffffffff00000000, 0⟩,
   ⟨0x58, 0, 0, 0, 0⟩] ++
  [⟨0x60, 0, 0xffffffff, 0xffffffff00000000, 0⟩,
   ⟨0x68, 0x7ff0007, 0, 0xfffffffff800fff8, 0⟩,
   ⟨0x70, 0, 0xffffffffffffffff, 0, 0⟩]

/-- Registers of the CARD block. -/
def cardRegs : List RegDef :=
  [⟨0x0, 0, 0, 0xffffffffff00f008, 0⟩,
   ⟨0x8, 0, 0, 0xffffffff00000000, 0⟩,
   ⟨0x10, 0, 0, 0, 0⟩,
   ⟨0x18, 0, 0, 0, 0⟩,
   ⟨0x20, 0, 0xffffffff, 0xffffffff00000000, 0⟩,
   ⟨0x28, 0, 0xffffffff, 0xffffffff00000000, 0⟩,
   ⟨0x30, 0x7ff0003, 0, 0xfffffffff800fffc, 0⟩,
   ⟨0x38, 0, 0xffffffffffffffff, 0, 0⟩]

/-- Registers of the FAB block. -/
def fabRegs : List RegDef :=
  [⟨0x0, 0, 0, 0xffffffffffffff00, 0⟩,
   ⟨0x8, 0, 0xffffffffffffffff, 0, 0⟩,
   ⟨0x10, 0, 0xffffffffffffffff, 0, 0⟩,
   ⟨0x18, 0, 0, 0xfffffc00ffffff80, 0⟩,
   ⟨0x20, 0, 0, 0xfffffffffff00000, 0⟩,
   ⟨0x28, 0xfffff, 0, 0xfffffffffff00000, 0x1000⟩,
   ⟨0x30, 0, 0xffffffff00000000, 0xfe000000, 0⟩,
   ⟨0x38, 0, 0xffffffff00000000, 0xfffffff8, 0⟩,
   ⟨0x40, 0, 0, 0, 0⟩,
   ⟨0x48, 0x3ff, 0, 0xfffffffffffffc00, 0⟩,
   ⟨0x50, 0, 0, 0xffe, 0⟩,
   ⟨0x58, 0, 0, 0xfff00000ffff8000, 0⟩] ++
  [⟨0x60, 0x7ff0007, 0, 0xfffffffff800fff8, 0⟩,
   ⟨0x68, 0, 0xffffffffffffffff, 0, 0⟩]

/-- Registers of the ERR block. -/
def errRegs : List RegDef :=
  [⟨0x0, 0, 0x7ffff, 0xfffffffffff80000, 0⟩,
   ⟨0x8, 0x7ffff, 0, 0xfffffffffff80000, 0⟩,
   ⟨0x10, 0, 0x1fffff, 0xffffffffffe00000, 0⟩,
   ⟨0x18, 0xffff, 0, 0xffffffffffff0000, 0xc01⟩,
   ⟨0x20, 0, 0xffffffffffffffff, 0, 0⟩,
   ⟨0x28, 0x7ff0001, 0, 0xfffffffff800fffe, 0⟩,
   ⟨0x30, 0, 0xffff00ffffffffff, 0xff0000000000, 0⟩,
   ⟨0x38, 0, 0xffffffffffffffff, 0, 0⟩]

/-- The blocks of Table 0.3 that hold registers. -/
def blocks : List BlockDef :=
  [⟨0, 0x0, 0xffff, 0x0, devRegs⟩] ++
  [⟨1, 0x10000, 0x10fff, 0x0, tickRegs⟩] ++
  [⟨2, 0x20000, 0x2ffff, 0x0, lastRegs⟩] ++
  [⟨3, 0x30000, 0x30fff, 0x0, mgmtRegs⟩] ++
  [⟨4, 0x100000, 0x1fffff, 0x100, instRegs⟩] ++
  [⟨5, 0x200000, 0x2fffff, 0x0, dispRegs⟩] ++
  [⟨6, 0x300000, 0x33ffff, 0x0, ksRegs⟩] ++
  [⟨7, 0x340000, 0x3fffff, 0x0, kpgRegs⟩] ++
  [⟨8, 0x400000, 0x4fffff, 0x4000, portRegs⟩] ++
  [⟨9, 0x500000, 0x5fffff, 0x0, hqRegs⟩] ++
  [⟨10, 0x600000, 0x63ffff, 0x0, ciphRegs⟩] ++
  [⟨11, 0x640000, 0x67ffff, 0x0, pkRegs⟩] ++
  [⟨12, 0x680000, 0x6fffff, 0x0, kumRegs⟩] ++
  [⟨13, 0x700000, 0x73ffff, 0x0, twinRegs⟩] ++
  [⟨14, 0x740000, 0x74ffff, 0x0, protRegs⟩] ++
  [⟨15, 0x750000, 0x77ffff, 0x0, rngRegs⟩] ++
  [⟨16, 0x780000, 0x78ffff, 0x0, ldgRegs⟩] ++
  [⟨17, 0x790000, 0x79ffff, 0x0, cardRegs⟩] ++
  [⟨18, 0x800000, 0xdfffff, 0x0, fabRegs⟩] ++
  [⟨19, 0xf00000, 0xffffff, 0x0, errRegs⟩]

/-- The block that holds a BAR0 offset (R9). -/
def blockOf (off : Nat) : Option BlockDef := blocks.find? (fun b => decide (b.base ≤ off ∧ off ≤ b.last))

/-- The offset within one copy of its block. -/
def BlockDef.rel (b : BlockDef) (off : Nat) : Nat :=
  if b.stride = 0 then off - b.base else (off - b.base) % b.stride

/-- The copy (port, instance) an offset of a strided block lies in. -/
def BlockDef.copy (b : BlockDef) (off : Nat) : Nat := if b.stride = 0 then 0 else (off - b.base) / b.stride

/-- The register at a BAR0 offset, none where the offset is reserved. -/
def regAt (off : Nat) : Option RegDef :=
  match blockOf off with
  | none => none
  | some b => b.regs.find? (fun r => r.off == b.rel off)

/-- The stored reset value of an offset. -/
def regReset (off : Nat) : Nat := match regAt off with | none => 0 | some r => r.reset

/-- Where the LAST_REJECT register that serves an offset of a block lies (R54). -/
def lastRejectOf (b : BlockDef) (off : Nat) : Nat :=
  match b.num with
  | 0 => oDevLastReject
  | 1 => oTickLastReject
  | 2 => oLastLastReject
  | 3 => oMgmtLastReject
  | 4 => oInstLastReject + 256 * b.copy off
  | 5 => oDispLastReject
  | 6 => oKsLastReject
  | 7 => oKpgLastReject
  | 8 => oPortLastReject + 0x4000 * b.copy off
  | 9 => oHqLastReject
  | 10 => oCiphLastReject
  | 11 => oPkLastReject
  | 12 => oKumLastReject
  | 13 => oTwinLastReject
  | 14 => oProtLastReject
  | 15 => oRngLastReject
  | 16 => oLdgLastReject
  | 17 => oCardLastReject
  | 18 => oFabLastReject
  | _ => oErrLastReject

end Sys2Proof.Machine
end

