-- ==== Sys2Proof/Machine/Parts.lean ====
section
/-! DEFINITION. The parts of the machine's state: one structure for each group of INVENTORY.md's State heading. All plain data. -/

namespace Sys2Proof.Machine

/-! ### Fuses, battery domain, flash -/

/-- Fuses (R433, R446, R448, R451): twelve stage-word rows, three copies of each option word (bit 16 RETURNED_PATH), the
PROT_RESPONSE and RNG_THRESHOLDS rows, and the destroyed secret fuses of SCRAPPED. `secrets` false: destroyed; `torn`: power
was lost while a row of a life-cycle step was being burned. -/
structure Fuses where
  stages : List Nat := [0x5A3C96E10F87C3D2, 0x5A3C96E10F87C3D2, 0x5A3C96E10F87C3D2, 0, 0, 0, 0, 0, 0, 0, 0, 0]
  options : List Nat := [0, 0, 0]
  response : Option Nat := none
  thresholds : Option Nat := none
  secrets : Bool := true
  torn : Bool := false
  deriving DecidableEq, Repr, Inhabited

/-- The battery domain (R521, R428, R464); `part` is the part of 1/65,536 hour that has passed, in 1/65,536 of half a microsecond. -/
structure Battery where
  secret : Option Bytes := none
  sticky : Nat := 0
  hours : Nat := 0
  cycles : Nat := 0
  part : Nat := 0
  valid : Bool := true
  deriving DecidableEq, Repr, Inhabited

/-- A firmware copy (R525): whether it verifies, its serial number and the digest of its signed bytes. -/
structure Firmware where
  valid : Bool := true
  serial : Nat := 1
  digest : Bytes := zeros 48
  image : Bytes := []
  deriving DecidableEq, Repr, Inhabited

/-- A ledger record (Table 17.3), with where it stands: the first area or the circular area, its sector and block. -/
structure LedgerRec where
  mark : Nat := 0xFFFFFFFF
  typ : Nat := 0
  seq : Nat := 0
  hours : Nat := 0
  flags : Nat := 0
  cycles : Nat := 0
  tick : Nat := 0
  link : Bytes := zeros 48
  body : Bytes := []
  mac : Bytes := zeros 16
  firstArea : Bool := false
  sector : Nat := 0
  block : Nat := 0
  deriving DecidableEq, Repr, Inhabited

/-- A writing position: a sector of its area, a block in it, a byte in the block. A sector's first 64 bytes are its header. -/
structure Pos where
  sector : Nat := 0
  block : Nat := 0
  byte : Nat := 64
  deriving DecidableEq, Repr, Inhabited

/-- One snapshot copy: its sequence number and what it restores (R96). -/
structure Copy where
  seq : Nat := 0
  img : Durable := {}
  deriving DecidableEq, Repr, Inhabited

/-- The last store (R222): the full image and the log of amendments. -/
structure LastStore where
  full : Bytes := []
  log : List Bytes := []
  deriving DecidableEq, Repr, Inhabited

/-- The ledger flash (R460-R475, R484): fitted sizes, firmware copies, records in sequence order, writing positions of the first
and the circular area, whether the next circular sector is erased ahead (R468), erases of each sector, sectors that a replacement stands for (sector of an area, by area and number, and its physical sector), endurance settings, snapshot copies and the last store. Sizes in MiB. -/
structure Flash where
  present : Bool := true
  cs0 : Nat := 512
  cs1 : Nat := 0
  fwA : Firmware := {}
  fwB : Firmware := {}
  records : List LedgerRec := []
  first : Pos := {}
  head : Pos := {}
  ahead : Bool := true
  inService : Nat := 1536
  spares : Nat := 1022
  retired : Nat := 0
  erases : Tbl Nat := []
  sectors : Tbl Nat := []
  endurance : Option Nat := none
  circMin : Option Nat := none
  copyA : Option Copy := none
  copyB : Option Copy := none
  store : LastStore := {}
  deriving DecidableEq, Repr, Inhabited

/-! ### Device, PCIe, ticks -/

/-- A management command on its way: the command, the host address of its descriptor, whether the urgent slot carried it,
its commit point once it has committed (Table 2.4), `mute` once an FLR of PF0 has taken its completion (R316), and `early`,
the failure found at its fetch that it completes with at its boundary (R227, R526). -/
structure MCmd where
  cmd : Cmd
  addr : Nat
  slot : Bool := false
  point : Nat := 0
  mute : Bool := false
  early : Option Status := none
  deriving DecidableEq, Repr

/-- A firmware update in progress (R526): the management command and the area being written (0 A, 1 B). -/
structure FwJob where
  m : MCmd
  slot : Nat
  deriving DecidableEq, Repr

/-- Power, reset and start-up (R517-R528). -/
structure DevSt where
  rails : Bool := true
  perstLow : Bool := false
  step : Nat := 0
  ready : Bool := false
  stopped : Bool := false
  cause : Nat := 0
  lost : Bool := false
  regsUp : Bool := false
  resetCause : Nat := 1
  resetReq : Bool := false
  startMs : Nat := 0
  fwB : Bool := false
  fwSerial : Nat := 0
  fwDigest : Bytes := zeros 48
  temp : Nat := 0
  tempMax : Nat := 0
  tempArmed : Bool := true
  millivolts : List Nat := [0, 0, 0, 0]
  alert : Bool := false
  romDigest : Bytes := zeros 48
  fwJob : Option FwJob := none
  deriving DecidableEq, Repr

/-- PCIe (R296, R298, R309, R316): link, Bus Master Enable and D3hot of each function, VF Enable and NumVFs, MSI-X tables and
pending bits, and what an FLR of PF0 has stopped until Bus Master Enable is set again. -/
structure PcieSt where
  up : Bool := false
  rate : Nat := 0
  width : Nat := 0
  flit : Bool := false
  bmeOff : List Nat := []
  d3 : List Nat := []
  vfEnable : Bool := false
  numVfs : Nat := 0
  msixSent : List (Nat × Nat) := []
  msixWait : List (Nat × Nat) := []
  msixPend : List (Nat × Nat) := []
  mbxWait : List (Nat × Nat) := []
  outWait : List (Nat × Nat) := []
  deriving DecidableEq, Repr, Inhabited

/-- The timebase (R33, R34). `due`: the last tick boundary reached an epoch boundary whose work EPOCH_BOUNDARY still does. -/
structure TickSt where
  count : Nat := 0
  due : Bool := false
  aligned : Bool := false
  offset : Nat := 0
  jumpTo : Option Nat := none
  deriving DecidableEq, Repr, Inhabited

/-! ### Management queue -/

/-- A completion: the status, tag, version and commit point (Table 2.4), and whether to raise the vector. -/
structure MDone where
  status : Nat
  tag : Nat
  version : Nat
  point : Nat
  raise : Bool
  deriving DecidableEq, Repr, Inhabited

/-- Management queue state (R43-R57) and commands that work across steps. `urgentNow`: urgent commands whose tick boundary has come;
`committing`: the epoch boundary whose staged commands are still committing, one of them waiting for the partner or for a page. -/
structure MgmtSt where
  version : Nat := 1
  sqHead : Nat := 0
  sqTail : Nat := 0
  cqHead : Nat := 0
  cqTail : Nat := 0
  staged : List (MCmd × Nat) := []
  urgent : List MCmd := []
  urgentNow : List MCmd := []
  held : List MDone := []
  urgAddr : Nat := 0
  busy : Bool := false
  urgRead : Bool := false
  ack : Bool := true
  changed : List (Nat × Nat) := []
  resync : Nat := 0
  overflow : Bool := false
  baseCmd : Option MCmd := none
  portCmd : Option MCmd := none
  committing : Option Nat := none
  deriving DecidableEq, Repr

/-! ### What waits -/

/-- What waits for a claim check, for the partner's acknowledgement, or for a page (R85, R410, R415): `paged` is a management command
and `kumPaged` a key update message whose key is in a page that is being fetched. -/
inductive Purpose where
  | figure (slot : Nat)
  | kum (n : Nat)
  | command (code : Nat) (m : MCmd)
  | page (p : Nat)
  | mirrored (id : Nat)
  | item (n : Nat)
  | mirror (changes : List Delta)
  | promote (claim : Nat) (how : Nat) (m : Option MCmd)
  | takeRead (m : MCmd)
  | paged (m : MCmd)
  | kumPaged (n : Nat)
  deriving DecidableEq, Repr

/-! ### Keys and pages -/

/-- A page fetch: the tick of its first issue, and the items and other work that wait for it, each with the
slot of the key it needs. -/
structure Fetch where
  since : Nat
  waiters : List (Nat × Nat)
  tasks : List (Purpose × Nat) := []
  deriving DecidableEq, Repr, Inhabited

/-- A write-back (R87): the logical page number, the page it goes to, its version, the sealed page, the slots and records
of the dirty keys in it, and its stage:
0 waits for its claim check, 1 for the begin entry, 2 for the confirming read, 3 for the end entry or notice-ring space. -/
structure WriteBack where
  target : Nat
  ver : Nat
  bytes : Bytes
  content : List (Nat × Bytes) := []
  stage : Nat := 0
  deriving DecidableEq, Repr, Inhabited

/-- The key store (R58-R102): resident keys by slot, reuse counts of ephemeral indices, the keys drawn at start, pages,
remap table, journal, rings, hints, and what is
known of keys that left the resident store: handle, version, state code (R42, R99). -/
structure KsSt where
  keys : Tbl KeyRec := []
  reuse : Tbl Nat := []
  storeKey : Bytes := []
  slotKey : Bytes := []
  pages : Tbl PageEnt := []
  remap : Tbl Nat := []
  fetches : Tbl Fetch := []
  writes : Tbl WriteBack := []
  noticeTail : Nat := 0
  noticeHead : Nat := 0
  restore : Nat := 0
  active : Bool := false
  baseBusy : Bool := false
  fill : Nat := 0
  journal : List Delta := []
  hints : Tbl (Nat × Nat) := []
  gone : Tbl (Nat × Nat × Nat) := []
  deriving DecidableEq, Repr, Inhabited

/-! ### Lasts -/

/-- A last command in progress (R227): its code and the command, whether validation has ended and with what, whether it is
ready, and for LAST_LOAD the commit boundary it has passed. -/
structure LastJob where
  code : Nat
  m : MCmd
  isOver : Bool := false
  fail : Option ImageFail := none
  parsed : Option Parsed := none
  boundary : Option Nat := none
  deriving DecidableEq, Repr

/-- Lasts (R211-R233): configurations by generation (items keep the one of their admission, R49), the one in force, serials,
measurement, results, the running full image until it is persisted, section types with an uncorrected error (Table 18.3), statistics (by number: seam counters, 8 per seam, 3 per pattern). -/
structure LastSt where
  cfgs : Tbl LastConfig := []
  cur : Option Nat := none
  gen : Nat := 0
  serial : Nat := 0
  amendSerial : Nat := 0
  amendments : Nat := 0
  persisted : Bool := false
  measure : Bytes := zeros 48
  result : Nat := 0
  boot : Nat := 0
  job : Option LastJob := none
  image : Bytes := []
  hit : List Nat := []
  counters : Tbl Nat := []
  seamStats : Tbl Nat := []
  patStats : Tbl Nat := []
  deriving DecidableEq, Repr

/-! ### Dispatch -/

/-- Where an item stands (R239-R247). -/
inductive Stage where
  | queued | ready | running | parked | resumed | held
  deriving DecidableEq, Repr, Inhabited

/-- A deferred APPLY (R205): its stitch index, the status its function gives, whether it has ended, whether the failure
disposition has taken its failure (R209), the slots it holds a use of and whether that use is consumed, and whether it runs as a
public-key job. -/
structure Deferred where
  ix : Nat
  status : Status := .ok
  ended : Bool := false
  taken : Bool := false
  uses : List (Nat × Bool) := []
  job : Bool := false
  deriving DecidableEq, Repr, Inhabited

/-- A frame in emission (R206): its session, the whole frame up to the HTT tag, and the phase and sequence it used. -/
structure Emission where
  sess : Nat
  hdr : Bytes
  sealedTxt : Bytes
  phase : Nat
  seq : Nat
  deriving DecidableEq, Repr, Inhabited

/-- A host buffer of a service operand (R305): data elements as address and length. -/
abbrev Elements := List (Nat × Nat)

/-- A work item (R235-R247, Table 6.1, Tables 4.1 and 10.5-10.9). `sess` is the inbound session of a transit message or an HTT
request; `qp` the queue pair of a PCIe request. `tainted`: it has drawn from a DRBG or consumed a use (R504). `ending`: a terminal
stitch that waits for deferred stitches (R209). -/
structure Item where
  inst : Nat := 0
  transit : Bool := false
  sess : Option Nat := none
  phase : Nat := 0
  seq : Nat := 0
  qp : Option Nat := none
  tag : Nat := 0
  raise : Bool := false
  unver : Bool := false
  reqId : Nat := 0
  flow : Nat := 0
  cls : Nat := 0
  quad : Nat := 0
  frond : Nat := 0
  order : Nat := 0
  moved : Bool := false
  stage : Stage := .queued
  admitted : Bool := false
  stopped : Option Status := none
  cfg : Nat := 0
  admitTick : Nat := 0
  terms : Nat := 0
  due : Nat := 0
  mask : Nat := 0
  flags : Nat := 0
  waitSt : Option Status := none
  raw : Bytes := []
  msg : Option Msg := none
  seam : Nat := 0
  ix : Nat := 0
  st : Nat := 0
  c : Bool := false
  kreg : List Nat := [0, 0, 0, 0, 0, 0, 0, 0]
  vars : Tbl Bytes := []
  dest : Option Nat := none
  binds : Tbl Nat := []
  deferred : List Deferred := []
  ending : Bool := false
  emis : Option Emission := none
  inv : Invoc := {}
  bufs : List Elements := []
  result : Option FnOut := none
  invoked : Option Invoc := none
  used1 : Option Nat := none
  used2 : Option Nat := none
  ctxSlot : Option Nat := none
  done : Nat := 0
  total : Nat := 0
  job : Bool := false
  lateResponse : Option (Nat × Bytes) := none
  made : Option Nat := none
  tainted : Bool := false
  deriving DecidableEq, Repr, Inhabited

/-- A flow entry (R235-R238): key, mode, version, home, pin, hint with its conflict streak, the tick it became empty. -/
structure Flow where
  inst : Nat := 0
  space : Nat := 0
  parallel : Bool := false
  value : Bytes := []
  version : Nat := 1
  home : Option Nat := none
  pinned : Bool := false
  hint : Option Nat := none
  streak : Nat := 0
  emptyAt : Nat := 0
  hot : Nat := 0
  deriving DecidableEq, Repr, Inhabited

/-- Dispatch and placement (R235-R260): items by number, flows by entry, the hash key, deficits by frond, class and instance,
work admitted in the tick by frond, ticks each wait-pool partition has been full, field operations and runs of each seam in
the epoch and its estimate, and the placement run. -/
structure DispSt where
  items : Tbl Item := []
  nextItem : Nat := 0
  order : Nat := 0
  flows : Tbl Flow := []
  hashKey : Bytes := []
  deficits : Tbl Nat := []
  work : Tbl Nat := []
  poolFull : Tbl Nat := []
  estim : Tbl (Nat × Nat × Nat) := []
  frozen : Bool := false
  planEpoch : Nat := 0
  planMoves : Nat := 0
  plan : List PlanMove := []
  slotQuad : Tbl Nat := []
  overflowSeen : Bool := false
  faultSeen : Bool := false
  waitSeen : Bool := false
  stopAdmit : Bool := false
  deriving DecidableEq, Repr, Inhabited

/-! ### Ports, sessions, queues -/

/-- A peer table entry (Table 9.14). -/
structure Peer where
  mac : Nat
  sub : Nat
  kind : Nat
  heard : Nat
  serial : Nat
  expiry : Nat
  ident : Bytes
  deriving DecidableEq, Repr, Inhabited

/-- A MACsec security association (R335-R338): `pn` is the next packet number, `low` the lowest acceptable one. -/
structure Sa where
  an : Nat := 0
  aes256 : Bool := false
  xpn : Bool := false
  key : Bytes := []
  salt : Bytes := []
  ssci : Nat := 0
  sci : Nat := 0
  pn : Nat := 1
  low : Nat := 1
  window : Nat := 0
  protecting : Bool := false
  removed : Bool := false
  deriving DecidableEq, Repr, Inhabited

/-- A sub-port (R263-R267, R290-R292, R335): administrative and link state, SOLITARY, epochs without discovery frames, the
timers of PRESENCE and LLDP, answers sent by source MAC, priorities paused by PFC (until a tick) with the frames that wait,
priorities it has sent XOFF on, its MACsec warning and stall, and its security associations. -/
structure SubPort where
  admin : Bool := false
  link : Bool := false
  training : Bool := false
  solitary : Bool := false
  silent : Nat := 0
  heard : Bool := false
  presenceAt : Nat := 0
  lldpAt : Nat := 0
  answered : Tbl Nat := []
  paused : Tbl Nat := []
  waitq : List (Nat × Bytes × Bool) := []
  xoff : Nat := 0
  pnWarn : Bool := false
  stalled : Bool := false
  tx : Tbl Sa := []
  rx : Tbl Sa := []
  deriving DecidableEq, Repr, Inhabited

/-- Fragments of a HELLO that has not arrived whole (R280): sub-port, source MAC, fragment count, tick of the first, parts. -/
structure HelloFrag where
  sub : Nat
  mac : Bytes
  count : Nat
  since : Nat
  parts : Tbl Bytes := []
  deriving DecidableEq, Repr, Inhabited

/-- A port (R262-R294). -/
structure Port where
  version : Nat := 1
  subs : List SubPort := [{}, {}, {}, {}]
  peers : List Peer := []
  hello : List HelloFrag := []
  deriving DecidableEq, Repr, Inhabited

/-- A queue pair (R300-R303); `faulted`: its ring or completion ring met a fault in this tick (R388). -/
structure Qp where
  fn : Nat := 0
  lix : Nat := 0
  sqLog : Nat := 6
  cqLog : Nat := 6
  cls : Nat := 0xFF
  parallel : Bool := false
  unver : Bool := false
  vector : Nat := 0
  sqBase : Nat := 0
  cqBase : Nat := 0
  active : Bool := true
  abort : Bool := false
  faulted : Bool := false
  sqHead : Nat := 0
  sqTail : Nat := 0
  cqHead : Nat := 0
  cqTail : Nat := 0
  phase : Bool := true
  deriving DecidableEq, Repr, Inhabited

/-! ### Engines -/

/-- What a public-key job serves. -/
inductive JobFor where
  | item (n : Nat)
  | deferred (n ix : Nat)
  | receipt (kum : Nat)
  deriving DecidableEq, Repr, Inhabited

/-- A public-key job (R347-R353). `split`: the segments left at which ATTEST goes on to the lattice units; `stamp`: when its running
segment began, in the order of the device's work. -/
structure PkJob where
  purpose : JobFor
  inst : Nat := 0
  frond : Nat := 0
  lattice : Bool := false
  bounded : Bool := false
  frames : Nat := 1
  left : Nat := 1
  split : Nat := 0
  stamp : Nat := 0
  placed : Bool := false
  running : Bool := false
  abandoned : Bool := false
  order : Nat := 0
  waited : Nat := 0
  lastRun : Nat := 0
  deriving DecidableEq, Repr, Inhabited

/-- The engines (R320-R355): saved contexts and their reuse counts, public-key jobs, the point cache of each frond. -/
structure EngSt where
  ctxs : Tbl CipherCtx := []
  ctxReuse : Tbl Nat := []
  jobs : Tbl PkJob := []
  nextJob : Nat := 0
  points : List (Nat × Nat) := []
  deriving DecidableEq, Repr, Inhabited

/-! ### Key updates, instances, twin -/

/-- A key update message in progress or accepted (R363-R367). `stage` 0: claim check; 1: ledger record; 2: accepted; 3: effective,
receipt being signed. -/
structure KumMsg where
  entry : Bytes
  msg : Bytes
  stage : Nat := 0
  results : List Nat := []
  effect : Nat := 0
  counter : Nat := 0
  discard : Bool := false
  deriving DecidableEq, Repr, Inhabited

/-- A ceremony (R369): instance, components by roster index, target handle, algorithm, length, the epoch it began. -/
structure Ceremony where
  inst : Nat
  parts : Tbl Bytes := []
  target : Nat := 0
  alg : Nat := 0
  len : Nat := 0
  counter : Nat := 0
  began : Nat := 0
  deriving DecidableEq, Repr, Inhabited

/-- A life-cycle step in progress (R451): its target, its stage (1 receipt, 2 wipe, 3 burn), the tick it began, the fuse row that
is being burned, and the key update message. -/
structure LifeStep where
  target : Nat
  stage : Nat
  since : Nat
  row : Nat := 0
  kum : Option Nat
  deriving DecidableEq, Repr, Inhabited

/-- Key updates (R357-R375). -/
structure KumSt where
  sqHead : Nat := 0
  sqTail : Nat := 0
  cqHead : Nat := 0
  cqTail : Nat := 0
  msgs : Tbl KumMsg := []
  next : Nat := 0
  held : List Bytes := []
  ceremony : Option Ceremony := none
  deriving DecidableEq, Repr, Inhabited

/-- An instance: what is durable, and its credit buckets, mailbox, dirty-page log and reset work (R386-R396). -/
structure Inst where
  d : InstDur := {}
  cipher : Int := 0
  field : Int := 0
  pk : Int := 0
  dests : Tbl Nat := []
  quietWas : Bool := true
  erring : Option Nat := none
  slots : Tbl Bytes := []
  pendIn : Nat := 0
  busyOut : Nat := 0
  logTail : Nat := 0
  logHead : Nat := 0
  logRecent : List Nat := []
  logOver : Bool := false
  logCount : Nat := 0
  dirtyVersion : Bool := false
  deriving DecidableEq, Repr, Inhabited

/-- What the device sends out, newest last (log 2): a posted write through a PCIe function, an MSI-X message, a frame with
its stomp flag, a compare-and-swap of the claim cell, a page read, a mirrored change or heartbeat on the welt link, a block
written to the card, and the value a register read or debug access answers. -/
inductive Out where
  | write (fn addr : Nat) (data : Bytes)
  | msix (fn vec : Nat)
  | frame (port sub : Nat) (bytes : Bytes) (stomped : Bool)
  | cas (id cmp swap : Nat)
  | pageRead (page : Nat)
  | mirror (id claim : Nat) (what : Purpose)
  | mirrorAck (id : Nat)
  | heartbeat (tick : Nat) (active : Bool) (pair claim : Nat)
  | returnNotice (tick : Nat)
  | card (block : Nat) (data : Bytes)
  | value (v : Nat)
  | data (b : Bytes)
  deriving DecidableEq, Repr

/-- A CAS in flight (R414): compare and swap values, whether it restores the cell, when it was issued, what for. -/
structure CasOp where
  cmp : Nat
  swap : Nat
  restore : Bool := false
  since : Nat := 0
  purpose : Purpose
  deriving DecidableEq, Repr

/-- The twin (R406-R425). -/
structure TwinSt where
  active : Bool := false
  pair : Nat := 0
  rejected : Bool := false
  promoteFailed : Bool := false
  returnHeld : Bool := false
  fenced : Bool := false
  lanes : Nat := 0
  linkUp : Bool := false
  partnerClaim : Nat := 0
  partnerTick : Nat := 0
  lastHeard : Nat := 0
  aloneSince : Nat := 0
  fenceAt : Option Nat := none
  pairedSince : Option Nat := none
  lastChange : Nat := 0
  cas : Tbl CasOp := []
  nextId : Nat := 0
  acks : Tbl Purpose := []
  mirrored : Tbl MirrorRx := []
  queued : List Purpose := []
  passed : List (Purpose × Option Status) := []
  toAck : List Nat := []
  resyncDone : Bool := false
  leaving : Bool := false
  returning : Option Nat := none
  paused : Option Nat := none
  startTried : Bool := false
  admitFrom : Nat := 0
  deriving DecidableEq, Repr

/-! ### Protection, randomness, card, fabric -/

/-- Protection and life-cycle (R427-R457). `life`: 0 MAKER, 1 INTEGRATOR, 2 FIELDED, 3 RETURNED, 4 SCRAPPED, 5 LOST. -/
structure ProtSt where
  live : Nat := 0
  watching : Bool := false
  haltPending : Option Nat := none
  halted : Bool := false
  haltCause : Nat := 0
  jitterKey : Bytes := []
  debug : Nat := 0
  nonce : Option Bytes := none
  tokenId : Nat := 0
  life : Nat := 1
  step : Option LifeStep := none
  zeroising : Bool := false
  deriving DecidableEq, Repr

/-- Randomness (R439-R447): state 0 STARTING, 1 RUNNING, 2 STOPPED; failed sources; cause; test mode and its words. DRBGs: 0-15
the fronds', 16 + i instance i's; each with its generate requests since seeding. -/
structure RngSt where
  state : Nat := 0
  failed : Nat := 0
  cause : Nat := 0
  test : Nat := 0
  testBits : List Nat := []
  drbgs : Tbl Nat := []
  deriving DecidableEq, Repr, Inhabited

/-- A card operation in progress (R481, R483): the command, the blocks still to be written, and the sequence numbers it exports. -/
structure CardJob where
  m : MCmd
  left : List (Nat × Bytes) := []
  first : Nat := 0
  last : Nat := 0
  since : Nat := 0
  deriving DecidableEq, Repr

/-- The ceremony card (R478-R481, Table 17.10): `wp` the write-protect input, `csd` the card's own write protection, `blink`: card-detect
has dropped for 1 ms or less since identification. -/
structure CardSt where
  state : Nat := 0
  typ : Nat := 0
  blocks : Nat := 0
  wide : Bool := false
  fast : Bool := false
  wp : Bool := false
  csd : Bool := false
  blink : Bool := false
  cid : Bytes := zeros 16
  detect : Bool := false
  since : Nat := 0
  job : Option CardJob := none
  deriving DecidableEq, Repr

/-- A bank test (R502): the bank under test and its stage (0 copying, 1 march test, 2 copying back); `bad`: the bank is a retired one
that FAB_UNRETIRE tests (R505). -/
structure BankTest where
  bank : Nat
  stage : Nat
  bad : Bool := false
  deriving DecidableEq, Repr, Inhabited

/-- A rule of the access rule table (R498): base, length in 4 KiB pages, permission bits. -/
structure AccessRule where
  base : Nat
  pages : Nat
  perm : Nat
  deriving DecidableEq, Repr, Inhabited

/-- The fabric (R486-R506): rest states (1 RETENTION, 2 OFF; unlisted ON), banks now in low power, tests by quadrant and those
waiting, engines under test, items run once more after an engine error (R504), the commands that wait for a unit's test, the tick of
the latest starvation interrupt, and the access rules. -/
structure FabSt where
  rest : Tbl Nat := []
  low : List Nat := []
  tests : Tbl BankTest := []
  waiting : List BankTest := []
  engTests : List Nat := []
  engErrs : List Nat := []
  cmds : List (Nat × MCmd) := []
  starvedAt : Option Nat := none
  rules : List AccessRule := []
  deriving DecidableEq, Repr

/-- A ledger record that waits to be committed: type, body, flags, and the key update message whose acceptance it records. -/
structure LedgerPend where
  typ : Nat
  body : Bytes
  flags : Nat := 0
  kum : Option Nat := none
  tries : Nat := 0
  deriving DecidableEq, Repr, Inhabited

/-- The ledger at work (R463-R476): open, pending records, records since the last SEAL and the tick of that SEAL (0: none since the
start), the result of the background verification, worn, failed, and no longer meeting R460. -/
structure LedgerSt where
  opened : Bool := false
  pending : List LedgerPend := []
  nextSeq : Nat := 1
  unsealed : Nat := 0
  sealAt : Nat := 0
  verified : Bool := false
  damaged : Nat := 0
  brk : Bool := false
  worn : Bool := false
  failed : Bool := false
  deriving DecidableEq, Repr, Inhabited

end Sys2Proof.Machine
end

