-- ==== Sys2Proof/Machine/State.lean ====
section
/-! DEFINITION. The machine's state (INVENTORY.md, State), its faults and refusals, and the state right after reset. -/

namespace Sys2Proof.Machine

/-- The state of the device: every part of INVENTORY.md's State, the register store (offset in PF0 BAR0 and value; VF n's at
2^32 + 2^16 n; unlisted: the reset value of RegMap), the error latches of chapter 20, the model's own `free` and `out`, and the
commands that wait. -/
structure State where
  pending : List Instr
  free : Nat
  out : List Out
  fuses : Fuses
  bat : Battery
  flash : Flash
  ledger : LedgerSt
  dev : DevSt
  pcie : PcieSt
  tick : TickSt
  mgmt : MgmtSt
  regs : Tbl Reg
  errPending : Nat
  errCode : Nat
  errNew : Bool
  drec : DevDur
  ks : KsSt
  last : LastSt
  disp : DispSt
  ports : Tbl Port
  sess : Tbl Sess
  queues : Tbl Qp
  eng : EngSt
  kum : KumSt
  inst : Tbl Inst
  twin : TwinSt
  prot : ProtSt
  rng : RngSt
  card : CardSt
  fab : FabSt
  deriving DecidableEq, Repr

/-- What stops the machine. Raised by POWER_ON alone (R435, R517: outside the rated conditions the spec gives no behaviour).
Safe: the machine stops where the hardware goes on in a way the spec does not give. -/
inductive Fault where
  /-- The main rails came up out of the required order (R517). Raised by POWER_ON. Safe. -/
  | outsideRatedConditions
  deriving DecidableEq, Repr

/-- Commands that are not modelled. -/
inductive Refusal where
  /-- The command has no meaning in the model yet. Raised by Dispatch. Safe. -/
  | notModelled (mnemonic : String)
  deriving DecidableEq, Repr

/-- The record of R538 that instance 0 holds. -/
def managerRec : InstRec :=
  { cipher := 16777215, field := 16777215, pk := 1024, weight := 1, fronds := 0xFFFF }

/-- Instance 0 at a start at which no snapshot restores: ENABLED at version 1 (R403, R538). -/
def managerInst : InstDur := { st := .enabled, version := 1, lim := managerRec }

/-- The machine right after a power-on device reset, before start-up (R520): INTEGRATOR, nothing stored, registers at their
reset values, every command queue and table empty. Values the spec does not give are named in INVENTORY.md with their log. -/
def State.reset : State where
  pending := []
  free := 0
  out := []
  fuses := {}
  bat := {}
  flash := {}
  ledger := {}
  dev := {}
  pcie := {}
  tick := {}
  mgmt := {}
  regs := []
  errPending := 0
  errCode := 0
  errNew := false
  drec := {}
  ks := {}
  last := {}
  disp := {}
  ports := []
  sess := []
  queues := []
  eng := {}
  kum := {}
  inst := [(0, { d := managerInst })]
  twin := {}
  prot := {}
  rng := {}
  card := {}
  fab := {}

end Sys2Proof.Machine
end

