-- ==== Sys2Proof/Machine/Ops.lean ====
section
/-! DEFINITION. The named operations that every meaning is built from: running a command, output, free values, registers,
interrupts, rejected accesses, status counting, ledger records, journal entries, version changes. -/

namespace Sys2Proof.Machine

/-! ### Running a command -/

/-- Fuses only burn (R433, R448): what was burned before stays burned whatever a command does. -/
def Fuses.burn (old new : Fuses) : Fuses where
  stages := (List.range 12).map (fun k => old.stages.getD k 0 ||| new.stages.getD k 0)
  options := (List.range 3).map (fun k => old.options.getD k 0 ||| new.options.getD k 0)
  response := match old.response with | none => new.response | some x => some x
  thresholds := match old.thresholds with | none => new.thresholds | some x => some x
  secrets := old.secrets && new.secrets
  torn := old.torn || new.torn

/-- A command's effect as an outcome: the next state, with the queue as it was and no fuse unburned. -/
def run (f : State → State) (s : State) : Host.Outcome State Fault Refusal :=
  .next { f s with pending := s.pending, fuses := s.fuses.burn (f s).fuses }

/-- Do `f` when `c` holds. -/
def State.when (c : Bool) (f : State → State) (s : State) : State := if c then f s else s

/-! ### Output and free values -/

/-- Send something out. -/
def State.emit (o : Out) (s : State) : State := { s with out := s.out ++ [o] }

/-- `n` free bytes at the counter (log 1). -/
def State.drawn (s : State) (n : Nat) : Bytes := freeBytes s.free n

/-- Advance the counter of free values. -/
def State.spend (n : Nat) (s : State) : State := { s with free := s.free + n }

/-- A free number below `m`. -/
def State.drawnNat (s : State) (m : Nat) : Nat := if m = 0 then 0 else ofLe (s.drawn 8) % m

/-! ### Registers -/

/-- BAR0 offset of VF `n`'s space in the register store (R497). -/
def vfBase (n : Nat) : Nat := 2 ^ 32 + 0x10000 * n

/-- The vector control word of an MSI-X table entry: PF0's table or a VF's. -/
def isMsixControl (off : Nat) : Bool :=
  if off < 2 ^ 32 then decide (0xE00000 ≤ off ∧ off < 0xE08000) && off % 16 == 8
  else decide (0x4000 ≤ off % 0x10000 ∧ off % 0x10000 < 0x4080) && off % 16 == 8

/-- What an unlisted offset holds: its reset value; MSI-X vectors are masked (log 8). -/
def regInit (off : Nat) : Nat :=
  if isMsixControl off then 2 ^ 32 else if off < 2 ^ 32 then regReset off else 0

/-- The stored bits of a register. -/
def State.reg (s : State) (off : Nat) : Nat :=
  match s.regs.get? off with | some v => v.toNat | none => regInit off

/-- Store a register, keeping the store canonical (an entry equal to what is unlisted is removed). -/
def State.setReg (off v : Nat) (s : State) : State :=
  let x : Reg := BitVec.ofNat 64 v
  { s with regs := if x.toNat = regInit off then s.regs.erase off else s.regs.set off x }

/-- Bits `[hi:lo]` of a stored register. -/
def State.fld (s : State) (off hi lo : Nat) : Nat := bits (s.reg off) hi lo

/-- `v` with bits `[hi:lo]` replaced by `x`. -/
def putBits (v hi lo x : Nat) : Nat := v - bits v hi lo * 2 ^ lo + x % 2 ^ (hi + 1 - lo) * 2 ^ lo

/-- Replace bits `[hi:lo]` of a stored register. -/
def State.setFld (off hi lo x : Nat) (s : State) : State := s.setReg off (putBits (s.reg off) hi lo x)

/-- Add `n` to a counter field `[hi:lo]`, which saturates. -/
def State.bumpF (off hi lo n : Nat) (s : State) : State :=
  s.setFld off hi lo (satInc (hi + 1 - lo) (s.fld off hi lo) n)

/-- Add 1 to a 32-bit counter in bits [31:0]. -/
def State.bump (off : Nat) (s : State) : State := s.bumpF off 31 0 1

/-- Add `n` to a 64-bit counter. -/
def State.bump64 (off n : Nat) (s : State) : State := s.bumpF off 63 0 n

/-- Add 1 to the counter in bits [63:32]. -/
def State.bumpHi (off : Nat) (s : State) : State := s.bumpF off 63 32 1

/-- A port register of Table 9.16. -/
def portReg (off p : Nat) : Nat := off + 0x4000 * p
/-- An instance's register of Table 14.11. -/
def instReg (off i : Nat) : Nat := off + 256 * i

/-! ### Time -/

/-- The running configuration. -/
def State.cfg (s : State) : LastConfig :=
  match s.last.cur with | none => {} | some g => s.last.cfgs.getD g {}

/-- The epoch (R33). -/
def State.epoch (s : State) : Nat := s.tick.count / 1000000 % 2 ^ 32

/-- Field operations of a tick: its core cycles at 1.6 GHz by the period code (Table 2.8). -/
def State.tickCycles (s : State) : Nat := [800, 1600, 3200, 6400, 12800].getD s.cfg.timing.period 1600

/-- Start-up has ended and nothing has stopped the device since. -/
def State.ready (s : State) : Bool := s.dev.rails && s.dev.ready && !s.dev.stopped

/-- The device does management work: ready and not halted (R429, R524). -/
def State.works (s : State) : Bool := s.ready && !s.prot.halted

/-! ### PCIe and interrupts -/

/-- Function `f` may master the bus: link up or not is the host's affair; Bus Master Enable set, in D0 (Table 10.1, R316). -/
def State.mayDma (s : State) (f : Nat) : Bool := !s.pcie.bmeOff.contains f && !s.pcie.d3.contains f

/-- Write host memory through a function. -/
def State.hostWrite (f addr : Nat) (b : Bytes) (s : State) : State :=
  if s.mayDma f && !b.isEmpty then s.emit (.write f addr b) else s

/-- Offset of the MSI-X vector control word of a function's vector. -/
def msixControl (f v : Nat) : Nat :=
  if f = 0 then 0xE00000 + 16 * v + 8 else vfBase f + 0x4000 + 16 * v + 8

/-- Send an MSI-X message, or set its pending bit while masked or while the function may not master the bus. -/
def State.msix (f v : Nat) (s : State) : State :=
  if bit (s.reg (msixControl f v)) 32 || !s.mayDma f then
    { s with pcie := { s.pcie with msixPend := if s.pcie.msixPend.contains (f, v) then s.pcie.msixPend else s.pcie.msixPend ++ [(f, v)] } }
  else s.emit (.msix f v)

/-- Set ERR_PENDING bit `b`; a bit that ERR_MASK selects and that becomes 1 asks for a summary interrupt (R535, R536). -/
def State.errBit (b : Nat) (s : State) : State :=
  if bit s.errPending b then s
  else { s with errPending := setBit s.errPending b, errNew := s.errNew || bit (s.reg oErrMask) b }

/-- A condition that block `b`'s interrupt register at `off` defines, with enable bit `en` (R535). -/
def State.raise (b off en : Nat) (s : State) : State :=
  let s := s.errBit b
  if bit (s.reg off) en then s.msix 0 (s.fld off 26 16) else s

/-! ### Status counting and rejected accesses -/

/-- A completion, response, notice or LAST_REJECT latch carried `code` (R535). -/
def State.tally (code : Nat) (s : State) : State :=
  if code = s.fld oErrCodeSelect 15 0 then { s with errCode := min (s.errCode + 1) (2 ^ 64 - 1) } else s

/-- Latch a rejection in the LAST_REJECT at `lr`, of ERR block number `b`; `off` is the offset latched (R54), `full` the one
that ERR_FIRST_REJECT shows. -/
def State.latch (lr b off full : Nat) (st : Status) (s : State) : State :=
  let s := s.setReg lr (st.code * 2 ^ 48 + off % 2 ^ 32)
  let s := s.setReg oErrRejects (setBit (s.reg oErrRejects) b)
  let s := if s.reg oErrFirstReject = 0 then s.setReg oErrFirstReject (st.code * 2 ^ 48 + b * 2 ^ 32 + full % 2 ^ 32) else s
  s.tally st.code

/-- Reject an access to PF0's BAR0 offset (R3, R4, R9, R54, R524). -/
def State.reject (off : Nat) (st : Status) (s : State) : State :=
  if !s.dev.regsUp then s.latch oDevLastReject 0 off off st
  else match blockOf off with
    | none => s.latch oErrLastReject 19 off off st
    | some b =>
      let rel := if b.num = 19 then off else off - b.base
      s.latch (lastRejectOf b off) b.num rel rel st

/-- Reject an access to VF `n`'s BAR0 (R54, R299): its LAST_REJECT lies at 0x3000. -/
def State.rejectVf (n off : Nat) (st : Status) (s : State) : State :=
  s.latch (vfBase n + 0x3000) 20 off (0x10000 * n + off) st

/-! ### Versions (R41) -/

/-- The next version: 0 is never held. -/
def nextVersion (v : Nat) : Nat := if v ≥ 0xFFFFFFFF then 1 else v + 1

/-- A unit's version changed: the next digest lists it (R51). -/
def State.touch (typ id : Nat) (s : State) : State :=
  { s with mgmt := { s.mgmt with
      changed := if s.mgmt.changed.contains (typ, id) then s.mgmt.changed else s.mgmt.changed ++ [(typ, id)] } }

/-- Increment the device's version. -/
def State.touchDev (s : State) : State :=
  { s with mgmt := { s.mgmt with version := nextVersion s.mgmt.version } }.touch 1 0

/-- Change an instance's durable record. -/
def State.modInst (i : Nat) (f : Inst → Inst) (s : State) : State :=
  { s with inst := s.inst.set i (f (s.inst.getD i {})) }

/-- An instance (FREE where never created). -/
def State.instOf (s : State) (i : Nat) : Inst := s.inst.getD i {}

/-- Increment an instance's version and raise its VF's state interrupt (R377, R404). -/
def State.touchInst (i : Nat) (s : State) : State :=
  let s := s.modInst i (fun x => { x with d := { x.d with version := nextVersion x.d.version } })
  let s := s.touch 2 i
  if i ≠ 0 ∧ i ≤ s.pcie.numVfs ∧ s.pcie.vfEnable ∧ bit (s.reg (vfBase i + 0x100)) 0
  then s.msix i (bits (s.reg (vfBase i + 0x100)) 10 8) else s

/-! ### Ledger (R463-R466) -/

/-- The ledger key (R462). -/
def ledgerKey : Bytes := kdf108 Config.deviceSecret (ascii "LEDGER") [] 32

/-- Required records can be committed (R460, R475). -/
def State.ledgerOk (s : State) : Bool := s.ledger.opened && !s.ledger.worn && !s.ledger.failed

/-- The latest committed record. -/
def State.lastRec (s : State) : Option LedgerRec := (s.flash.records.filter (fun r => r.mark == 0xA5)).getLast?

/-- Record length: 64 bytes and the body, padded to a multiple of 8. -/
def recLen (body : Bytes) : Nat := roundUp (64 + body.length) 8

/-- The record's bytes from the sync on to the end of the body: what the MAC covers (Table 17.3). -/
def LedgerRec.signed (r : LedgerRec) : Bytes :=
  [0x4C#8, 0x56#8, 0x44#8] ++ le 2 (recLen r.body) ++ le 2 r.typ ++ le 8 r.seq ++ le 6 r.hours ++ le 2 r.flags ++
    le 4 r.cycles ++ zeros 4 ++ le 8 r.tick ++ r.link.take 8 ++ padTo (recLen r.body - 64) r.body

/-- The record's bytes as stored. -/
def LedgerRec.bytes (r : LedgerRec) : Bytes := le 1 r.mark ++ r.signed ++ r.mac

/-- The first byte of a block that records may use. -/
def blockStart (block : Nat) : Nat := if block = 0 then 64 else 0

/-- The start of the next block, in the next of `n` sectors after the last block of one; `wrap`: back to sector 0 at the end. -/
def Pos.nextBlock (p : Pos) (n : Nat) (wrap : Bool) : Pos :=
  if p.block + 1 < 16 then { p with block := p.block + 1, byte := 0 }
  else { sector := if p.sector + 1 < n || !wrap then p.sector + 1 else 0, block := 0, byte := 64 }

/-- Where a record of `len` bytes goes: it never crosses a block boundary (R463). -/
def Pos.place (p : Pos) (len n : Nat) (wrap : Bool) : Pos := if p.byte + len ≤ 4096 then p else p.nextBlock n wrap

/-- Sectors of the first area. -/
def firstSectors : Nat := 1024

/-- Records go to the first area: FIELDED or later, until it is full (R467). -/
def State.toFirst (s : State) (len : Nat) : Bool :=
  decide (2 ≤ s.prot.life) && decide ((s.flash.first.place len firstSectors false).sector < firstSectors)

/-- The record that is written next, its mark still erased: sequence, time fields, link and MAC (R463, R464). -/
def State.makeRec (s : State) (typ flags : Nat) (body : Bytes) : LedgerRec :=
  let len := recLen body
  let p := if s.toFirst len then s.flash.first.place len firstSectors false else s.flash.head.place len s.flash.inService true
  let r : LedgerRec :=
    { mark := 0xFF, typ := typ, seq := s.ledger.nextSeq, hours := s.bat.hours, flags := flags, cycles := s.bat.cycles,
      tick := s.tick.count, link := match s.lastRec with | none => zeros 8 | some p => p.mac.take 8,
      body := padTo (len - 64) body, firstArea := s.toFirst len, sector := p.sector, block := p.block }
  { r with mac := cmac ledgerKey r.signed }

/-- The latest committed record of a type that a test picks. -/
def State.findRec (s : State) (typ : Nat) (ok : LedgerRec → Bool) : Option LedgerRec :=
  (s.flash.records.filter (fun r => r.mark == 0xA5 && r.typ == typ && ok r)).getLast?

/-- The sequence numbers a SEAL lists as the latest of their kinds (R469). -/
def State.sealIndex (s : State) : List Nat :=
  let seqOf (o : Option LedgerRec) : Nat := match o with | none => 0 | some r => r.seq
  [seqOf (s.findRec 0x11 (fun r => leAt r.body 0 2 == 0xFFFF)), seqOf (s.findRec 0x12 (fun r => byteAt r.body 0 == 1)),
   seqOf (s.findRec 0x12 (fun r => byteAt r.body 0 == 2)), seqOf (s.findRec 0x13 (fun _ => true)),
   seqOf (s.findRec 0x10 (fun r => leAt r.body 0 2 == 0xFFFF))]

/-- Put a finished record at its place. -/
def State.placeRec (r : LedgerRec) (s : State) : State :=
  let len := recLen r.body
  let f := s.flash
  let f := if r.firstArea then { f with first := { f.first.place len firstSectors false with
                                                     byte := (f.first.place len firstSectors false).byte + len } }
    else
      let p := f.head.place len f.inService true
      { f with head := { p with byte := p.byte + len }, ahead := f.ahead && p.sector == f.head.sector }
  { s with
    flash := { f with records := f.records ++ [r] }
    ledger := { s.ledger with nextSeq := if r.mark = 0xA5 then s.ledger.nextSeq + 1 else s.ledger.nextSeq,
                              unsealed := if r.mark = 0xA5 then s.ledger.unsealed + 1 else s.ledger.unsealed } }

/-- Erase the next circular sector ahead of use: first its records that a SEAL would list are written again with CARRIED
set and their original time fields (R468, R470), then the sector's records are gone. -/
def State.eraseAhead (s : State) : State :=
  let k := if s.flash.head.sector + 1 < s.flash.inService then s.flash.head.sector + 1 else 0
  let old := s.flash.records.filter (fun r => !r.firstArea && r.sector == k)
  let s := { s with flash := { s.flash with ahead := true, erases := s.flash.erases.set k (s.flash.erases.getD k 0 + 1) } }
  let carry := old.filter (fun r => r.mark == 0xA5 && s.sealIndex.contains r.seq)
  let s := { s with flash := { s.flash with records := s.flash.records.filter (fun r => r.firstArea || r.sector != k) } }
  carry.foldl (fun s r =>
    let x := { s.makeRec r.typ 1 r.body with hours := r.hours, cycles := r.cycles, tick := r.tick }
    let x := { x with mac := cmac ledgerKey x.signed }
    s.placeRec { x with mark := 0xA5 }) s

/-- Commit a record (R465): its mark reads 0xA5, the next sequence number is one more; the sector it would enter is
erased by then. -/
def State.commitRec (typ flags : Nat) (body : Bytes) (s : State) : State :=
  let enters := !s.toFirst (recLen body) && (s.flash.head.place (recLen body) s.flash.inService true).sector != s.flash.head.sector
  let s := if enters && !s.flash.ahead then s.eraseAhead else s
  s.placeRec { s.makeRec typ flags body with mark := 0xA5 }

/-- Commit every record that waits, in order, except those of key update messages (which LEDGER_RECORD_COMMIT commits). -/
def State.drainLedger (s : State) : State :=
  if !s.ledger.opened then s
  else
    let t := (s.ledger.pending.filter (fun p => p.kum.isNone)).foldl (fun t p => t.commitRec p.typ p.flags p.body) s
    { t with ledger := { t.ledger with pending := s.ledger.pending.filter (fun p => p.kum.isSome) } }

/-- Write a local record: it waits its turn; without an open ledger it is lost and counted (R466). -/
def State.localRec (typ : Nat) (body : Bytes) (s : State) : State :=
  if s.ledger.opened && !s.ledger.failed then
    { s with ledger := { s.ledger with pending := s.ledger.pending ++ [{ typ := typ, body := body }] } }
  else s.bump oLdgLost

/-- Commit a required record before the change it records, after the records that wait (R466). Use only when `ledgerOk`. -/
def State.required (typ : Nat) (body : Bytes) (s : State) : State := s.drainLedger.commitRec typ 0 body

/-! ### Journal (R96) -/

/-- Append an entry to the journal of the active copy; it is durable once JOURNAL_COMMIT has committed it. -/
def State.journal (d : Delta) (s : State) : State :=
  { s with ks := { s.ks with journal := s.ks.journal ++ [d], fill := min (s.ks.fill + 1) 100 } }

/-- The active snapshot copy. -/
def State.copy (s : State) : Copy := ((if s.ks.active then s.flash.copyB else s.flash.copyA)).getD {}

/-- Change the active snapshot copy. -/
def State.setCopy (c : Copy) (s : State) : State :=
  { s with flash := if s.ks.active then { s.flash with copyB := some c } else { s.flash with copyA := some c } }

/-- Commit entries to the active copy at once. -/
def State.commitNow (ds : List Delta) (s : State) : State :=
  s.setCopy { s.copy with img := ds.foldl Durable.apply s.copy.img }

/-- Journal an instance's durable record (its table is durable, R96, R377). -/
def State.saveInst (i : Nat) (s : State) : State := s.journal (.inst i (s.instOf i).d)

/-- Journal the device record. -/
def State.saveDev (s : State) : State := s.journal (.dev s.drec)

/-! ### Unit identifiers (R13) -/

/-- The identifier of a unit of a kind. -/
def unitId (kind n : Nat) : Nat := kind * 4096 + n

end Sys2Proof.Machine
end

