-- ==== Sys2Proof/Machine/Claim.lean ====
section
/-! DEFINITION. Claim checks and mirroring (R410-R416): what a privileged commit passes before it takes effect. A check that
needs no CAS, and one that has ended, enters `twin.passed`; the step that let it pass settles it (Settle). -/

namespace Sys2Proof.Machine

/-- The running last has a TWIN section. -/
def State.hasTwin (s : State) : Bool := s.cfg.twin.isSome

/-- The device is STANDBY. -/
def State.standby (s : State) : Bool := !s.twin.active

/-- What ended: it is settled in the same step. -/
def State.pass (p : Purpose) (st : Option Status) (s : State) : State :=
  { s with twin := { s.twin with passed := s.twin.passed ++ [(p, st)] } }

/-- A failed claim check (R415, Table 15.6). -/
def State.claimFailed (p : Purpose) (st : Status) (s : State) : State :=
  let s := if st = .claimSuperseded then s.bump oTwinClaimFails else s.bumpHi oTwinClaimFails
  (s.raise 13 oTwinIrq 1).pass p (some st)

/-- A CAS can be issued: TWIN_CLAIM_ADDR is set and PF0 may master the bus (R316, R425). -/
def State.casPossible (s : State) : Bool := s.reg oTwinClaimAddr != 0 && s.mayDma 0

/-- Issue a CAS on the claim cell (R414). -/
def State.issueCas (cmp swap : Nat) (restore : Bool) (p : Purpose) (s : State) : State :=
  let id := s.twin.nextId
  { s with twin := { s.twin with nextId := id + 1, cas := s.twin.cas.set id ⟨cmp, swap, restore, s.tick.count, p⟩ } }.emit
    (.cas id cmp swap)

/-- Mirror a change (R410): PAIRED and ACTIVE, its effect waits for the partner; in RESYNC it is queued behind the copy and not
awaited; ALONE or without a twin it takes effect at once. -/
def State.mirror (p : Purpose) (s : State) : State :=
  if !s.hasTwin || !s.twin.active then s.pass p none
  else if s.twin.pair = 2 then
    let id := s.twin.nextId
    { s with twin := { s.twin with nextId := id + 1, acks := s.twin.acks.set id p } }.emit (.mirror id s.drec.claim p)
  else if s.twin.pair = 1 then { s with twin := { s.twin with queued := s.twin.queued ++ [p] } }.pass p none
  else s.pass p none

/-- A privileged commit: its claim check with claim number `c` (R415), then its mirroring. Without a TWIN section it makes
no claim check (R407). -/
def State.claimThen (c : Nat) (p : Purpose) (s : State) : State :=
  if !s.hasTwin then s.pass p none
  else if !s.casPossible then s.claimFailed p .claimUnreachable
  else s.issueCas c c false p

/-- The same with this device's own claim number. -/
def State.privileged (p : Purpose) (s : State) : State := s.claimThen s.drec.claim p

end Sys2Proof.Machine
end

