-- ==== Sys2Proof/Machine/KeyOps.lean ====
section
/-! DEFINITION. Operations on keys: banks and their tests as far as keys need them, locating and checking a key (R59-R73),
uses and durable figures (R72-R75, R537), creation of ephemeral keys (R60-R66, R77), residency (R92). -/

namespace Sys2Proof.Machine

/-! ### Banks -/

/-- The quadrant of a bank's global number (R22). -/
def bankQuadrant (b : Nat) : Nat := if b < 3328 then b / 832 else (b - 3328) / 16

/-- Retired banks of a quadrant: each holds one spare. -/
def State.retiredIn (s : State) (q : Nat) : Nat := (s.drec.banks.filter (fun e => bankQuadrant e.1 == q)).length

/-- Free spares of a quadrant: a running test holds one (R502). -/
def State.sparesFree (s : State) (q : Nat) : Nat := 16 - s.retiredIn q - (match s.fab.tests.get? q with | none => 0 | some t => if t.bad then 0 else 1)

/-- Start the targeted self-test of a bank, or let it wait while the quadrant tests another; a quadrant with no free spare
runs none (R502). -/
def State.testBank (b : Nat) (s : State) : State :=
  let q := bankQuadrant b
  if s.fab.tests.has q then { s with fab := { s.fab with waiting := s.fab.waiting ++ [{ bank := b, stage := 0 }] } }
  else if s.sparesFree q = 0 then s
  else { s with fab := { s.fab with tests := s.fab.tests.set q { bank := b, stage := 0 } } }

/-- Banks of a key store that are not OFF (R491). -/
def State.keyBanks (s : State) (sym : Bool) : List Nat :=
  ((List.range 4).flatMap (fun q =>
    (List.range (if sym then 128 else 48)).map (fun k => 832 * q + (if sym then 0 else 128) + k))).filter
      (fun b => s.fab.rest.getD b 0 != 2)

/-- Slots of a key store in banks that are not OFF: 2,048 of 64 bytes or 85 and a third of 1,536 to a bank (R22, R491). -/
def State.slotsOn (s : State) (sym : Bool) : Nat :=
  if sym then 2048 * (s.keyBanks true).length else 16384 * (s.keyBanks false).length / 192

/-- The bank a new slot is placed in: a free value among those that are not OFF (R23, R491; log 1). -/
def State.pickBank (s : State) (sym : Bool) : Nat :=
  let bs := s.keyBanks sym
  bs.getD (s.drawnNat bs.length) 0

/-! ### Records of the resident store -/

/-- The resident record of a slot. -/
def State.key? (s : State) (slot : Nat) : Option KeyRec := s.ks.keys.get? slot

/-- Store a record in its slot. -/
def State.setKey (slot : Nat) (r : KeyRec) (s : State) : State := { s with ks := { s.ks with keys := s.ks.keys.set slot r } }

/-- Change a record. -/
def State.modKey (slot : Nat) (f : KeyRec → KeyRec) (s : State) : State :=
  { s with ks := { s.ks with keys := s.ks.keys.modify slot f } }

/-- Erase a record; its point-cache entries go with it (R346). -/
def State.eraseKey (slot : Nat) (s : State) : State :=
  { s with ks := { s.ks with keys := s.ks.keys.erase slot },
           eng := { s.eng with points := s.eng.points.filter (fun e => hSlot e.2 != slot) } }

/-- The key handle unit changed (R41, R99). -/
def State.touchKey (slot : Nat) (s : State) : State :=
  match s.key? slot with
  | none => s
  | some r => (s.modKey slot (fun r => { r with version := nextVersion r.version })).touch 6 r.handle

/-- Keys of an instance in one store, which count against its quota (R92): ephemeral, asymmetric and resident keys, deleted
records excepted. -/
def State.resident (s : State) (i store : Nat) : Nat :=
  (s.ks.keys.filter (fun e => hInst e.2.handle == i && hStore e.2.handle == store && !e.2.deleted)).length

/-- The key may leave the resident store: symmetric, persistent, not pinned, no hold, nothing to write back (R87, R92). -/
def evictable (i : Nat) (r : KeyRec) : Bool :=
  hInst r.handle == i && hStore r.handle == 1 && !hEphemeral r.handle && !bit r.flags fPinned && r.holds == 0 && !r.dirty && !r.deleted

/-- Slots of an instance whose keys may be evicted. -/
def State.evictables (s : State) (i : Nat) : List Nat := (s.ks.keys.filter (fun e => evictable i e.2)).map Prod.fst

/-- There is room for one more symmetric key, by the quota or by an eviction. -/
def State.symRoom (s : State) (i : Nat) : Bool :=
  decide (s.resident i 1 < (s.instOf i).d.lim.sym) || (decide (1 ≤ (s.instOf i).d.lim.sym) && !(s.evictables i).isEmpty)

/-- There is room for one more asymmetric key. -/
def State.asymRoom (s : State) (i : Nat) : Bool := decide (s.resident i 2 < (s.instOf i).d.lim.asym)

/-- State code of a resident key (R99). -/
def KeyRec.stateCode (r : KeyRec) : Nat :=
  if r.deleted then 3 else if bit r.flags fBad then 1 else if r.counted && r.uses == 0 then 2 else 0

/-- A key leaves the resident store (R92): its version and state code are kept (R42, R99). -/
def State.evict (slot : Nat) (s : State) : State :=
  match s.key? slot with
  | none => s
  | some r => s.eraseKey slot |> fun s => { s with ks := { s.ks with gone := s.ks.gone.set slot (r.handle, r.version, r.stateCode) } }

/-- Make room for a symmetric key: when the quota is full, one key is evicted, which one is the device's choice (R92; log 1). -/
def State.makeRoom (i : Nat) (s : State) : State :=
  if s.resident i 1 < (s.instOf i).d.lim.sym then s
  else
    let es := s.evictables i
    (s.evict (es.getD (s.drawnNat es.length) 0)).spend 8

/-! ### Pages -/

/-- The page number that holds logical page `j` of instance `i` (R80, R90). -/
def State.pageOf (s : State) (i j : Nat) : Nat := let p := (s.instOf i).d.base + j; s.ks.remap.getD p p

/-- A page's entry. -/
def State.page (s : State) (p : Nat) : PageEnt := s.ks.pages.getD p {}

/-- Change a page's entry. -/
def State.modPage (p : Nat) (f : PageEnt → PageEnt) (s : State) : State :=
  { s with ks := { s.ks with pages := s.ks.pages.set p (f (s.page p)) } }

/-- The sealed key page unit changed (R99). -/
def State.touchPage (p : Nat) (s : State) : State :=
  (s.modPage p (fun e => { e with version := nextVersion e.version })).touch 7 p

/-- The persistent index lies within its bounds (R60). -/
def State.indexOk (s : State) (h : Nat) : Bool :=
  hEphemeral h || (if hStore h = 1 then decide (hIndex h < 63 * (s.instOf (hInst h)).d.k) else decide (hIndex h < 16384))

/-! ### Checks before every use (R69) -/

/-- What locating or checking a key finds: the key, a page to be fetched first, a failing status, a slot whose tag is wrong. -/
inductive Found where
  | key (r : KeyRec)
  | page (p : Nat)
  | fail (st : Status)
  | bad (slot : Nat)
  deriving DecidableEq, Repr

/-- The status of an index that holds no live key (R61, R62). -/
def absentStatus (h : Nat) : Status := if hEphemeral h then .keyExpired else .keyNotFound

/-- Locate the record of a handle; none: no such key. -/
def State.locate (s : State) (h : Nat) : Except Found (Option KeyRec) :=
  match s.key? (hSlot h) with
  | some r => .ok (some r)
  | none =>
    if hEphemeral h || hStore h != 1 || !s.indexOk h then .ok none
    else
      let p := s.pageOf (hInst h) (hIndex h / 63)
      let e := s.page p
      if e.ver = 0 then .ok none
      else if e.stale && !e.retry then .error (.fail .keyPageStale)
      else .error (.page p)

/-- A handle of a last with generation 0 names its index's current key (R188). -/
def resolveGen (resolve : Bool) (h : Nat) (r : KeyRec) : Nat :=
  if resolve && hGen h == 0 then h + hGen r.handle else h

/-- A hold can be taken on one use (R73, R75). -/
def holdFail (r : KeyRec) : Option Status :=
  if !r.counted then none
  else if r.uses = 0 then some .keyUsesExhausted
  else if r.uses ≤ r.holds then some .busy
  else match r.durable with
    | none => none
    | some d => if r.uses - r.holds ≤ d then some .busy else none

/-- The checks of R69, run as instance `i`, for a usage bit and an algorithm; `hold`: a use hold will be taken. -/
def State.checkKey (s : State) (h i : Nat) (resolve hold : Bool) (usage : Option Nat) (algOk : KeyRec → Bool) : Found :=
  if hStore h != 1 && hStore h != 2 then .fail .badFieldValue
  else if hInst h != i then .fail .keyNotFound
  else match s.locate h with
    | .error f => f
    | .ok none => .fail (absentStatus h)
    | .ok (some r) =>
      let h := resolveGen resolve h r
      if hGen h < hGen r.handle && !hEphemeral h then .fail .keyStale
      else if hGen h != hGen r.handle || r.deleted then .fail (absentStatus h)
      else if bit r.flags fBad then .fail .keySlotBad
      else if !r.tagOk then .bad (hSlot h)
      else if !(match usage with | none => true | some u => bit r.usage u) then .fail .usageNotPermitted
      else if !algOk r then .fail .algorithmMismatch
      else if hold then (match holdFail r with | some st => .fail st | none => .key r)
      else .key r

/-- A use that fails with BUSY because the durable figure it waits for has not committed (R75, KS_RESERVE_WAITS). -/
def waitsForFigure (r : KeyRec) : Bool :=
  r.counted && decide (r.holds < r.uses) && (match r.durable with | none => false | some d => decide (r.uses - r.holds ≤ d))

/-- Count the twice-taken decisions of a key check: the tag, and the usage and algorithm (R437, Table 16.2). -/
def State.decisions (n : Nat) (s : State) : State := s.bump64 oProtDecisions n

/-- A slot whose tag is wrong (R70): BAD is set, counted, recorded, journalled, and the bank is tested. -/
def State.markBad (slot : Nat) (s : State) : State :=
  match s.key? slot with
  | none => s
  | some r =>
    let s := s.modKey slot (fun r => { r with flags := setBit r.flags fBad, dirty := !hEphemeral r.handle })
    let s := (s.touchKey slot).bump oKsBadSlots
    let s := s.raise 6 oKsIrq 0
    let s := s.localRec 0x05 (le 8 r.handle ++ le 2 (unitId 7 r.bank) ++ zeros 6)
    let s := if hEphemeral r.handle then s else s.journal (.key slot (s.key? slot))
    s.testBank r.bank

/-! ### Uses and durable figures (R72-R75, R537) -/

/-- The cap of an attribute word (Table 3.3). -/
def capOf (cap : Nat) : Nat := if cap = 0 then 4096 else 2 ^ (cap - 1)

/-- The reservation r of R74. -/
def reservation (cap remaining : Nat) : Nat := max 1 (min (capOf cap) (remaining / 100))

/-- The key has a durable figure (R537): counted, and persistent or mirrored. -/
def hasFigure (r : KeyRec) : Bool := r.counted && (!hEphemeral r.handle || bit r.flags fMirrored)

/-- Set the durable figure (R74): the setting is a privileged commit; it takes effect when it has committed. No figure
of a key in a frozen page is set (R91). -/
def State.setFigure (slot : Nat) (s : State) : State :=
  match s.key? slot with
  | none => s
  | some r =>
    let frozen := !hEphemeral r.handle && hStore r.handle == 1 && (s.page (s.pageOf (hInst r.handle) (hIndex r.handle / 63))).frozen
    if !hasFigure r || r.nextFigure.isSome || frozen then s
    else
      let v := reservation r.cap r.uses
      (s.modKey slot (fun r => { r with nextFigure := some (r.uses - v), resv := v })).privileged (.figure slot)

/-- The pending figure takes effect (R74, KS_RESERVE_COMMITS). -/
def State.applyFigure (slot n : Nat) (s : State) : State :=
  match s.key? slot with
  | none => s
  | some r =>
    if r.nextFigure = some n then
      (s.modKey slot (fun r => { r with durable := some n, nextFigure := none, dirty := r.dirty || !hEphemeral r.handle })).bump
        oKsReserveCommits
    else s

/-- The claim check of a figure has passed: of a persistent key it goes to the journal; of a mirrored ephemeral key it takes
effect (R537). -/
def State.commitFigure (slot : Nat) (s : State) : State :=
  match s.key? slot with
  | none => s
  | some r => match r.nextFigure with
    | none => s
    | some n => if hEphemeral r.handle then s.applyFigure slot n else s.journal (.figure slot n)

/-- The setting failed: it is dropped (uses that need it fail with BUSY). -/
def State.dropFigure (slot : Nat) (s : State) : State := s.modKey slot (fun r => { r with nextFigure := none })

/-- Take a hold on a use of a counted key. -/
def State.hold (slot : Nat) (s : State) : State :=
  s.modKey slot (fun r => if r.counted then { r with holds := r.holds + 1 } else r)

/-- Release a hold; `used`: one use is consumed, and the figure is renewed when the live count has fallen to the figure plus
half the reservation (R73, R74). -/
def State.release (slot : Nat) (used : Bool) (s : State) : State :=
  let s := s.modKey slot (fun r =>
    if !r.counted then r
    else { r with holds := r.holds - 1, uses := if used then r.uses - 1 else r.uses })
  match s.key? slot with
  | none => s
  | some r => match r.durable with
    | some d => if used && r.counted && decide (r.uses ≤ d + r.resv / 2) then s.setFigure slot else s
    | none => s

/-! ### Creating ephemeral keys (R60-R62, R77) -/

/-- Reuses left: an index is used at most 256 times in one power cycle. -/
def State.indexFree (s : State) (slot : Nat) : Bool := (s.key? slot).isNone && decide (s.ks.reuse.getD slot 0 < 256)

/-- The first free ephemeral slot from index `k` on, wrapping, within `fuel` tries. -/
def State.findSlot (s : State) (i store : Nat) : Nat → Nat → Option Nat
  | 0, _ => none
  | f + 1, k =>
    let slot := hSlot (mkHandle i store (0xF000000 + k % 2 ^ 24) 0)
    if s.indexFree slot then some slot else s.findSlot i store f (k + 1)

/-- The device's choice of an index for a new ephemeral key (R62; log 1): more tries than there are occupied or used-up
indices, so it fails only when the partition is full. -/
def State.newSlot (s : State) (i store : Nat) : Option Nat :=
  s.findSlot i store (s.ks.keys.length + s.ks.reuse.length + 1) (s.drawnNat (2 ^ 24))

/-- Create an ephemeral key; its handle, or a status with nothing created (R62, R77). -/
def State.createKey (i : Nat) (n : NewKey) (s : State) : Except Status (Nat × State) :=
  let store := if algSym n.alg then 1 else 2
  if !(if algSym n.alg then s.symRoom i else s.asymRoom i) then .error .quotaExceeded
  else match s.newSlot i store with
    | none => .error .keySpaceFull
    | some slot =>
      let s := s.spend 8
      let s := if algSym n.alg then s.makeRoom i else s
      let used := s.ks.reuse.getD slot 0
      let h := slot * 2 ^ 20 + s.bat.cycles % 4096 * 256 + used
      let r : KeyRec :=
        { handle := h, mat := n.mat, uses := n.uses, usage := n.usage, alg := n.alg, len := n.len, cls := n.cls, cap := n.cap,
          flags := n.flags, bank := s.pickBank (algSym n.alg) }
      let s := (s.setKey slot r).spend 8
      let s := { s with ks := { s.ks with reuse := s.ks.reuse.set slot (used + 1) } }
      .ok (h, (s.setFigure slot).touch 6 h)

/-! ### Page fetches (R85) -/

/-- A page is needed: its fetch is issued unless one is outstanding (R85, R86); without fetching enabled it waits. -/
def State.startFetch (p : Nat) (s : State) : State :=
  if s.ks.fetches.has p then s
  else
    let s := { s with ks := { s.ks with fetches := s.ks.fetches.set p { since := s.tick.count, waiters := [] } } }
    let s := s.modPage p (fun e => { e with retry := false })
    if bit (s.reg oKpgControl) 0 && s.mayDma 0 then (s.bump64 oKpgFetches 1).emit (.pageRead p) else s

/-- An item waits for the key of a slot in a page. -/
def State.askPage (p item slot : Nat) (s : State) : State :=
  let s := s.startFetch p
  { s with ks := { s.ks with fetches := s.ks.fetches.modify p (fun f => { f with waiters := f.waiters ++ [(item, slot)] }) } }

/-- A command or a key update message waits for a page. -/
def State.askPageFor (p slot : Nat) (w : Purpose) (s : State) : State :=
  let s := s.startFetch p
  { s with ks := { s.ks with fetches := s.ks.fetches.modify p (fun f => { f with tasks := f.tasks ++ [(w, slot)] }) } }

end Sys2Proof.Machine
end

