-- ==== Sys2Proof/Machine/NetOps.lean ====
section
/-! DEFINITION. Operations on sub-ports and sessions: sending frames with their encapsulation and MACsec protection (R265,
R269, R271, R335-R338), session frames and credit (R273, R274), closing sessions (R284-R288). -/

namespace Sys2Proof.Machine

/-! ### Sub-ports -/

/-- A port's state. -/
def State.portOf (s : State) (p : Nat) : Port := s.ports.getD p {}

/-- A port's definition in the running last. -/
def State.portDef (s : State) (p : Nat) : PortDef := s.cfg.ports.getD p {}

/-- A sub-port's definition; none beyond the mode's count. -/
def State.subDef (s : State) (p k : Nat) : Option SubDef := (s.portDef p).subs[k]?

/-- A sub-port's state. -/
def State.subOf (s : State) (p k : Nat) : SubPort := (s.portOf p).subs.getD k {}

/-- Change a sub-port. -/
def State.modSub (p k : Nat) (f : SubPort → SubPort) (s : State) : State :=
  let x := s.portOf p
  { s with ports := s.ports.set p { x with subs := (List.range 4).map (fun j =>
      if j = k then f (x.subs.getD j {}) else x.subs.getD j {}) } }

/-- Increment a port's version (R293). -/
def State.touchPort (p : Nat) (s : State) : State :=
  { s with ports := s.ports.set p { s.portOf p with version := nextVersion (s.portOf p).version } }.touch 3 p

/-- The sub-port is up: enabled by the last, administratively up, its link up, and the device not halted. -/
def State.subUp (s : State) (p k : Nat) : Bool :=
  (match s.subDef p k with | some d => d.enabled | none => false) && (s.subOf p k).admin && (s.subOf p k).link && s.works

/-- Ethernet bytes before the FCS, padded to the 60 that make the shortest frame. -/
def padFrame (b : Bytes) : Bytes := if b.length < 60 then padTo 60 b else b

/-- The largest packet number of a suite. -/
def Sa.maxPn (a : Sa) : Nat := if a.xpn then 2 ^ 64 - 1 else 2 ^ 32 - 1

/-- The GCM IV of a packet number (IEEE 802.1AE; log 10). -/
def Sa.iv (a : Sa) (pn : Nat) : Bytes :=
  if a.xpn then xorB (be 4 a.ssci ++ be 8 pn) (padTo 12 a.salt) else be 8 a.sci ++ be 4 pn

/-- The SecTAG: SC, E and C set, ES and SCB clear, the short length, the low packet number and the SCI (R335). -/
def Sa.tag (a : Sa) (pn len : Nat) : Bytes :=
  [0x88#8, 0xE5#8, BitVec.ofNat 8 (0x2C + a.an), BitVec.ofNat 8 (if len < 48 then len else 0)] ++ be 4 (pn % 2 ^ 32) ++ be 8 a.sci

/-- Protect a frame (addresses, then the rest) under an SA. -/
def Sa.protect (a : Sa) (frame : Bytes) : Bytes :=
  let hdr := frame.take 12
  let txt := frame.drop 12
  let tag := a.tag a.pn txt.length
  hdr ++ tag ++ gcmSeal a.key (a.iv a.pn) (hdr ++ tag) txt 16

/-- The transmit SA in use. -/
def SubPort.txUse (x : SubPort) : Option Sa :=
  match x.tx.find? (fun e => e.2.protecting && decide (e.2.pn ≤ e.2.maxPn)) with | none => none | some e => some e.2

/-- One packet number is used: warn when few are left, and at the last one move to the other SA or stall (R338). -/
def State.usePn (p k : Nat) (a : Sa) (s : State) : State :=
  let warn := !(s.subOf p k).pnWarn && decide (a.maxPn - a.pn < s.reg oCiphMacsecPnWarn)
  let s := if warn then (s.modSub p k (fun x => { x with pnWarn := true })).raise 10 oCiphIrq 0 else s
  if a.pn < a.maxPn then s.modSub p k (fun x => { x with tx := x.tx.set a.an { a with pn := a.pn + 1 } })
  else
    let tx := (s.subOf p k).tx.set a.an { a with pn := a.pn + 1, protecting := false }
    match tx.find? (fun e => decide (e.2.pn ≤ e.2.maxPn)) with
    | some e => s.modSub p k (fun x => { x with tx := tx.set e.1 { e.2 with protecting := true } })
    | none => (s.modSub p k (fun x => { x with tx := tx, stalled := true })).raise 10 oCiphIrq 1

/-- The sub-port may send frames that MACsec protects (R336). -/
def State.mayProtect (s : State) (p k : Nat) : Bool :=
  match s.subDef p k with
  | none => false
  | some d => !d.macsec || (s.subOf p k).txUse.isSome

/-- Put a frame on the wire: its bytes from the destination address to before the FCS; `stomped`: with the complement of
the FCS, and the ICV complemented (R207). A frame on a paused priority waits (R251). -/
def State.putFrame (p k prio : Nat) (plain stomped : Bool) (b : Bytes) (s : State) : State :=
  match s.subDef p k with
  | none => s
  | some d =>
    if !s.subUp p k then s
    else
      let b := padFrame b
      let x := s.subOf p k
      let (b, s) := if !d.macsec || plain then (some b, s)
        else match x.txUse with
          | none => (none, s)
          | some a =>
            let w := a.protect b
            let w := if stomped then w.take (w.length - 16) ++ (w.drop (w.length - 16)).map (fun y => ~~~ y) else w
            (some w, s.usePn p k a)
      match b with
      | none => s
      | some b =>
        if bit d.pfc prio && x.paused.has prio then s.modSub p k (fun x => { x with waitq := x.waitq ++ [(prio, b, stomped)] })
        else (s.bump64 (portReg oPortTxFrames p) 1).emit (.frame p k b stomped)

/-- Frames that waited on priorities no longer paused are sent in order. -/
def State.flushPort (p k : Nat) (s : State) : State :=
  let x := s.subOf p k
  let go := x.waitq.filter (fun w => !x.paused.has w.1)
  let s := s.modSub p k (fun x => { x with waitq := x.waitq.filter (fun w => x.paused.has w.1) })
  go.foldl (fun s w => (s.bump64 (portReg oPortTxFrames p) 1).emit (.frame p k w.2.1 w.2.2)) s

/-! ### Encapsulation (R265, R269) -/

/-- Ones' complement sum of 16-bit words. -/
def sum16 (b : Bytes) : Nat :=
  let t := ((chunks 2 b).map (fun w => ofBe (padTo 2 w))).foldl (· + ·) 0
  let f (x : Nat) : Nat := x % 65536 + x / 65536
  f (f (f t))

/-- The Internet checksum. -/
def inetSum (b : Bytes) : Nat := 65535 - sum16 b

/-- A UDP datagram with its checksum over the pseudo-header (zero is sent as all ones). -/
def udpBytes (pseudo : Bytes) (port dst : Nat) (b : Bytes) : Bytes :=
  let n := 8 + b.length
  let c := inetSum (pseudo ++ be 2 port ++ be 2 dst ++ be 2 n ++ zeros 2 ++ b)
  be 2 port ++ be 2 dst ++ be 2 n ++ be 2 (if c = 0 then 65535 else c) ++ b

/-- An IPv4 packet with DF set; identification and time to live are free values (log 1), the type of service likewise. -/
def ipv4Bytes (fr : Bytes) (src dst : Bytes) (port dport : Nat) (b : Bytes) : Bytes :=
  let u := udpBytes (padTo 4 src ++ padTo 4 dst ++ [0#8, 17#8] ++ be 2 (8 + b.length)) port dport b
  let h (c : Nat) : Bytes := [0x45#8] ++ fr.take 1 ++ be 2 (20 + u.length) ++ slice fr 1 2 ++ [0x40#8, 0#8] ++ slice fr 3 1 ++
    [17#8] ++ be 2 c ++ padTo 4 src ++ padTo 4 dst
  h (inetSum (h 0)) ++ u

/-- An IPv6 packet; traffic class, flow label and hop limit are free values (log 1). -/
def ipv6Bytes (fr : Bytes) (src dst : Bytes) (port dport : Nat) (b : Bytes) : Bytes :=
  let u := udpBytes (padTo 16 src ++ padTo 16 dst ++ be 4 (8 + b.length) ++ [0#8, 0#8, 0#8, 17#8]) port dport b
  [BitVec.ofNat 8 (0x60 + byteAt fr 0 % 16)] ++ slice fr 1 3 ++ be 2 u.length ++ [17#8] ++ slice fr 4 1 ++
    padTo 16 src ++ padTo 16 dst ++ u

/-- A frame from addresses, tag and EtherType with payload. -/
def etherBytes (dst src : Bytes) (tag : Option (Nat × Nat)) (rest : Bytes) : Bytes :=
  padTo 6 dst ++ padTo 6 src ++ (match tag with | none => [] | some (vid, pcp) => [0x81#8, 0#8] ++ be 2 (pcp * 8192 + vid)) ++ rest

/-- EtherType 0x88B5. -/
def etherHtt : Bytes := [0x88#8, 0xB5#8]

/-- The frame that carries an HTT frame of a session (R266, R269, R279). -/
def State.httFrame (s : State) (x : Sess) (b : Bytes) : Bytes :=
  match s.subDef x.port x.sub with
  | none => []
  | some d =>
    let u := s.cfg.htt.udp
    let prio := ((s.cfg.htt.bindings[x.binding]?).getD {}).prio
    let fr := s.drawn 5
    let rest := if x.encap = 1 then [0x86#8, 0xDD#8] ++ ipv6Bytes fr d.ip6 x.peerIp u x.peerUdp b
      else if x.encap = 2 then [0x08#8, 0x00#8] ++ ipv4Bytes fr d.ip4 (x.peerIp.take 4) u x.peerUdp b
      else etherHtt ++ b
    etherBytes x.peerMac d.mac (if d.tagged then some (d.vid, prio) else none) rest

/-- An HTT header (Table 9.5). -/
def httHeader (typ flags rid phase seq limit cphase len : Nat) : Bytes :=
  [0x01#8, BitVec.ofNat 8 typ, BitVec.ofNat 8 flags, 0#8] ++ be 4 rid ++ be 4 phase ++ be 6 seq ++ be 6 limit ++ be 4 cphase ++
    be 2 len ++ [0#8, 0#8]

/-! ### Sessions -/

/-- A session's record (FREE where never created). -/
def State.sessOf (s : State) (n : Nat) : Sess := s.sess.getD n {}

/-- Change a session. -/
def State.modSess (n : Nat) (f : Sess → Sess) (s : State) : State := { s with sess := s.sess.set n (f (s.sessOf n)) }

/-- A change of state or keys increments the session's version (R284) and is mirrored (R410). -/
def State.touchSess (n : Nat) (s : State) : State :=
  let s := (s.modSess n (fun x => { x with version := nextVersion x.version })).touch 4 n
  if s.hasTwin && s.twin.active then s.mirror (.mirror [.sess n (s.sessOf n)]) else s

/-- A session's binding in the running last. -/
def State.bindingOf (s : State) (x : Sess) : Binding := (s.cfg.htt.bindings[x.binding]?).getD {}

/-- This device's phase: bits [31:0] of its claim number (R273). -/
def State.phase (s : State) : Nat := s.drec.claim % 2 ^ 32

/-- Ready items of a frond that a test picks. -/
def State.readyCount (s : State) (f : Nat) (p : Item → Bool) : Nat :=
  (s.disp.items.filter (fun e => e.2.frond == f && e.2.stage == .ready && p e.2)).length

/-- An instance's items fill its share of the frond's ready list (R252). -/
def State.shareFull (s : State) (i f : Nat) : Bool :=
  let insts := (s.disp.items.filter (fun e => e.2.frond == f && e.2.stage == .ready)).map (fun e => e.2.inst)
  let sum := (insts.eraseDups.map (fun j => (s.instOf j).d.lim.weight)).foldl (· + ·) 0
  decide (max 64 (65536 * (s.instOf i).d.lim.weight / max 1 sum) ≤ s.readyCount f (fun x => x.inst == i))

/-- The frond's ready list is full, or its wait-pool partition has been full for 64 consecutive ticks (Table 8.3). -/
def State.frondHeld (s : State) (f : Nat) : Bool :=
  decide (65536 ≤ s.readyCount f (fun _ => true)) || decide (65 ≤ s.disp.poolFull.getD f 0)

/-- The home of a flow key's flow is held back. -/
def State.homeHeld (s : State) (i : Nat) (parallel : Bool) (space : Nat) (value : Bytes) : Bool :=
  match s.disp.flows.find? (fun e => e.2.inst == i && e.2.parallel == parallel && e.2.space == space && e.2.value == value) with
  | none => false
  | some e => match e.2.home with | none => false | some f => s.frondHeld f

/-- Admission of the whole device is stopped: between B and resumption of a LAST_LOAD (R228), or by a life-cycle step (R451). -/
def State.admissionStopped (s : State) : Bool :=
  s.disp.stopAdmit || (match s.last.job with | none => false | some j => j.boundary.isSome)

/-- The means of Table 8.3 that act on one instance, and on the device (R228 step 1). -/
def State.heldBack (s : State) (i : Nat) : Bool :=
  s.admissionStopped || decide ((s.instOf i).cipher < 0) || decide ((s.instOf i).field < 0) || decide ((s.instOf i).pk < 0) ||
    (List.range 16).any (s.shareFull i)

/-- Credit is withheld from session `n` (R228, R251, R336, R423). -/
def State.withheld (s : State) (n : Nat) (x : Sess) : Bool :=
  !s.twin.active || s.heldBack x.inst || s.homeHeld x.inst false 0 (be 3 n) || !s.mayProtect x.port x.sub

/-- The credit limit G = A + F of R274; it never decreases within a phase. -/
def State.grant (s : State) (n : Nat) (x : Sess) : Nat :=
  let f := if s.withheld n x then 0 else (s.bindingOf x).credit - x.held
  max x.granted (max x.rxData x.rxSent + f)

/-- The number of the last sequence a sender uses: the device closes the session when it is reached (R288). -/
def maxSeq : Nat := 2 ^ 48 - 1

/-- Seal a session frame: the header, the sealed payload and the session after it (R271, R274). Every session frame carries
the current grant; before the peer has opened a phase, and after a promotion until it opens a new one (R419), there is none to give. -/
def State.sealFrame (s : State) (n : Nat) (x : Sess) (typ flags : Nat) (b : Bytes) : Bytes × Bytes × Sess :=
  let phase := s.phase
  let seq := (if x.txPhase = phase then x.txSeq else 0) + 1
  let g := if x.rxPhase.isNone || decide (maxSeq < x.rxHigh) then 0 else s.grant n x
  let hdr := httHeader typ flags x.peerId phase seq g (x.rxPhase.getD 0) b.length
  let c := gcmSeal x.keyTx (be 4 phase ++ [0#8, 0#8] ++ be 6 seq) hdr b 16
  let x := if x.txPhase = phase then x else { x with txPhase := phase, txData := 0, limit := 0 }
  (hdr, c, { x with txSeq := seq, granted := max x.granted g, grantSent := g, grantAt := s.tick.count,
                    txData := if typ = 1 then x.txData + 1 else x.txData,
                    lastData := if typ = 1 then s.tick.count else x.lastData })

/-- Put an HTT frame of a session on the wire. -/
def State.putHttAs (x : Sess) (hdr c : Bytes) (stomped : Bool) (s : State) : State :=
  let c := if stomped then c.take (c.length - 16) ++ (c.drop (c.length - 16)).map (fun y => ~~~ y) else c
  let fr := s.httFrame x (hdr ++ c)
  (s.spend 5).putFrame x.port x.sub (s.bindingOf x).prio false stomped fr

/-- Put a sealed session frame on the wire. -/
def State.putHtt (n : Nat) (hdr c : Bytes) (stomped : Bool) (s : State) : State := s.putHttAs (s.sessOf n) hdr c stomped

/-- Send a control frame (NOTICE, CREDIT, CLOSE) of an OPEN session. -/
def State.sendControl (n typ : Nat) (b : Bytes) (s : State) : State :=
  let x := s.sessOf n
  if x.st != .opened || x.keyTx.isEmpty || (s.hasTwin && !s.twin.active) then s
  else
    let (hdr, c, x') := s.sealFrame n x typ 0 b
    (s.modSess n (fun _ => x')).putHtt n hdr c false

/-- Send a CREDIT frame with the sent count (R274, Table 9.6). -/
def State.sendCredit (n : Nat) (s : State) : State :=
  let x := s.sessOf n
  let sent := if x.txPhase = s.phase then x.txData else 0
  (s.sendControl n 0x03 (be 6 sent ++ zeros 2)).modSess n (fun x => { x with creditAt := s.tick.count })

/-- Send a NOTICE frame about an inbound or outbound frame (R278, Table 9.6). -/
def State.sendNotice (n : Nat) (st : Nat) (off phase seq : Nat) (s : State) : State :=
  let x := s.sessOf n
  if x.st != .opened then s
  else (s.sendControl n 0x02 (be 2 st ++ zeros 2 ++ be 4 off ++ be 4 phase ++ be 6 seq ++ zeros 6)).tally st

/-- Keys, windows and credit state are erased (R285). -/
def Sess.wipe (x : Sess) : Sess :=
  { x with keyTx := [], keyRx := [], myId := 0, peerId := 0, txPhase := 0, txSeq := 0, txData := 0, limit := 0, rxPhase := none,
           rxHigh := 0, rxSeen := [], rxData := 0, rxSent := 0, granted := 0, grantSent := 0, setup := none }

/-- Park a session with a reason (R284, R285). -/
def State.parkSess (n reason : Nat) (s : State) : State :=
  (s.modSess n (fun x => { x.wipe with st := .parked, reason := reason, parkedAt := s.tick.count })).touchSess n

/-- Free a session: its destinations are unbound (R286, R287). -/
def State.freeSess (n : Nat) (s : State) : State :=
  let i := (s.sessOf n).inst
  let s := s.modSess n (fun x => { x.wipe with st := .free })
  let s := s.modInst i (fun y => { y with dests := y.dests.filterT (fun _ v => v != n) })
  s.touchSess n

/-- The phase of the next session frame changes the send sequence to its last value: close with SEQUENCE_EXHAUSTED (R288). -/
def State.checkSeq (n : Nat) (s : State) : State :=
  let x := s.sessOf n
  if x.st = .opened ∧ maxSeq ≤ x.txSeq + 1 then
    (s.sendControl n 0x04 (be 2 Status.sequenceExhausted.code ++ zeros 6)).parkSess n Status.sequenceExhausted.code
  else s

/-- Sessions that satisfy a test. -/
def State.sessWhere (s : State) (p : Nat → Sess → Bool) : List Nat := (s.sess.filter (fun e => p e.1 e.2)).map Prod.fst

end Sys2Proof.Machine
end

