-- ==== Sys2Proof/Machine/Reset.lean ====
section
/-! DEFINITION. Device reset (R520) and what monitors, zeroise and the noise test do (R427-R442). -/

namespace Sys2Proof.Machine

/-! ### Life-cycle and options as the fuses hold them -/

/-- The codeword of a stage word (R448). -/
def stageWord (k : Nat) : Nat :=
  [0x5A3C96E10F87C3D2, 0xA5C3691EF0783C2D, 0x3C96E15A87C3D20F, 0xC3691EA5783C2DF0].getD k 0

/-- A stage word reads burned, unburned or neither: its three rows agree (R448). -/
def Fuses.stage (f : Fuses) (k : Nat) : Option Bool :=
  let rows := (List.range 3).map (fun j => f.stages.getD (3 * k + j) 0)
  if rows.all (· == stageWord k) then some true else if rows.all (· == 0) then some false else none

/-- The decode of Table 16.4: 0 to 4, or 5 for LOST (R448); with the unique-device-secret rows destroyed and W3 unburned the device
or with a row of a life-cycle step torn, is LOST (R451). -/
def Fuses.decode (f : Fuses) : Nat :=
  if f.torn then 5 else
  match f.stage 0, f.stage 1, f.stage 2, f.stage 3 with
  | some _, some _, some _, some true => 4
  | some a, some b, some c, some false =>
    if !f.secrets then 5 else if c then (if a && b then 3 else 5) else if b then (if a then 2 else 5) else if a then 1 else 0
  | _, _, _, _ => 5

/-- Burn a stage word's three rows. -/
def Fuses.burnStage (f : Fuses) (k : Nat) : Fuses :=
  { f with stages := (List.range 12).map (fun j => if j / 3 = k then f.stages.getD j 0 ||| stageWord k else f.stages.getD j 0) }

/-- The sense of option bit `k`: at least two of three copies (R433). -/
def Fuses.option (f : Fuses) (k : Nat) : Bool := decide (2 ≤ (f.options.filter (fun w => bit w k)).length)

/-- Copies of some option disagree (R433). -/
def Fuses.mixed (f : Fuses) : Bool :=
  (List.range 17).any (fun k => f.options.any (fun w => bit w k) && !f.options.all (fun w => bit w k))

/-- The option bits as sensed: 16 disabled sources and RETURNED_PATH. -/
def Fuses.sensed (f : Fuses) : Nat := (List.range 17).foldl (fun m k => if f.option k then setBit m k else m) 0

/-- PROT_RESPONSE: the fused value once burned, else the register (R446, R451). -/
def State.responses (s : State) : Nat := match s.fuses.response with | some v => v | none => s.reg oProtResponse

/-- RNG_THRESHOLDS, likewise. -/
def State.thresholds (s : State) : Nat := match s.fuses.thresholds with | some v => v | none => s.reg oRngThresholds

/-- The response of a source: 1 log, 2 halt, 3 zeroise; fixed for 6, 7, 14 and 15 (Table 16.1). -/
def State.responseOf (s : State) (src : Nat) : Nat :=
  if [6, 7, 14, 15].contains src then 3 else s.responses / 4 ^ src % 4

/-! ### Device reset -/

/-- A device reset keeps the fuses, the battery domain and the ledger flash (R520), the levels on its pins and at its monitors, and the
model's own fields. -/
def State.deviceReset (cause : Nat) (s : State) : State :=
  { State.reset with
    pending := s.pending, free := s.free, out := s.out, fuses := s.fuses, bat := s.bat, flash := s.flash,
    dev := { rails := s.dev.rails, perstLow := s.dev.perstLow, resetCause := cause },
    prot := { live := s.prot.live, life := s.fuses.decode } }

/-- Frames in emission are stomped (R207): every item's frame goes out with its tag complemented. -/
def State.stompAll (s : State) : State :=
  s.disp.items.foldl (fun s e => match e.2.emis with
    | none => s
    | some m => s.putHtt m.sess m.hdr m.sealedTxt true) s

/-- Zeroise (R430): the battery domain's secret, then with the core up the key regions and the reset; its records are written
first. A life-cycle fuse burn in progress runs to its end before the reset. With the rails off only the secret is erased. -/
def State.zeroiseNow (cause src : Nat) (s : State) : State :=
  let s := { s with bat := { s.bat with secret := none } }
  if !s.dev.rails then s
  else
    let s := (s.localRec 0x16 ([BitVec.ofNat 8 cause, BitVec.ofNat 8 src] ++ zeros 6)).drainLedger
    let s := s.stompAll
    match s.prot.step with
    | some st =>
      if st.stage = 3 then
        { s with prot := { s.prot with zeroising := true }, ks := { s.ks with keys := [], storeKey := [], slotKey := [] },
                 sess := [], disp := {}, eng := {} }
      else s.deviceReset 4
    | none => s.deviceReset 4

/-! ### Monitor sources -/

/-- The source is watched: 6 to 11 always, the others while the core rail is up and sensed (Table 16.1, R522 step 2). -/
def State.watched (s : State) (src : Nat) : Bool :=
  (decide (6 ≤ src ∧ src ≤ 11) || (s.dev.rails && s.prot.watching)) && decide (src < 16) && !s.fuses.option src

/-- A source asserts afresh (R428, R429, R432). -/
def State.assertSource (src : Nat) (s : State) : State :=
  if !s.watched src then s
  else
    let s := { s with bat := { s.bat with sticky := setBit s.bat.sticky src } }
    let r := s.responseOf src
    if !s.dev.rails then if r = 3 then s.zeroiseNow 2 src else s
    else
      let s := s.bump oProtEvents
      let s := s.localRec 0x03 (le 2 (setBit 0 src) ++ [BitVec.ofNat 8 r] ++ zeros 5)
      let s := s.raise 14 oProtIrq 0
      if r = 3 then s.zeroiseNow 2 src
      else if r = 2 ∧ !s.prot.halted then
        { s with prot := { s.prot with haltPending := some (setBit (s.prot.haltPending.getD 0) src) } }
      else s

/-- The two takes of a decision disagree (R437): in the model they always agree, so this is reached only through MONITOR_ASSERT. -/
def State.mismatch (s : State) : State := s.assertSource 15

/-! ### Random output -/

/-- Random output runs: the start test has passed and no window has failed since (R441, R442, R447). -/
def State.rngOk (s : State) : Bool := s.rng.state == 1 || s.rng.state == 3

/-- Count a generate request of a DRBG (R444): 0 to 15 the fronds', 16 + i instance i's. -/
def State.generate (drbg n : Nat) (s : State) : State :=
  if s.rng.drbgs.has drbg then
    { s with rng := { s.rng with drbgs := s.rng.drbgs.set drbg (s.rng.drbgs.getD drbg 0 + max 1 ((n + 65535) / 65536)) } }
  else s

/-- Reseed a DRBG. -/
def State.reseed (drbg : Nat) (s : State) : State :=
  if s.rng.drbgs.has drbg then ({ s with rng := { s.rng with drbgs := s.rng.drbgs.set drbg 0 } }).bump64 oRngReseeds 1 else s

/-- Instantiate a DRBG. -/
def State.instantiate (drbg : Nat) (s : State) : State := { s with rng := { s.rng with drbgs := s.rng.drbgs.set drbg 0 } }

/-- Drop a DRBG. -/
def State.dropDrbg (drbg : Nat) (s : State) : State := { s with rng := { s.rng with drbgs := s.rng.drbgs.erase drbg } }

/-- The lowest-numbered frond in service, whose DRBG serves the management plane (Table 16.3). -/
def State.mgmtDrbg (s : State) : Nat :=
  ((List.range 16).find? (fun f => s.rng.drbgs.has f)).getD 0

/-- A window's bits, least significant bit of each byte first (DESIGN CHOICE, log 13). -/
def windowBits (w : Bytes) : List Bool := w.flatMap (fun b => (List.range 8).map (fun k => b.getLsbD k))

/-- ONES of a window (R440). -/
def windowOnes (w : Bytes) : Nat := (windowBits w).countP (fun b => b)

/-- PAIRS of a window (R440). -/
def windowPairs (w : Bytes) : Nat := let b := windowBits w; (List.zipWith (· == ·) b (b.drop 1)).countP (fun x => x)

/-- What a window fails under thresholds: 0 nothing, 1 ONES, 2 PAIRS, 3 both (R440, Table 16.11). -/
def windowFail (th ones pairs : Nat) : Nat :=
  b2n (!decide (bits th 12 0 ≤ ones ∧ ones ≤ bits th 28 16)) + 2 * b2n (!decide (bits th 43 32 ≤ pairs ∧ pairs ≤ bits th 59 48))

/-- A window of a source is tested (R440); a failure while output runs stops it (R442). -/
def State.testWindow (src : Nat) (w : Bytes) (s : State) : State :=
  let ones := windowOnes w
  let pairs := windowPairs w
  let f := windowFail s.thresholds ones pairs
  let s := (s.setReg (oRngSource + 8 * src) (pairs * 65536 + ones)).bump64 oRngWindows 1
  if f = 0 then s
  else
    let running := s.rngOk
    let s := { s with rng := { s.rng with state := 2, failed := setBit s.rng.failed src,
                                          cause := if s.rng.cause = 0 then f else s.rng.cause } }
    if running then (s.raise 15 oRngIrq 0).localRec 0x08 ([BitVec.ofNat 8 (setBit 0 src), BitVec.ofNat 8 f] ++ zeros 6) else s

/-! ### Debug (R453-R455) -/

/-- The nonce is used up. -/
def State.spendNonce (s : State) : State := { s with prot := { s.prot with nonce := none } }

/-- The check of a debug token (R455), in order; `states` gives the levels allowed in a life-cycle state. -/
def State.tokenFail (s : State) (allowed : Nat → Nat → Bool) (t : Bytes) : Option Status :=
  let lvl := byteAt t 6
  firstFail
    [ (t.length == 4800, .badLength),
      (leAt t 0 4 == 0x44424754 && leAt t 4 2 == 1 && allZero (slice t 48 16) && allZero (slice t 4787 13), .badFieldValue),
      (allowed s.prot.life lvl, .lifecycleForbidden),
      (slice t 8 8 == le 8 Config.deviceSerial.toNat && byteAt t 7 == s.prot.life && s.prot.nonce == some (slice t 16 32) &&
        doubleSigned Config.debugP384 Config.debugMlDsa (ascii "LV5120-DEBUG") (t.take 64) (slice t 64 96) (slice t 160 4627),
        .debugTokenInvalid) ]

/-- A level is enabled: its ledger record and the interrupt (R453). -/
def State.enableDebug (lvl : Nat) (nonce : Bytes) (s : State) : State :=
  let s := s.required 0x15 ([BitVec.ofNat 8 lvl] ++ zeros 7 ++ nonce)
  ({ s with prot := { s.prot with debug := lvl } }).raise 14 oProtIrq 1

end Sys2Proof.Machine
end

