-- ==== Sys2Proof/Machine/Operands.lean ====
section
/-! DEFINITION. The operands of management commands: the descriptor's fields (Table 2.3), what each command defines of its parameters
(the command tables of chapters 2, 3, 7 to 11, 13 to 19), and the format checks of R43. -/

namespace Sys2Proof

/-- A little-endian field of the descriptor. -/
def Cmd.u (c : Cmd) (off n : Nat) : Nat := Machine.leAt c.desc off n

/-- The command code. -/
def Cmd.code (c : Cmd) : Nat := c.u 0 2
/-- Urgent commit class. -/
def Cmd.urgent (c : Cmd) : Bool := Machine.bit (Machine.byteAt c.desc 2) 0
/-- Raise the completion vector. -/
def Cmd.raises (c : Cmd) : Bool := Machine.bit (Machine.byteAt c.desc 2) 1
/-- Tag. -/
def Cmd.tag (c : Cmd) : Nat := c.u 4 4
/-- Unit type. -/
def Cmd.unitType (c : Cmd) : Nat := Machine.byteAt c.desc 8
/-- Unit identifier. -/
def Cmd.unit (c : Cmd) : Nat := c.u 16 8
/-- Expected version. -/
def Cmd.expected (c : Cmd) : Nat := c.u 24 4

end Sys2Proof

namespace Sys2Proof.Machine

/-- What a command defines: its unit type (0: any), whether it may be urgent (R47), whether its expected version is checked, and
the parameter bits its table defines as (byte, mask). -/
structure MgmtSpec where
  unit : Nat
  urgent : Bool := false
  checked : Bool := true
  bytes : List (Nat × Nat) := []

/-- Whole bytes from `off`. -/
def whole (off n : Nat) : List (Nat × Nat) := (List.range n).map (fun k => (off + k, 255))

/-- The defined commands. Bytes that a command overwrites in host memory count as defined (log 14). -/
def mgmtSpec (code : Nat) : Option MgmtSpec :=
  match code with
  | 0x8001 => some { unit := 1 }
  | 0x8002 => some { unit := 0, checked := false, bytes := whole 32 4 }
  | 0x8003 => some { unit := 1, bytes := whole 32 1 }
  | 0x8101 => some { unit := 2, bytes := whole 32 12 }
  | 0x8102 => some { unit := 6, bytes := [(32, 1)] }
  | 0x8103 => some { unit := 6, bytes := whole 32 24 }
  | 0x8104 => some { unit := 7 }
  | 0x8105 => some { unit := 1 }
  | 0x8110 => some { unit := 2 }
  | 0x8111 => some { unit := 2, bytes := whole 32 4 ++ whole 40 6 }
  | 0x8112 => some { unit := 2, bytes := whole 40 13 }
  | 0x8113 => some { unit := 2 }
  | 0x8114 => some { unit := 1, bytes := whole 32 12 }
  | 0x8201 => some { unit := 1, bytes := whole 32 12 }
  | 0x8202 => some { unit := 1, bytes := whole 32 12 }
  | 0x8203 => some { unit := 1, bytes := whole 32 12 }
  | 0x8204 => some { unit := 1, bytes := whole 32 12 }
  | 0x8301 => some { unit := 2, checked := false, bytes := whole 32 8 ++ [(40, 1)] ++ whole 48 8 }
  | 0x8302 => some { unit := 5, bytes := whole 32 8 ++ [(40, 1), (41, 255)] }
  | 0x8303 => some { unit := 5, bytes := whole 32 9 }
  | 0x8304 => some { unit := 2, bytes := whole 32 2 }
  | 0x8305 => some { unit := 6, bytes := whole 32 1 }
  | 0x8306 => some { unit := 1, bytes := [(32, 1)] }
  | 0x8401 => some { unit := 3, bytes := [(32, 15)] }
  | 0x8402 => some { unit := 3, urgent := true, bytes := [(32, 15)] }
  | 0x8403 => some { unit := 4, bytes := whole 32 8 }
  | 0x8404 => some { unit := 4 }
  | 0x8405 => some { unit := 4, bytes := [(32, 1)] }
  | 0x8406 => some { unit := 2, bytes := whole 32 2 ++ whole 36 4 }
  | 0x8407 => some { unit := 3, bytes := whole 32 12 }
  | 0x8408 => some { unit := 3, bytes := whole 32 8 }
  | 0x8409 => some { unit := 3, bytes := whole 32 2 }
  | 0x840A => some { unit := 3, bytes := whole 32 3 }
  | 0x840B => some { unit := 3, checked := false, bytes := whole 32 3 ++ whole 40 9 }
  | 0x8501 => some { unit := 2, bytes := whole 32 4 ++ [(36, 3)] ++ whole 38 18 }
  | 0x8502 => some { unit := 2, bytes := whole 32 1 ++ [(33, 1)] }
  | 0x8503 => some { unit := 2, checked := false, bytes := whole 32 1 ++ whole 40 16 }
  | 0x8601 => some { unit := 2, bytes := whole 32 8 }
  | 0x8602 => some { unit := 2 }
  | 0x8603 => some { unit := 2, urgent := true, bytes := [(32, 1)] }
  | 0x8604 => some { unit := 2, urgent := true }
  | 0x8605 => some { unit := 2 }
  | 0x8606 => some { unit := 2, bytes := whole 32 8 }
  | 0x8607 => some { unit := 2, bytes := whole 32 32 }
  | 0x8608 => some { unit := 2, bytes := whole 32 12 ++ whole 48 16 }
  | 0x8609 => some { unit := 2, bytes := whole 32 24 }
  | 0x860A => some { unit := 2, bytes := whole 32 12 }
  | 0x860B => some { unit := 2, bytes := whole 32 8 }
  | 0x860C => some { unit := 2, bytes := whole 32 12 }
  | 0x860D => some { unit := 1, bytes := whole 32 8 }
  | 0x8701 => some { unit := 1, urgent := true, bytes := [(32, 1)] }
  | 0x8702 => some { unit := 1, bytes := [(32, 1)] }
  | 0x8801 => some { unit := 1, urgent := true }
  | 0x8802 => some { unit := 1, bytes := whole 32 2 ++ [(34, 1)] }
  | 0x8803 => some { unit := 1, bytes := whole 32 12 }
  | 0x8901 => some { unit := 1, bytes := whole 32 13 ++ whole 48 12 }
  | 0x8902 => some { unit := 1, bytes := whole 32 16 }
  | 0x8903 => some { unit := 1, bytes := whole 32 12 }
  | 0x8A01 => some { unit := 1, bytes := whole 32 3 }
  | 0x8A02 => some { unit := 1, bytes := whole 32 2 }
  | 0x8A03 => some { unit := 1, bytes := whole 32 2 }
  | _ => none

/-- Bits of parameter byte `k` that a command defines. DISP_PIN_FLOW's frond must be zero when PIN is 0, QUEUE_DESTROY and the others as
their tables say (R43). -/
def MgmtSpec.mask (m : MgmtSpec) (c : Cmd) (k : Nat) : Nat :=
  if c.code = 0x8302 ∧ k = 41 ∧ byteAt c.desc 40 % 2 = 0 then 0
  else match m.bytes.find? (fun e => e.1 == k) with
    | none => 0
    | some e => e.2

/-- Identifier range of a unit type (Table 2.2). -/
def unitIdOk (typ id : Nat) : Bool :=
  match typ with
  | 1 => id == 0
  | 2 => decide (id < 4096)
  | 3 => decide (id < 64)
  | 4 => decide (id < 1048576)
  | 5 => decide (id < 1048576)
  | 6 => true
  | 7 => decide (id < 4194304)
  | _ => false

/-- Reserved bits and bytes of a descriptor are zero (Table 2.3, R43). -/
def reservedOk (m : MgmtSpec) (c : Cmd) : Bool :=
  decide (byteAt c.desc 2 < 4) && byteAt c.desc 3 == 0 && allZero (slice c.desc 9 7) && allZero (slice c.desc 28 4) &&
    (List.range 32).all (fun k => byteAt c.desc (32 + k) &&& m.mask c (32 + k) == byteAt c.desc (32 + k))

/-- The checks of R43, in the order of their codes (R531). -/
def formatFail (c : Cmd) : Option Status :=
  match mgmtSpec c.code with
  | none => some .badOpcode
  | some m =>
    firstFail
      [ (reservedOk m c, .reservedNonzero),
        (unitIdOk c.unitType c.unit && (m.unit == 0 || c.unitType == m.unit) && (!c.urgent || m.urgent), .badFieldValue) ]

/-- Commands a STANDBY device accepts (R423). -/
def standbyAccepts (code : Nat) : Bool :=
  decide (0x8000 ≤ code ∧ code < 0x8100) || [0x8201, 0x8203, 0x8204, 0x8401, 0x8402, 0x8407, 0x8103].contains code ||
    decide (0x8408 ≤ code ∧ code ≤ 0x840B) || decide (0x8500 ≤ code ∧ code < 0x8600) ||
    decide (0x8700 ≤ code ∧ code < 0x8800) || code == 0x8801

end Sys2Proof.Machine
end

