-- ==== Sys2Proof/Machine/Mgmt.lean ====
section
/-! DEFINITION. The management command queue (R43-R57): versions and state codes of units (R41, R99, R238, R284, R293, R377), completions
(R44, R56, R57), how a command commits (R8, R45, R47), and the state digest (R51). -/

namespace Sys2Proof.Machine

/-! ### Units -/

/-- The instance a page is assigned to (R80, R84). -/
def State.ownerOf (s : State) (p : Nat) : Option Nat :=
  (s.inst.find? (fun e => decide (e.2.d.base ≤ p ∧ p < e.2.d.base + e.2.d.p))).map Prod.fst

/-- The instance's state code (Table 14.1). -/
def InstDur.stateCode (d : InstDur) : Nat :=
  (if d.error then d.cause * 4096 + 256 else 0) + d.st.code

/-- The flow's state code (Table 8.1). -/
def Flow.stateCode (f : Flow) : Nat :=
  b2n f.parallel * 1024 + b2n f.hint.isSome * 512 + b2n f.pinned * 256 + (f.home.getD 0) * 16 + 1

/-- The port's state code: ADMIN_UP and LINK_UP (R293). -/
def Port.stateCode (p : Port) : Nat :=
  (List.range 4).foldl (fun a k =>
    let x := p.subs.getD k {}
    a + (b2n x.admin + 16 * b2n x.link) * 2 ^ k) 0

/-- The page's state code (R99). -/
def State.pageCode (s : State) (p : Nat) : Nat :=
  let e := s.page p
  if (s.ownerOf p).isNone then 5 else if e.ver = 0xFFFFFFFF then 4 else if e.frozen then 3 else if e.stale then 2
  else if e.ver = 0 then 0 else 1

/-- Version and state code of a key handle (R41, R99): resident, or as it left the resident store, or in a page not fetched since the
start (LIVE at version 1, log 15). -/
def State.keyUnit (s : State) (h : Nat) : Nat × Nat :=
  match s.key? (hSlot h) with
  | some r => if hGen h = hGen r.handle then (if r.deleted then 0 else r.version, r.stateCode) else (0, if hGen h < hGen r.handle then 4 else 3)
  | none => match s.ks.gone.get? (hSlot h) with
    | some (g, v, c) => if g = h then (v, c) else (0, if hGen h < hGen g then 4 else 3)
    | none => match s.locate h with
      | .error (.page _) => (1, 0)
      | _ => (0, 3)

/-- A unit's current version; 0: the unit is free. -/
def State.unitVersion (s : State) (typ id : Nat) : Nat :=
  match typ with
  | 1 => s.mgmt.version
  | 2 => (s.instOf id).d.version
  | 3 => (s.portOf id).version
  | 4 => (s.sessOf id).version
  | 5 => match s.disp.flows.get? id with | none => if 1044480 ≤ id then 1 else 0 | some f => f.version
  | 6 => (s.keyUnit id).1
  | 7 => (s.page id).version
  | _ => 0

/-- The unit is free: what expected version 0 asks of the unit a command creates (R41). -/
def State.unitFree (s : State) (typ id : Nat) : Bool :=
  match typ with
  | 2 => (s.instOf id).d.st == .free
  | 4 => (s.sessOf id).st == .free
  | _ => s.unitVersion typ id == 0

/-- A unit's state code. -/
def State.unitState (s : State) (typ id : Nat) : Nat :=
  match typ with
  | 2 => (s.instOf id).d.stateCode
  | 3 => (s.portOf id).stateCode
  | 4 => (s.sessOf id).reason * 65536 + (s.sessOf id).st.code
  | 5 => match s.disp.flows.get? id with | none => if 1044480 ≤ id then 1 else 0 | some f => f.stateCode
  | 6 => (s.keyUnit id).2
  | 7 => s.pageCode id
  | _ => 0

/-! ### Completions -/

/-- Ask for an MSI-X message of a function: one goes out per vector at the end of the tick (R309). -/
def State.cqMsix (f v : Nat) (s : State) : State :=
  { s with pcie := { s.pcie with msixWait := if s.pcie.msixWait.contains (f, v) then s.pcie.msixWait else s.pcie.msixWait ++ [(f, v)] } }

/-- Ring entries of a LOG2 register. -/
def State.ringSize (s : State) (off : Nat) : Nat := 2 ^ s.fld off 4 0

/-- The 16 bytes of Table 2.4. -/
def MDone.bytes (d : MDone) : Bytes := le 2 d.status ++ zeros 2 ++ le 4 d.tag ++ le 4 d.version ++ le 4 d.point

/-- The completion ring is full (R56). -/
def State.mgmtCqFull (s : State) : Bool := (s.mgmt.cqTail + 1) % s.ringSize oMgmtCqSize == s.mgmt.cqHead

/-- Write a completion into the ring, or hold it back while the ring is full (R56). -/
def State.postMgmt (d : MDone) (s : State) : State :=
  if s.mgmtCqFull || !s.mgmt.held.isEmpty then { s with mgmt := { s.mgmt with held := s.mgmt.held ++ [d] } }
  else
    let t := (s.hostWrite 0 (s.reg oMgmtCqBase + 16 * s.mgmt.cqTail) d.bytes).errBit 3
    let t := { t with mgmt := { t.mgmt with cqTail := (s.mgmt.cqTail + 1) % s.ringSize oMgmtCqSize } }
    if d.raise then t.cqMsix 0 (t.fld oMgmtControl 26 16) else t

/-- Completions held back are written while there is space. -/
def State.releaseHeld : Nat → State → State
  | 0, s => s
  | n + 1, s => match s.mgmt.held with
    | [] => s
    | d :: rest =>
      if s.mgmtCqFull then s
      else
        let t := State.postMgmt d { s with mgmt := { s.mgmt with held := [] } }
        State.releaseHeld n { t with mgmt := { t.mgmt with held := rest } }

/-- Complete a command (R44, R57). -/
def State.completeAs (m : MCmd) (st version point : Nat) (s : State) : State :=
  let d : MDone := { status := st, tag := m.cmd.tag, version := version, point := point, raise := m.cmd.raises }
  if m.mute then s else
  let s := s.tally st
  if m.slot then
    let s := (s.hostWrite 0 (m.addr + 64) d.bytes).errBit 3
    State.cqMsix 0 (s.fld oMgmtControl 26 16) { s with mgmt := { s.mgmt with busy := false, urgRead := false } }
  else s.postMgmt d

/-- Complete a command that has committed, with its unit's version now. -/
def State.finish (m : MCmd) (st : Status) (s : State) : State :=
  s.completeAs m st.code (s.unitVersion m.cmd.unitType m.cmd.unit) m.point

/-- Overwrite bytes of a descriptor in host memory. -/
def State.overwrite (m : MCmd) (off : Nat) (b : Bytes) (s : State) : State :=
  if m.mute then s else s.hostWrite 0 (m.addr + off) b

/-! ### Commits -/

/-- What a command's effect answers: the state, and the status with which it completes now (none: it completes later). -/
structure Eff where
  s : State
  st : Option Status := some .ok

/-- An effect that fails and changes nothing. -/
def Eff.fail (s : State) (st : Status) : Eff := { s := s, st := some st }

/-- Fail with the first check that fails, or go on. -/
def effChecks (s : State) (cs : List (Bool × Status)) (k : Eff) : Eff :=
  match lowestFail cs with
  | some st => .fail s st
  | none => k

/-- The commit point of a commit now (Table 2.4). -/
def State.commitPoint (s : State) (c : Cmd) : Nat := if c.urgent then s.tick.count % 2 ^ 32 else s.epoch

/-- A command commits (R8, R45, R47): STANDBY (R423), the expected version, then its effect. -/
def State.commitCmd (eff : MCmd → State → Eff) (m : MCmd) (s : State) : State :=
  let m := { m with point := s.commitPoint m.cmd }
  if s.standby && !standbyAccepts m.cmd.code then s.finish m .notActive
  else
    let checked := match mgmtSpec m.cmd.code with | none => true | some x => x.checked
    let u := m.cmd.unitType
    let known := s.unitVersion u m.cmd.unit == m.cmd.expected || (m.cmd.expected == 0 && s.unitFree u m.cmd.unit)
    if checked && !known then s.finish m .stateMismatch
    else
      let r := eff m s
      match r.st with
      | none => r.s
      | some st => r.s.finish m st

/-- A command's own row: the command is submitted, validated and committed in one step (log 12). -/
def State.cmdRow (code : Nat) (eff : MCmd → State → Eff) (c : Cmd) (s : State) : State :=
  let c := { c with desc := padTo 64 (le 2 code ++ c.desc.drop 2) }
  let m : MCmd := { cmd := c, addr := s.reg oMgmtSqBase + 64 * s.mgmt.sqHead }
  if !s.works then s
  else match formatFail c with
    | some st => s.completeAs m st.code 0 0
    | none => s.commitCmd eff m

/-! ### The state digest (R51) -/

/-- One digest entry (Table 2.6). -/
def State.digestEntry (s : State) (u : Nat × Nat) : Bytes :=
  le 1 u.1 ++ zeros 3 ++ le 4 (s.unitVersion u.1 u.2) ++ le 4 (u.2 % 2 ^ 32) ++
    le 4 (if u.1 = 6 then u.2 / 2 ^ 32 else s.unitState u.1 u.2)

/-- Every live unit of a type (DIGEST_RESYNC). -/
def State.liveUnits (s : State) (typ : Nat) : List Nat :=
  match typ with
  | 1 => [0]
  | 2 => (s.inst.filter (fun e => e.2.d.st != .free)).map Prod.fst
  | 3 => List.range 64
  | 4 => (s.sess.filter (fun e => e.2.st != .free)).map Prod.fst
  | 5 => s.disp.flows.map Prod.fst
  | 6 => (s.ks.keys.filter (fun e => !e.2.deleted)).map (fun e => e.2.handle) ++ s.ks.gone.map (fun e => e.2.1)
  | 7 => (s.ks.pages.filter (fun e => (s.ownerOf e.1).isSome)).map Prod.fst
  | _ => []

/-- Write the digest: under DIGEST_RESYNC every live unit of the types set, and the changed units of the other types (log 16); when the previous one was acknowledged and fetching is enabled. -/
def State.digest (s : State) : State :=
  if !s.mgmt.ack || !bit (s.reg oMgmtControl) 0 then s
  else
    let resync := s.mgmt.resync
    let units := (List.range 8).flatMap (fun k => if bit resync k then (s.liveUnits k).map (fun i => (k, i)) else []) ++
      s.mgmt.changed.filter (fun u => !bit resync u.1)
    let limit := s.fld oMgmtDigestLimit 20 0
    let shown := units.take limit
    let omitted := units.length - shown.length
    let flags := b2n (decide (0 < omitted)) + 2 * b2n (resync != 0)
    let buf := le 4 s.epoch ++ le 4 shown.length ++ le 4 omitted ++ le 4 flags ++ le 8 s.tick.count ++ zeros 8 ++
      shown.flatMap s.digestEntry
    let s := (s.hostWrite 0 (s.reg oMgmtDigestBase) buf).errBit 3
    State.msix 0 (s.fld oMgmtControl 42 32)
      { s with mgmt := { s.mgmt with changed := [], resync := 0, overflow := decide (0 < omitted), ack := false } }

end Sys2Proof.Machine
end

