-- ==== Sys2Proof/Machine/DispOps.lean ====
section
/-! DEFINITION. Dispatch (R235-R252): flows and their homes, ready lists, the wait pool, credit buckets, and the end of an item. -/

namespace Sys2Proof.Machine

/-! ### Fronds -/

/-- An engine in service: enabled by the last and not retired (R20, R21, R503). `map` is its kind's map in ENABLES. -/
def State.engineOn (s : State) (kind map n : Nat) : Bool := bit map n && !s.drec.engines.contains (unitId kind n)

/-- The frond is enabled and has a field processor in service (R248). -/
def State.frondOn (s : State) (f : Nat) : Bool :=
  decide (f < 16) && bit s.cfg.enables.fronds f &&
    (List.range 4).any (fun k => s.engineOn 4 s.cfg.enables.field (4 * f + k))

/-- The frond is permitted for an instance (R248, R254). -/
def State.permitted (s : State) (i f : Nat) : Bool := bit (s.instOf i).d.lim.fronds f && s.frondOn f

/-! ### Engines that an item needs (R20, R21, R320, R503) -/

/-- A seam of the running last. -/
def State.seamOf (s : State) (n : Nat) : SeamDef := s.cfg.seams.seams.getD n {}

/-- Apply entries that a seam names. -/
def State.seamFns (s : State) (n : Nat) : List Invoc :=
  ((s.seamOf n).stitches.filter (fun t => t.op == opApply)).map (fun t => (s.cfg.seams.entries.getD t.ix {}).inv)

/-- Engine kinds that work under a key of an algorithm (Table 11.1, R342). -/
def algKinds (alg : Nat) : List Nat :=
  if alg = algAes then [1] else if alg = algTdes then [2] else if alg = algHmac then [3]
  else if alg = algDsa ∨ alg = algKem then [6] else [5]

/-- Engine kinds that a handle's key needs; none while no record shows its algorithm. -/
def State.keyKinds (s : State) (h : Nat) : List Nat := match s.key? (hSlot h) with | none => [] | some r => algKinds r.alg

/-- Engine kinds that an invocation needs. -/
def State.kindsOf (s : State) (v : Invoc) : List Nat :=
  if v.fn = 0x0701 then [3]
  else if v.fn = 0x0C01 then [5, 6]
  else if [0x0B01, 0x0B02, 0x0605, 0x0606].contains v.fn then [1]
  else if v.fn = 0x0A01 then algKinds (v.p2 % 256)
  else (if usesK1 v then s.keyKinds v.k1 else []) ++ (if usesK2 v then s.keyKinds v.k2 else []) ++
    (if v.fn = 0x0801 ∨ v.fn = 0x0802 then (if (s.keyKinds v.k1).contains 5 then [3] else []) else [])

/-- The enable map of an engine kind. -/
def State.kindMap (s : State) (kind : Nat) : Nat :=
  let e := s.cfg.enables
  [0, e.aes, e.tdes, e.hash, e.field, e.bignum, e.lattice].getD kind 0

/-- Engines of a kind to a frond. -/
def kindPer (kind : Nat) : Nat := if kind = 1 then 16 else if kind = 6 then 2 else 4

/-- A frond has an engine of a kind in service. -/
def State.kindOn (s : State) (kind f : Nat) : Bool :=
  (List.range (kindPer kind)).any (fun k => s.engineOn kind (s.kindMap kind) (kindPer kind * f + k))

/-- Some enabled frond has. -/
def State.kindAlive (s : State) (kind : Nat) : Bool := (List.range 16).any (fun f => bit s.cfg.enables.fronds f && s.kindOn kind f)

/-- The kind is in service nowhere: what needs it fails with HW_FAULT (R503). -/
def State.kindFail (s : State) (v : Invoc) : Option Status := if (s.kindsOf v).all s.kindAlive then none else some .hwFault

/-- The frond is permitted for an item: for its instance, and with an engine of every kind that it needs (R248, R503). -/
def State.permittedFor (s : State) (x : Item) (f : Nat) : Bool :=
  s.permitted x.inst f &&
    ((if x.transit then (s.seamFns x.seam).flatMap s.kindsOf else s.kindsOf x.inv).all (fun k => s.kindOn k f || !s.kindAlive k))

/-- Items of a frond's ready list. -/
def State.readyOn (s : State) (f : Nat) : Tbl Item := s.disp.items.filter (fun e => e.2.frond == f && e.2.stage == .ready)

/-- Admitted items of a frond: the entries used of its wait-pool partition (R246). -/
def State.admittedOn (s : State) (f : Nat) : Nat := (s.disp.items.filter (fun e => e.2.frond == f && e.2.admitted)).length

/-- The backlog of a frond (R248). -/
def State.backlog (s : State) (f : Nat) : Nat := (s.readyOn f).length + s.admittedOn f

/-- The smallest-backlog frond of a list, ties to the lowest number (R249). -/
def State.leastBacklog (s : State) (fs : List Nat) : Option Nat :=
  fs.foldl (fun b f => match b with
    | none => some f
    | some g => if s.backlog f < s.backlog g then some f else some g) none

/-- The home of a new flow (R248): permitted in the quadrant of arrival, else anywhere. -/
def State.newHome (s : State) (x : Item) : Option Nat :=
  let all := (List.range 16).filter (s.permittedFor x)
  match s.leastBacklog (all.filter (fun f => f / 4 == x.quad)) with
  | some f => some f
  | none => s.leastBacklog all

/-! ### Items and flows -/

/-- An item. -/
def State.item? (s : State) (n : Nat) : Option Item := s.disp.items.get? n

/-- Change an item. -/
def State.modItem (n : Nat) (f : Item → Item) (s : State) : State :=
  { s with disp := { s.disp with items := s.disp.items.modify n f } }

/-- A fresh position in the order of ready lists and resumed items (R242). -/
def State.nextOrder (s : State) : Nat := s.disp.order

/-- Take it. -/
def State.takeOrder (s : State) : State := { s with disp := { s.disp with order := s.disp.order + 1 } }

/-- Entry of an instance's overflow flow (R236). -/
def overflowEntry (i : Nat) : Nat := 1044480 + i

/-- A flow's record; an overflow flow is always live. -/
def State.flowOf (s : State) (f : Nat) : Flow :=
  match s.disp.flows.get? f with
  | some x => x
  | none => { inst := f - 1044480 }

/-- Change a flow. -/
def State.modFlow (f : Nat) (g : Flow → Flow) (s : State) : State :=
  { s with disp := { s.disp with flows := s.disp.flows.set f (g (s.flowOf f)) } }

/-- Items that a flow holds. -/
def State.inFlow (s : State) (f : Nat) : Tbl Item := s.disp.items.filter (fun e => e.2.flow == f)

/-- The live allocated entry of a flow key (R235). -/
def State.findFlow (s : State) (i : Nat) (parallel : Bool) (space : Nat) (value : Bytes) : Option Nat :=
  (s.disp.flows.find? (fun e => decide (e.1 < 1044480) && e.2.inst == i && e.2.parallel == parallel && e.2.space == space &&
    e.2.value == value)).map Prod.fst

/-- Live allocated flows and saved contexts of an instance, which count against its flow quota (R237, R331). -/
def State.flowsOf (s : State) (i : Nat) : Nat :=
  (s.disp.flows.filter (fun e => decide (e.1 < 1044480) && e.2.inst == i)).length + (s.eng.ctxs.filter (fun e => e.2.inst == i)).length

/-- Free entries of a key's bucket (R236). -/
def State.freeEntries (s : State) (i : Nat) (parallel : Bool) (space : Nat) (value : Bytes) : List Nat :=
  let b := Config.flowHash s.disp.hashKey (be 2 i ++ [BitVec.ofNat 8 (b2n parallel)] ++ be 2 space ++ value) % 130560
  ((List.range 8).map (fun k => 8 * b + k)).filter (fun e => !s.disp.flows.has e && !s.eng.ctxs.has e)

/-- Allocate a flow (R237); which free entry of the bucket is the device's choice (log 1). None: allocation fails. -/
def State.allocFlow (i : Nat) (parallel : Bool) (space : Nat) (value : Bytes) (s : State) : Option (Nat × State) :=
  let es := s.freeEntries i parallel space value
  if es.isEmpty || decide ((s.instOf i).d.lim.flows ≤ s.flowsOf i) || !(s.inFlow (overflowEntry i)).isEmpty then none
  else
    let f := es.getD (s.drawnNat es.length) 0
    let s := s.spend 8
    let x : Flow := { inst := i, space := space, parallel := parallel, value := value, emptyAt := s.tick.count }
    let s := { s with disp := { s.disp with flows := s.disp.flows.set f x } }
    some (f, s.touch 5 f)

/-- The flow of a key for a joining item: found, allocated, or the overflow flow (R237). -/
def State.joinFlow (i : Nat) (parallel : Bool) (space : Nat) (value : Bytes) (s : State) : Nat × State :=
  match s.findFlow i parallel space value with
  | some f => (f, s)
  | none => match s.allocFlow i parallel space value with
    | some r => r
    | none =>
      let s := s.bump oDispFlowOverflow
      let s := s.when (!s.disp.overflowSeen) (fun s => s.raise 5 oDispIrq 1)
      (overflowEntry i, { s with disp := { s.disp with overflowSeen := true } })

/-- Enter an item, queued in its flow. -/
def State.addItem (x : Item) (s : State) : State :=
  let s := s.modInst x.inst (fun y => { y with quietWas := false })
  { s with disp := { s.disp with items := s.disp.items.set s.disp.nextItem { x with stage := .queued }, nextItem := s.disp.nextItem + 1 } }

/-! ### From the flow to the ready list (R239-R241, R248, R249) -/

/-- No item of the atomic flow is admitted, on a ready list or waiting its turn. -/
def State.flowIdle (s : State) (f n : Nat) : Bool :=
  (s.inFlow f).all (fun e => e.1 == n || (!e.2.admitted && e.2.stage == .queued))

/-- The item is eligible (R239, R241): always in a parallel flow; in an atomic one at the head with nothing admitted. -/
def State.eligible (s : State) (n : Nat) (x : Item) : Bool :=
  x.stage == .queued && !x.admitted &&
    ((s.flowOf x.flow).parallel || (s.flowIdle x.flow n && (s.inFlow x.flow).all (fun e => decide (n ≤ e.1))))

/-- The target frond of an eligible item and the flow after it; none: no permitted frond (R248, R249, R255). -/
def State.target (s : State) (x : Item) : Option (Nat × Flow × Bool) :=
  let fl := s.flowOf x.flow
  let home? : Option (Nat × Bool) := match fl.home with
    | some h => if s.permittedFor x h then some (h, false) else if fl.pinned then none else (s.newHome x).map (fun g => (g, true))
    | none => match fl.hint with
      | some g => if s.permittedFor x g then some (g, false) else (s.newHome x).map (fun g => (g, false))
      | none => (s.newHome x).map (fun g => (g, false))
  match home? with
  | none => none
  | some (h, moved) =>
    let fl1 := { fl with home := some h }
    if fl.pinned || decide (s.backlog h ≤ s.cfg.disp.affinity) then some (h, fl1, moved)
    else match s.leastBacklog ((List.range 16).filter (s.permittedFor x)) with
      | none => some (h, fl1, moved)
      | some g => if fl.parallel then some (g, fl1, moved) else some (g, { fl with home := some g }, moved || g != h)

/-- Put an eligible item on the ready list of its target frond. -/
def State.enterReady (n : Nat) (s : State) : State :=
  match s.item? n with
  | none => s
  | some x =>
    if !s.eligible n x then s
    else match s.target x with
      | none => s
      | some (f, fl, moved) =>
        let s := (s.modFlow x.flow (fun _ => fl)).when moved (fun s => s.bump64 oDispHomeMoves 1)
        (s.modItem n (fun x => { x with stage := .ready, frond := f, order := s.nextOrder })).takeOrder

/-- A ready item that may no longer be admitted where it stands goes back to its flow: its frond is not permitted any more, or a
moved message went ahead of it in an atomic flow (R240, R248). -/
def State.leaveReady (n : Nat) (s : State) : State :=
  match s.item? n with
  | none => s
  | some x =>
    if x.stage == .ready && (!s.permittedFor x x.frond ||
        (!(s.flowOf x.flow).parallel && (s.inFlow x.flow).any (fun e => e.1 != n && e.2.admitted)))
    then s.modItem n (fun x => { x with stage := .queued }) else s

/-! ### The wait pool (R246) -/

/-- Make an admitted item a resumed item. -/
def State.resume (n : Nat) (s : State) : State :=
  (s.modItem n (fun x => { x with stage := .resumed, order := s.nextOrder, mask := 0, flags := 0 })).takeOrder

/-- Park an item until the events of a mask. -/
def State.park (n mask : Nat) (s : State) : State :=
  s.modItem n (fun x => { x with stage := .parked, mask := mask, flags := 0 })

/-- An event concerns an item: its flag is set, and it resumes when all it waits for have come. `st`: a failure it reads. -/
def State.event (n k : Nat) (st : Option Status) (s : State) : State :=
  match s.item? n with
  | none => s
  | some x =>
    if x.stage != .parked then s
    else
      let fl := setBit x.flags k
      let s := s.modItem n (fun x => { x with flags := fl, waitSt := match st with | none => x.waitSt | some e => some e })
      if fl &&& x.mask = x.mask then s.resume n else s

/-- The flags of Table 8.2. -/
def evPage : Nat := 0
def evSegment : Nat := 1
def evAck : Nat := 2
def evMailbox : Nat := 3
def evJournal : Nat := 4
def evClaim : Nat := 5
def evCredit : Nat := 6
def evTurn : Nat := 7

/-- Messages that SET_FLOW moved take their turn (R240): no other item of the flow is admitted and past its own turn. -/
def State.turn (n : Nat) (s : State) : State :=
  match s.item? n with
  | none => s
  | some x =>
    if x.moved && (s.inFlow x.flow).all (fun e => e.1 == n || !e.2.admitted || (e.2.moved && decide (x.order < e.2.order)))
    then (s.modItem n (fun x => { x with moved := false })).event n evTurn none else s

/-- Bring the flows up to date: turns, items that leave or enter the ready lists. -/
def State.pump (s : State) : State :=
  let ns := s.disp.items.map Prod.fst
  let s := ns.foldl (fun s n => s.turn n) s
  let s := ns.foldl (fun s n => s.leaveReady n) s
  ns.foldl (fun s n => s.enterReady n) s

/-! ### Credit buckets and cost (R243, R244) -/

/-- Charge an instance's buckets as work runs. -/
def State.charge (i cipher field pk : Nat) (s : State) : State :=
  s.modInst i (fun x => { x with cipher := x.cipher - cipher, field := x.field - field, pk := x.pk - pk })

/-- The estimate of an item's field operations (R243). -/
def State.estimate (s : State) (x : Item) : Nat :=
  if x.transit then match s.disp.estim.get? x.seam with
    | some (_, _, e) => e
    | none => 8 * (s.seamOf x.seam).stitches.length
  else 8

/-- Every bucket the item needs is positive (R244; log 17). -/
def State.hasCredit (s : State) (x : Item) : Bool :=
  let y := s.instOf x.inst
  let fns := if x.transit then s.seamFns x.seam else [x.inv]
  decide (0 < y.field) && (!fns.any (fun v => !isPkFn v) || decide (0 < y.cipher)) && (!fns.any isPkFn || decide (0 < y.pk))

/-- The key of a deficit: frond, class, instance. -/
def deficitKey (f c i : Nat) : Nat := f * 2 ^ 16 + c * 2 ^ 12 + i

/-! ### The end of an item -/

/-- A message of a session has ended: its credit is free (R274). -/
def State.creditBack (n : Nat) (s : State) : State := s.modSess n (fun x => { x with held := x.held - 1 })

/-- The job serves the item. -/
def PkJob.serves (j : PkJob) (n : Nat) : Bool :=
  match j.purpose with
  | .item m => m == n
  | .deferred m _ => m == n
  | .receipt _ => false

/-- An item ends: what it holds is released; it leaves its flow and the device. -/
def State.endItem (n : Nat) (s : State) : State :=
  match s.item? n with
  | none => s
  | some x =>
    let s := match x.used1 with | none => s | some k => s.release k false
    let s := match x.used2 with | none => s | some k => s.release k false
    let s := x.deferred.foldl (fun s d => d.uses.foldl (fun s u => s.release u.1 false) s) s
    let s := match x.sess with | none => s | some k => s.creditBack k
    let s := { s with disp := { s.disp with items := s.disp.items.erase n },
                      eng := { s.eng with
                        ctxs := s.eng.ctxs.mapT (fun _ c => if c.holder = some n then { c with holder := none, lastUse := s.tick.count } else c),
                        jobs := s.eng.jobs.mapT (fun _ j => if j.serves n then { j with abandoned := true } else j) } }
    if (s.inFlow x.flow).isEmpty then
      { s with disp := { s.disp with flows := s.disp.flows.modify x.flow (fun f => { f with emptyAt := s.tick.count }) } }
    else s

end Sys2Proof.Machine
end

