-- ==== Sys2Proof/Machine/HqOps.lean ====
section
/-! DEFINITION. Sending on sessions (R274, R277, R288), writes through a VF with the dirty-page log (R395, R396), and how service
requests complete over PCIe and HTT (R277, R303, R308, R309). -/

namespace Sys2Proof.Machine

/-! ### DATA frames out -/

/-- The peer's grant allows one more DATA frame in this device's phase (R274). -/
def State.canSend (s : State) (n : Nat) : Bool :=
  let x := s.sessOf n
  x.st == .opened && !x.keyTx.isEmpty && decide ((if x.txPhase = s.phase then x.txData else 0) < (if x.txPhase = s.phase then x.limit else 0))

/-- The sub-port of a session sends: up, and protected where it must be (R336). -/
def State.sessUp (s : State) (n : Nat) : Bool :=
  let x := s.sessOf n
  s.subUp x.port x.sub && s.mayProtect x.port x.sub

/-- Send a DATA frame whole (R271, R274). -/
def State.sendData (n flags : Nat) (b : Bytes) (s : State) : State :=
  let x := s.sessOf n
  let (hdr, c, x') := s.sealFrame n x 0x01 flags b
  ((s.modSess n (fun _ => x')).putHtt n hdr c false).checkSeq n

/-! ### Writes through a VF (R395, R396) -/

/-- The log of instance `i` runs. -/
def State.logOn (s : State) (i : Nat) : Bool := decide (0 < i ∧ i < 4096) && bit (s.reg (instReg oInstLogControl i)) 0

/-- Log one page (R395): not among the 64 most recent; with the ring full, or PF0 unable to write, OVERFLOW. -/
def State.logPage (i page kind : Nat) (s : State) : State :=
  let x := s.instOf i
  if !s.logOn i || x.logRecent.contains page then s
  else
    let size := 2 ^ s.fld (instReg oInstLogSize i) 4 0
    if (x.logTail + 1) % size = x.logHead || !s.mayDma 0 then
      (s.when (!x.logOver) (fun s => s.raise 4 (instReg oInstIrq i) 3)).modInst i (fun x => { x with logOver := true })
    else
      let s := s.hostWrite 0 (s.reg (instReg oInstLogBase i) + 8 * x.logTail) (le 8 (page * 4096 + kind))
      s.modInst i (fun x => { x with logTail := (x.logTail + 1) % size, logRecent := (x.logRecent ++ [page]).drop (x.logRecent.length - 63),
                                     logCount := x.logCount + 1 })

/-- Pages that `n` bytes at an address touch. -/
def pagesOf (addr n : Nat) : List Nat :=
  if n = 0 then [] else (List.range ((addr + n - 1) / 4096 + 1 - addr / 4096)).map (fun k => addr / 4096 + k)

/-- Write host memory through function `i` and log the pages: kind 1 output data, 2 completion entry, 3 mailbox slot. -/
def State.vfWrite (i addr : Nat) (b : Bytes) (kind : Nat) (s : State) : State :=
  (pagesOf addr b.length).foldl (fun s p => s.logPage i p kind) (s.hostWrite i addr b)

/-- Write a prefix of an operand's data elements (R305, R309). -/
def State.writeElems (i : Nat) : Elements → Bytes → State → State
  | [], _, s => s
  | (a, n) :: es, b, s => if b.isEmpty then s else (s.vfWrite i a (b.take n) 1).writeElems i es (b.drop n)

/-! ### Instance errors (R387, R388) -/

/-- A fault attributed to instance `i`, taken at the next tick boundary; the first cause of the tick stands. -/
def State.instFault (i cause : Nat) (s : State) : State :=
  s.modInst i (fun x => { x with erring := match x.erring with | none => some cause | some c => some c })

/-! ### Queue pairs -/

/-- Requests of a queue pair that have not completed. -/
def State.qpItems (s : State) (q : Nat) : Tbl Item := s.disp.items.filter (fun e => e.2.qp == some q)

/-- A draining queue pair with nothing left is gone (R317). -/
def State.reapQueue (q : Nat) (s : State) : State :=
  match s.queues.get? q with
  | none => s
  | some x => if !x.active && (s.qpItems q).isEmpty then { s with queues := s.queues.erase q } else s

/-- Write a completion (R303, R308): status, fault operand, flag UNVERIFIED, O0 bytes, and O1 bytes or the element. -/
def State.completeQp (q : Nat) (st : Status) (operand : Nat) (unver : Bool) (tag o0 o1 : Nat) (raise : Bool) (s : State) : State :=
  match s.queues.get? q with
  | none => s
  | some x =>
    let s := s.tally st.code
    if !s.mayDma x.fn then State.instFault x.fn 2 { s with queues := s.queues.set q { x with faulted := true } }
    else
      let b := le 2 st.code ++ [BitVec.ofNat 8 operand, BitVec.ofNat 8 (b2n x.phase + 2 * b2n unver)] ++ le 4 tag ++ le 4 o0 ++ le 4 o1
      let s := s.vfWrite x.fn (x.cqBase + 16 * x.cqTail) b 2
      let t := (x.cqTail + 1) % 2 ^ x.cqLog
      let s := { s with queues := s.queues.set q { x with cqTail := t, phase := if t = 0 then !x.phase else x.phase } }
      if raise then s.cqMsix x.fn x.vector else s

/-! ### The end of a service request -/

/-- An HTT response (Table 9.8). -/
def responseBytes (rid : Nat) (st : Status) (o0 o1 : Bytes) : Bytes :=
  be 4 rid ++ be 2 st.code ++ zeros 2 ++ be 2 o0.length ++ be 2 o1.length ++ zeros 4 ++ padTo (roundUp o0.length 8) o0 ++
    padTo (roundUp o1.length 8) o1

/-- Send a response, or keep the item until the session grants credit (R277). -/
def State.respondHtt (n k : Nat) (st : Status) (b : Bytes) (s : State) : State :=
  if (s.sessOf k).st != .opened then (s.bump (portReg oPortUndeliverable (s.sessOf k).port)).endItem n
  else if s.canSend k then ((s.sendData k 3 b).tally st.code).endItem n
  else (s.modItem n (fun x => { x with lateResponse := some (s.tick.count, b), result := none })).park n (setBit 0 evCredit)

/-- A service request ends with a status, the outputs, and for a fault the operand and element. `wrote`: O0 is already in host memory
up to this many bytes. -/
def State.endService (n : Nat) (st : Status) (o0 o1 : Bytes) (wrote : Option Nat) (fault : Option (Nat × Nat)) (unver : Bool)
    (s : State) : State :=
  match s.item? n with
  | none => s
  | some x => match x.qp, x.sess with
    | some q, _ =>
      let fn := ((s.queues.get? q).getD {}).fn
      let s := match wrote with | none => s.writeElems fn (x.bufs.getD 6 []) o0 | some _ => s
      let s := if fault.isNone then s.writeElems fn (x.bufs.getD 7 []) o1 else s
      let n0 := match wrote with | none => o0.length | some k => k
      let (op, third) := match fault with | none => (0, o1.length) | some (o, e) => (o, e)
      ((s.completeQp q st op unver x.tag n0 third x.raise).endItem n).reapQueue q
    | none, some k => s.respondHtt n k st (responseBytes x.reqId st o0 o1)
    | none, none => s.endItem n

/-- A service request that fails with nothing written. -/
def State.failService (n : Nat) (st : Status) (s : State) : State := s.endService n st [] [] none none false

end Sys2Proof.Machine
end

