-- ==== Sys2Proof/Machine/Attest.lean ====
section
/-! DEFINITION. Keys derived from the device's secrets (R94, R332, R372) and attestation statements (R373). -/

namespace Sys2Proof.Machine

/-! ### Derived keys -/

/-- The storage key (R94); an erased tamper-erasable secret derives nothing that anything was sealed under. -/
def State.storageKey (s : State) : Bytes := kdf108 Config.deviceSecret (ascii "LV5120 STORAGE") (s.bat.secret.getD []) 32

/-- The page key of an instance number and incarnation (R94). -/
def State.pageKey (s : State) (i inc : Nat) : Bytes := kdf108 s.storageKey (ascii "PAGE") (be 2 i ++ be 4 inc) 32

/-- The context key of an instance (R332). -/
def State.contextKey (s : State) (i : Nat) : Bytes := kdf108 s.storageKey (ascii "CONTEXT") (be 2 i ++ be 4 (s.instOf i).d.inc) 32

/-- The ECDSA P-384 identity key (R372; log 9). -/
def identityEc : Bytes := Config.pkGenerate algEc 2 (kdf108 Config.deviceSecret (ascii "IDENTITY P384") [] 32)

/-- The ML-DSA-87 identity key (R372; log 9). -/
def identityDsa : Bytes := Config.pkGenerate algDsa 3 (kdf108 Config.deviceSecret (ascii "IDENTITY MLDSA87") [] 32)

/-- Their public parts. -/
def identityEcPub : Bytes := Config.pkPublic algEc 2 identityEc
/-- The ML-DSA-87 public key. -/
def identityDsaPub : Bytes := Config.pkPublic algDsa 3 identityDsa

/-- The identity hash (R372). -/
def identityHash : Bytes := sha3 32 (identityEcPub ++ identityDsaPub)

/-- A signature by the P-384 identity key, its draw at a position of the free values. -/
def signEc (msg : Bytes) (pos : Nat) : Bytes := Config.pkSign algEc 2 optEcdsa384 identityEc msg [] (freeBytes pos 48)

/-- A signature by the ML-DSA-87 identity key. -/
def signDsa (msg context : Bytes) (pos : Nat) : Bytes := Config.pkSign algDsa 3 optMlDsa identityDsa msg context (freeBytes pos 32)

/-! ### CBOR (RFC 8949, core deterministic; log 10) -/

/-- The head of an item of a major type. -/
def cborHead (major n : Nat) : Bytes :=
  let t (k : Nat) : Byte := BitVec.ofNat 8 (major * 32 + k)
  if n < 24 then [t n] else if n < 256 then t 24 :: be 1 n else if n < 65536 then t 25 :: be 2 n
  else if n < 2 ^ 32 then t 26 :: be 4 n else t 27 :: be 8 n

/-- Unsigned integer. -/
def cborUint (n : Nat) : Bytes := cborHead 0 n
/-- Byte string. -/
def cborBytes (b : Bytes) : Bytes := cborHead 2 b.length ++ b
/-- Array. -/
def cborArray (xs : List Bytes) : Bytes := cborHead 4 xs.length ++ xs.flatten
/-- Map of claims in the order of their keys. -/
def cborMap (xs : List (Nat × Bytes)) : Bytes := cborHead 5 xs.length ++ xs.flatMap (fun e => cborUint e.1 ++ e.2)

/-- The protected header: algorithm −1 − n and the identity hash. -/
def coseHeader (n : Nat) : Bytes := cborMap [(1, cborHead 1 n), (4, cborBytes identityHash)]

/-- The Sig_structure of RFC 9052. -/
def sigStructure (header payload : Bytes) : Bytes :=
  cborArray [cborHead 3 10 ++ ascii "Signature1", cborBytes header, cborBytes [], cborBytes payload]

/-- A COSE_Sign1 message with tag 18. -/
def coseSign1 (header payload sig : Bytes) : Bytes := cborHead 6 18 ++ cborArray [cborBytes header, cborMap [], payload, cborBytes sig]

/-! ### The statement (R373, Table 13.10) -/

/-- The claims of a statement. -/
def State.claims (s : State) (device : Bool) (i : Nat) (nonce : Bytes) : Bytes :=
  let d := (s.instOf i).d
  let ros := sha384 d.roster
  let own : List (Nat × Bytes) := if device then [] else
    [(20, cborUint i), (21, cborUint d.inc), (22, cborUint d.counter), (23, cborBytes ros),
     (24, cborBytes (sha384 (be 2 i ++ be 4 d.inc ++ be 6 d.counter ++ ros ++ be 4 d.base ++ be 4 d.p ++ be 4 d.k)))]
  cborMap
    ([(1, cborUint (b2n device)), (2, cborUint Config.deviceSerial.toNat), (3, cborBytes identityHash), (4, cborUint s.prot.life),
      (5, cborUint s.fuses.sensed), (6, cborUint s.bat.sticky), (7, cborBytes s.dev.romDigest), (8, cborBytes s.dev.fwDigest),
      (9, cborBytes s.last.measure), (10, cborArray [cborUint s.drec.floor, cborUint s.last.serial, cborUint s.last.amendSerial]),
      (11, cborUint s.drec.counter), (12, cborBytes (match s.drec.domain with | none => zeros 32 | some a => a.ident)),
      (13, cborUint s.drec.claim)] ++ own ++
     [(30, cborBytes nonce), (31, cborUint s.tick.count), (32, cborUint s.bat.cycles), (33, cborUint s.bat.hours)])

/-- An attestation statement, drawn at position `pos` of the free values. -/
def State.statement (s : State) (device : Bool) (i : Nat) (nonce : Bytes) (pos : Nat) : Bytes :=
  let payload := s.claims device i nonce
  let h1 := coseHeader 34
  let h2 := coseHeader 49
  cborArray [coseSign1 h1 (cborBytes payload) (signEc (sigStructure h1 payload) pos),
             coseSign1 h2 [0xF6#8] (signDsa (sigStructure h2 payload) [] (pos + 48))]

end Sys2Proof.Machine
end

