-- ==== Sys2Proof/Machine/PkOps.lean ====
section
/-! DEFINITION. Public-key jobs (R342-R353): their segments, frames and places, and the order in which segments start. -/

namespace Sys2Proof.Machine

/-- The algorithm and length byte of the key that a job works with, as the handle's slot shows it before the key is checked. -/
def State.jobKey (s : State) (v : Invoc) : Nat × Nat :=
  if v.fn = 0x0A01 then (v.p2 % 256, v.p2 / 256 % 256)
  else if v.fn = 0x0902 ∧ v.k1 = 0 then (algKem, v.opts / 16 % 4)
  else match s.key? (hSlot v.k1) with
    | some r => (r.alg, r.len)
    | none => (algEc, 1)

/-- Segments of a private operation, `i` signing iterations (Table 12.1). -/
def privateSegs (alg len i : Nat) : Nat :=
  let t (xs : List Nat) : Nat := xs.getD (len - 1) 1
  if alg = algRsa then t [183, 549, 1220] else if alg = algEc then t [25, 61, 147] else if alg = algEd then t [19, 46]
  else if alg = algX then 19 else if alg = algDsa then t [3 + 3 * i + 9, 4 + 4 * i + 13, 6 + 6 * i + 20] else t [8, 11, 16]

/-- Segments of a public operation (Table 12.1). -/
def publicSegs (alg len : Nat) : Nat :=
  let t (xs : List Nat) : Nat := xs.getD (len - 1) 1
  if alg = algRsa then t [8, 15, 30] else if alg = algEc then t [37, 92, 220] else if alg = algEd then t [30, 74]
  else if alg = algDsa then t [9, 13, 20] else if alg = algKem then t [7, 10, 14] else 19

/-- Segments that building a point-cache entry adds (R346). -/
def pointSegs (alg len : Nat) : Nat :=
  if alg = algEc then [8, 20, 48].getD (len - 1) 0 else if alg = algEd then [8, 20].getD (len - 1) 0 else 0

/-- Frames of a job (Table 12.2). -/
def jobFrames (fn alg len : Nat) : Nat :=
  if fn = 0x0C01 then 13 else if alg = algRsa then (if len = 1 then 1 else 2)
  else if alg = algDsa then [6, 8, 12].getD (len - 1) 12 else if alg = algKem then 3 else 1

/-- The job runs on lattice units. -/
def latticeAlg (alg : Nat) : Bool := alg == algDsa || alg == algKem

/-- Segments of an invocation, and the segments of them that an ATTEST leaves to the lattice units. `i`: its signing iterations;
`cached`: the frond's point cache holds the key (R343-R346). -/
def jobSegs (v : Invoc) (alg len i : Nat) (cached half : Bool) : Nat × Nat :=
  let n := match v.fn with
    | 0x0801 => privateSegs alg len i + (if cached then 0 else pointSegs alg len)
    | 0x0802 => publicSegs alg len
    | 0x0901 => if alg = algX then 19 else [30, 74, 183].getD (len - 1) 30
    | 0x0902 => publicSegs algKem len
    | 0x0903 => privateSegs algKem len i
    | 0x0A01 => if alg = algDsa ∨ alg = algKem then publicSegs alg len + privateSegs alg len i else 2 * privateSegs alg len i
    | 0x0A02 => privateSegs alg len i
    | 0x0A03 => publicSegs alg len
    | _ => 87 + 6 * i
  let m := if v.fn = 0x0C01 then 26 + 6 * i else 0
  if half then (2 * n, 2 * m) else (n, m)

/-- Big-number engines or lattice units of a frond in service. -/
def State.pkEngines (s : State) (f : Nat) (lattice : Bool) : Nat :=
  if lattice then ((List.range 2).filter (fun k => s.engineOn 6 s.cfg.enables.lattice (2 * f + k))).length
  else ((List.range 4).filter (fun k => s.engineOn 5 s.cfg.enables.bignum (4 * f + k))).length

/-- Bounded places of a kind on a frond (R350). -/
def State.places (s : State) (f : Nat) (lattice : Bool) : Nat :=
  let per := if s.cfg.timing.period = 0 then 800 / 700 else s.tickCycles / 1400
  let n := s.pkEngines f lattice * per
  if lattice && s.cfg.timing.period == 4 then min n 8 else n

/-- The bounded reserve of a frond (R350). -/
def State.reserve (s : State) (f : Nat) : Nat := 2 * s.places f false + 12 * s.places f true

/-- Jobs of a frond that a test picks. -/
def State.jobsOn (s : State) (f : Nat) (p : PkJob → Bool) : Tbl PkJob := s.eng.jobs.filter (fun e => e.2.frond == f && p e.2)

/-- The first job in queue order (R349): bounded before unbounded, each in request order. -/
def State.firstQueued (s : State) (f : Nat) : Option (Nat × PkJob) :=
  match (s.jobsOn f (fun j => !j.placed && j.bounded)).head? with
  | some e => some e
  | none => (s.jobsOn f (fun j => !j.placed)).head?

/-- Its places and frames are free and its instance's bucket is positive (R349, R350). -/
def State.mayPlace (s : State) (j : PkJob) : Bool :=
  let on := s.jobsOn j.frond (fun x => x.placed)
  let frames (b : Bool) : Nat := (on.filter (fun e => e.2.bounded == b)).foldl (fun a e => a + e.2.frames) 0
  let count (b : Bool) : Nat := (on.filter (fun e => e.2.bounded == b && e.2.lattice == j.lattice)).length
  decide (0 < (s.instOf j.inst).pk) &&
    (if j.bounded then decide (count true < s.places j.frond j.lattice)
     else decide (frames false + j.frames + s.reserve j.frond ≤ 192) && decide (count false < 4 * s.pkEngines j.frond j.lattice))

/-- A bounded job waits for a place: counted once for a job (R350, R355). -/
def State.noteWait (k : Nat) (j : PkJob) (s : State) : State :=
  if !j.bounded || j.waited != 0 then s
  else
    let s := { s with eng := { s.eng with jobs := s.eng.jobs.set k { j with waited := 1 } } }
    let s := (s.bump oPkPlaceWaits).when (!s.disp.waitSeen) (fun s => s.raise 11 oPkIrq 1)
    { s with disp := { s.disp with waitSeen := true } }

/-- Better in the order of R351. -/
def runsBefore (now : Nat) (a b : PkJob) : Bool :=
  let aged (j : PkJob) : Bool := !j.bounded && decide (j.lastRun + 8 ≤ now)
  if a.bounded != b.bounded then a.bounded
  else if a.bounded then decide (a.order < b.order)
  else if aged a != aged b then aged a
  else if aged a then decide (a.lastRun < b.lastRun)
  else decide (a.left < b.left) || (a.left == b.left && decide (a.order < b.order))

/-- Start segments on idle engines of a kind on a frond (R351), within `fuel`. -/
def State.startSegments (f : Nat) (lattice : Bool) : Nat → State → State
  | 0, s => s
  | n + 1, s =>
    let kind := if lattice then 6 else 5
    let testing := (s.fab.engTests.filter (fun u => u / 4096 == kind && u % 4096 / kindPer kind == f)).length
    let busy := (s.jobsOn f (fun j => j.running && j.lattice == lattice)).length
    if s.pkEngines f lattice ≤ busy + testing then s
    else
      let cand := s.jobsOn f (fun j => j.placed && !j.running && j.lattice == lattice)
      match cand.foldl (fun b e => match b with
          | none => some e
          | some c => if runsBefore s.tick.count e.2 c.2 then some e else some c) none with
      | none => s
      | some (k, j) =>
        let aged := !j.bounded && decide (j.lastRun + 8 ≤ s.tick.count)
        let s := s.when aged (fun s => s.bump oPkAged)
        let j := { j with running := true, stamp := s.nextOrder }
        ({ s with eng := { s.eng with jobs := s.eng.jobs.set k j } }.takeOrder).startSegments f lattice n

/-- The running job of a kind on a frond whose segment began first. -/
def State.runningJob (s : State) (f : Nat) (lattice : Bool) : Option (Nat × PkJob) :=
  (s.jobsOn f (fun j => j.running && j.lattice == lattice)).foldl (fun b e => match b with
    | none => some e
    | some c => if e.2.stamp < c.2.stamp then some e else some c) none

/-- The point cache of a frond holds a key. -/
def State.cached (s : State) (f h : Nat) : Bool := s.eng.points.contains (f, h)

/-- Use or build a point-cache entry (R346): at most 128 for a frond, the least recently used one dropped. -/
def State.usePoint (f h : Nat) (s : State) : State :=
  let mine := s.eng.points.filter (fun e => e.1 == f && e.2 != h)
  let rest := s.eng.points.filter (fun e => e.1 != f)
  let built := !s.cached f h
  let mine := if 128 ≤ mine.length then mine.drop 1 else mine
  ({ s with eng := { s.eng with points := rest ++ mine ++ [(f, h)] } }).when built (fun s => s.bumpF oPkPointCache 31 0 1)

end Sys2Proof.Machine
end

