-- ==== Sys2Proof/Machine/Invoke.lean ====
section
/-! DEFINITION. The evaluation of an invocation (R105-R108) with its keys, holds and uses (R69, R72, R73), its saved context (R325-R334),
its public-key job (R349, R351, R354), and its end. -/

namespace Sys2Proof.Machine

/-! ### Steps 1 to 4 -/

/-- The checks before any key: R105 steps 1 to 4, R314, R323. `unver`: the request carries UNVERIFIED_RELEASE. -/
def State.formStep (s : State) (v : Invoc) (unver : Bool) : Option Status :=
  match fnSpec v.fn with
  | none => some .badOpcode
  | some f =>
    match f.form (if unver then { v with flags := setBit v.flags 15 } else v) with
    | some st => some st
    | none =>
      if v.fn = 0x0604 ∧ !unver ∧ 1048576 < (v.inp 0).length - aeadTagLen v then some .lengthLimit
      else match halfTickFail (s.cfg.timing.period == 0) v with
        | some st => some st
        | none => s.kindFail v

/-! ### Saved contexts (R325-R334) -/

/-- The entry a context ID names, with its context, for a caller. -/
def State.ctxOf (s : State) (i id : Nat) : Option (Nat × CipherCtx) :=
  let e := id % 2 ^ 20
  match s.eng.ctxs.get? e with
  | none => none
  | some x => if x.inst = i ∧ x.reuse = id / 2 ^ 20 then some (e, x) else none

/-- The ID of a context (R331). -/
def ctxId (e : Nat) (x : CipherCtx) : Nat := x.reuse * 2 ^ 20 + e

/-- Free a context. -/
def State.freeCtx (e : Nat) (s : State) : State := { s with eng := { s.eng with ctxs := s.eng.ctxs.erase e } }

/-- Allocate a context in a free allocatable entry, which one is the device's choice (R331; log 1). -/
def State.newCtx (i : Nat) (x : CipherCtx) (s : State) : Option (Nat × State) :=
  if (s.instOf i).d.lim.flows ≤ s.flowsOf i ∨ 262144 ≤ s.eng.ctxs.length then none
  else
    let tries := s.disp.flows.length + s.eng.ctxs.length + 1
    let k := s.drawnNat 1044480
    let cand := ((List.range tries).map (fun j => (k + j) % 1044480)).filter (fun e => !s.disp.flows.has e && !s.eng.ctxs.has e)
    match cand.head? with
    | none => none
    | some e =>
      let r := s.eng.ctxReuse.getD e 0
      let x := { x with inst := i, reuse := r, lastUse := s.tick.count }
      let s := { s with eng := { s.eng with ctxs := s.eng.ctxs.set e x, ctxReuse := s.eng.ctxReuse.set e ((r + 1) % 4096) } }
      some (ctxId e x, s.spend 8)

/-- The checks of a piece with RESUME (R326). -/
def State.resumeStep (s : State) (n i : Nat) (v : Invoc) : Except Status (Option (Nat × CipherCtx)) :=
  if !([0x0601, 0x0602, 0x0603, 0x0604].contains v.fn && isResume v) then .ok none
  else match s.ctxOf i (v.p1 % 2 ^ 32) with
    | none => .error .contextUnknown
    | some (e, x) =>
      if x.holder.isSome && x.holder != some n then .error .busy
      else if x.fn != v.fn || x.opts != v.opts % 0x4000 || x.k1 != v.k1 || x.k2 != v.k2 then .error .badFieldValue
      else .ok (some (e, x))

/-! ### Step 5 -/

/-- What taking the keys of an invocation gives. -/
inductive KeysOut where
  | got (k1 k2 : KeyRec)
  | page (p : Nat)
  | fail (st : Status)
  deriving DecidableEq, Repr

/-- Check one role's key and take its hold; none held where the key is not counted. -/
def State.takeKey (h i : Nat) (resolve : Bool) (r : Role) (s : State) : KeysOut × Option Nat × State :=
  let s := s.decisions 2
  match s.checkKey h i resolve true r.usage r.algOk with
  | .page p => (.page p, none, s)
  | .bad slot => (.fail .keySlotBad, none, s.markBad slot)
  | .fail st =>
    let waits := match s.key? (hSlot h) with | none => false | some k => st == .busy && waitsForFigure k
    (.fail st, none, s.when waits (fun s => s.bump oKsReserveWaits))
  | .key k => if k.counted then (.got k {}, some (hSlot h), s.hold (hSlot h)) else (.got k {}, none, s)

/-- Check the roles in order; a later failure releases an earlier hold (R105 step 5). -/
def State.takeKeys (i : Nat) (v : Invoc) (resolve : Bool) (roles : List Role) (s : State) :
    KeysOut × Option Nat × Option Nat × State :=
  match roles with
  | [] => (.got {} {}, none, none, s)
  | r1 :: rest =>
    match s.takeKey v.k1 i resolve r1 with
    | (.got k1 _, h1, s1) =>
      match rest with
      | [] => (.got k1 {}, h1, none, s1)
      | r2 :: _ =>
        match s1.takeKey v.k2 i resolve r2 with
        | (.got k2 _, h2, s2) => (.got k1 k2, h1, h2, s2)
        | (o, _, s2) => (o, none, none, match h1 with | none => s2 | some k => s2.release k false)
    | (o, _, s1) => (o, none, none, s1)

/-- The key of a handle is not resident and lies in a page. -/
def State.inPage (s : State) (h p : Nat) : Bool := match s.locate h with | .error (.page q) => p == q | _ => false

/-! ### Steps 6 and 7 -/

/-- The bytes prepared for ATTEST and CONTEXT_EXPORT. -/
def State.prepared (s : State) (i : Nat) (v : Invoc) (c : Option CipherCtx) : Bytes :=
  if v.fn = 0x0C01 then s.statement (bit v.opts 0) i (v.inp 0) s.free
  else match c with
    | some x => if v.fn = 0x0605 then ctxSeal (s.contextKey i) x i (s.drawn 12) else []
    | none => []

/-- Policy and computation with the keys found; the free values drawn are spent. -/
def State.computeStep (i : Nat) (v : Invoc) (unver : Bool) (k1 k2 : KeyRec) (x : Option CipherCtx) (s : State) : FnOut × State :=
  match fnSpec v.fn with
  | none => ({ st := .badOpcode }, s)
  | some f =>
    let c : FnCtx :=
      { inv := if unver then { v with flags := setBit v.flags 15 } else v, k1 := k1, k2 := k2, seed := s.free,
        symRoom := s.symRoom i, asymRoom := s.asymRoom i, ctx := x, extra := s.prepared i v x }
    match f.policy c with
    | some st => ({ st := st }, s)
    | none =>
      if f.random v && !s.rngOk then ({ st := .rngFailed }, s)
      else
        let o := f.compute c
        let s := s.when (f.random v) (fun s => s.generate (16 + i) (max 1 o.drawn))
        let s := s.when (v.fn = 0x0B02 ∨ (v.fn = 0x0B01 ∧ bit v.opts 0)) (fun s => s.reseed (16 + i))
        (o, s.spend o.drawn)

/-- CONTEXT_EXPORT and CONTEXT_IMPORT (R333, R334). -/
def State.contextFn (n i : Nat) (v : Invoc) (s : State) : FnOut × State :=
  if v.fn = 0x0605 then
    match s.ctxOf i (v.p1 % 2 ^ 32) with
    | none => ({ st := .contextUnknown }, s)
    | some (e, x) =>
      if x.holder.isSome && x.holder != some n then ({ st := .busy }, s)
      else if x.fn = 0x0603 ∨ (x.fn != 0x0604 && x.opts % 16 == 3) then ({ st := .exportNotPermitted }, s)
      else
        let (o, s) := s.computeStep i v false {} {} (some x)
        (o, s.when (o.st = .ok) (fun s => s.freeCtx e))
  else
    match ctxOpen (s.contextKey i) i (v.inp 0) with
    | none => ({ st := .tagMismatch }, s)
    | some x => match s.newCtx i x with
      | none => ({ st := .quotaExceeded }, s)
      | some (id, s) => ({ o0 := be 4 id }, s)

/-- A first piece reserves its context before it writes anything (R331). -/
def State.openPiece (n i : Nat) (v : Invoc) (o : FnOut) (s : State) : FnOut × State :=
  if o.st = .ok ∧ isContinue v ∧ !isResume v then
    match o.ctx with
    | none => (o, s)
    | some _ => match s.newCtx i { fn := v.fn, holder := some n } with
      | none => ({ st := .quotaExceeded }, s)
      | some (id, s) => ({ o with o1 := o.o1 ++ be 4 id }, s.modItem n (fun x => { x with ctxSlot := some (id % 2 ^ 20) }))
  else if o.st = .ok ∧ isContinue v then ({ o with o1 := be 4 (v.p1 % 2 ^ 32) }, s)
  else (o, s)

/-- The charge of an invocation in cipher blocks (R244, log 17). -/
def cipherCost (v : Invoc) : Nat := if isPkFn v then 0 else max 1 (((v.inp 0).length + (v.inp 2).length + 15) / 16)

/-- Steps 5 to 7 for an item: the result is kept with the item until the invocation ends. None: the item waits for a page. -/
def State.runKeys (n i : Nat) (v : Invoc) (unver resolve : Bool) (s : State) : Option FnOut × State :=
  match s.resumeStep n i v with
  | .error st => (some { st := st }, s)
  | .ok cx =>
    if v.fn = 0x0605 ∨ v.fn = 0x0606 then let (o, s) := s.contextFn n i v; (some o, s)
    else
      let roles := match fnSpec v.fn with | none => [] | some f => f.roles v
      match s.takeKeys i v resolve roles with
      | (.page p, _, _, s) => (none, (s.askPage p n (hSlot (if s.inPage v.k1 p then v.k1 else v.k2))).park n (setBit 0 evPage))
      | (.fail st, _, _, s) => (some { st := st }, s)
      | (.got k1 k2, h1, h2, s) =>
        let s := s.modItem n (fun x => { x with used1 := h1, used2 := h2, ctxSlot := cx.map Prod.fst })
        let s := match cx with
          | none => s
          | some (e, _) => { s with eng := { s.eng with ctxs := s.eng.ctxs.modify e (fun c => { c with holder := some n, lastUse := s.tick.count }) } }
        let (o, s) := s.computeStep i v unver k1 k2 (cx.map Prod.snd)
        let (o, s) := if [0x0601, 0x0602, 0x0603, 0x0604].contains v.fn then s.openPiece n i v o else (o, s)
        (some o, s.charge i (cipherCost v) 0 0)

/-! ### The end of an invocation (R72, R73, R105 step 8, R328) -/

/-- The saved context after a piece: moved on, freed, or as it was. -/
def State.closePiece (n : Nat) (v : Invoc) (o : FnOut) (s : State) : State :=
  match s.item? n with
  | none => s
  | some x => match x.ctxSlot with
    | none => s
    | some e =>
      let s := s.modItem n (fun x => { x with ctxSlot := none })
      let first := isContinue v && !isResume v
      if o.st = .ok ∧ isContinue v then
        { s with eng := { s.eng with ctxs := s.eng.ctxs.modify e (fun c =>
          { (o.ctx.getD c) with inst := c.inst, reuse := c.reuse, holder := none, lastUse := s.tick.count }) } }
      else if first || o.st = .ok || o.st.isOutcome then s.freeCtx e
      else { s with eng := { s.eng with ctxs := s.eng.ctxs.modify e (fun c => { c with holder := none, lastUse := s.tick.count }) } }

/-- Uses and holds of an invocation that ended with a status. -/
def State.settleUses (n : Nat) (o : FnOut) (s : State) : State :=
  match s.item? n with
  | none => s
  | some x =>
    let spent := o.st = .ok || o.st.isOutcome
    let s := match x.used1 with | none => s | some k => s.release k spent
    let s := match x.used2 with | none => s | some k => s.release k (spent && o.usedK2)
    s.modItem n (fun x => { x with used1 := none, used2 := none,
                                   tainted := x.tainted || decide (0 < o.drawn) || (spent && (x.used1.isSome || x.used2.isSome)) })

/-- The invocation ends: the key it creates, its uses and its context. The outputs are those it writes; a created key's handle has the
byte order of `bigEndian` (R58). The slot of a created key is answered too. -/
def State.closeInvoc (n i : Nat) (v : Invoc) (bigEndian : Bool) (o : FnOut) (s : State) : FnOut × Option Nat × State :=
  let (o, slot, s) : FnOut × Option Nat × State := match o.newKey with
    | none => (o, none, s)
    | some k =>
      if o.st != .ok then (o, none, s)
      else match s.createKey i k with
        | .error st => ({ o with st := st }, none, s)
        | .ok (h, s) =>
          let hb := if bigEndian then be 8 h else le 8 h
          (if o.handleTo = 0 then { o with o0 := hb } else { o with o1 := hb }, some (hSlot h), s)
  let s := (s.settleUses n o).closePiece n v o
  let keep := o.st = .ok || (v.fn == 0x0604 && o.st == .tagMismatch)
  (if keep then o else { o with o0 := [], o1 := [] }, slot, s)

/-! ### Public-key jobs -/

/-- Request the job of an item's invocation (R349): it enters its frond's queue. -/
def State.requestJob (n i frond : Nat) (v : Invoc) (bounded : Bool) (s : State) : State :=
  let (alg, _) := s.jobKey v
  let j : PkJob := { purpose := .item n, inst := i, frond := frond, lattice := latticeAlg alg && v.fn != 0x0C01, bounded := bounded,
                     order := s.eng.nextJob }
  let s := { s with eng := { s.eng with jobs := s.eng.jobs.set s.eng.nextJob j, nextJob := s.eng.nextJob + 1 } }
  s.park n (setBit 0 evSegment)

/-- The job is admitted with its segments and frames (R346, R347, R349). -/
def State.placeJob (k : Nat) (v : Invoc) (s : State) : State :=
  match s.eng.jobs.get? k with
  | none => s
  | some j =>
    let (alg, len) := s.jobKey v
    let material := match s.key? (hSlot v.k1) with | none => [] | some r => r.mat
    let i := min 256 (if v.fn = 0x0C01 then Config.signIterations algDsa 3 identityDsa (v.inp 0) (s.drawn 32)
      else if alg = algDsa then Config.signIterations alg len material (v.inp 0) (s.drawn 32) else 1)
    let points := v.fn = 0x0801 && (alg == algEc || alg == algEd)
    let (left, split) := jobSegs v alg len i (s.cached j.frond v.k1) (s.cfg.timing.period == 0)
    let j := { j with placed := true, left := left, split := split, frames := jobFrames v.fn alg len, lastRun := s.tick.count,
                      order := s.nextOrder }
    let s := { s with eng := { s.eng with jobs := s.eng.jobs.set k j } }.takeOrder
    let s := s.when points (fun s => s.usePoint j.frond v.k1)
    s.startSegments j.frond j.lattice 8

/-- The signing loop of ML-DSA or ECDSA ran out (R345): decided by the free iteration count. -/
def State.signLimit (s : State) (v : Invoc) : Bool :=
  let (alg, len) := s.jobKey v
  v.fn == 0x0801 && (alg == algDsa || alg == algEc) &&
    decide (256 < Config.signIterations alg len (match s.key? (hSlot v.k1) with | none => [] | some r => r.mat) (v.inp 0) (s.drawn 32))

end Sys2Proof.Machine
end

