-- ==== Sys2Proof/Machine/Service.lean ====
section
/-! DEFINITION. Service requests (R105, R304-R314, R319-R324): an admitted item runs its function, bulk requests run in quanta, and
requests end or stop. -/

namespace Sys2Proof.Machine

/-- The invocation has ended: uses, contexts and the created key are settled, then the request completes; a mirrored key waits for the
partner (R410, R537). -/
def State.finishService (n : Nat) (o : FnOut) (wrote : Option Nat) (s : State) : State :=
  match s.item? n with
  | none => s
  | some x =>
    let v := x.invoked.getD x.inv
    let (o, slot, s) := s.closeInvoc n x.inst v x.qp.isNone o
    let unver := x.unver && v.fn == 0x0604
    let s := s.when unver (fun s => (s.bump oHqUnverified).when (o.st == .tagMismatch) (fun s => s.bumpHi oHqUnverified))
    match slot with
    | some k =>
      let mirrored := match s.key? k with | none => false | some r => bit r.flags fMirrored
      if mirrored then
        ((s.modItem n (fun x => { x with result := some o, made := some k, job := false })).park n (setBit 0 evAck)).mirror (.item n)
      else s.endService n o.st o.o0 o.o1 wrote none unver
    | none => s.endService n o.st o.o0 o.o1 wrote none unver

/-- The mirrored key's change is acknowledged, or failed: the key is gone again. -/
def State.itemAcked (n : Nat) (st : Option Status) (s : State) : State :=
  match s.item? n with
  | none => s
  | some x => match x.result, st with
    | some o, none => s.endService n o.st o.o0 o.o1 none none false
    | _, some e => ((match x.made with | none => s | some k => s.eraseKey k)).endService n e [] [] none none false
    | none, none => s

/-- An admitted service item runs (R105): to its end, into a job or bulk run, or until a page arrives. -/
def State.serviceRun (n : Nat) (s : State) : State :=
  match s.item? n with
  | none => s
  | some x =>
    match x.waitSt with
    | some st => s.failService n st
    | none =>
      match s.formStep x.inv x.unver with
      | some st => s.failService n st
      | none =>
        if isPkFn x.inv then s.requestJob n x.inst x.frond x.inv false
        else match s.runKeys n x.inst x.inv x.unver false with
          | (none, s) => s
          | (some o, s) =>
            let s := s.modItem n (fun y => { y with invoked := some x.inv })
            if (o.st = .ok || o.st.isOutcome) && bulkFns.contains x.inv.fn then
              let q := quantaOf (s.cfg.timing.period == 0) x.inv
              s.modItem n (fun y => { y with result := some o, job := true, done := 0, total := q })
            else s.finishService n o none

/-- A function's row: the admitted service item that a frond runs and whose code is the row's. -/
def State.fnRow (code n : Nat) (s : State) : State :=
  match s.item? n with
  | none => s
  | some x => if s.works && x.admitted && x.stage == .running && !x.transit && !x.job && x.inv.fn == code then s.serviceRun n else s

/-! ### Quanta -/

/-- The function writes O0 as its quanta end: ciphers and sealing, and AEAD_OPEN only under unverified release (R309, R314). -/
def streams (x : Item) : Bool :=
  [0x0601, 0x0602, 0x0603].contains x.inv.fn || (x.inv.fn == 0x0604 && x.unver)

/-- O0 bytes written after `k` quanta. -/
def writtenAfter (half : Bool) (x : Item) (k : Nat) : Nat :=
  match x.result with
  | none => 0
  | some o => if streams x then min o.o0.length (k * quantumBytes half x.inv) else 0

/-- The elements of an operand from a byte offset on. -/
def elemsFrom : Nat → Elements → Elements
  | _, [] => []
  | k, (a, n) :: es => if n ≤ k then elemsFrom (k - n) es else (a + k, n - k) :: es

/-- The element that holds a byte offset. -/
def elemAt : Nat → Elements → Nat
  | _, [] => 0
  | k, (_, n) :: es => if n ≤ k then elemAt (k - n) es + 1 else 0

/-- The first gather or scatter fault of an epoch raises the interrupt (HQ_IRQ). -/
def State.noteFault (s : State) : State :=
  let s := s.when (!s.disp.faultSeen) (fun s => s.raise 9 oHqIrq 0)
  { s with disp := { s.disp with faultSeen := true } }

/-- A request stops with GATHER_FAULT, SCATTER_FAULT or HW_FAULT: nothing is consumed and the context is as it was (R313, R324). -/
def State.stopRequest (n : Nat) (st : Status) (fault : Option (Nat × Nat)) (s : State) : State :=
  match s.item? n with
  | none => s
  | some x =>
    let wrote := writtenAfter (s.cfg.timing.period == 0) x x.done
    let s := match x.made with | none => s | some k => s.eraseKey k
    let (_, _, s) := s.closeInvoc n x.inst (x.invoked.getD x.inv) false { st := st }
    let s := s.when fault.isSome State.noteFault
    let s := if st = .gatherFault then s.bump oHqGatherFaults else if st = .scatterFault then s.bump oHqScatterFaults else s
    s.endService n st [] [] (some wrote) fault (x.unver && x.inv.fn == 0x0604)

/-- The next quantum's output is written; the data of the last completes the request. -/
def State.quantumOutput (n : Nat) (x : Item) (o : FnOut) (s : State) : State :=
  let half := s.cfg.timing.period == 0
  let a := writtenAfter half x x.done
  let last := decide (x.total ≤ x.done + 1)
  let b := if last then (if streams x then o.o0.length else 0) else writtenAfter half x (x.done + 1)
  let fn := match x.qp with | none => 0 | some q => ((s.queues.get? q).getD {}).fn
  if x.qp.isSome && !s.mayDma fn && decide (a < b) then
    s.stopRequest n .scatterFault (some (6, elemAt a (x.bufs.getD 6 [])))
  else
    let s := if x.qp.isSome then s.writeElems fn (elemsFrom a (x.bufs.getD 6 [])) (slice o.o0 a (b - a)) else s
    let s := s.modItem n (fun y => { y with done := y.done + 1 })
    if !last then s
    else s.finishService n o (if x.qp.isSome && streams x then some o.o0.length else none)

/-- QUANTUM_END for a bulk service request (R322-R324). -/
def State.quantumEnd (q : QuantumEnd) (s : State) : State :=
  match s.item? q.item with
  | none => s
  | some x => match x.result with
    | none => s
    | some o =>
      if !x.job || x.transit || x.stage != .running then s
      else
        let s := s.bump64 oCiphQuanta 1
        let s := if q.errors = 0 then s else s.bump oCiphQuantumRetries
        match x.stopped with
        | some st => s.stopRequest q.item st none
        | none =>
          if 2 ≤ q.errors then (s.bumpHi oCiphQuantumRetries).stopRequest q.item .hwFault none
          else match q.scatter with
            | some f => s.stopRequest q.item .scatterFault (some f)
            | none => s.quantumOutput q.item x o

/-- GATHER_FAULT (R313): an input element of an admitted PCIe request faults. -/
def State.gatherFault (n operand element : Nat) (s : State) : State :=
  match s.item? n with
  | none => s
  | some x => if x.qp.isSome && x.admitted && decide (operand < 6) then s.stopRequest n .gatherFault (some (operand, element)) else s

/-! ### Jobs -/

/-- Erase a job. -/
def State.dropJob (k : Nat) (s : State) : State := { s with eng := { s.eng with jobs := s.eng.jobs.erase k } }

/-- An item's job is first in its queue and its frames and places are free: its keys are checked and its segments begin (R349). A
service request waits again for a missing page; a failure ends it. -/
def State.admitJob (k n : Nat) (v : Invoc) (resolve : Bool) (s : State) : State × Option FnOut :=
  match s.item? n with
  | none => (s.dropJob k, none)
  | some x =>
    let limit := s.signLimit v
    if x.waitSt.isSome then (s.dropJob k, x.waitSt.map (fun st => { st := st })) else
    match s.runKeys n x.inst v x.unver resolve with
    | (none, s) => (s.park n (setBit 0 evSegment), none)
    | (some o, s) =>
      let s := s.modItem n (fun y => { y with invoked := some v })
      if o.st != .ok && !o.st.isOutcome then (s.dropJob k, some o)
      else
        let o := if limit then { o with st := .signRetryLimit, o0 := [], newKey := none } else o
        let s := s.when limit (fun s => s.bump oPkRetryLimit)
        ((s.modItem n (fun y => { y with result := some o })).placeJob k v, none)

end Sys2Proof.Machine
end

