-- ==== Sys2Proof/Machine/Setup.lean ====
section
/-! DEFINITION. Session setup (R279-R284): identifiers, messages, proofs, keys, and how a setup starts, fails and opens. -/

namespace Sys2Proof.Machine

/-! ### Reading CBOR (RFC 8949; log 10) -/

/-- Major type, argument and what follows. -/
def cborTake : Bytes → Option (Nat × Nat × Bytes)
  | [] => none
  | t :: r =>
    let k := t.toNat % 32
    if k < 24 then some (t.toNat / 32, k, r)
    else if 28 ≤ k then none
    else
      let n := 2 ^ (k - 24)
      if r.length < n then none else some (t.toNat / 32, ofBe (r.take n), r.drop n)

/-- Skip `count` items, within `fuel`. -/
def cborSkip : Nat → Nat → Bytes → Option Bytes
  | _, 0, b => some b
  | 0, _ + 1, _ => none
  | f + 1, c + 1, b =>
    match cborTake b with
    | none => none
    | some (m, n, r) =>
      if m = 2 ∨ m = 3 then (if r.length < n then none else cborSkip f c (r.drop n))
      else if m = 4 then cborSkip f (c + n) r
      else if m = 5 then cborSkip f (c + 2 * n) r
      else if m = 6 then cborSkip f (c + 1) r
      else cborSkip f c r

/-- A byte string and what follows. -/
def cborString (b : Bytes) : Option (Bytes × Bytes) :=
  match cborTake b with
  | some (2, n, r) => if r.length < n then none else some (r.take n, r.drop n)
  | _ => none

/-- The byte string that a map of `count` entries has under a claim. -/
def cborClaim (key : Nat) : Nat → Bytes → Option Bytes
  | 0, _ => none
  | c + 1, b =>
    match cborTake b with
    | some (0, k, r) =>
      if k = key then (cborString r).map Prod.fst
      else match cborSkip (r.length + 1) 1 r with
        | none => none
        | some r => cborClaim key c r
    | _ => none

/-- A COSE_Sign1 message: protected header, payload (none: detached), signature, and what follows. -/
def readSign1 (b : Bytes) : Option (Bytes × Option Bytes × Bytes × Bytes) := do
  let (m, n, b) ← cborTake b
  let (m2, n2, b) ← if m = 6 ∧ n = 18 then cborTake b else none
  let (h, b) ← if m2 = 4 ∧ n2 = 4 then cborString b else none
  let b ← cborSkip (b.length + 1) 1 b
  let (p, b) ← if b.head? = some 0xF6#8 then some (none, b.drop 1) else (cborString b).map (fun x => (some x.1, x.2))
  let (g, b) ← cborString b
  return (h, p, g, b)

/-- A statement verifies under a P-384 and an ML-DSA key and carries a nonce (R281, R373). -/
def statementOk (ec : Bytes) (set : Nat) (dsa nonce b : Bytes) : Bool :=
  let r : Option Bool := do
    let (m, n, b) ← cborTake b
    let (h1, p1, g1, b) ← if m = 4 ∧ n = 2 then readSign1 b else none
    let payload ← p1
    let (h2, p2, g2, b) ← readSign1 b
    let (m, n, map) ← cborTake payload
    let found ← if m = 5 then cborClaim 30 n map else none
    return b.isEmpty && (p2.isNone || p2 == some payload) && found == nonce &&
      Config.pkVerify algEc 2 optEcdsa384 ec (sigStructure h1 payload) [] g1 &&
      Config.pkVerify algDsa set optMlDsa dsa (sigStructure h2 payload) [] g2
  r == some true

/-! ### Proofs (R280, R281) -/

/-- The context string of the ML-DSA signature. -/
def httContext : Bytes := ascii "LV5120-HTT"

/-- The proof of this device over a transcript hash, drawn at position `pos` of the free values. -/
def State.proof (s : State) (i : Nat) (label : String) (th : Bytes) (pos : Nat) : Bytes :=
  let st := s.statement false i th pos
  let msg := ascii label ++ th
  let sig := signDsa msg httContext (pos + 176)
  identityEcPub ++ [3#8, 0#8] ++ be 2 identityDsaPub.length ++ be 2 sig.length ++ be 2 st.length ++ identityDsaPub ++
    padTo 96 (signEc msg (pos + 128)) ++ sig ++ st

/-- Free bytes that a proof draws. -/
def proofDraw : Nat := 208

/-- ML-DSA public key and signature lengths of a parameter set (FIPS 204). -/
def dsaLens (set : Nat) : Option (Nat × Nat) :=
  match set with
  | 1 => some (1312, 2420)
  | 2 => some (1952, 3309)
  | 3 => some (2592, 4627)
  | _ => none

/-- The check of a peer's proof over a transcript hash, with the peer's keys (R68, R281, R283). -/
def proofFail (ec dsa : KeyRec) (label : String) (th p : Bytes) : Option Status :=
  let k := beAt p 99 2
  let g := beAt p 101 2
  let t := beAt p 103 2
  if p.length < 105 then some .badLength
  else match dsaLens (byteAt p 97) with
    | none => some .badFieldValue
    | some (k0, g0) =>
      if byteAt p 98 ≠ 0 ∨ 6144 < t then some .badFieldValue
      else if k ≠ k0 ∨ g ≠ g0 ∨ p.length ≠ 201 + k + g + t then some .badLength
      else
        let pub := slice p 105 k
        let st := slice p (201 + k + g) t
        let msg := ascii label ++ th
        if p.take 97 == ec.mat && byteAt p 97 == dsa.len && sha3 32 pub == dsa.mat.take 32 &&
          Config.pkVerify algEc 2 optEcdsa384 (p.take 97) msg [] (slice p (105 + k) 96) &&
          Config.pkVerify algDsa (byteAt p 97) optMlDsa pub msg httContext (slice p (201 + k) g) &&
          (t == 0 || statementOk (p.take 97) (byteAt p 97) pub th st)
        then none else some .signatureInvalid

/-- A peer key of a session: P-384 public, or an ML-DSA anchor (R279). -/
def State.peerKey (s : State) (h i : Nat) (anchor : Bool) : Except Status KeyRec :=
  match s.checkKey h i false true (some uVerify) (fun k =>
      if anchor then k.alg == algDsa && k.cls == 0x12 else k.alg == algEc && k.len == 2) with
  | .key k => .ok k
  | .fail st => .error st
  | .page _ => .error .keyNotFound
  | .bad _ => .error .keySlotBad

/-! ### Keys (R282) -/

/-- The 64 bytes of session keys. -/
def sessionKeys (z th : Bytes) (ini res : Nat) : Bytes := kdf56 sha384 48 z (ascii "LV5120 HTT" ++ th ++ be 4 ini ++ be 4 res) 64

/-- TH_R. -/
def thR (hello offer : Bytes) : Bytes := sha384 (hello ++ offer.take 1705)
/-- TH_I. -/
def thI (hello offer : Bytes) : Bytes := sha384 (hello ++ offer)

/-! ### Sending, starting, failing, opening (R283) -/

/-- The session with the addresses of its setup. -/
def Sess.toward (x : Sess) (y : Setup) : Sess := { x with peerMac := y.mac, peerUdp := y.udp, peerIp := y.ip }

/-- Send a setup message of the setup in progress in fragments (R270, R280). -/
def State.sendSetup (n typ rid : Nat) (b : Bytes) (s : State) : State :=
  let fr := chunks 8192 b
  let x := s.sessOf n
  let x := match x.setup with | none => x | some y => x.toward y
  fr.zipIdx.foldl (fun s e =>
    s.putHttAs x (httHeader typ 0 rid 0 (fr.length * 256 + e.2) 0 0 e.1.length) e.1 false) s

/-- Setups in progress. -/
def State.setups (s : State) : Nat := (s.sess.filter (fun e => e.2.setup.isSome)).length

/-- A setup fails: the session is PARKED with the failing status, an OPEN session that was rekeying stays OPEN under its old keys
with the reason recorded (log 18). -/
def State.failSetup (n : Nat) (st : Status) (s : State) : State :=
  let x := s.sessOf n
  let s := (s.bumpHi (portReg oPortHandshakes x.port)).raise 8 (portReg oPortIrq x.port) 1
  if x.st = .opened then s.modSess n (fun x => { x with setup := none, reason := st.code })
  else s.parkSess n st.code

/-- A new session ID: 12 random bits over the session number. -/
def newSessionId (draw : Bytes) (n : Nat) : Nat := ofLe (draw.take 2) % 4096 * 2 ^ 20 + n

/-- An initiator starts a setup: HELLO (R283). Beyond the limit of setups the HELLO is discarded. -/
def State.startSetup (n : Nat) (s : State) : State :=
  let x := s.sessOf n
  if 4096 ≤ s.setups then s.bumpHi (portReg oPortHandshakes x.port)
  else if !s.rngOk then s.failSetup n .rngFailed
  else
    let id := newSessionId (s.drawn 2) n
    let ec := Config.pkGenerate algEc 2 (freeBytes (s.free + 34) 48)
    let kem := Config.pkGenerate algKem 3 (freeBytes (s.free + 82) 64)
    let hello := be 4 id ++ be 8 x.service ++ be 2 (s.bindingOf x).maxMsg ++ zeros 2 ++ freeBytes (s.free + 2) 32 ++
      padTo 97 (Config.pkPublic algEc 2 ec) ++ padTo 1568 (Config.pkPublic algKem 3 kem)
    let y : Setup := { initiator := true, myId := id, hello := hello, ecPriv := ec, kemPriv := kem,
                       mac := x.peerMac, udp := x.peerUdp, ip := x.peerIp, since := s.tick.count,
                       lastSend := s.tick.count }
    let s := (s.generate (16 + x.inst) 146).spend 146
    let s := s.modSess n (fun x => { x with setup := some y, st := if x.st = .opened then .opened else .handshake })
    let s := s.when (x.st != .opened) (fun s => s.touchSess n)
    s.sendSetup n 0x10 0 hello

/-- The session opens under new keys: both directions start afresh (R283); the first CREDIT frame goes out (R274). -/
def State.openSess (n : Nat) (y : Setup) (s : State) : State :=
  let s := s.modSess n (fun x => { x.wipe with
    st := .opened, reason := 0, myId := y.myId, peerId := y.peerId, maxMsg := y.maxMsg, keyTx := y.keyTx, keyRx := y.keyRx,
    peerMac := y.mac, peerUdp := y.udp, peerIp := y.ip, lastData := s.tick.count, setup := none })
  (s.bump (portReg oPortHandshakes (s.sessOf n).port)).touchSess n

end Sys2Proof.Machine
end

