-- ==== Sys2Proof/Machine/Stitches.lean ====
section
/-! DEFINITION. Stitches (R176-R209): the state of a running seam, the fourteen opcodes, failure dispositions, deferred stitches,
emission and stomps, and the deadline (R37, R40). -/

namespace Sys2Proof.Machine

/-! ### What an item runs under (R49, R203) -/

/-- The configuration in force at the item's admission. -/
def State.itemCfg (s : State) (x : Item) : LastConfig := s.last.cfgs.getD x.cfg {}

/-- Its seam. -/
def State.itemSeam (s : State) (x : Item) : SeamDef := (s.itemCfg x).seams.seams.getD x.seam {}

/-- Its pattern. -/
def State.itemPat (s : State) (x : Item) : PatternDef := (s.itemCfg x).pats.patterns.getD (s.itemSeam x).pattern {}

/-- Its stitch. -/
def State.itemStitch (s : State) (x : Item) : Option Stitch := (s.itemSeam x).stitches[x.ix]?

/-- The end of tick D (R37). -/
def State.deadline (s : State) (x : Item) : Nat := x.admitTick + (s.itemCfg x).timing.bound + x.terms

/-- Count in the seam statistics of Table 7.9: 0 runs, 1 emitted, 2 answered, 3 discarded, 4 handled, 5 undeliverable, 6
verification stomps, 7 lateness stomps. -/
def State.seamStat (x : Item) (k : Nat) (s : State) : State :=
  let key := 8 * x.seam + k
  { s with last := { s.last with seamStats := s.last.seamStats.set key ((s.last.seamStats.getD key 0 + 1) % 2 ^ 64) } }

/-- Charge field operations of an item, and count them for its seam's estimate (R181, R243). -/
def State.fieldOps (n c : Nat) (s : State) : State :=
  match s.item? n with
  | none => s
  | some x =>
    { (s.charge x.inst 0 c 0) with
      disp := { s.disp with estim := s.disp.estim.modify x.seam (fun e => (e.1 + c, e.2.1, e.2.2)) } }

/-! ### Reading and writing (R167, R177) -/

/-- The value of a selector, and what reading it costs. -/
def State.readOf (s : State) (x : Item) (sel : Nat) : Option Bytes × Nat :=
  if sel = 0 then (none, 0)
  else match x.msg with
    | none => (none, 0)
    | some m =>
      let v := selRead (s.itemCfg x).pats.ebcdic (s.itemPat x) m x.vars sel
      (v, selCost sel (v.getD []).length)

/-- Write a value through a selector; a refused write changes nothing. -/
def State.writeOf (n sel : Nat) (v : Bytes) (s : State) : Except Status State :=
  match s.item? n with
  | none => .error .badFieldValue
  | some x =>
    if selKind sel = 8 then
      if 256 < v.length then .error .badLength else .ok (s.modItem n (fun x => { x with vars := x.vars.set (selNum sel) v }))
    else match x.msg with
      | none => .error .badFieldValue
      | some m => match selWrite (s.itemCfg x).pats.ebcdic (s.itemPat x) m sel v with
        | .error e => .error e
        | .ok m => .ok (s.modItem n (fun x => { x with msg := some m }))

/-! ### Ends without sending (R195, R199, R200) -/

/-- A notice to the source about its frame. -/
def State.sourceNotice (x : Item) (code : Nat) (s : State) : State :=
  match x.sess with
  | none => s
  | some k => s.sendNotice k code 0 x.phase x.seq

/-- The message is discarded, with or without a notice. -/
def State.discard (n : Nat) (notice : Option Nat) (s : State) : State :=
  match s.item? n with
  | none => s
  | some x =>
    let s := match notice with | none => s | some c => s.sourceNotice x c
    (s.seamStat x 3).endItem n

/-- The failure disposition, for a failure of the stitch at index `ix` (R199). -/
def State.takeFailure (n ix : Nat) (s : State) : State :=
  match s.item? n with
  | none => s
  | some x =>
    let d := s.itemSeam x
    if d.disp = 2 ∧ ix < d.handler then (s.seamStat x 4).modItem n (fun x => { x with ix := d.handler })
    else s.discard n (if d.disp = 0 then none else some x.st)

/-- An infallible stitch ends. -/
def State.nextStitch (n cost : Nat) (s : State) : State :=
  (s.fieldOps n (1 + cost)).modItem n (fun x => { x with ix := x.ix + 1 })

/-- A fallible stitch ends with a status (R199). -/
def State.endStitch (n : Nat) (t : Stitch) (st : Status) (cost : Nat) (s : State) : State :=
  match s.item? n with
  | none => s
  | some x =>
    let s := (s.fieldOps n (1 + cost)).modItem n (fun x => { x with st := st.code })
    if st = .ok || bit t.flags 7 then s.modItem n (fun x => { x with ix := x.ix + 1 }) else s.takeFailure n x.ix

/-! ### EXTRACT, SELECT_KEY, REWRITE, TEST, SKIP_IF, ROUTE, COUNT -/

/-- The range of R183; none: absent. -/
def extractRange (v : Bytes) (imm : Nat) : Option Bytes :=
  let st := bits imm 15 0
  let n := bits imm 31 16
  if v.length < st then none
  else if n = 0 then some (v.drop st)
  else if v.length < st + n then none
  else some (slice v st n)

/-- The conversions of R183; none: a character or count that the conversion does not take. -/
def extractConv (k : Nat) (v : Bytes) : Option Bytes :=
  match k with
  | 1 =>
    if v.length % 2 = 1 then none
    else match v.mapM ascHex with
      | none => none
      | some cs => some (packNibbles (cs.map hexVal))
  | 2 => some (hexOf v)
  | 3 => match digitsOf v with
    | none => none
    | some ds => some (packNibbles (if ds.length % 2 = 1 then 0 :: ds else ds))
  | 4 => if (nibbles v).all (fun d => decide (d ≤ 9)) then some (digitBytes (nibbles v)) else none
  | _ => some v

/-- EXTRACT (R183). -/
def State.extractStitch (n : Nat) (x : Item) (t : Stitch) (s : State) : State :=
  let (v, c) := s.readOf x t.a
  let var := selNum t.b
  let res := match v with | none => none | some v => extractRange v t.imm
  match res with
  | none =>
    let s := if bit t.flags 0 then s else s.modItem n (fun x => { x with vars := x.vars.erase var })
    s.endStitch n t .ok (c + 1)
  | some v => match extractConv (bits t.imm 35 32) v with
    | none => s.endStitch n t .badFieldValue c
    | some v =>
      let v := if bit t.flags 0 then x.vars.getD var [] ++ v else v
      match s.writeOf n t.b v with
      | .error e => s.endStitch n t e c
      | .ok s => s.endStitch n t .ok (c + 1)

/-- Look a value up in a selector table (R202). -/
def SelTable.lookup (t : SelTable) (v : Bytes) : Option Nat :=
  if v.length = t.vlen then (t.entries.find? (fun e => e.1 == v)).map Prod.snd else none

/-- A selector table of the item's configuration. -/
def State.tableOf (s : State) (x : Item) (k : Nat) : SelTable := (s.itemCfg x).tables.getD k {}

/-- SELECT_KEY (R185). -/
def State.selectKeyStitch (n : Nat) (x : Item) (t : Stitch) (s : State) : State :=
  let (a, ca) := s.readOf x t.a
  let (b, cb) := s.readOf x t.b
  match (s.tableOf x t.ix).lookup (a.getD [] ++ b.getD []) with
  | none => s.endStitch n t .keyNotFound (ca + cb + 1)
  | some h => (s.modItem n (fun x => { x with kreg := x.kreg.set (t.imm % 8) h })).endStitch n t .ok (ca + cb + 1)

/-- REWRITE (R184). -/
def State.rewriteStitch (n : Nat) (x : Item) (t : Stitch) (s : State) : State :=
  if bit t.flags 0 then
    if selKind t.b = 8 then (s.modItem n (fun x => { x with vars := x.vars.erase (selNum t.b) })).endStitch n t .ok 1
    else match x.msg with
      | none => s
      | some m => match selRemove (s.itemCfg x).pats.ebcdic (s.itemPat x) m t.b with
        | .error e => s.endStitch n t e 1
        | .ok m => (s.modItem n (fun x => { x with msg := some m })).endStitch n t .ok 1
  else
    let (v, c) := if t.a = 0 then (some (constBytes t.imm), 0) else s.readOf x t.a
    let v := v.getD []
    match s.writeOf n t.b v with
    | .error e => s.endStitch n t e (c + selCost t.b v.length)
    | .ok s => s.endStitch n t .ok (c + selCost t.b v.length)

/-- LESS of R189: left-padded to one length, compared as unsigned big-endian strings. -/
def testLess (a b : Bytes) : Bool :=
  let fill : Byte := if isDigits a && isDigits b then 0x30#8 else 0#8
  let n := max a.length b.length
  let pad (v : Bytes) : Bytes := List.replicate (n - v.length) fill ++ v
  decide (ofBe (pad a) < ofBe (pad b))

/-- What TEST compares to (R189): the condition and what the reads cost. -/
def State.testHolds (s : State) (x : Item) (t : Stitch) : Bool × Nat :=
  let (a, ca) := s.readOf x t.a
  let (b, cb) := if t.b = 0 then (some (constBytes (t.imm % 2 ^ 56)), 0) else s.readOf x t.b
  let va := a.getD []
  let vb := b.getD []
  match testCmp t.imm with
  | 1 => (va == vb, ca + cb)
  | 2 => (va != vb, ca + cb)
  | 3 => (testLess va vb, ca + cb)
  | 4 => (testLess vb va, ca + cb)
  | 5 => (a.isSome, ca)
  | 6 => (a.isNone, ca)
  | 7 => (x.st == t.imm % 65536, 0)
  | _ => (x.st / 256 == t.imm % 65536 / 256, 0)

/-- TEST (R189). -/
def State.testStitch (n : Nat) (x : Item) (t : Stitch) (s : State) : State :=
  let (c, cost) := s.testHolds x t
  (s.modItem n (fun x => { x with c := c })).nextStitch n cost

/-- SKIP_IF (R190). -/
def State.skipStitch (n : Nat) (x : Item) (t : Stitch) (s : State) : State :=
  let skip := x.c != bit t.flags 0
  (s.nextStitch n 0).modItem n (fun x => if skip then { x with ix := x.ix + t.imm % 64 } else x)

/-- ROUTE (R191). -/
def State.routeStitch (n : Nat) (x : Item) (t : Stitch) (s : State) : State :=
  if bit t.flags 0 then
    let (v, c) := s.readOf x t.a
    match (s.tableOf x t.ix).lookup (v.getD []) with
    | none => s.endStitch n t .noRoute (c + 1)
    | some d => (s.modItem n (fun x => { x with dest := some (d % 4096) })).endStitch n t .ok (c + 1)
  else (s.modItem n (fun x => { x with dest := some (t.imm % 4096) })).endStitch n t .ok 0

/-- COUNT (R198). -/
def State.countStitch (n : Nat) (_ : Item) (t : Stitch) (s : State) : State :=
  let s := { s with last := { s.last with
    counters := s.last.counters.set t.ix ((s.last.counters.getD t.ix 0 + t.imm % 2 ^ 32) % 2 ^ 64) } }
  s.nextStitch n 0

/-! ### HOLD and SET_FLOW -/

/-- HOLD (R196): the item goes to its quadrant's delay list. -/
def State.holdStitch (n : Nat) (_ : Item) (t : Stitch) (s : State) : State :=
  let k := t.imm % 256
  ((s.nextStitch n 0).modItem n (fun x =>
    { x with stage := .held, due := s.tick.count + k, terms := x.terms + k, order := s.nextOrder })).takeOrder

/-- HOLD_DUE (R247). -/
def State.holdDue (n : Nat) (s : State) : State :=
  match s.item? n with
  | none => s
  | some x => if x.stage == .held && decide (x.due ≤ s.tick.count) && s.works then s.resume n else s

/-- SET_FLOW (R197, R240): the item leaves its flow at once; in an atomic flow with an admitted item it waits its turn. -/
def State.setFlowStitch (n : Nat) (x : Item) (t : Stitch) (s : State) : State :=
  let (v, c) := s.readOf x t.a
  let (f, s) := s.joinFlow x.inst (bit t.flags 0) (t.imm % 65536) ((v.getD []).take 32)
  let s := s.nextStitch n c
  if f = x.flow then s
  else
    let busy := !(s.flowOf f).parallel && (s.inFlow f).any (fun e => e.2.admitted)
    let s := s.modItem n (fun x => { x with flow := f })
    let s := if (s.inFlow x.flow).isEmpty then
        { s with disp := { s.disp with flows := s.disp.flows.modify x.flow (fun y => { y with emptyAt := s.tick.count }) } }
      else s
    if busy then ((s.modItem n (fun x => { x with moved := true, order := s.nextOrder })).takeOrder).park n (setBit 0 evTurn) else s

/-! ### APPLY (R186-R188, R205) -/

/-- The invocation of an APPLY stitch: bindings, overrides, key sources, capacities; and what the reads cost. -/
def State.applyInvoc (s : State) (x : Item) (t : Stitch) : Invoc × Nat :=
  let e := (s.itemCfg x).seams.entries.getD t.ix {}
  let rd := (List.range 6).map (fun k => s.readOf x (if k = 0 ∧ t.a ≠ 0 then t.a else e.ins.getD k 0))
  let role (k h : Nat) : Nat := match keySource t.imm k with | 0 => h | r + 1 => x.kreg.getD r 0
  let p := s.itemPat x
  ({ e.inv with
      k1 := role 0 e.inv.k1, k2 := role 1 e.inv.k2, ins := rd.map (fun r => r.1.getD []),
      cap0 := selCap p (if t.b ≠ 0 then t.b else e.out0), cap1 := selCap p e.out1 },
   (rd.map Prod.snd).foldl (· + ·) 0)

/-- The function has ended: uses are settled, the outputs are written, and the stitch ends (R187 steps 4 and 5). -/
def State.finishApply (n : Nat) (x : Item) (t : Stitch) (v : Invoc) (o : FnOut) (cost : Nat) (s : State) : State :=
  let e := (s.itemCfg x).seams.entries.getD t.ix {}
  let out0 := if t.b ≠ 0 then t.b else e.out0
  let (o, _, s) := s.closeInvoc n x.inst v true o
  if o.st ≠ .ok then s.endStitch n t o.st cost
  else
    let c0 := if out0 = 0 then 0 else selCost out0 o.o0.length
    let c1 := if e.out1 = 0 then 0 else selCost e.out1 o.o1.length
    match (if out0 = 0 then .ok s else s.writeOf n out0 o.o0) with
    | .error st => s.endStitch n t st (cost + c0)
    | .ok s => match (if e.out1 = 0 then .ok s else s.writeOf n e.out1 o.o1) with
      | .error st => s.endStitch n t st (cost + c0 + c1)
      | .ok s => s.endStitch n t .ok (cost + c0 + c1)

/-- A deferred stitch goes on at once; its status is held until it ends (R205). One that failed its checks has ended. -/
def State.deferApply (n : Nat) (x : Item) (v : Invoc) (o : FnOut) (cost : Nat) (s : State) : State :=
  let runs := o.st = .ok || o.st.isOutcome
  let uses := match s.item? n with
    | none => []
    | some y => (match y.used1 with | none => [] | some k => [(k, runs)]) ++
                (match y.used2 with | none => [] | some k => [(k, runs && o.usedK2)])
  let pk := runs && isPkFn v
  let d : Deferred := { ix := x.ix, status := o.st, ended := !runs, uses := uses, job := pk }
  let s := s.modItem n (fun y => { y with used1 := none, used2 := none, deferred := y.deferred ++ [d] })
  let s := if pk then
      let j : PkJob := { purpose := .deferred n x.deferred.length, inst := x.inst, frond := x.frond,
                         lattice := latticeAlg (s.jobKey v).1, bounded := true, order := s.eng.nextJob }
      { s with eng := { s.eng with jobs := s.eng.jobs.set s.eng.nextJob j, nextJob := s.eng.nextJob + 1 } }
    else s
  s.nextStitch n cost

/-- APPLY (R187): a public-key function waits for its job, a missing page for its fetch; the stitch goes on when the item has
resumed. -/
def State.applyStitch (n : Nat) (x : Item) (t : Stitch) (s : State) : State :=
  let (v, cost) := s.applyInvoc x t
  let late := bit t.flags 6
  let fin (o : FnOut) (s : State) : State := if late then s.deferApply n x v o cost else s.finishApply n x t v o cost
  match x.result with
  | some o => s.modItem n (fun y => { y with result := none, invoked := none }) |>.finishApply n x t (x.invoked.getD v) o cost
  | none => match x.waitSt with
    | some st => fin { st := st } (s.modItem n (fun y => { y with waitSt := none }))
    | none => match s.formStep v false with
      | some st => fin { st := st } s
      | none =>
        if isPkFn v && !late then (s.modItem n (fun y => { y with invoked := some v })).requestJob n x.inst x.frond v true
        else match s.runKeys n x.inst v false true with
          | (none, s) => s.modItem n (fun y => { y with terms := y.terms + (s.itemCfg x).timing.fetch })
          | (some o, s) => fin o s

/-! ### RESPOND, REJECT, DROP (R193-R195, R209) -/

/-- Send a message back through the inbound session, or wait for its credit. -/
def State.sendBack (n : Nat) (x : Item) (m : Msg) (s : State) : State :=
  match x.sess with
  | none => s
  | some k =>
    let p := s.itemPat x
    if (s.sessOf k).st != .opened then ((s.fieldOps n 1).seamStat x 5).endItem n
    else if !s.canSend k then s.park n (setBit 0 evCredit)
    else (((s.fieldOps n (1 + msgNodes p m)).sendData k 2 (rebuild p m)).seamStat x 2).endItem n

/-- The message after REJECT, or the status it fails with (R194). -/
def State.rejectMsg (s : State) (x : Item) (t : Stitch) (m : Msg) : Except Status Msg := do
  let ebc := (s.itemCfg x).pats.ebcdic
  let p := s.itemPat x
  let mti := (selRead ebc p m x.vars 0x1000).getD []
  let d := byteAt mti 2
  if bit t.flags 0 && d % 2 == 1 then .error .badFieldValue
  else
    let m ← selWrite ebc p m t.b (constBytes t.imm)
    if bit t.flags 0 then selWrite ebc p m 0x1000 (mti.take 2 ++ [BitVec.ofNat 8 (d + 1)] ++ mti.drop 3) else .ok m

/-- REJECT. -/
def State.rejectNow (n : Nat) (x : Item) (t : Stitch) (s : State) : State :=
  match x.msg with
  | none => s
  | some m => match s.rejectMsg x t m with
    | .error st => ((s.fieldOps n 1).modItem n (fun x => { x with st := st.code })).takeFailure n x.ix
    | .ok m => s.sendBack n x m

/-- DROP. -/
def State.dropNow (n : Nat) (x : Item) (t : Stitch) (s : State) : State :=
  let code := t.imm % 65536
  (s.fieldOps n 1).discard n (if bit t.flags 0 then some (if code = 0 then x.st else code) else none)

/-- The index of the first deferred stitch that failed and whose failure is not taken. -/
def failedDeferred (ds : List Deferred) : Option Nat := ds.findIdx? (fun d => d.ended && d.status != .ok && !d.taken)

/-- A terminal stitch other than EMIT acts once every deferred stitch has ended (R209). -/
def State.terminalStitch (n : Nat) (x : Item) (t : Stitch) (s : State) : State :=
  if x.deferred.any (fun d => !d.ended) then s.modItem n (fun x => { x with ending := true })
  else
    let s := s.modItem n (fun x => { x with ending := false })
    match failedDeferred x.deferred with
    | some k =>
      let d := x.deferred.getD k { ix := 0 }
      (s.modItem n (fun x => { x with st := d.status.code, deferred := x.deferred.set k { d with taken := true } })).takeFailure n d.ix
    | none =>
      if t.op = opReject then s.rejectNow n x t
      else if t.op = opDrop then s.dropNow n x t
      else match x.msg with
        | none => s
        | some m => s.sendBack n x m

/-! ### EMIT (R192, R204-R208) -/

/-- The session a message's destination is bound to (R49). -/
def destOf (x : Item) : Option Nat :=
  match x.dest with
  | none => none
  | some d => x.binds.get? d

/-- A frame in emission is stomped (R207, R208). -/
def State.stomp (n : Nat) (late : Bool) (s : State) : State :=
  match s.item? n with
  | none => s
  | some x => match x.emis with
    | none => s
    | some m =>
      let s := (s.putHtt m.sess m.hdr m.sealedTxt true).bump (portReg oPortStomps (s.sessOf m.sess).port)
      let s := s.seamStat x (if late then 7 else 6)
      let s := s.sendNotice m.sess Status.transitAborted.code 0 m.phase m.seq
      s.sourceNotice x Status.transitAborted.code

/-- Emission begins: the frame is complete and sealed; it goes out, or its end waits for deferred stitches (R206). -/
def State.startEmission (n k : Nat) (x : Item) (m : Msg) (s : State) : State :=
  let p := s.itemPat x
  let s := s.fieldOps n (1 + msgNodes p m)
  if x.deferred.all (fun d => d.ended && d.status == .ok) then ((s.sendData k 0 (rebuild p m)).seamStat x 1).endItem n
  else
    let (hdr, c, y) := s.sealFrame k (s.sessOf k) 0x01 0 (rebuild p m)
    let s := s.modSess k (fun _ => y)
    let s := s.modItem n (fun x => { x with emis := some { sess := k, hdr := hdr, sealedTxt := c, phase := s.phase, seq := y.txSeq } })
    if x.deferred.any (fun d => d.ended && d.status != .ok) then (s.stomp n false).endItem n else s

/-- EMIT (R192); finding an initiator PARKED starts its setup (R284). -/
def State.emitStitch (n : Nat) (x : Item) (_ : Stitch) (s : State) : State :=
  let fail (s : State) : State :=
    ((s.fieldOps n 1).modItem n (fun x => { x with st := Status.noRoute.code })).takeFailure n x.ix
  match destOf x with
  | none => fail s
  | some k =>
    let y := s.sessOf k
    if y.st != .opened then fail (if y.st == .parked && y.initiator then s.startSetup k else s)
    else if !s.canSend k then s.park n (setBit 0 evCredit)
    else match x.msg with
      | none => s
      | some m => s.startEmission n k x m

/-- A deferred stitch ends (R206, R207, R209): the frame completes or is stomped, or a waiting terminal stitch acts. -/
def State.deferredEnd (n k : Nat) (err : Option Status) (s : State) : State :=
  match s.item? n with
  | none => s
  | some x => match x.deferred[k]? with
    | none => s
    | some d =>
      let st := err.getD d.status
      let s := d.uses.foldl (fun s u => s.release u.1 (u.2 && err.isNone)) s
      let s := s.modItem n (fun x => { x with deferred := x.deferred.set k { d with status := st, ended := true, uses := [] } })
      match s.item? n with
      | none => s
      | some x => match x.emis with
        | some m =>
          if st != .ok then (s.stomp n false).endItem n
          else if x.deferred.all (fun d => d.ended) then ((s.putHtt m.sess m.hdr m.sealedTxt false).seamStat x 1).endItem n |>.checkSeq m.sess
          else s
        | none => match s.itemStitch x with
          | none => s
          | some t => if x.ending && x.deferred.all (fun d => d.ended) then s.terminalStitch n x t else s

/-- QUANTUM_END of a transit item: its first deferred stitch that is still running on a symmetric engine ends. -/
def State.deferredQuantum (n errors : Nat) (s : State) : State :=
  match s.item? n with
  | none => s
  | some x => match x.deferred.findIdx? (fun d => !d.ended && !d.job) with
    | none => s
    | some k =>
      let s := s.bump64 oCiphQuanta 1
      let s := if errors = 0 then s else s.bump oCiphQuantumRetries
      if 2 ≤ errors then (s.bumpHi oCiphQuantumRetries).deferredEnd n k (some .hwFault) else s.deferredEnd n k none

/-! ### The deadline and aborts (R40, R208) -/

/-- An item is stopped: what it was emitting is stomped, and it ends. -/
def State.abortItem (n : Nat) (s : State) : State := (s.stomp n true).endItem n

/-- DEADLINE_EXPIRY (R40). -/
def State.deadlineExpiry (n : Nat) (s : State) : State :=
  match s.item? n with
  | none => s
  | some x =>
    if x.transit && x.admitted && s.works && decide (s.deadline x ≤ s.tick.count) then
      (((s.stomp n true).bump oTickDeadlineMissed).sourceNotice x Status.deadlineMissed.code).endItem n
    else s

/-! ### Rows -/

/-- A stitch's row: the running item whose stitch has the row's opcode. -/
def State.stitchRow (op : Nat) (f : Nat → Item → Stitch → State → State) (n : Nat) (s : State) : State :=
  match s.item? n with
  | none => s
  | some x => match s.itemStitch x with
    | none => s
    | some t =>
      if s.works && x.transit && x.admitted && x.stage == .running && !x.ending && x.emis.isNone && t.op == op then f n x t s else s

end Sys2Proof.Machine
end

