-- ==== Sys2Proof/Machine/HostQueues.lean ====
section
/-! DEFINITION. Host queues (R300-R317): doorbells, service descriptors with their operand tables and lists, stopping items, function
level resets, and the queue commands. -/

namespace Sys2Proof.Machine

/-! ### Functions and queue pairs -/

/-- The instance has a function (R298). -/
def State.hasFn (s : State) (i : Nat) : Bool := i == 0 || (s.pcie.vfEnable && decide (i ≤ s.pcie.numVfs))

/-- The queue pair at a local index of a function. -/
def State.queueAt (s : State) (fn q : Nat) : Option (Nat × Qp) := s.queues.find? (fun e => e.2.fn == fn && e.2.lix == q)

/-- Ring entries between two pointers. -/
def ringDist (a b n : Nat) : Nat := (b + n - a) % n

/-- BAR offset of a doorbell, for the LAST_REJECT. -/
def doorbell (fn q k : Nat) : Nat := if fn = 0 then 0x501000 + 16 * q + 8 * k else 0x2000 + 16 * q + 8 * k

/-- Reject a write of function `fn`. -/
def State.rejectFn (fn off : Nat) (st : Status) (s : State) : State :=
  if fn = 0 then s.reject off st else s.rejectVf fn off st

/-- A doorbell write (R301): rejected without an ACTIVE queue pair or beyond the ring. -/
def State.doorbellWrite (fn q value : Nat) (cq : Bool) (s : State) : State :=
  let v := value % 65536
  let size (x : Qp) : Nat := 2 ^ (if cq then x.cqLog else x.sqLog)
  let bad := s.rejectFn fn (doorbell fn q (b2n cq)) .badFieldValue
  if s.pcie.d3.contains fn || !s.hasFn fn then s
  else if !s.dev.regsUp then s.rejectFn fn (doorbell fn q (b2n cq)) .busy
  else if 65536 ≤ value then s.rejectFn fn (doorbell fn q (b2n cq)) .reservedNonzero
  else match s.queueAt fn q with
    | none => bad
    | some (k, x) =>
      if !x.active || size x ≤ v then bad
      else { s with queues := s.queues.set k (if cq then { x with cqHead := v } else { x with sqTail := v }) }

/-! ### Stopping items (R315, R353, R384) -/

/-- What an invocation in progress holds is put back as after a gather fault, and the item ends without an answer. -/
def State.quitItem (n : Nat) (s : State) : State :=
  match s.item? n with
  | none => s
  | some x =>
    let s := match x.made with | none => s | some k => s.eraseKey k
    let s := match x.invoked with
      | none => s
      | some v => (s.closeInvoc n x.inst v false { st := .instanceReset }).2.2
    s.endItem n

/-- An item stops with a status (R384, R389): a message's source gets a notice and its frame is stomped; a request completes; a
bulk request stops at the end of its running quantum. -/
def State.stopItem (n : Nat) (st : Status) (s : State) : State :=
  match s.item? n with
  | none => s
  | some x =>
    if x.transit then ((s.stomp n true).sourceNotice x st.code).quitItem n
    else if x.lateResponse.isSome then s
    else if !x.admitted then s.failService n st
    else if x.job && x.result.isSome then s.modItem n (fun x => { x with stopped := some st })
    else s.stopRequest n st none

/-- Stop every item of an instance; `admitted` false leaves admitted items alone. -/
def State.stopItems (i : Nat) (admitted : Bool) (st : Status) (s : State) : State :=
  ((s.disp.items.filter (fun e => e.2.inst == i && (admitted || !e.2.admitted))).map Prod.fst).foldl (fun s n => s.stopItem n st) s

/-- A queue pair's requests end without completions. -/
def State.dropRequests (q : Nat) (s : State) : State := ((s.qpItems q).map Prod.fst).foldl (fun s n => s.quitItem n) s

/-- Remove every queue pair of a function (R315). -/
def State.dropQueues (fn : Nat) (s : State) : State :=
  let qs := (s.queues.filter (fun e => e.2.fn == fn)).map Prod.fst
  let s := qs.foldl (fun s q => s.dropRequests q) s
  { s with queues := s.queues.filterT (fun _ x => x.fn != fn) }

/-! ### Service descriptors (R304-R307) -/

/-- Why a descriptor completes at once: status, operand, element. -/
structure FetchFail where
  st : Status
  operand : Nat := 0
  element : Nat := 0

/-- An address range stays below 2^64 (R306). -/
def inSpace (a n : Nat) : Bool := decide (a + n ≤ 2 ^ 64)

/-- One list segment of `n` elements (R306): its data elements with those before, and the next segment's length if it chains. -/
def readSegment (op : Nat) (sg : Bytes) (last : Nat) : Nat → Nat → Elements → Except FetchFail (Elements × Option Nat)
  | 0, _, es => .ok (es, none)
  | f + 1, k, es =>
    let o := 16 * k
    let a := leAt sg o 8
    let n := leAt sg (o + 8) 4
    let fl := leAt sg (o + 12) 4
    if 2 ≤ fl then .error { st := .reservedNonzero, operand := op }
    else if bit fl 0 then
      if k ≠ last then .error { st := .badFieldValue, operand := op }
      else if a % 16 ≠ 0 then .error { st := .badAlignment, operand := op }
      else if 1 ≤ n ∧ n ≤ 16 then .ok (es, some n) else .error { st := .badFieldValue, operand := op }
    else if !(decide (1 ≤ n ∧ n ≤ 16777216) && inSpace a n) then .error { st := .badFieldValue, operand := op }
    else if 4096 ≤ es.length then .error { st := .lengthLimit, operand := op }
    else readSegment op sg last f (k + 1) (es ++ [(a, n)])

/-- The segments of an operand in chain order; one that is missing faulted (R307). -/
def readChain (op : Nat) : List Bytes → Nat → Elements → Except FetchFail Elements
  | [], _, es => .error { st := .gatherFault, operand := op, element := es.length }
  | sg :: rest, n, es =>
    if sg.length < 16 * n then .error { st := .gatherFault, operand := op, element := es.length }
    else match readSegment op sg (n - 1) n 0 es with
      | .error e => .error e
      | .ok (es, none) => .ok es
      | .ok (es, some m) => readChain op rest m es

/-- Kind of operand `j` of an operand table. -/
def operandKind (t : Bytes) (j : Nat) : Nat := byteAt t (48 + 16 * j + 12)
/-- Its length. -/
def operandLen (t : Bytes) (j : Nat) : Nat := leAt t (48 + 16 * j + 8) 4
/-- Its address. -/
def operandAddr (t : Bytes) (j : Nat) : Nat := leAt t (48 + 16 * j) 8

/-- Reserved fields of an operand table. -/
def tableRsvOk (t : Bytes) : Bool :=
  allZero (slice t 6 2) && allZero (slice t 40 8) && (List.range 8).all (fun j => allZero (slice t (48 + 16 * j + 14) 2))

/-- Values of the operand entries (R305, R306). -/
def operandsOk (t : Bytes) : Bool :=
  (List.range 8).all (fun j =>
    let k := operandKind t j
    let n := byteAt t (48 + 16 * j + 13)
    decide (k ≤ 2) && (k != 0 || (operandAddr t j == 0 && operandLen t j == 0)) &&
      (if k = 2 then decide (1 ≤ n ∧ n ≤ 16) else n == 0) && (k != 1 || inSpace (operandAddr t j) (operandLen t j)))

/-- A flow key record as read: space, mode, value; none where its own fields are out of range (Table 8.5). -/
def flowKeyOf (b : Bytes) : Option (Nat × Bool × Bytes) :=
  let n := byteAt b 5
  if byteAt b 4 ≤ 1 ∧ n ≤ 32 ∧ allZero ((slice b 8 32).drop n) then some (leAt b 2 2, byteAt b 4 == 1, slice b 8 n) else none

/-- The flow a request names (R235, R306): its own queue pair's flow, or a free flow space. -/
def requestFlow (k : Nat) (q : Qp) (t : Bytes) : Option (Nat × Bool × Bytes) :=
  match flowKeyOf t with
  | none => none
  | some (sp, par, v) =>
    if leAt t 0 2 ≠ q.fn then none
    else if sp = 1 then (if !par && v.isEmpty then some (1, q.parallel, be 2 k) else none)
    else if sp < 0x100 then none
    else some (sp, par, v)

/-- The elements of operand `j`. -/
def operandElems (t : Bytes) (segs : List (List Bytes)) (j : Nat) : Except FetchFail Elements :=
  if operandKind t j = 1 then .ok [(operandAddr t j, operandLen t j)]
  else if operandKind t j = 2 then
    if operandAddr t j % 16 ≠ 0 then .error { st := .badAlignment, operand := j }
    else match readChain j (segs.getD j []) (byteAt t (48 + 16 * j + 13)) [] with
      | .error e => .error e
      | .ok es => if (es.map Prod.snd).foldl (· + ·) 0 = operandLen t j then .ok es else .error { st := .badLength, operand := j }
  else .ok []

/-- The elements of every operand, or the first failure. -/
def allElems (t : Bytes) (segs : List (List Bytes)) : List Nat → Except FetchFail (List Elements)
  | [] => .ok []
  | j :: js => match operandElems t segs j with
    | .error e => .error e
    | .ok e => match allElems t segs js with
      | .error f => .error f
      | .ok es => .ok (e :: es)

/-- The checks of R307, steps 1 to 5: the request's flow and the elements of its operands. -/
def fetchCheck (k : Nat) (q : Qp) (f : ServiceFetch) : Except FetchFail ((Nat × Bool × Bytes) × List Elements) :=
  let d := f.desc
  let code := leAt d 0 2
  let unver := bit (byteAt d 2) 2
  if (fnSpec code).isNone then .error { st := .badOpcode }
  else if !(byteAt d 2 &&& 6 == byteAt d 2 && byteAt d 3 == 0 && decide (byteAt d 10 < 2) && allZero (slice d 11 5)) then
    .error { st := .reservedNonzero }
  else if unver && !(code == 0x0604 && q.unver) then .error { st := .badFieldValue }
  else if leAt d 56 8 % 64 ≠ 0 then .error { st := .badAlignment }
  else match f.table with
    | none => .error { st := .gatherFault, operand := 0xFF }
    | some t =>
      if !tableRsvOk t then .error { st := .reservedNonzero }
      else if !operandsOk t then .error { st := .badFieldValue }
      else match requestFlow k q t with
        | none => .error { st := .badFieldValue }
        | some fl => match allElems t f.segs (List.range 8) with
          | .error e => .error e
          | .ok es => .ok (fl, es)

/-- The invocation record of a descriptor (R304) with its inputs and capacities. -/
def descInvoc (d t : Bytes) (ins : List Bytes) : Invoc :=
  { fn := leAt d 0 2, opts := leAt d 8 2, flags := byteAt d 10, k1 := leAt d 16 8, k2 := leAt d 24 8, p1 := leAt d 32 8,
    p2 := leAt d 40 8, p3 := leAt d 48 8,
    ins := (List.range 6).map (fun j => padTo (operandLen t j) (ins.getD j [])), cap0 := operandLen t 6, cap1 := operandLen t 7 }

/-- How traffic of an instance that is not ENABLED is answered (Table 14.3). -/
def InstState.refusal : InstState → Option Status
  | .enabled => none
  | .quiescing => some .instanceQuiescing
  | .resetting => some .instanceReset
  | _ => some .instanceDisabled

/-- The device fetches the queue pair's next descriptor now (R251, R302). -/
def State.mayFetch (s : State) (k : Nat) (x : Qp) : Bool :=
  s.works && x.active && (x.fn == 0 || s.last.cur.isSome) && x.sqHead != x.sqTail && !s.heldBack x.fn && !s.homeHeld x.fn x.parallel 1 (be 2 k) &&
    decide ((ringDist x.cqHead x.cqTail (2 ^ x.cqLog)) + (s.qpItems k).length + 1 < 2 ^ x.cqLog)

/-- SERVICE_DESCRIPTOR_FETCH (R304-R307): without Bus Master Enable the ring read meets a gather fault (Table 14.6); a STANDBY device
completes the request with NOT_ACTIVE (R423). -/
def State.serviceFetch (f : ServiceFetch) (s : State) : State :=
  match s.queues.get? f.qp with
  | none => s
  | some x =>
    if !s.mayFetch f.qp x then s
    else if !s.mayDma x.fn then State.instFault x.fn 1 { s with queues := s.queues.set f.qp { x with faulted := true } }
    else
      let d := f.desc
      let raise := bit (byteAt d 2) 1
      let tag := leAt d 4 4
      let s := { s with queues := s.queues.set f.qp { x with sqHead := (x.sqHead + 1) % 2 ^ x.sqLog } }
      let s := s.bump64 oHqDescriptors 1
      if s.standby then s.completeQp f.qp .notActive 0 false tag 0 0 raise
      else match fetchCheck f.qp x f with
      | .error e =>
        let s := if e.st = .gatherFault then (s.bump oHqGatherFaults).noteFault else s.bump oHqFormatRejects
        s.completeQp f.qp e.st e.operand false tag 0 e.element raise
      | .ok (fl, es) => match (s.instOf x.fn).d.st.refusal with
        | some st => s.completeQp f.qp st 0 false tag 0 0 raise
        | none =>
          let t := f.table.getD []
          let (flow, s) := s.joinFlow x.fn fl.2.1 fl.1 fl.2.2
          let cls := if x.cls = 0xFF then s.cfg.disp.qpCls else x.cls
          s.addItem { inst := x.fn, qp := some f.qp, tag := tag, raise := raise, unver := bit (byteAt d 2) 2, flow := flow, cls := cls,
                      quad := Config.functionQuadrant x.fn % 4, inv := descInvoc d t f.ins, bufs := es }

/-! ### Queue commands (R317) -/

/-- Queue pairs of a function. -/
def State.queuesOf (s : State) (fn : Nat) : Tbl Qp := s.queues.filter (fun e => e.2.fn == fn)

/-- QUEUE_CREATE. -/
def effQueueCreate (m : MCmd) (s : State) : Eff :=
  let c := m.cmd
  let i := c.unit
  let q := byteAt c.desc 32
  let x : Qp :=
    { fn := i, lix := q, sqLog := byteAt c.desc 33, cqLog := byteAt c.desc 34, cls := byteAt c.desc 35,
      parallel := bit (byteAt c.desc 36) 0, unver := bit (byteAt c.desc 36) 1, vector := c.u 38 2, sqBase := c.u 40 8,
      cqBase := c.u 48 8 }
  let k := s.queues.firstFree 65536 0
  effChecks s
    [ (s.hasFn i && (s.queueAt i q).isNone && decide (6 ≤ x.sqLog ∧ x.sqLog ≤ 16 ∧ 6 ≤ x.cqLog ∧ x.cqLog ≤ 16) &&
        (decide (x.cls ≤ 7) || x.cls == 0xFF) && decide (x.vector ≤ (if i = 0 then 2047 else 7)), .badFieldValue),
      (x.sqBase % 4096 == 0 && x.cqBase % 4096 == 0, .badAlignment),
      (decide ((s.queuesOf i).length < (s.instOf i).d.lim.qps ∧ k < 65536), .quotaExceeded) ]
    { s := ({ s with queues := s.queues.set k x }.touchInst i).overwrite m 56 (le 2 k) }

/-- QUEUE_DESTROY. -/
def effQueueDestroy (m : MCmd) (s : State) : Eff :=
  let c := m.cmd
  let i := c.unit
  match s.queueAt i (byteAt c.desc 32) with
  | none => .fail s .badFieldValue
  | some (k, x) =>
    if !s.hasFn i then .fail s .badFieldValue
    else
      let s := { s with queues := s.queues.set k { x with active := false, abort := x.abort || bit (byteAt c.desc 33) 0 } }
      let s := if bit (byteAt c.desc 33) 0 then s.dropRequests k else s
      { s := (s.touchInst i).reapQueue k }

/-- QUEUE_STATUS. -/
def effQueueStatus (m : MCmd) (s : State) : Eff :=
  let c := m.cmd
  if !s.hasFn c.unit then .fail s .badFieldValue
  else
    let b := match s.queueAt c.unit (byteAt c.desc 32) with
      | none => zeros 16
      | some (k, x) => le 2 k ++ [BitVec.ofNat 8 (if x.active then 1 else 2), 0#8] ++ le 2 x.sqHead ++ le 2 x.cqTail ++
          le 4 (s.qpItems k).length ++ zeros 4
    { s := s.overwrite m 40 b }

/-! ### Function level resets (R315, R316) -/

/-- FLR of a VF (R315); software sets its Bus Master Enable again. -/
def State.vfFlr (n : Nat) (s : State) : State :=
  if n = 0 ∨ !s.hasFn n then s
  else
    let s := (s.dropQueues n).touchInst n
    let s := (s.bump oHqFlr).raise 9 oHqIrq 1
    { s with pcie := { s.pcie with bmeOff := if s.pcie.bmeOff.contains n then s.pcie.bmeOff else s.pcie.bmeOff ++ [n],
                                   msixWait := s.pcie.msixWait.filter (fun e => e.1 != n),
                                   msixPend := s.pcie.msixPend.filter (fun e => e.1 != n) } }

/-- A pending command is taken back when its commit has not happened (R316). -/
def isCommand : Purpose → Bool
  | .command _ _ => true
  | .takeRead _ => true
  | .paged _ => true
  | _ => false

/-- What an FLR of PF0 does to management, key update and log work (R316). -/
def State.flrManagement (s : State) : State :=
  let mute (m : MCmd) : MCmd := { m with mute := true }
  let stays (p : Purpose) : Bool := !isCommand p &&
    (match p with | .kumPaged _ => false | .kum k => decide (1 ≤ (s.kum.msgs.getD k { entry := [], msg := [] }).stage) | _ => true)
  { s with
    mgmt := { s.mgmt with staged := [], urgent := [], urgentNow := [], held := [], committing := none, busy := false, urgRead := false,
                          baseCmd := s.mgmt.baseCmd.map mute, portCmd := s.mgmt.portCmd.map mute }
    last := { s.last with job := match s.last.job with
                | none => none
                | some j => if j.boundary.isSome then some { j with m := mute j.m } else none }
    dev := { s.dev with fwJob := s.dev.fwJob.map (fun j => { j with m := mute j.m }) }
    fab := { s.fab with cmds := s.fab.cmds.map (fun e => (e.1, mute e.2)) }
    card := { s.card with job := s.card.job.map (fun j => { j with m := mute j.m }) }
    twin := { s.twin with cas := (s.twin.cas.filterT (fun _ o => stays o.purpose)).mapT (fun _ o => match o.purpose with
                            | .promote c h (some m) => { o with purpose := .promote c h (some (mute m)) }
                            | _ => o), acks := s.twin.acks.filterT (fun _ p => stays p) }
    ks := { s.ks with fetches := s.ks.fetches.mapT (fun _ f => { f with tasks := f.tasks.filter (fun t => stays t.1) }) }
    kum := { s.kum with msgs := (s.kum.msgs.filterT (fun _ x => decide (1 ≤ x.stage))).mapT (fun _ x => { x with discard := true }),
                        held := [] }
    inst := s.inst.mapT (fun i x => if s.logOn i then { x with logOver := true } else x) }

/-- An FLR of PF0 (R315, R316); PERST_N acts as this FLR (R519). -/
def State.flrPf0 (s : State) : State :=
  if !s.dev.regsUp then s
  else
    let vfs := if s.pcie.vfEnable then (List.range s.pcie.numVfs).map (· + 1) else []
    let s := vfs.foldl (fun s n => s.vfFlr n) s
    let s := s.flrManagement
    let s := s.dropQueues 0
    let s := ((s.setFld oMgmtControl 0 0 0).setFld oKpgControl 0 0 0).setFld oKumControl 0 0 0
    let s := (s.inst.map Prod.fst).foldl (fun s i => if s.logOn i then s.setFld (instReg oInstLogControl i) 0 0 0 else s) s
    let s := s.bump oHqFlr
    { s with pcie := { s.pcie with vfEnable := false, numVfs := 0, bmeOff := if s.pcie.bmeOff.contains 0 then s.pcie.bmeOff else s.pcie.bmeOff ++ [0],
                                   msixWait := [], msixPend := s.pcie.msixPend.filter (fun e => e.1 != 0) } }

/-- VF_ENABLE (R298): the host gives NumVFs functions; disabling them acts as an FLR of each. -/
def State.vfEnable (n : Nat) (s : State) : State :=
  if !s.dev.regsUp || 4095 < n then s
  else if n = 0 then
    let s := (List.range s.pcie.numVfs).foldl (fun s k => s.vfFlr (k + 1)) s
    { s with pcie := { s.pcie with vfEnable := false, numVfs := 0 } }
  else if s.pcie.vfEnable then s
  else { s with pcie := { s.pcie with vfEnable := true, numVfs := n } }

end Sys2Proof.Machine
end

