-- ==== Sys2Proof/Machine/Placement.lean ====
section
/-! DEFINITION. Admission (R242-R246), the placement engine (R253-R256), placement commands (R257, R258), and the expiry of flows and saved
contexts (R238, R331). -/

namespace Sys2Proof.Machine

/-! ### Admission (R242-R244) -/

/-- The device admits work: ACTIVE, with a last (R224), not between B and resumption (R228), not paused for the partner's return (R422). -/
def State.admitting (s : State) : Bool :=
  s.works && !s.standby && s.last.cur.isSome && !s.admissionStopped && decide (s.twin.admitFrom ≤ s.tick.count) && s.twin.paused.isNone

/-- Cost of an item in deficit round robin (R243). -/
def State.itemCost (s : State) (x : Item) : Nat := max 1 ((s.estimate x + 3) / 4)

/-- The item can be admitted in this tick on its frond (R244). -/
def State.canAdmit (s : State) (f : Nat) (x : Item) : Bool :=
  s.hasCredit x && decide (s.admittedOn f < 8192) && decide (s.disp.work.getD f 0 < 4 * s.tickCycles)

/-- The first ready item of each instance in a class, in the order of the ready list. -/
def State.heads (s : State) (f c : Nat) : Tbl Item :=
  let mine := (s.readyOn f).filter (fun e => e.2.cls == c)
  mine.filter (fun e => mine.all (fun g => g.2.inst != e.2.inst || decide (e.2.order ≤ g.2.order)))

/-- Rounds until an instance's deficit covers its item. -/
def State.rounds (s : State) (f c : Nat) (x : Item) : Nat :=
  let d := s.disp.deficits.getD (deficitKey f c x.inst) 0
  let w := 16 * max 1 (s.instOf x.inst).d.lim.weight
  (s.itemCost x - d + w - 1) / w

/-- The item that deficit weighted round robin serves next in a class; the deficits after it. -/
def State.serveClass (s : State) (f c : Nat) : Option (Nat × State) :=
  let hs := s.heads f c
  let cand := hs.filter (fun e => s.canAdmit f e.2)
  let least := cand.foldl (fun m e => min m (s.rounds f c e.2)) (2 ^ 64)
  let best := (cand.filter (fun e => s.rounds f c e.2 == least)).foldl (fun b e => match b with
    | none => some e
    | some g => if e.2.inst < g.2.inst then some e else some g) none
  match best with
  | none => none
  | some (n, x) =>
    let grow := hs.foldl (fun t e =>
      let k := deficitKey f c e.2.inst
      t.set k (t.getD k 0 + least * 16 * max 1 (s.instOf e.2.inst).d.lim.weight)) s.disp.deficits
    let k := deficitKey f c x.inst
    let last := decide (((s.readyOn f).filter (fun e => e.2.cls == c && e.2.inst == x.inst)).length ≤ 1)
    let t := if last then grow.erase k else grow.set k (grow.getD k 0 - s.itemCost x)
    some (n, { s with disp := { s.disp with deficits := t } })

/-- The item of the highest class that has one to admit. -/
def State.serve (s : State) (f : Nat) : Option (Nat × State) :=
  (List.range 8).foldl (fun r c => match r with | some x => some x | none => s.serveClass f c) none

/-- Count in a pattern's statistics: 0 parsed, 1 PARSE_FAILED, 2 PARSE_LIMIT (Table 7.9). -/
def State.patStat (p k : Nat) (s : State) : State :=
  { s with last := { s.last with patStats := s.last.patStats.set (3 * p + k) ((s.last.patStats.getD (3 * p + k) 0 + 1) % 2 ^ 64) } }

/-- A message is parsed before its seam starts (R168, R176). -/
def State.parseItem (n : Nat) (s : State) : State :=
  match s.item? n with
  | none => s
  | some x =>
    let d := s.itemSeam x
    let p := s.itemPat x
    match parseMsg (s.itemCfg x).pats.ebcdic p x.raw with
    | .error (st, off) =>
      let s := (s.charge x.inst 0 1 0).patStat d.pattern (if st = .parseLimit then 2 else 1)
      let s := match x.sess with
        | none => s
        | some k => if p.notice then s.sendNotice k st.code off x.phase x.seq else s
      s.endItem n
    | .ok m =>
      let e := s.disp.estim.getD x.seam (0, 0, 8 * d.stitches.length)
      let s := { s with disp := { s.disp with estim := s.disp.estim.set x.seam (e.1, e.2.1 + 1, e.2.2) } }
      let s := (s.modItem n (fun x => { x with msg := some m })).fieldOps n (msgNodes p m)
      (s.patStat d.pattern 0).seamStat x 0

/-- The seam of a message uses a section of the last with an uncorrected error (Table 18.3): its pattern, itself, or a table. -/
def State.sectionHit (s : State) (seam : Nat) : Bool :=
  s.last.hit.contains 5 || s.last.hit.contains 6 ||
    (s.last.hit.contains 7 && (s.seamOf seam).stitches.any (fun t => t.op == opSelectKey || t.op == opRoute))

/-- An item is admitted: its deadline starts, and it keeps the configuration and the bindings in force (R37, R49, R192). -/
def State.startItem (f n : Nat) (s : State) : State :=
  match s.item? n with
  | none => s
  | some x =>
    let est := s.estimate x
    let s := { s with disp := { s.disp with work := s.disp.work.set f (s.disp.work.getD f 0 + est) } }
    let s := s.modItem n (fun x =>
      { x with stage := .running, admitted := true, cfg := s.last.cur.getD 0, admitTick := s.tick.count, binds := (s.instOf x.inst).dests })
    if !x.transit then s else if s.sectionHit x.seam then s.stopItem n .hwFault else s.parseItem n

/-- The resumed item that a frond serves first (R242). -/
def State.firstResumed (s : State) (f : Nat) : Option Nat :=
  ((s.disp.items.filter (fun e => e.2.frond == f && e.2.stage == .resumed)).foldl (fun b e => match b with
    | none => some e
    | some g => if e.2.order < g.2.order then some e else some g) none).map Prod.fst

/-- ITEM_ADMIT (R242-R244): a resumed item first, else a ready item; none where nothing can be taken. -/
def State.itemAdmit (f : Nat) (s : State) : State :=
  if !s.works then s
  else match s.firstResumed f with
    | some n => s.modItem n (fun x => { x with stage := .running })
    | none =>
      if !s.admitting || !s.frondOn f then s
      else match s.serve f with
        | none => s
        | some (n, s) => s.startItem f n

/-- WAIT_POOL_FULL_COUNT (R251): after 64 consecutive full ticks credit is withheld from the flows homed on the frond. -/
def State.waitPoolFullCount (f : Nat) (s : State) : State :=
  if 64 ≤ s.disp.poolFull.getD f 0 ∧ 8192 ≤ s.admittedOn f then { s with disp := { s.disp with poolFull := s.disp.poolFull.set f 65 } }
  else s

/-! ### Pins and frond sets (R254, R257) -/

/-- The frond set leaves at least one frond that the last enables. -/
def State.frondsOk (s : State) (m : Nat) : Bool := m != 0 && (List.range 16).any (fun f => bit m f && bit s.cfg.enables.fronds f)

/-- A flow of the instance is pinned to a frond outside the set. -/
def State.pinOutside (s : State) (i m : Nat) : Bool :=
  s.disp.flows.any (fun e => e.2.inst == i && e.2.pinned && (match e.2.home with | none => false | some f => !bit m f))

/-- The instance exists. -/
def State.instLive (s : State) (i : Nat) : Bool := (s.instOf i).d.st != .free

/-- A flow's version counts one more (R238). -/
def State.touchFlow (f : Nat) (s : State) : State :=
  (s.modFlow f (fun x => { x with version := nextVersion x.version })).touch 5 f

/-- Format of a flow key record (Table 8.5). -/
def keyRecordFail (b : Bytes) : Option Status :=
  lowestFail [(decide (40 ≤ b.length), .badLength), (allZero (slice b 6 2), .reservedNonzero), ((flowKeyOf b).isSome, .badFieldValue)]

/-- A flow's key equals a record's. -/
def flowMatches (x : Flow) (b : Bytes) : Bool :=
  match flowKeyOf b with
  | none => false
  | some (sp, par, v) => x.inst == leAt b 0 2 && x.space == sp && x.parallel == par && x.value == v

/-- DISP_FLOW_LOOKUP (R258). -/
def effFlowLookup (m : MCmd) (s : State) : Eff :=
  let b := m.cmd.data
  let i := m.cmd.unit
  let done (f : Nat) (s : State) : Eff := { s := (s.overwrite m 48 (le 4 f)).overwrite m 52 (le 4 (s.flowOf f).version) }
  match keyRecordFail b, flowKeyOf b with
  | some st, _ => .fail s st
  | none, none => .fail s .badFieldValue
  | none, some (sp, par, v) =>
    if leAt b 0 2 ≠ i ∨ !s.instLive i then .fail s .stateMismatch
    else match s.findFlow i par sp v with
      | some f => done f s
      | none =>
        if !bit (byteAt m.cmd.desc 40) 0 then .fail s .flowNotLive
        else match s.allocFlow i par sp v with
          | none => .fail s .quotaExceeded
          | some (f, s) => done f s

/-- The live flow a command names, with its record. -/
def withFlow (m : MCmd) (s : State) (k : Nat → Flow → Eff) : Eff :=
  match keyRecordFail m.cmd.data with
  | some st => .fail s st
  | none => match s.disp.flows.get? m.cmd.unit with
    | none => .fail s .stateMismatch
    | some x => if m.cmd.unit < 1044480 ∧ flowMatches x m.cmd.data then k m.cmd.unit x else .fail s .stateMismatch

/-- DISP_PIN_FLOW (R254, R257). -/
def effPinFlow (m : MCmd) (s : State) : Eff :=
  let pin := bit (byteAt m.cmd.desc 40) 0
  let f := byteAt m.cmd.desc 41
  withFlow m s (fun k x =>
    effChecks s [(decide (f ≤ 15), .badFieldValue), (!pin || bit (s.instOf x.inst).d.lim.fronds f, .placementPinConflict)]
      { s := (s.modFlow k (fun x => if pin then { x with pinned := true, home := some f } else { x with pinned := false })).touchFlow k })

/-- DISP_HINT_FLOW (R254). -/
def effHintFlow (m : MCmd) (s : State) : Eff :=
  let h := byteAt m.cmd.desc 40
  withFlow m s (fun k _ =>
    effChecks s [(decide (h ≤ 15) || h == 0xFF, .badFieldValue)]
      { s := (s.modFlow k (fun x => { x with hint := if h = 0xFF then none else some h, streak := 0 })).touchFlow k })

/-- DISP_FRONDS (R257). -/
def effFronds (m : MCmd) (s : State) : Eff :=
  let i := m.cmd.unit
  let set := m.cmd.u 32 2
  effChecks s
    [ (s.instLive i, .stateMismatch), (s.frondsOk set, .badFieldValue), (!s.pinOutside i set, .placementPinConflict) ]
    { s := s.mirror (.command m.cmd.code m), st := none }

/-- The frond set takes effect. -/
def doneFronds (m : MCmd) (s : State) : State :=
  let i := m.cmd.unit
  let s := s.modInst i (fun x => { x with d := { x.d with lim := { x.d.lim with fronds := m.cmd.u 32 2 } } })
  ((s.touchInst i).saveInst i).finish m .ok

/-- The version of a key that is not resident counts one more. -/
def State.touchHandle (h : Nat) (s : State) : State :=
  match s.key? (hSlot h) with
  | some _ => s.touchKey (hSlot h)
  | none =>
    let (v, c) := s.keyUnit h
    { s with ks := { s.ks with gone := s.ks.gone.set (hSlot h) (h, nextVersion v, c) } }.touch 6 h

/-- DISP_HINT_KEY (R254). -/
def effHintKey (m : MCmd) (s : State) : Eff :=
  let h := m.cmd.unit
  let q := byteAt m.cmd.desc 32
  effChecks s
    [ (hStore h == 1 && (decide (q ≤ 3) || q == 0xFF), .badFieldValue), (decide ((s.keyUnit h).1 ≠ 0), .keyNotFound) ]
    { s := { s with ks := { s.ks with hints := if q = 0xFF then s.ks.hints.erase (hSlot h) else s.ks.hints.set (hSlot h) (q, 0) } }.touchHandle h }

/-- DISP_PLACEMENT (R253). -/
def effPlacement (m : MCmd) (s : State) : Eff :=
  { s := { s with disp := { s.disp with frozen := bit (byteAt m.cmd.desc 32) 0 } }.touchDev }

/-! ### The placement engine (R253-R256) -/

/-- PLACEMENT_RUN: the engine's moves of this epoch, within the budgets; they commit at the next epoch boundary. Which moves it wants
is its own choice, the command's operand. -/
def State.placementRun (moves : List PlanMove) (s : State) : State :=
  if !s.works || s.disp.frozen then s
  else
    let d := s.cfg.disp
    let flows := (moves.filter (fun p => p.kind == 0)).take d.flowBudget
    let slots := (moves.filter (fun p => p.kind == 1 || p.kind == 2)).take d.slotBudget
    { s with disp := { s.disp with plan := flows ++ slots ++ moves.filter (fun p => decide (3 ≤ p.kind)) } }

/-- What a run has done so far: the state, its moves and its conflicts. -/
structure RunState where
  s : State
  moves : Nat := 0
  conflicts : Nat := 0

/-- A flow's target (R253, R255, R256). -/
def RunState.moveFlow (r : RunState) (f dest : Nat) : RunState :=
  match r.s.disp.flows.get? f with
  | none => r
  | some x =>
    if 1044480 ≤ f ∨ !r.s.permitted x.inst dest then r
    else if x.pinned then r
    else match x.hint with
      | none => { r with s := r.s.modFlow f (fun x => { x with home := some dest }), moves := r.moves + 1 }
      | some h =>
        if h = dest then { r with s := r.s.modFlow f (fun x => { x with home := some dest, streak := 0 }), moves := r.moves + 1 }
        else if x.streak + 1 < 8 then { r with s := r.s.modFlow f (fun x => { x with streak := x.streak + 1 }) }
        else
          let s := (r.s.modFlow f (fun x => { x with hint := none, streak := 0, home := some dest })).touchFlow f
          { r with s := s.bump oDispHintOverrides, moves := r.moves + 1 }

/-- A slot's migration; abandoned while the slot has a hold (R253, R256). Its bank in the quadrant is the device's choice (log 1). -/
def RunState.moveSlot (r : RunState) (slot q : Nat) : RunState :=
  match r.s.key? slot with
  | none => r
  | some k =>
    let bs := (r.s.keyBanks (hStore k.handle == 1)).filter (fun b => bankQuadrant b == q)
    let place (s : State) : State := (s.modKey slot (fun k => { k with bank := bs.getD (s.drawnNat bs.length) 0 })).spend 8
    if 0 < k.holds ∨ bs.isEmpty then r
    else match r.s.ks.hints.get? slot with
      | none => { r with s := place r.s, moves := r.moves + 1 }
      | some (h, n) =>
        if h = q then { r with s := { (place r.s) with ks := { (place r.s).ks with hints := r.s.ks.hints.set slot (h, 0) } }, moves := r.moves + 1 }
        else if n + 1 < 8 then { r with s := { r.s with ks := { r.s.ks with hints := r.s.ks.hints.set slot (h, n + 1) } } }
        else
          let s := place { r.s with ks := { r.s.ks with hints := r.s.ks.hints.erase slot } }
          { r with s := (s.touchKey slot).bump oDispHintOverrides, moves := r.moves + 1 }

/-- One move of the plan. -/
def RunState.move (r : RunState) (p : PlanMove) : RunState :=
  match p.kind with
  | 0 => r.moveFlow p.id p.dest
  | 1 => r.moveSlot p.id p.dest
  | 2 => { r with moves := r.moves + 1 }
  | 3 => match r.s.key? p.id with
    | none => r
    | some k =>
      if bit k.flags fPinned then { r with conflicts := r.conflicts + 1 }
      else if evictable (hInst k.handle) k then { r with s := r.s.evict p.id } else r
  | _ => if (match r.s.disp.flows.get? p.id with | none => false | some x => x.pinned) then { r with conflicts := r.conflicts + 1 } else r

/-- Hinted flows that the plan leaves alone return to their hinted home (R256). -/
def State.restoreHints (plan : List PlanMove) (s : State) : State :=
  { s with disp := { s.disp with flows := s.disp.flows.mapT (fun f x => match x.hint with
      | none => x
      | some h => if x.pinned || plan.any (fun p => p.kind == 0 && p.id == f) || !s.permitted x.inst h then x
                  else { x with home := some h, streak := 0 }) } }

/-- The run's changes commit at an epoch boundary, after the staged commands (R253). -/
def State.commitPlan (s : State) : State :=
  let plan := if s.disp.frozen then [] else s.disp.plan
  let s := if s.disp.frozen then s else s.restoreHints plan
  let r := plan.foldl RunState.move { s := s }
  let idle := (r.s.inst.filter (fun e => e.2.d.st != .free && !(List.range 16).any (r.s.permitted e.1))).length
  let c := r.conflicts + idle
  let s := if c = 0 then r.s else (r.s.bumpF oDispPinConflict 31 0 c).raise 5 oDispIrq 0
  { s with disp := { s.disp with plan := [], planEpoch := s.epoch, planMoves := r.moves } }

/-! ### Expiry (R238, R331) -/

/-- FLOW_LINGER_EXPIRY. -/
def State.flowLinger (f : Nat) (s : State) : State :=
  match s.disp.flows.get? f with
  | none => s
  | some x =>
    if s.works && decide (f < 1044480) && (s.inFlow f).isEmpty && !x.pinned && x.hint.isNone &&
        decide (x.emptyAt + s.cfg.disp.linger ≤ s.tick.count)
    then { s with disp := { s.disp with flows := s.disp.flows.erase f } } else s

/-- CONTEXT_IDLE_EXPIRY. -/
def State.contextIdle (e : Nat) (s : State) : State :=
  match s.eng.ctxs.get? e with
  | none => s
  | some x =>
    if s.works && x.holder.isNone && decide (x.lastUse + s.fld oCiphContextIdle 31 0 ≤ s.tick.count)
    then (s.freeCtx e).bump oCiphContextExpired else s

end Sys2Proof.Machine
end

