-- ==== Sys2Proof/Machine/Wire.lean ====
section
/-! DEFINITION. Received frames (R262-R272, R335, R336): the order of the checks, MACsec, tags, encapsulations, and the HTT header. -/

namespace Sys2Proof.Machine

/-! ### MACsec on receipt (R335-R338) -/

/-- EtherType of a frame taken at `off`. -/
def etherType (b : Bytes) (off : Nat) : Nat := beAt b off 2

/-- Where the EtherType after a VLAN tag stands. -/
def typeOff (b : Bytes) : Nat := if etherType b 12 = 0x8100 then 16 else 12

/-- The kinds that MACsec sub-ports receive without a SecTAG (R336): PFC, LLDP, PRESENCE. -/
def plainKind (b : Bytes) : Bool :=
  let o := typeOff b
  etherType b o == 0x8808 || etherType b o == 0x88CC || (etherType b o == 0x88B5 && byteAt b (o + 3) == 0x20)

/-- The packet number of a SecTAG: with XPN the upper half is recovered from the lowest acceptable one (IEEE 802.1AE; log 10). -/
def Sa.fullPn (a : Sa) (low32 : Nat) : Nat :=
  if !a.xpn then low32
  else if low32 < 2 ^ 31 ∧ 2 ^ 31 ≤ a.low % 2 ^ 32 then (a.low / 2 ^ 32 + 1) * 2 ^ 32 + low32
  else a.low / 2 ^ 32 * 2 ^ 32 + low32

/-- What MACsec makes of a frame: the frame without its SecTAG with the SA after it, or the counter of the discard. -/
inductive MacsecRx where
  | ok (an : Nat) (a : Sa) (frame : Bytes)
  | drop (counter : Nat)

/-- Check and open a frame with a SecTAG. A bad tag and an unknown SA count as failures of the ICV. -/
def SubPort.openMacsec (x : SubPort) (b : Bytes) : MacsecRx :=
  let tci := byteAt b 14
  let sl := byteAt b 15
  let rest := b.drop 28
  let n := if sl = 0 then rest.length - 16 else sl
  if tci / 4 ≠ 0x0B ∨ 48 ≤ sl ∨ rest.length < n + 16 then .drop oMacsecRxIcvFail
  else match x.rx.get? (tci % 4) with
    | none => .drop oMacsecRxIcvFail
    | some a =>
      let pn := a.fullPn (beAt b 16 4)
      if a.sci ≠ beAt b 20 8 then .drop oMacsecRxIcvFail
      else if pn < a.low then .drop oMacsecRxLate
      else match gcmOpen a.key (a.iv pn) (b.take 28) (rest.take (n + 16)) 16 with
        | none => .drop oMacsecRxIcvFail
        | some txt =>
          let next := max a.pn (pn + 1)
          .ok (tci % 4) { a with pn := next, low := max a.low (next - a.window) } (b.take 12 ++ txt)

/-! ### Frames taken apart -/

/-- An HTT frame as received: encapsulation, source addresses, whether it went to the discovery address, whether padding may follow,
and its bytes. -/
structure Heard where
  encap : Nat
  mac : Bytes
  udp : Nat := 0
  ip : Bytes := []
  discovery : Bool := false
  mayPad : Bool := false
  bytes : Bytes
  deriving DecidableEq, Repr

/-- What a frame is, once its tag is off. -/
inductive Taken where
  | pfc (b : Bytes)
  | lldp (mac b : Bytes)
  | arp (mac b : Bytes)
  | neighbour (mac b : Bytes)
  | htt (h : Heard)
  | other
  deriving DecidableEq, Repr

/-- 01-80-C2-00-00-0E. -/
def discoveryMac : Bytes := [0x01#8, 0x80#8, 0xC2#8, 0x00#8, 0x00#8, 0x0E#8]
/-- 01-80-C2-00-00-01. -/
def controlMac : Bytes := [0x01#8, 0x80#8, 0xC2#8, 0x00#8, 0x00#8, 0x01#8]
/-- The broadcast address. -/
def broadcastMac : Bytes := List.replicate 6 0xFF#8

/-- The solicited-node multicast address of an IPv6 address, and its Ethernet address (RFC 4291, RFC 2464; log 10). -/
def solicited (ip : Bytes) : Bytes := [0xFF#8, 0x02#8] ++ zeros 9 ++ [0x01#8, 0xFF#8] ++ ip.drop 13
/-- Ethernet address of a solicited-node address. -/
def solicitedMac (ip : Bytes) : Bytes := [0x33#8, 0x33#8, 0xFF#8] ++ ip.drop 13

/-- An HTT frame in UDP over IPv4 (R269): the sub-port's address and port, no fragment, good checksums. -/
def takeIpv4 (udp : Nat) (d : SubDef) (mac b : Bytes) : Taken :=
  let ihl := 4 * (byteAt b 0 % 16)
  let tot := beAt b 2 2
  let u := slice b ihl (tot - ihl)
  let n := beAt u 4 2
  let ps := slice b 12 8 ++ [0#8, 17#8] ++ be 2 n
  if byteAt b 0 / 16 = 4 ∧ 20 ≤ ihl ∧ ihl + 8 ≤ tot ∧ tot ≤ b.length ∧ sum16 (b.take ihl) = 65535 ∧ beAt b 6 2 % 16384 = 0 ∧
      byteAt b 9 = 17 ∧ slice b 16 4 = d.ip4 ∧ beAt u 2 2 = udp ∧ 8 ≤ n ∧ n ≤ u.length ∧
      (beAt u 6 2 = 0 ∨ sum16 (ps ++ u.take n) = 65535)
  then .htt { encap := 2, mac := mac, udp := beAt u 0 2, ip := padTo 16 (slice b 12 4), bytes := slice u 8 (n - 8) }
  else .other

/-- An IPv6 packet: neighbour solicitation, or HTT in UDP (R265, R269). -/
def takeIpv6 (udp : Nat) (d : SubDef) (mac b : Bytes) : Taken :=
  let u := slice b 40 (beAt b 4 2)
  let n := beAt u 4 2
  let nx := byteAt b 6
  let ps := slice b 8 32 ++ be 4 u.length ++ [0#8, 0#8, 0#8, BitVec.ofNat 8 nx]
  let dst := slice b 24 16
  if byteAt b 0 / 16 ≠ 6 ∨ u.length ≠ beAt b 4 2 ∨ allZero d.ip6 then .other
  else if nx = 58 then
    if (dst = d.ip6 ∨ dst = solicited d.ip6) ∧ byteAt b 7 = 255 ∧ 24 ≤ u.length ∧ byteAt u 0 = 135 ∧ byteAt u 1 = 0 ∧
        slice u 8 16 = d.ip6 ∧ sum16 (ps ++ u) = 65535
    then .neighbour mac (slice b 8 16) else .other
  else if nx = 17 ∧ dst = d.ip6 ∧ beAt u 2 2 = udp ∧ 8 ≤ n ∧ n = u.length ∧ beAt u 6 2 ≠ 0 ∧ sum16 (ps ++ u) = 65535 then
    .htt { encap := 1, mac := mac, udp := beAt u 0 2, ip := slice b 8 16, bytes := u.drop 8 }
  else .other

/-- The frame by EtherType and destination (R264, R265, R272 step 1). `short`: it is no longer than the shortest frame. -/
def takeFrame (h : HttSec) (d : SubDef) (short : Bool) (b : Bytes) : Taken :=
  let o := typeOff b
  let dst := b.take 6
  let mac := slice b 6 6
  let body := b.drop (o + 2)
  let t := etherType b o
  if t = 0x8808 then (if dst = controlMac ∧ beAt body 0 2 = 0x0101 then .pfc body else .other)
  else if t = 0x88CC then (if dst = discoveryMac then .lldp mac body else .other)
  else if t = 0x0806 then
    if (dst = broadcastMac ∨ dst = d.mac) ∧ body.take 8 = [0#8, 1#8, 8#8, 0#8, 6#8, 4#8, 0#8, 1#8] ∧ slice body 24 4 = d.ip4 ∧
        !allZero d.ip4 then .arp mac body else .other
  else if t = 0x86DD then
    match takeIpv6 h.udp d mac body with
    | .neighbour m s => if dst = d.mac ∨ dst = solicitedMac d.ip6 then .neighbour m s else .other
    | .htt x => if dst = d.mac ∧ bit h.encaps 0 then .htt x else .other
    | _ => .other
  else if t = 0x0800 then (if dst = d.mac ∧ bit h.encaps 1 ∧ !allZero d.ip4 then takeIpv4 h.udp d mac body else .other)
  else if t = 0x88B5 then
    if dst = discoveryMac then
      (if byteAt body 1 = 0x20 then .htt { encap := 3, mac := mac, discovery := true, mayPad := short, bytes := body } else .other)
    else if dst = d.mac ∧ bit h.encaps 2 then .htt { encap := 3, mac := mac, mayPad := short, bytes := body } else .other
  else .other

/-- Bytes of the message buffer that the messages of a port's priority hold (R251; log 86). -/
def State.bufferUse (s : State) (p j : Nat) : Nat :=
  ((s.disp.items.filter (fun e => match e.2.sess with
    | none => false
    | some k => (s.sessOf k).port == p && (s.bindingOf (s.sessOf k)).prio == j)).map
      (fun e => e.2.raw.length + (e.2.inv.ins.map List.length).sum)).sum

/-- The share of a port's priority is full (R266). -/
def State.bufferFull (s : State) (p j : Nat) : Bool := decide (0 < s.bufferUse p j) && decide (Config.bufferShare p j ≤ s.bufferUse p j)

/-- The frames that a full share discards (R266): DATA sent within credit always finds space (R250), and PFC needs none. -/
def Taken.needsRoom : Taken → Bool
  | .pfc _ => false
  | .htt h => byteAt h.bytes 1 != 1
  | .lldp _ _ => true
  | .arp _ _ => true
  | .neighbour _ _ => true
  | .other => false

/-- A received frame's priority (R266). -/
def SubDef.rxPrio (d : SubDef) (b : Bytes) : Nat := if etherType b 12 = 0x8100 then beAt b 14 2 / 8192 else d.prio

/-- Take a received frame apart: size, FCS, MACsec, VLAN tag, kind, room in the message buffer; discards are counted (R262, R264, R266, R336). -/
def State.takeRx (f : RxFrame) (d : SubDef) (s : State) : Taken × State :=
  let c (off : Nat) (s : State) : Taken × State := (.other, s.bump (portReg off f.port))
  let s := s.bump64 (portReg oPortRxFrames f.port) 1
  if 9216 < f.bytes.length + 4 then c oPortRxOversize s
  else if !f.fcsOk then c oPortRxBadFcs s
  else if f.bytes.length < 60 then c oPortRxNotHtt s
  else
    let opened : MacsecRx := if !d.macsec then .ok 4 {} f.bytes
      else if etherType f.bytes 12 = 0x88E5 then (s.subOf f.port f.sub).openMacsec f.bytes
      else if plainKind f.bytes then .ok 4 {} f.bytes
      else .drop oMacsecRxUntagged
    match opened with
    | .drop off => (.other, s.bump (off + 32 * f.port))
    | .ok an a b =>
      let s := if an < 4 then s.modSub f.port f.sub (fun x => { x with rx := x.rx.set an a }) else s
      let vid := beAt b 14 2 % 4096
      if etherType b 12 = 0x8100 ∧ vid ≠ 0 ∧ vid ≠ d.vid then c oPortRxNotHtt s
      else match takeFrame s.cfg.htt d (decide (f.bytes.length ≤ 60)) b with
        | .other => c oPortRxNotHtt s
        | t => if t.needsRoom && !bit d.pfc (d.rxPrio b) && s.bufferFull f.port (d.rxPrio b) then c oPortBufferDrops s else (t, s)

/-! ### The HTT header (R270, R272 step 2) -/

/-- The header's fields (Table 9.5). -/
structure Hdr where
  typ : Nat
  flags : Nat
  rid : Nat
  phase : Nat
  seq : Nat
  limit : Nat
  cphase : Nat
  len : Nat
  deriving DecidableEq, Repr

/-- Read a header. -/
def Hdr.read (b : Bytes) : Hdr :=
  { typ := byteAt b 1, flags := byteAt b 2, rid := beAt b 4 4, phase := beAt b 8 4, seq := beAt b 12 6, limit := beAt b 18 6,
    cphase := beAt b 24 4, len := beAt b 28 2 }

/-- A session frame. -/
def Hdr.session (h : Hdr) : Bool := decide (1 ≤ h.typ ∧ h.typ ≤ 4)

/-- The payload length suits the type. -/
def Hdr.lenOk (h : Hdr) : Bool :=
  match h.typ with
  | 0x02 => h.len == 24
  | 0x03 => h.len == 8
  | 0x04 => h.len == 8
  | 0x20 => h.len == 48
  | _ => decide (h.len ≤ 8192)

/-- Fields that are zero, or bounded, by type: session frames count from 1, setup frames carry a fragment count and index. -/
def Hdr.fieldsOk (h : Hdr) : Bool :=
  if h.session then (if h.typ = 1 then decide (h.flags < 2) else h.flags == 0) && h.seq != 0
  else
    h.flags == 0 && h.phase == 0 && h.limit == 0 && h.cphase == 0 &&
      match h.typ with
      | 0x10 => h.rid == 0 && decide (1 ≤ h.seq / 256 ∧ h.seq / 256 ≤ 4 ∧ h.seq % 256 < h.seq / 256)
      | 0x11 => decide (1 ≤ h.seq / 256 ∧ h.seq / 256 ≤ 4 ∧ h.seq % 256 < h.seq / 256)
      | 0x12 => decide (1 ≤ h.seq / 256 ∧ h.seq / 256 ≤ 4 ∧ h.seq % 256 < h.seq / 256)
      | 0x20 => h.rid == 0 && h.seq == 0
      | _ => false

/-- Step 2 of R272: the header is valid and the frame length agrees. -/
def httValid (x : Heard) : Bool :=
  let h := Hdr.read x.bytes
  let n := 32 + h.len + (if h.session then 16 else 0)
  decide (32 ≤ x.bytes.length) && byteAt x.bytes 0 == 1 && byteAt x.bytes 3 == 0 && beAt x.bytes 30 2 == 0 && h.lenOk && h.fieldsOk &&
    (x.bytes.length == n || (x.mayPad && decide (n ≤ x.bytes.length)))

/-- The payload of a setup or PRESENCE frame. -/
def payloadOf (x : Heard) : Bytes := slice x.bytes 32 (Hdr.read x.bytes).len

end Sys2Proof.Machine
end

