-- ==== Sys2Proof/Machine/Discovery.lean ====
section
/-! DEFINITION. What a sub-port does below the sessions: PFC (R251, R266), ARP and neighbour answers (R265), LLDP (R267), discovery and
SOLITARY (R290-R292), and link changes (R293). -/

namespace Sys2Proof.Machine

/-! ### PFC -/

/-- Gb/s of a sub-port in a port mode (Table 9.1). -/
def modeRate (m : Nat) : Nat := [0, 800, 400, 200, 400, 200, 100].getD m 1

/-- Half microseconds of a tick by the period code. -/
def State.tickHalves (s : State) : Nat := 2 ^ s.cfg.timing.period

/-- Ticks of a pause time in quanta of 512 bit times. -/
def State.pauseTicks (s : State) (p quanta : Nat) : Nat :=
  let d := 500 * modeRate (s.portDef p).mode * s.tickHalves
  (quanta * 512 + d - 1) / max 1 d

/-- A PFC frame pauses or releases the priorities of the sub-port's mask. -/
def State.pfcRx (p k : Nat) (d : SubDef) (b : Bytes) (s : State) : State :=
  let enable := beAt b 2 2
  let s := (List.range 8).foldl (fun s j =>
    if bit enable j && bit d.pfc j then
      let q := beAt b (4 + 2 * j) 2
      s.modSub p k (fun x => { x with paused := if q = 0 then x.paused.erase j else x.paused.set j (s.tick.count + s.pauseTicks p q) })
    else s) s
  s.flushPort p k

/-- Send a PFC frame for one priority of a sub-port, without a SecTAG (R251, R336). -/
def State.sendPfc (p k : Nat) (d : SubDef) (j time : Nat) (s : State) : State :=
  s.putFrame p k 8 true false (etherBytes controlMac d.mac none
    ([0x88#8, 0x08#8, 0x01#8, 0x01#8] ++ be 2 (2 ^ j) ++ (List.range 8).flatMap (fun i => be 2 (if i = j then time else 0))))

/-- Pause or release a priority of a sub-port, and keep which. -/
def State.pauseSub (p k : Nat) (d : SubDef) (j time : Nat) (s : State) : State :=
  (s.sendPfc p k d j time).modSub p k (fun x => { x with xoff := if time = 0 then clearBit x.xoff j else setBit x.xoff j })

/-- The share of a port's priority against its XOFF and XON levels (R251, Table 8.3): pause frames from XOFF until it has fallen to XON. The
pause time is a free value (log 86). -/
def State.shareTurn (p j : Nat) (s : State) : State :=
  let subs := (List.range 4).filterMap (fun k => match s.subDef p k with
    | none => none
    | some d => if bit d.pfc j && s.subUp p k then some (k, d) else none)
  let was := subs.any (fun e => bit (s.subOf p e.1).xoff j)
  let used := s.bufferUse p j
  let hot := decide (0 < used) && decide (Config.bufferShare p j * s.cfg.disp.xoff ≤ 100 * used)
  let cold := !decide (0 < used) || decide (100 * used ≤ Config.bufferShare p j * s.cfg.disp.xon)
  if subs.isEmpty then s
  else if hot || (was && !cold) then
    let s := s.when (!was) (fun s => s.bump oDispPfcEvents)
    subs.foldl (fun s e => (s.pauseSub p e.1 e.2 j (1 + s.drawnNat 65535)).spend 8) s
  else if was then subs.foldl (fun s e => s.when (bit (s.subOf p e.1).xoff j) (fun s => s.pauseSub p e.1 e.2 j 0)) s
  else s

/-- Every port's priorities, at a tick boundary. -/
def State.shareTurns (s : State) : State := s.ports.foldl (fun s p => (List.range 8).foldl (fun s j => s.shareTurn p.1 j) s) s

/-! ### Address answers -/

/-- The VLAN tag of the sub-port's own frames that belong to no session. -/
def SubDef.tag (d : SubDef) : Option (Nat × Nat) := if d.tagged then some (d.vid, d.prio) else none

/-- The answer to an ARP request. -/
def State.arpRx (p k : Nat) (d : SubDef) (mac b : Bytes) (s : State) : State :=
  let body := [0x08#8, 0x06#8, 0#8, 1#8, 8#8, 0#8, 6#8, 4#8, 0#8, 2#8] ++ d.mac ++ d.ip4 ++ slice b 8 10
  s.putFrame p k d.prio false false (etherBytes mac d.mac d.tag body)

/-- The answer to a neighbour solicitation (RFC 4861; log 10): solicited and override, with the target's link-layer address. -/
def State.neighbourRx (p k : Nat) (d : SubDef) (mac src : Bytes) (s : State) : State :=
  let anon := allZero src
  let dst := if anon then [0xFF#8, 0x02#8] ++ zeros 13 ++ [0x01#8] else src
  let icmp (c : Nat) : Bytes := [136#8, 0#8] ++ be 2 c ++ [if anon then 0x20#8 else 0x60#8, 0#8, 0#8, 0#8] ++ d.ip6 ++ [2#8, 1#8] ++ d.mac
  let ps := d.ip6 ++ dst ++ be 4 32 ++ [0#8, 0#8, 0#8, 58#8]
  let ip := [0x60#8, 0#8, 0#8, 0#8, 0#8, 32#8, 58#8, 255#8] ++ d.ip6 ++ dst ++ icmp (inetSum (ps ++ icmp 0))
  let dest := if anon then [0x33#8, 0x33#8, 0#8, 0#8, 0#8, 1#8] else mac
  s.putFrame p k d.prio false false (etherBytes dest d.mac d.tag ([0x86#8, 0xDD#8] ++ ip))

/-! ### Announcements -/

/-- The announcement interval of a sub-port, in ticks (R290). -/
def State.announceEvery (s : State) (p k : Nat) : Nat := if (s.subOf p k).solitary then 64 * 1000000 else s.cfg.htt.presence

/-- Send a PRESENCE frame (Table 9.13); bit 0 of `flags` is ANSWER. -/
def State.sendPresence (p k flags : Nat) (s : State) : State :=
  match s.subDef p k with
  | none => s
  | some d =>
    let body := be 8 Config.deviceSerial.toNat ++ [BitVec.ofNat 8 p, BitVec.ofNat 8 k, BitVec.ofNat 8 flags, 0#8] ++
      be 4 (s.announceEvery p k) ++ identityHash
    s.putFrame p k d.prio true false (etherBytes discoveryMac d.mac none (etherHtt ++ httHeader 0x20 0 0 0 0 0 0 48 ++ body))

/-- A TLV of an LLDPDU. -/
def tlv (typ : Nat) (b : Bytes) : Bytes := be 2 (typ * 512 + b.length) ++ b

/-- Sixteen uppercase hexadecimal characters. -/
def hex16 (n : Nat) : Bytes :=
  (nibbles (be 8 n)).map (fun x => BitVec.ofNat 8 (if x < 10 then 0x30 + x else 0x37 + x))

/-- The sub-port name, such as P05.2. -/
def subName (p k : Nat) : Bytes := ascii "P" ++ digitBytes (decimal 2 p) ++ ascii "." ++ digitBytes (decimal 1 k)

/-- Seconds of 4 announcement intervals, rounded up, at most 65,535. -/
def State.lldpTtl (s : State) (p k : Nat) : Nat := min 65535 ((4 * s.announceEvery p k * s.tickHalves + 1999999) / 2000000)

/-- Send an LLDPDU with a time to live (R267). -/
def State.sendLldp (p k ttl : Nat) (s : State) : State :=
  match s.subDef p k with
  | none => s
  | some d =>
    let body := tlv 1 (7#8 :: hex16 Config.deviceSerial.toNat) ++ tlv 2 (7#8 :: subName p k) ++ tlv 3 (be 2 ttl) ++ zeros 2
    s.putFrame p k d.prio true false (etherBytes discoveryMac d.mac none ([0x88#8, 0xCC#8] ++ body))

/-- Announce now, as the sub-port's flags say. -/
def State.announce (p k : Nat) (presence lldp : Bool) (s : State) : State :=
  match s.subDef p k with
  | none => s
  | some d =>
    let s := s.when (presence && d.presence) (fun s =>
      (s.sendPresence p k 0).modSub p k (fun x => { x with presenceAt := s.tick.count }))
    s.when (lldp && d.lldp) (fun s =>
      (s.sendLldp p k (s.lldpTtl p k)).modSub p k (fun x => { x with lldpAt := s.tick.count }))

/-- Something was heard: the sub-port leaves SOLITARY and announces (R292). -/
def State.heardOn (p k : Nat) (s : State) : State :=
  let was := (s.subOf p k).solitary
  (s.modSub p k (fun x => { x with solitary := false, silent := 0, heard := true })).when was (fun s => s.announce p k true true)

/-- PRESENCE_ANNOUNCE (R290): the interval has passed on an up sub-port. -/
def State.presenceAnnounce (p k : Nat) (s : State) : State :=
  s.when (s.subUp p k && decide ((s.subOf p k).presenceAt + s.announceEvery p k ≤ s.tick.count)) (fun s => s.announce p k true false)

/-- LLDP_ANNOUNCE (R267). -/
def State.lldpAnnounce (p k : Nat) (s : State) : State :=
  s.when (s.subUp p k && decide ((s.subOf p k).lldpAt + s.announceEvery p k ≤ s.tick.count)) (fun s => s.announce p k false true)

/-- SOLITARY_ENTRY (R292): three whole epochs without a PRESENCE frame or an LLDPDU. -/
def State.solitaryEntry (p k : Nat) (s : State) : State :=
  match s.subDef p k with
  | none => s
  | some d =>
    s.when (s.subUp p k && d.presence && decide (3 ≤ (s.subOf p k).silent)) (fun s => s.modSub p k (fun x => { x with solitary := true }))

/-- The silent epochs of every sub-port at an epoch boundary. -/
def State.countSilence (s : State) : State :=
  { s with ports := s.ports.mapT (fun _ q => { q with subs := q.subs.map (fun x =>
      { x with silent := if x.heard || !(x.admin && x.link) then 0 else min 3 (x.silent + 1), heard := false }) }) }

/-! ### The peer table -/

/-- Record a station (R291): its entry is refreshed, or made while there is room. -/
def State.recordPeer (p : Nat) (e : Peer) (s : State) : State :=
  let q := s.portOf p
  if q.peers.any (fun x => x.mac == e.mac) then
    { s with ports := s.ports.set p { q with peers := q.peers.map (fun x => if x.mac == e.mac then e else x) } }
  else if 256 ≤ q.peers.length then s.bump (portReg oPortPeers p)
  else { s with ports := s.ports.set p { q with peers := q.peers ++ [e] } }

/-- PEER_ENTRY_AGEING (R291). -/
def State.peerAge (p ix : Nat) (s : State) : State :=
  let q := s.portOf p
  match q.peers[ix]? with
  | none => s
  | some e => s.when (decide (e.expiry ≤ s.tick.count)) (fun s => { s with ports := s.ports.set p { q with peers := q.peers.eraseIdx ix } })

/-- A PRESENCE payload (R290, R291); an announcement of another station is answered. -/
def State.presenceRx (p k : Nat) (d : SubDef) (h : Heard) (s : State) : State :=
  let b := payloadOf h
  if byteAt b 10 / 2 ≠ 0 ∨ byteAt b 11 ≠ 0 then s.bump (portReg oPortHttFormat p)
  else
    let now := s.tick.count
    let mac := ofBe h.mac
    let s := (s.recordPeer p { mac := mac, sub := k, kind := 1, heard := now, serial := beAt b 0 8,
                               expiry := now + 4 * beAt b 12 4, ident := slice b 16 32 }).heardOn p k
    let x := s.subOf p k
    let fresh := match x.answered.get? mac with | none => true | some t => decide (t + s.announceEvery p k ≤ now)
    s.when (byteAt b 10 == 0 && h.mac != d.mac && d.presence && fresh) (fun s =>
      (s.sendPresence p k 1).modSub p k (fun x => { x with answered := x.answered.set mac now }))

/-- The chassis ID (with its subtype) and the TTL of an LLDPDU: its first three TLVs. -/
def readLldp (b : Bytes) : Option (Bytes × Nat) :=
  let t1 := beAt b 0 2
  let n1 := t1 % 512
  let b2 := b.drop (2 + n1)
  let t2 := beAt b2 0 2
  let n2 := t2 % 512
  let b3 := b2.drop (2 + n2)
  if t1 / 512 = 1 ∧ 2 ≤ n1 ∧ t2 / 512 = 2 ∧ beAt b3 0 2 / 512 = 3 ∧ 2 ≤ beAt b3 0 2 % 512 ∧ 4 ≤ b3.length then
    some (slice b 3 (n1 - 1), beAt b3 2 2)
  else none

/-- An LLDPDU (R267, R291); one without its mandatory TLVs is none. -/
def State.lldpRx (p k : Nat) (mac b : Bytes) (s : State) : State :=
  match readLldp b with
  | none => s.bump (portReg oPortRxNotHtt p)
  | some (ident, ttl) =>
    let now := s.tick.count
    (s.recordPeer p { mac := ofBe mac, sub := k, kind := 2, heard := now, serial := 0,
                      expiry := now + (ttl * 2000000 + s.tickHalves - 1) / s.tickHalves, ident := padTo 32 ident }).heardOn p k

/-! ### Links -/

/-- LINK_CHANGE (R292, R293): the port's version rises, the interrupt is raised; a link that goes down ends SOLITARY. -/
def State.linkChange (p k : Nat) (up : Bool) (s : State) : State :=
  if (s.subDef p k).isNone || (s.subOf p k).link == up || !s.ready then s
  else
    let s := s.modSub p k (fun x => { x with link := up, training := !up && x.admin, solitary := false, silent := 0, heard := true })
    (s.touchPort p).raise 8 (portReg oPortIrq p) 0

end Sys2Proof.Machine
end

