-- ==== Sys2Proof/Machine/Sessions.lean ====
section
/-! DEFINITION. Session frames, credit and setup frames as they arrive (R272-R278, R280-R285), and the timers of sessions (R274, R277,
R283, R285, R286). -/

namespace Sys2Proof.Machine

/-! ### Items that wait for credit -/

/-- The session whose credit a parked item waits for: a destination at EMIT, the inbound session otherwise. -/
def State.creditTarget (s : State) (x : Item) : Option Nat :=
  match s.itemStitch x with
  | some t => if x.transit && t.op == opEmit then destOf x else x.sess
  | none => x.sess

/-- Items parked for the credit of session `n`, oldest first. -/
def State.creditWaiters (s : State) (n : Nat) : List Nat :=
  (s.disp.items.filter (fun e => e.2.stage == .parked && bit e.2.mask evCredit && s.creditTarget e.2 == some n)).map Prod.fst

/-- Credit has come: responses that wait are sent, other items resume (R246, R277). -/
def State.wakeCredit (n : Nat) (s : State) : State :=
  (s.creditWaiters n).foldl (fun s k =>
    if !s.canSend n then s
    else match s.item? k with
      | none => s
      | some x => match x.lateResponse with
        | some (_, b) => ((s.sendData n 3 b).tally (beAt b 4 2)).endItem k
        | none => s.event k evCredit none) s

/-- Leave SOLITARY at an accepted setup or session frame (R292). -/
def State.leaveSolitary (p k : Nat) (s : State) : State :=
  s.when (s.subOf p k).solitary (fun s =>
    (s.modSub p k (fun x => { x with solitary := false, silent := 0 })).announce p k true true)

/-! ### DATA (R276, R277) -/

/-- Answer a service request at once, or keep the answer until the session grants credit. -/
def State.answerNow (n rid : Nat) (st : Status) (s : State) : State :=
  let b := responseBytes rid st [] []
  if s.canSend n then ((s.sendData n 3 b).tally st.code).creditBack n
  else
    let k := s.disp.nextItem
    let x : Item := { inst := (s.sessOf n).inst, sess := some n, flow := 2 ^ 20, lateResponse := some (s.tick.count, b) }
    (s.addItem x).park k (setBit 0 evCredit)

/-- The invocation record with big-endian fields, as a little-endian one. -/
def recordLe (b : Bytes) : Bytes :=
  (slice b 0 2).reverse ++ (slice b 2 2).reverse ++ slice b 4 4 ++ (List.range 7).flatMap (fun k => (slice b (8 + 8 * k) 8).reverse)

/-- Length of input `j` in a service request. -/
def reqLen (b : Bytes) (j : Nat) : Nat := beAt b (104 + 2 * j) 2

/-- Offset of input `j`. -/
def reqOff (b : Bytes) (j : Nat) : Nat := 128 + ((List.range j).map (fun i => roundUp (reqLen b i) 8)).foldl (· + ·) 0

/-- The invocation of a service request (Table 9.7). -/
def reqInvoc (b : Bytes) : Invoc :=
  { Invoc.ofBytes (recordLe (slice b 40 64)) with
    ins := (List.range 6).map (fun j => slice b (reqOff b j) (reqLen b j)), cap0 := beAt b 116 2, cap1 := beAt b 118 2 }

/-- Padding after the inputs is zero. -/
def reqPadOk (b : Bytes) : Bool :=
  (List.range 6).all (fun j => allZero (slice b (reqOff b j + reqLen b j) (reqOff b (j + 1) - reqOff b j - reqLen b j)))

/-- The flow a service request names (R277): the session's own, or a free flow space. -/
def reqFlow (n : Nat) (b : Bytes) : Option (Nat × Bool × Bytes) :=
  let sp := beAt b 4 2
  let v := byteAt b 7
  if 1 < byteAt b 6 ∨ 32 < v ∨ !allZero ((slice b 8 32).drop v) then none
  else if sp = 0 then (if byteAt b 6 = 0 ∧ v = 0 then some (0, false, be 3 n) else none)
  else if sp < 0x100 then none
  else some (sp, byteAt b 6 == 1, slice b 8 v)

/-- The checks of a service request's payload (R276, R277, R105). -/
def reqFail (service : Bool) (maxMsg n : Nat) (b : Bytes) : Option Status :=
  let v := reqInvoc b
  firstFail
    [ (service, .badFieldValue),
      (decide (128 ≤ b.length), .badLength),
      ((fnSpec v.fn).isSome, .badOpcode),
      (!v.rsv && allZero (slice b 120 8) && reqPadOk b, .reservedNonzero),
      (reqOff b 6 == b.length && decide (16 + roundUp v.cap0 8 + roundUp v.cap1 8 ≤ maxMsg), .badLength),
      ((reqFlow n b).isSome, .badFieldValue) ]

/-- A service request of session `n`. -/
def State.requestRx (n phase seq : Nat) (b : Bytes) (s : State) : State :=
  let x := s.sessOf n
  let bd := s.bindingOf x
  let rid := beAt b 0 4
  match reqFail bd.service x.maxMsg n b with
  | some st => s.answerNow n rid st
  | none => match (s.instOf x.inst).d.st.refusal with
    | some st => s.answerNow n rid st
    | none => match reqFlow n b with
      | none => s
      | some fl =>
        let (flow, s) := s.joinFlow x.inst fl.2.1 fl.1 fl.2.2
        s.addItem { inst := x.inst, sess := some n, phase := phase, seq := seq, reqId := rid, flow := flow,
                    cls := if bd.cls = 0xFF then s.cfg.disp.sessCls else bd.cls, quad := x.port / 16, inv := reqInvoc b }

/-- A transit message of session `n` (R176, R201, R276). -/
def State.transitRx (n phase seq : Nat) (b : Bytes) (s : State) : State :=
  let x := s.sessOf n
  let bd := s.bindingOf x
  let refuse (st : Status) : State := (s.sendNotice n st.code 0 phase seq).creditBack n
  if !bd.transit then refuse .badFieldValue
  else match (s.instOf x.inst).d.st.refusal with
    | some st => refuse st
    | none =>
      let (flow, s) := s.joinFlow x.inst false 0 (be 3 n)
      s.addItem { inst := x.inst, transit := true, sess := some n, phase := phase, seq := seq, flow := flow,
                  cls := if bd.cls = 0xFF then s.cfg.disp.sessCls else bd.cls, quad := x.port / 16, raw := b, seam := bd.seam }

/-! ### Session frames (R272 steps 4 to 8) -/

/-- What the checks make of a session frame: the counter of the discard, or the session after it and the payload. -/
inductive SessRx where
  | drop (counter : Nat)
  | ok (x : Sess) (b : Bytes)

/-- The frame opens a new phase. -/
def Sess.newer (x : Sess) (phase : Nat) : Bool := match x.rxPhase with | none => true | some p => decide (p < phase)

/-- The frame is a replay (R273). -/
def Sess.replayed (x : Sess) (phase seq : Nat) : Bool :=
  match x.rxPhase with
  | none => false
  | some p => decide (phase < p) || (phase == p && (decide (seq + 128 ≤ x.rxHigh) || x.rxSeen.contains seq))

/-- A phase opens: the window and the credit accounting start again (R273). -/
def Sess.openPhase (x : Sess) (phase : Nat) : Sess :=
  if x.newer phase then
    { x with rxPhase := some phase, rxHigh := 0, rxSeen := [], rxData := 0, rxSent := 0, granted := 0, grantSent := 0 }
  else x

/-- Record a sequence in the replay window. -/
def Sess.record (x : Sess) (seq : Nat) : Sess :=
  let hi := max x.rxHigh seq
  { x with rxHigh := hi, rxSeen := (seq :: x.rxSeen).filter (fun q => decide (hi < q + 128)) }

/-- The credit that a frame's header grants to phase `phase` of this device (R274). -/
def Sess.takeLimit (x : Sess) (phase : Nat) (h : Hdr) : Sess :=
  if h.cphase ≠ phase then x
  else
    let x := if x.txPhase = phase then x else { x with txPhase := phase, txSeq := 0, txData := 0, limit := 0 }
    { x with limit := max x.limit h.limit }

/-- Steps 4 to 8 for a session whose keys are `x`'s. -/
def Sess.check (x : Sess) (phase : Nat) (h : Hdr) (b : Bytes) : SessRx :=
  let counted := if x.newer h.phase then 0 else x.rxData
  let granted := if x.newer h.phase then 0 else x.granted
  if h.typ = 1 ∧ x.maxMsg < h.len then .drop oPortHttFormat
  else if x.replayed h.phase h.seq then .drop oPortSessionReplay
  else if h.typ = 1 ∧ granted < counted + 1 then .drop oPortCreditViolation
  else match gcmOpen x.keyRx (be 4 h.phase ++ [0#8, 0#8] ++ be 6 h.seq) (b.take 32) (slice b 32 (h.len + 16)) 16 with
    | none => .drop oPortTagFail
    | some m => .ok (((x.openPhase h.phase).record h.seq).takeLimit phase h) m

/-- Reserved fields of control payloads (Table 9.6). -/
def controlOk (typ : Nat) (m : Bytes) : Bool :=
  match typ with
  | 0x02 => allZero (slice m 2 2) && allZero (slice m 18 6)
  | 0x03 => allZero (slice m 6 2)
  | 0x04 => allZero (slice m 2 6)
  | _ => true

/-- Act on an accepted session frame (R272 step 8). -/
def State.actRx (n : Nat) (h : Hdr) (m : Bytes) (s : State) : State :=
  if !controlOk h.typ m then s.bump (portReg oPortHttFormat (s.sessOf n).port)
  else match h.typ with
    | 0x01 =>
      let s := s.modSess n (fun x => { x with rxData := x.rxData + 1, held := x.held + 1, lastData := s.tick.count })
      if bit h.flags 0 then s.requestRx n h.phase h.seq m else s.transitRx n h.phase h.seq m
    | 0x03 => s.modSess n (fun x => { x with rxSent := beAt m 0 6 })
    | 0x04 => s.parkSess n (beAt m 0 2)
    | _ => s

/-- The receive state of `x` in session `z`. -/
def Sess.withRx (z x : Sess) : Sess :=
  { z with rxPhase := x.rxPhase, rxHigh := x.rxHigh, rxSeen := x.rxSeen, rxData := x.rxData, rxSent := x.rxSent,
           granted := x.granted, grantSent := x.grantSent, txPhase := x.txPhase, txSeq := x.txSeq, txData := x.txData, limit := x.limit }

/-- The setup of an initiator that has derived its keys and whose session ID is `rid`. -/
def Sess.waitingCredit (x : Sess) (rid : Nat) : Option Setup :=
  match x.setup with
  | none => none
  | some y => if y.initiator && y.stage == 1 && y.myId == rid then some y else none

/-- A session frame on sub-port `k` of port `p`. -/
def State.sessionRx (p k : Nat) (b : Bytes) (s : State) : State :=
  let h := Hdr.read b
  let n := h.rid % 2 ^ 20
  let x := s.sessOf n
  let mine := x.port == p && x.sub == k && x.st != .free
  let drop (off : Nat) : State := s.bump (portReg off p)
  if mine && x.st == .opened && x.myId == h.rid then
    if s.standby then s.bump64 oTwinStandbyDiscards 1
    else match x.check s.phase h b with
      | .drop off => drop off
      | .ok y m => (((s.modSess n (fun _ => y)).leaveSolitary p k).actRx n h m).wakeCredit n
  else match (if mine then x.waitingCredit h.rid else none) with
    | none => drop oPortSessionUnknown
    | some y =>
      if s.standby then s.bump64 oTwinStandbyDiscards 1
      else match ({ x.wipe with keyRx := y.keyRx, maxMsg := y.maxMsg } : Sess).check s.phase h b with
        | .drop off => drop off
        | .ok z m =>
          let s := s.leaveSolitary p k
          if !controlOk h.typ m then drop oPortHttFormat
          else if h.typ = 3 then
            (((s.openSess n y).modSess n (fun w => w.withRx z)).actRx n h m).sendCredit n
          else if h.typ = 4 then s.parkSess n (beAt m 0 2)
          else s

/-! ### Setup frames (R280-R283) -/

/-- Parts in index order, once all are there. -/
def joinParts (count : Nat) (parts : Tbl Bytes) : Option Bytes :=
  if (List.range count).all parts.has then some ((List.range count).flatMap (fun k => parts.getD k [])) else none

/-- A fragment of a HELLO: the message once it is whole, and the port's store after it. -/
def State.gatherHello (p k : Nat) (h : Heard) (s : State) : Option Bytes × State :=
  let hd := Hdr.read h.bytes
  let q := s.portOf p
  let live := q.hello.filter (fun e => decide (s.tick.count < e.since + s.cfg.htt.setup))
  let mine (e : HelloFrag) : Bool := e.sub == k && e.mac == h.mac && e.count == hd.seq / 256
  let e := (live.find? mine).getD { sub := k, mac := h.mac, count := hd.seq / 256, since := s.tick.count }
  let e := { e with parts := e.parts.set (hd.seq % 256) (payloadOf h) }
  let others := live.filter (fun e => !mine e)
  match joinParts e.count e.parts with
  | some b => (some b, { s with ports := s.ports.set p { q with hello := others } })
  | none => (none, { s with ports := s.ports.set p { q with hello := others ++ [e] } })

/-- The responder session that a HELLO names (R283). -/
def State.responderOf (s : State) (p k : Nat) (h : Heard) (service : Nat) : Option Nat :=
  (s.sess.find? (fun e =>
    let x := e.2
    x.st != .free && !x.initiator && x.port == p && x.sub == k && x.service == service && x.encap == h.encap &&
      (allZero x.recMac || x.recMac == h.mac) &&
      (h.encap == 3 || ((allZero x.recIp || x.recIp == h.ip) && (x.recUdp == 0 || x.recUdp == h.udp))))).map Prod.fst

/-- What is wrong with a HELLO (Table 9.10). -/
def helloFail (b : Bytes) : Option Status :=
  firstFail
    [ (b.length == 1713, .badLength),
      (decide (256 ≤ beAt b 12 2 ∧ beAt b 12 2 ≤ 8192) && allZero (slice b 14 2) && Config.kemKeyOk 3 (slice b 145 1568), .badFieldValue) ]

/-- A responder answers a HELLO with OFFER: it draws its ID, nonce, ephemeral key and encapsulation, and proves (R280-R283). -/
def State.answerHello (n : Nat) (h : Heard) (b : Bytes) (s : State) : State :=
  let x := s.sessOf n
  let ec := Config.pkGenerate algEc 2 (freeBytes (s.free + 34) 48)
  match Config.ecdh algEc 2 ec (slice b 48 97) with
  | none => s.failSetup n .badFieldValue
  | some z1 =>
    let (ct, z2) := Config.kemEncaps 3 (slice b 145 1568) (freeBytes (s.free + 82) 32)
    let id := newSessionId (s.drawn 2) n
    let m := min (beAt b 12 2) (s.bindingOf x).maxMsg
    let body := be 4 id ++ be 2 m ++ zeros 2 ++ freeBytes (s.free + 2) 32 ++ padTo 97 (Config.pkPublic algEc 2 ec) ++ padTo 1568 ct
    let offer := body ++ s.proof x.inst "HTT-R" (thR b body) (s.free + 114)
    let y : Setup := { initiator := false, myId := id, peerId := beAt b 0 4, hello := b, offer := offer, z := z1 ++ z2, maxMsg := m,
                       mac := h.mac, udp := h.udp, ip := h.ip, since := s.tick.count, lastSend := s.tick.count }
    let s := (s.generate (16 + x.inst) (114 + proofDraw)).spend (114 + proofDraw)
    let s := s.modSess n (fun x => { x with setup := some y, st := if x.st = .opened then .opened else .handshake })
    let s := s.when (x.st != .opened) (fun s => s.touchSess n)
    s.sendSetup n 0x11 y.peerId offer

/-- A HELLO frame (R283). -/
def State.helloRx (p k : Nat) (h : Heard) (s : State) : State :=
  if s.standby then s.bump64 oTwinStandbyDiscards 1
  else match s.gatherHello p k h with
    | (none, s) => s
    | (some b, s) =>
      match (if b.length < 12 then none else s.responderOf p k h (beAt b 4 8)) with
      | none => s.bump (portReg oPortSessionUnknown p)
      | some n =>
        let x := s.sessOf n
        let s := s.leaveSolitary p k
        match x.setup with
        | some y =>
          if y.hello == b then s.sendSetup n 0x11 y.peerId y.offer
          else if (helloFail b).isSome then s.bumpHi (portReg oPortHandshakes p)
          else if s.rngOk then s.answerHello n h b else s.failSetup n .rngFailed
        | none =>
          if 4096 ≤ s.setups then s.bumpHi (portReg oPortHandshakes p)
          else match helloFail b with
            | some st => s.failSetup n st
            | none => if s.rngOk then s.answerHello n h b else s.failSetup n .rngFailed

/-- A fragment of a message for the setup of session `n`: the message once it is whole. -/
def State.gatherSetup (n : Nat) (y : Setup) (h : Heard) (s : State) : Option Bytes × State :=
  let hd := Hdr.read h.bytes
  let parts := y.frags.set (hd.seq / 256 * 256 + hd.seq % 256) (payloadOf h)
  let mine : Tbl Bytes := (parts.filter (fun e => e.1 / 256 == hd.seq / 256)).map (fun e => (e.1 % 256, e.2))
  match joinParts (hd.seq / 256) mine with
  | some b => (some b, s.modSess n (fun x => { x with setup := some { y with frags := [] } }))
  | none => (none, s.modSess n (fun x => { x with setup := some { y with frags := parts } }))

/-- Both peer keys of a session; the first status of R69 that fails (R279, R283). -/
def State.peerKeys (s : State) (x : Sess) : Except Status (KeyRec × KeyRec) :=
  match s.peerKey x.keyEc x.inst false, s.peerKey x.keyDsa x.inst true with
  | .error e, _ => .error e
  | _, .error e => .error e
  | .ok a, .ok b => .ok (a, b)

/-- Peer keys that are counted lose one use at the check of a proof. -/
def State.usePeerKeys (a b : KeyRec) (s : State) : State :=
  let use (k : KeyRec) (s : State) : State := s.when k.counted (fun s => (s.hold (hSlot k.handle)).release (hSlot k.handle) true)
  use b (use a (s.decisions 6))

/-- What is wrong with the plain part of an OFFER. -/
def offerFail (hello b : Bytes) : Option Status :=
  firstFail
    [ (decide (1705 ≤ b.length), .badLength),
      (decide (256 ≤ beAt b 4 2 ∧ beAt b 4 2 ≤ beAt hello 12 2) && allZero (slice b 6 2), .badFieldValue) ]

/-- The initiator takes a whole OFFER: it checks the proof, derives the keys and sends ACCEPT (R281-R283). -/
def State.takeOffer (n : Nat) (y : Setup) (b : Bytes) (s : State) : State :=
  let x := s.sessOf n
  match offerFail y.hello b with
  | some st => s.failSetup n st
  | none => match s.peerKeys x with
    | .error st => s.failSetup n st
    | .ok (ec, dsa) =>
      let s := s.usePeerKeys ec dsa
      match proofFail ec dsa "HTT-R" (thR y.hello b) (b.drop 1705) with
      | some st => s.failSetup n st
      | none => match Config.ecdh algEc 2 y.ecPriv (slice b 40 97) with
        | none => s.failSetup n .badFieldValue
        | some z1 =>
          if !s.rngOk then s.failSetup n .rngFailed
          else
            let peer := beAt b 0 4
            let th := thI y.hello b
            let ks := sessionKeys (z1 ++ Config.kemDecaps 3 y.kemPriv (slice b 137 1568)) th y.myId peer
            let acc := s.proof x.inst "HTT-I" th s.free
            let s := (s.generate (16 + x.inst) proofDraw).spend proofDraw
            let y := { y with stage := 1, peerId := peer, offer := b, accept := acc, maxMsg := beAt b 4 2, keyTx := ks.take 32,
                              keyRx := ks.drop 32, ecPriv := [], kemPriv := [], frags := [], lastSend := s.tick.count }
            (s.modSess n (fun x => { x with setup := some y })).sendSetup n 0x12 peer acc

/-- The responder takes a whole ACCEPT: it checks the proof, opens and sends CREDIT (R281-R283). -/
def State.takeAccept (n : Nat) (y : Setup) (b : Bytes) (s : State) : State :=
  let x := s.sessOf n
  match s.peerKeys x with
  | .error st => s.failSetup n st
  | .ok (ec, dsa) =>
    let s := s.usePeerKeys ec dsa
    let th := thI y.hello y.offer
    match proofFail ec dsa "HTT-I" th b with
    | some st => s.failSetup n st
    | none =>
      let ks := sessionKeys y.z th y.peerId y.myId
      (s.openSess n { y with keyTx := ks.drop 32, keyRx := ks.take 32, z := [] }).sendCredit n

/-- An OFFER or ACCEPT frame: it goes to the setup that its receiver session ID names; a repeated ACCEPT of an open session is
answered with CREDIT (R283). -/
def State.setupRx (p k : Nat) (h : Heard) (s : State) : State :=
  let hd := Hdr.read h.bytes
  let n := hd.rid % 2 ^ 20
  let x := s.sessOf n
  let mine := x.port == p && x.sub == k && x.st != .free
  let offer := hd.typ == 0x11
  if mine && s.standby then s.bump64 oTwinStandbyDiscards 1
  else match (if mine then x.setup else none) with
    | some y =>
      if y.myId == hd.rid && y.initiator == offer then
        if offer && y.stage != 0 then s
        else match (s.leaveSolitary p k).gatherSetup n y h with
          | (none, s) => s
          | (some b, s) => if offer then s.takeOffer n y b else s.takeAccept n y b
      else if mine && !offer && !x.initiator && x.st == .opened && x.myId == hd.rid then s.sendCredit n
      else s.bump (portReg oPortSessionUnknown p)
    | none =>
      if mine && !offer && !x.initiator && x.st == .opened && x.myId == hd.rid then s.sendCredit n
      else s.bump (portReg oPortSessionUnknown p)

/-! ### A received frame -/

/-- What a frame row is about: any frame, or one kind. -/
inductive FrameKind where
  | any | pfc | arp | neighbour | lldp
  | htt (typ : Nat)
  deriving DecidableEq, Repr

/-- A frame arrives (R264, R272): discards are counted; what is left acts if it is of the row's kind. -/
def State.receive (kind : FrameKind) (f : RxFrame) (s : State) : State :=
  match s.subDef f.port f.sub with
  | none => s
  | some d =>
    if !s.subUp f.port f.sub then s
    else
      let (t, s) := s.takeRx f d
      let is (k : FrameKind) : Bool := kind == .any || kind == k
      match t with
      | .other => s
      | .pfc b => s.when (is .pfc) (fun s => s.pfcRx f.port f.sub d b)
      | .lldp m b => s.when (is .lldp) (fun s => s.lldpRx f.port f.sub m b)
      | .arp m b => s.when (is .arp) (fun s => s.arpRx f.port f.sub d m b)
      | .neighbour m a => s.when (is .neighbour) (fun s => s.neighbourRx f.port f.sub d m a)
      | .htt h =>
        if !httValid h then s.bump (portReg oPortHttFormat f.port)
        else
          let typ := (Hdr.read h.bytes).typ
          s.when (is (.htt typ)) (fun s =>
            if typ = 0x20 then s.presenceRx f.port f.sub d h
            else if typ = 0x10 then s.helloRx f.port f.sub h
            else if typ = 0x11 ∨ typ = 0x12 then s.setupRx f.port f.sub h
            else s.sessionRx f.port f.sub h.bytes)

/-! ### Timers -/

/-- SETUP_TIMEOUT (R283). -/
def State.setupTimeout (n : Nat) (s : State) : State :=
  match (s.sessOf n).setup with
  | none => s
  | some y => s.when (s.works && decide (y.since + s.cfg.htt.setup ≤ s.tick.count)) (fun s => s.failSetup n .handshakeFailed)

/-- Resend a setup message after `every` ticks. -/
def State.resend (n stage every typ : Nat) (msg : Setup → Nat × Bytes) (s : State) : State :=
  match (s.sessOf n).setup with
  | none => s
  | some y =>
    s.when (s.works && y.initiator && y.stage == stage && decide (y.lastSend + every ≤ s.tick.count)) (fun s =>
      (s.modSess n (fun x => { x with setup := some { y with lastSend := s.tick.count } })).sendSetup n typ (msg y).1 (msg y).2)

/-- HELLO_RESEND (R283): every setup timeout / 4 ticks. -/
def State.helloResend (n : Nat) (s : State) : State := s.resend n 0 (s.cfg.htt.setup / 4) 0x10 (fun y => (0, y.hello))

/-- ACCEPT_RESEND (R283): every 64 ticks. -/
def State.acceptResend (n : Nat) (s : State) : State := s.resend n 1 64 0x12 (fun y => (y.peerId, y.accept))

/-- CREDIT_RESEND (R274): a sender that its limit blocks sends CREDIT every 8 ticks. -/
def State.creditResend (n : Nat) (s : State) : State :=
  let x := s.sessOf n
  s.when (s.works && !s.standby && x.st == .opened && !s.canSend n && !(s.creditWaiters n).isEmpty &&
      decide (x.creditAt + 8 ≤ s.tick.count)) (fun s => s.sendCredit n)

/-- CREDIT_GRANT_SEND (R274): the grant has risen and no frame has carried it for a tick. -/
def State.creditGrantSend (n : Nat) (s : State) : State :=
  let x := s.sessOf n
  s.when (s.works && !s.standby && x.st == .opened && x.rxPhase.isSome && decide (x.grantSent < s.grant n x) &&
      decide (x.grantAt + 1 ≤ s.tick.count)) (fun s => s.sendCredit n)

/-- SERVICE_RESPONSE_TIMEOUT (R277). -/
def State.responseTimeout (n : Nat) (s : State) : State :=
  match s.item? n with
  | none => s
  | some x => match x.lateResponse, x.sess with
    | some (t, _), some k =>
      s.when (s.works && decide (t + 65536 ≤ s.tick.count)) (fun s => (s.bump (portReg oPortUndeliverable (s.sessOf k).port)).endItem n)
    | _, _ => s

/-- Close a session by R287: CLOSE while OPEN, then PARKED with the reason, or FREE. -/
def State.closeSess (n : Nat) (reason : Status) (free : Bool) (s : State) : State :=
  let s := s.sendControl n 0x04 (be 2 reason.code ++ zeros 6)
  if free then (s.modSess n (fun x => { x with reason := reason.code })).freeSess n else s.parkSess n reason.code

/-- PARK_TIME_EXPIRY (R285). -/
def State.parkExpiry (n : Nat) (s : State) : State :=
  let x := s.sessOf n
  s.when (s.works && !s.standby && x.st == .opened && x.park != 0 && decide (x.lastData + x.park ≤ s.tick.count)) (fun s =>
    s.closeSess n .ok false)

/-- RECLAIM_TIME_EXPIRY (R286). -/
def State.reclaimExpiry (n : Nat) (s : State) : State :=
  let x := s.sessOf n
  s.when (s.works && !s.standby && x.st == .parked && x.reclaim != 0 && decide (x.parkedAt + x.reclaim ≤ s.tick.count)) (fun s =>
    s.freeSess n)

end Sys2Proof.Machine
end

