-- ==== Sys2Proof/Machine/PortCmds.lean ====
section
/-! DEFINITION. The port, session and MACsec commands (Tables 9.15 and 11.6; R279, R287, R293, R337, R338). -/

namespace Sys2Proof.Machine

/-! ### Ports -/

/-- The bits of a sub-port mask name enabled sub-ports (R293). -/
def State.subMaskOk (s : State) (p m : Nat) : Bool :=
  (List.range 4).all (fun k => !bit m k || (match s.subDef p k with | none => false | some d => d.enabled))

/-- PORT_ADMIN. -/
def effPortAdmin (m : MCmd) (s : State) : Eff :=
  let p := m.cmd.unit
  let bs := byteAt m.cmd.desc 32
  effChecks s [(s.subMaskOk p bs, .badFieldValue)]
    { s := ((List.range 4).foldl (fun s k => if bit bs k then s.modSub p k (fun x => { x with admin := true }) else s) s).touchPort p }

/-- A sub-port goes administratively down: its sessions close, one LLDPDU with TTL 0 goes out (R267, R287). -/
def State.subDown (p k : Nat) (s : State) : State :=
  if !(s.subOf p k).admin then s
  else
    let ns := s.sessWhere (fun _ x => x.port == p && x.sub == k && (x.st == .opened || x.st == .handshake))
    let s := ns.foldl (fun s n => s.closeSess n .noRoute false) s
    let lldp := match s.subDef p k with | none => false | some d => d.lldp
    let s := s.when lldp (fun s => s.sendLldp p k 0)
    s.modSub p k (fun x => { x with admin := false, solitary := false, silent := 0 })

/-- PORT_SHUTDOWN. -/
def effPortShutdown (m : MCmd) (s : State) : Eff :=
  let p := m.cmd.unit
  let bs := byteAt m.cmd.desc 32
  effChecks s [(s.subMaskOk p bs, .badFieldValue)]
    { s := ((List.range 4).foldl (fun s k => if bit bs k then s.subDown p k else s) s).touchPort p }

/-- A peer table entry (Table 9.14). -/
def Peer.bytes (e : Peer) : Bytes :=
  be 6 e.mac ++ [BitVec.ofNat 8 e.sub, BitVec.ofNat 8 e.kind] ++ le 8 e.heard ++ le 8 e.serial ++ le 8 e.expiry ++ padTo 32 e.ident

/-- PORT_PEERS: the count, and at offset 64 as many entry bytes as the buffer holds. -/
def effPortPeers (m : MCmd) (s : State) : Eff :=
  let a := m.cmd.u 32 8
  let n := m.cmd.u 40 4
  let es := (s.portOf m.cmd.unit).peers
  effChecks s [(a % 4096 == 0, .badFieldValue)]
    { s := if m.mute then s
           else (s.hostWrite 0 a ((le 4 es.length).take n)).hostWrite 0 (a + 64) ((es.flatMap Peer.bytes).take (n - 64)) }

/-! ### Sessions -/

/-- A session record (Table 9.9). -/
def readSession (b : Bytes) : Sess :=
  { inst := leAt b 0 2, port := byteAt b 2, sub := byteAt b 3, encap := byteAt b 4, initiator := byteAt b 5 == 1, binding := leAt b 6 2,
    service := leAt b 8 8, keyEc := leAt b 16 8, keyDsa := leAt b 24 8, peerMac := slice b 32 6, peerUdp := beAt b 38 2,
    peerIp := slice b 40 16, recMac := slice b 32 6, recUdp := beAt b 38 2, recIp := slice b 40 16, park := leAt b 56 4,
    reclaim := leAt b 60 4 }

/-- The sub-port has an address for an encapsulation that the HTT section enables (R279). -/
def State.encapOk (s : State) (x : Sess) : Bool :=
  match s.subDef x.port x.sub with
  | none => false
  | some d => match x.encap with
    | 1 => bit s.cfg.htt.encaps 0 && !allZero d.ip6
    | 2 => bit s.cfg.htt.encaps 1 && !allZero d.ip4
    | 3 => bit s.cfg.htt.encaps 2
    | _ => false

/-- The values of a session record (R279, Table 9.9). -/
def State.sessionOk (s : State) (role : Nat) (x : Sess) : Bool :=
  let udp := x.encap != 3
  decide (x.inst < 4096 ∧ (role = 1 ∨ role = 2) ∧ x.binding < s.cfg.htt.bindings.length) && s.encapOk x &&
    (x.encap != 2 || allZero (x.peerIp.drop 4)) &&
    (role != 1 || (!allZero x.peerMac && (!udp || (!allZero x.peerIp && x.peerUdp != 0)))) &&
    (role != 2 || s.sess.all (fun e => e.2.st == .free || e.2.initiator || e.2.port != x.port || e.2.sub != x.sub ||
      e.2.service != x.service))

/-- The failure of a key check. -/
def keyFail (a : Except Status KeyRec) : Option Status := match a with | .ok _ => none | .error e => some e

/-- SESSION_CREATE (R279). -/
def effSessionCreate (m : MCmd) (s : State) : Eff :=
  let b := padTo 64 m.cmd.data
  let n := m.cmd.unit
  let x := readSession b
  if (s.sessOf n).st ≠ .free then .fail s .stateMismatch
  else if !s.sessionOk (byteAt b 5) x then .fail s .badFieldValue
  else match lower (keyFail (s.peerKey x.keyEc x.inst false)) (keyFail (s.peerKey x.keyDsa x.inst true)) with
    | some st => .fail s st
    | none =>
      effChecks s
        [(decide ((s.sessWhere (fun _ y => y.inst == x.inst && y.st != .free)).length < (s.instOf x.inst).d.lim.sessions), .quotaExceeded)]
        { s := (s.modSess n (fun _ => { x with st := .parked, parkedAt := s.tick.count, version := 0 })).touchSess n }

/-- SESSION_CONNECT (R283, R293). -/
def effSessionConnect (m : MCmd) (s : State) : Eff :=
  let n := m.cmd.unit
  let x := s.sessOf n
  if x.st = .free then .fail s .stateMismatch
  else if !x.initiator then .fail s .badFieldValue
  else if x.st = .handshake ∨ x.setup.isSome then { s := s }
  else { s := s.startSetup n }

/-- SESSION_CLOSE (R287, R293). -/
def effSessionClose (m : MCmd) (s : State) : Eff :=
  let n := m.cmd.unit
  let free := bit (byteAt m.cmd.desc 32) 0
  match (s.sessOf n).st with
  | .free => .fail s .stateMismatch
  | .parked => { s := s.when free (fun s => s.freeSess n) }
  | _ => { s := s.closeSess n .ok free }

/-- SESSION_DEST (R192, R293). -/
def effSessionDest (m : MCmd) (s : State) : Eff :=
  let i := m.cmd.unit
  let d := m.cmd.u 32 2
  let n := m.cmd.u 36 4
  let unbind := n == 0xFFFFFFFF
  let x := s.sessOf n
  effChecks s
    [ (decide (d < 4096) && (unbind || (decide (n < 1048576) && x.st != .free && x.inst == i)), .badFieldValue),
      (s.instLive i, .stateMismatch) ]
    (let s := s.modInst i (fun y => { y with dests := if unbind then y.dests.erase d else y.dests.set d n })
     let s := s.touchInst i
     { s := if s.hasTwin && s.twin.active then s.mirror (.mirror [.dest i d (if unbind then none else some n)]) else s })

/-! ### MACsec -/

/-- An SA record (Table 11.7): the sub-port, the direction and the SA without its key. -/
def readSa (mac b : Bytes) : Sa :=
  let tx := byteAt b 1 == 0
  { an := byteAt b 2, aes256 := true, xpn := byteAt b 3 == 2, salt := slice b 32 12, ssci := beAt b 4 4,
    sci := if tx then ofBe (mac ++ [0#8, 1#8]) else beAt b 48 8, pn := leAt b 16 8, low := leAt b 16 8, window := leAt b 24 4 }

/-- The SAs of a direction. -/
def SubPort.sas (x : SubPort) (dir : Nat) : Tbl Sa := if dir = 0 then x.tx else x.rx

/-- The values of an SA record (Table 11.7, R335, R337). -/
def State.saOk (s : State) (p : Nat) (b : Bytes) : Bool :=
  let k := byteAt b 0
  let dir := byteAt b 1
  let a := readSa [] b
  let cur := (s.subOf p k).sas dir
  (match s.subDef p k with | none => false | some d => d.macsec) && decide (dir ≤ 1 ∧ a.an ≤ 3) && !cur.has a.an &&
    decide (1 ≤ byteAt b 3 ∧ byteAt b 3 ≤ 2 ∧ 1 ≤ a.pn) && (a.xpn || (decide (a.pn < 2 ^ 32) && a.ssci == 0 && allZero a.salt)) &&
    (if dir = 0 then a.window == 0 && allZero (slice b 48 8) && decide (cur.length < 2)
     else decide (a.window ≤ 2 ^ 30) && cur.all (fun e => e.2.sci == beAt b 48 8 && e.2.xpn == a.xpn))

/-- Reserved fields of an SA record. -/
def saRsvOk (b : Bytes) : Bool := allZero (slice b 28 4) && allZero (slice b 44 4) && allZero (slice b 56 8)

/-- MACSEC_SA_INSTALL (R337, R339): a key in a page is fetched first. -/
def effSaInstall (m : MCmd) (s : State) : Eff :=
  let b := padTo 64 m.cmd.data
  let p := m.cmd.unit
  let k := byteAt b 0
  let dir := byteAt b 1
  let h := leAt b 8 8
  match lowestFail [(m.cmd.u 32 8 % 8 == 0, .badFieldValue), (saRsvOk b, .reservedNonzero), (s.saOk p b, .badFieldValue)] with
  | some st => .fail s st
  | none =>
    let s := s.decisions 2
    match s.checkKey h 0 false true (some (if dir = 0 then uEncrypt else uDecrypt)) (fun r => r.alg == algAes && r.len == 32) with
    | .fail st => .fail s st
    | .bad slot => .fail (s.markBad slot) .keySlotBad
    | .page g => { s := s.askPageFor g (hSlot h) (.paged m), st := none }
    | .key r =>
      let s := s.when r.counted (fun s => (s.hold (hSlot h)).release (hSlot h) true)
      let mac := match s.subDef p k with | none => [] | some d => d.mac
      let a := { readSa mac b with key := r.mat }
      { s := (s.modSub p k (fun x => if dir = 0 then { x with tx := x.tx.set a.an a } else { x with rx := x.rx.set a.an a })).touchPort p }

/-- The sub-port and association number of a MACsec command (bytes 32 and `anOff`). -/
def State.saNamed (s : State) (m : MCmd) (anOff : Nat) : Bool :=
  (match s.subDef m.cmd.unit (byteAt m.cmd.desc 32) with | none => false | some d => d.macsec) && decide (byteAt m.cmd.desc anOff ≤ 3)

/-- MACSEC_TX_USE (R337, R338): of an installed SA that is not exhausted (log 21). -/
def effTxUse (m : MCmd) (s : State) : Eff :=
  let p := m.cmd.unit
  let k := byteAt m.cmd.desc 32
  let an := byteAt m.cmd.desc 33
  match (s.subOf p k).tx.get? an with
  | none => .fail s .badFieldValue
  | some a =>
    effChecks s [(s.saNamed m 33 && decide (a.pn ≤ a.maxPn), .badFieldValue)]
      { s := (s.modSub p k (fun x => { x with tx := x.tx.mapT (fun n y => { y with protecting := n == an }), pnWarn := false,
                                              stalled := false })).touchPort p }

/-- MACSEC_SA_REMOVE (R337). -/
def effSaRemove (m : MCmd) (s : State) : Eff :=
  let p := m.cmd.unit
  let k := byteAt m.cmd.desc 32
  let dir := byteAt m.cmd.desc 33
  let an := byteAt m.cmd.desc 34
  effChecks s [(s.saNamed m 34 && decide (dir ≤ 1), .badFieldValue)]
    { s := (s.modSub p k (fun x => if dir = 0 then { x with tx := x.tx.erase an } else { x with rx := x.rx.erase an })).touchPort p }

/-- State byte of MACSEC_SA_STATUS. -/
def saState (dir : Nat) : Option Sa → Nat
  | none => 0
  | some a => if dir = 0 ∧ a.maxPn < a.pn then 3 else if a.protecting then 2 else 1

/-- MACSEC_SA_STATUS (R337). -/
def effSaStatus (m : MCmd) (s : State) : Eff :=
  let dir := byteAt m.cmd.desc 33
  let a := ((s.subOf m.cmd.unit (byteAt m.cmd.desc 32)).sas dir).get? (byteAt m.cmd.desc 34)
  let pn := match a with | none => 0 | some a => if dir = 0 then a.pn else a.low
  effChecks s [(s.saNamed m 34 && decide (dir ≤ 1), .badFieldValue)]
    { s := s.overwrite m 40 (le 8 pn ++ [BitVec.ofNat 8 (saState dir a)]) }

end Sys2Proof.Machine
end

