-- ==== Sys2Proof/Machine/Pages.lean ====
section
/-! DEFINITION. Sealed key pages (R80-R93, R100), the snapshot journal and bases (R96), and the key-store commands (R98). -/

namespace Sys2Proof.Machine

/-! ### Records and pages (R82, R83) -/

/-- The 64 bytes of a record in a sealed page (Table 3.2, R82): the durable figure in place of the live count, then the state. -/
def KeyRec.sealedBytes (r : KeyRec) : Bytes :=
  padTo 32 r.mat ++ le 4 (r.durable.getD r.uses) ++ le 4 r.usage ++
    [BitVec.ofNat 8 r.alg, BitVec.ofNat 8 r.len, BitVec.ofNat 8 r.cls, BitVec.ofNat 8 r.cap] ++ le 4 r.flags ++ le 8 r.handle ++
    [if r.deleted then 2#8 else 1#8] ++ zeros 7

/-- Read a record of a page; an empty one is none. -/
def readRecord (b : Bytes) : Option KeyRec :=
  if byteAt b 56 = 0 then none
  else
    let uses := leAt b 32 4
    some { handle := leAt b 48 8, mat := b.take (byteAt b 41), uses := uses, usage := leAt b 36 4, alg := byteAt b 40, len := byteAt b 41,
           cls := byteAt b 42, cap := byteAt b 43, flags := leAt b 44 4, durable := if uses = unlimited then none else some uses,
           deleted := byteAt b 56 == 2 }

/-- The page number of a persistent symmetric key. -/
def State.keyPage (s : State) (h : Nat) : Nat := s.pageOf (hInst h) (hIndex h / 63)

/-- The nonce of a page and version. -/
def pageNonce (p ver : Nat) : Bytes := be 4 p ++ be 4 ver ++ be 4 1

/-- Header bytes 0 to 23 (Table 3.10). -/
def pageHead (p i ver claim : Nat) : Bytes := le 4 p ++ le 2 i ++ [1#8, 0#8] ++ le 4 ver ++ zeros 4 ++ le 8 claim

/-- Seal a page of instance `i`. -/
def State.sealPage (s : State) (p i ver : Nat) (records : Bytes) : Bytes :=
  let h := pageHead p i ver s.drec.claim
  let c := gcmSeal (s.pageKey i (s.instOf i).d.inc) (pageNonce p ver) h (padTo 4032 records) 16
  h ++ pageNonce p ver ++ zeros 12 ++ c.drop 4032 ++ c.take 4032

/-- Open a page read from backing: its records when it verifies (R85, R88). -/
def State.openPage (s : State) (p i : Nat) (b : Bytes) : Option Bytes :=
  let e := s.page p
  let ver := leAt b 8 4
  if leAt b 0 4 ≠ p ∨ leAt b 4 2 ≠ i ∨ byteAt b 6 ≠ 1 ∨ !(ver == e.ver || (e.begun != 0 && ver == e.begun)) then none
  else gcmOpen (s.pageKey i (s.instOf i).d.inc) (pageNonce p ver) (b.take 24) (slice b 64 4032 ++ slice b 48 16) 16

/-! ### Fetches (R85, R86, R92) -/

/-- A key that a reset has erased is deleted, whatever its page still holds (R78). -/
def State.purged (s : State) (slot : Nat) (r : KeyRec) : KeyRec :=
  if (s.page (s.keyPage (slot * 2 ^ 20))).purge && bit r.flags fExpires && !r.deleted then { r with deleted := true, dirty := true } else r

/-- Make the key of a slot resident from a page's records; the status where it cannot be. An empty record is held as a deleted key of
generation 0. -/
def State.installKey (slot : Nat) (records : Bytes) (s : State) : Option Status × State :=
  let i := slot / 2 ^ 32
  if (s.key? slot).isSome then (none, s)
  else match (readRecord (slice records (64 * (slot % 2 ^ 28 % 63)) 64)).map (s.purged slot) with
    | none => (none, s.setKey slot { handle := slot * 2 ^ 20, deleted := true })
    | some r =>
      let v := match s.ks.gone.get? slot with | none => 1 | some e => e.2.1
      let put (s : State) : State :=
        let s := (s.setKey slot { r with version := v, bank := s.pickBank true }).spend 8
        { s with ks := { s.ks with gone := s.ks.gone.erase slot } }
      if r.deleted then (none, put s)
      else if !s.symRoom i then (some .quotaExceeded, s)
      else (none, (put (s.makeRoom i)).setFigure slot)

/-- Everything that waits for page `p` goes on, with the outcome `f` finds for its slot. -/
def State.pageArrived (p : Nat) (f : Nat → State → Option Status × State) (s : State) : State :=
  match s.ks.fetches.get? p with
  | none => s
  | some w =>
    let s := { s with ks := { s.ks with fetches := s.ks.fetches.erase p } }
    let s := w.waiters.foldl (fun s e => let (st, s) := f e.2 s; s.event e.1 evPage st) s
    w.tasks.foldl (fun s t => let (st, s) := f t.2 s; s.pass t.1 st) s

/-- A page that does not verify becomes STALE (R85). -/
def State.pageStale (p : Nat) (s : State) : State :=
  ((s.bump oKpgStale).modPage p (fun e => { e with stale := true })).pageArrived p (fun _ s => (some .keyPageStale, s))

/-- PAGE_FETCH_DONE (R85): a read that failed is issued again. -/
def State.pageFetchDone (p : Nat) (data : Option Bytes) (s : State) : State :=
  if !s.ks.fetches.has p || !s.works || !bit (s.reg oKpgControl) 0 then s
  else match data with
    | none => s.when (s.mayDma 0) (fun s => s.emit (.pageRead p))
    | some b => match s.ownerOf p with
      | none => s.pageStale p
      | some i => match s.openPage p i b with
        | none => s.pageStale p
        | some records => (s.modPage p (fun e => { e with stale := false })).pageArrived p (fun k s => s.installKey k records)

/-- PAGE_FETCH_TIMEOUT (R38, R85): T ticks have passed since the first issue. -/
def State.pageFetchTimeout (p : Nat) (s : State) : State :=
  match s.ks.fetches.get? p with
  | none => s
  | some w =>
    if w.since + s.cfg.timing.fetch ≤ s.tick.count then
      (s.bumpF oKpgFetchFailed 31 0 (w.waiters.length + w.tasks.length)).pageArrived p (fun _ s => (some .keyPageFetchFailed, s))
    else s

/-! ### Write-back (R87-R91) -/

/-- Dirty resident keys of a page: slot and record. -/
def State.dirtyOf (s : State) (p : Nat) : List (Nat × KeyRec) :=
  s.ks.keys.filter (fun e => e.2.dirty && hStore e.2.handle == 1 && !hEphemeral e.2.handle && s.keyPage e.2.handle == p)

/-- The page that a re-homed page goes to (R90): the highest spare page with entry 0 that is not a re-home target. -/
def State.rehomeTarget (s : State) (i : Nat) : Option Nat :=
  let d := (s.instOf i).d
  if 262144 ≤ s.ks.remap.length then none
  else ((List.range (min (d.p - d.k) (s.ks.pages.length + s.ks.remap.length + 1))).map (fun k => d.base + d.p - 1 - k)).find? (fun t =>
    (s.page t).ver == 0 && s.ks.remap.all (fun e => e.2 != t))

/-- The records of a page with its dirty resident keys in place. -/
def overlay (records : Bytes) (ds : List (Nat × KeyRec)) : Bytes :=
  (List.range 63).flatMap (fun k =>
    match ds.find? (fun e => e.1 % 2 ^ 28 % 63 == k) with
    | none => padTo 64 (slice records (64 * k) 64)
    | some e => e.2.sealedBytes)

/-- The records of a page without the keys that a reset has erased. -/
def purgeRecords (records : Bytes) : Bytes :=
  (chunks 64 records).flatMap (fun r => if byteAt r 56 == 1 && bit (leAt r 44 4) fExpires then r.take 56 ++ [2#8] ++ r.drop 57 else r)

/-- Steps 1 to 3 of R87 with the page's records: the new page is built, re-homed or frozen, and the claim is checked. -/
def State.buildPage (p i : Nat) (records : Bytes) (s : State) : State :=
  let e := s.page p
  let ver := max e.ver e.begun + 1
  let ds := s.dirtyOf p
  let records := if e.purge then purgeRecords records else records
  let start (t v : Nat) (s : State) : State :=
    let w : WriteBack := { target := t, ver := v, bytes := s.sealPage t i v (overlay records ds),
                           content := ds.map (fun d => (d.1, d.2.sealedBytes)) }
    let s := { s with ks := { s.ks with writes := s.ks.writes.set p w } }
    s.claimThen (if s.standby then s.twin.partnerClaim else s.drec.claim) (.page p)
  if ver < 0xFFFFFFFF then start p ver s
  else match s.rehomeTarget i with
    | some t =>
      let s := if e.frozen then (s.modPage p (fun e => { e with frozen := false })).touchPage p else s
      start t 1 s
    | none =>
      if e.frozen then s
      else
        let s := (s.modPage p (fun e => { e with frozen := true })).touchPage p
        s.journal (.page p (s.page p))

/-- PAGE_WRITE_BACK (R87 step 1): the page is read and verified, unless its entry is 0; a STALE page waits (R86). -/
def State.pageWriteBack (p : Nat) (data : Option Bytes) (s : State) : State :=
  let e := s.page p
  match s.ownerOf p with
  | none => s
  | some i =>
    if !s.works || !bit (s.reg oKpgControl) 0 || !s.mayDma 0 || s.ks.writes.has p || e.stale || (s.dirtyOf p).isEmpty then s
    else if e.ver = 0 ∧ e.begun = 0 then s.buildPage p i (zeros 4032)
    else match data with
      | none => s
      | some b => match s.openPage p i b with
        | none => s.pageStale p
        | some records => s.buildPage p i records

/-- The claim check of a write-back has ended (R87 steps 3 and 4): the begin entry goes to the journal, or nothing has changed. -/
def State.commitPage (p : Nat) (st : Option Status) (s : State) : State :=
  match s.ks.writes.get? p, st with
  | some w, none =>
    let s := { s with ks := { s.ks with writes := s.ks.writes.set p { w with stage := 1 } } }
    if w.target = p then s.journal (.page p { s.page p with begun := w.ver }) else s
  | some _, some _ => { s with ks := { s.ks with writes := s.ks.writes.erase p } }
  | none, _ => s

/-- Step 5 of R87: the page goes to backing. -/
def State.putPage (w : WriteBack) (s : State) : State := s.hostWrite 0 (s.reg oKpgBackingBase + 4096 * w.target) w.bytes

/-- The notice ring is full (R102). -/
def State.noticeFull (s : State) : Bool := (s.ks.noticeTail + 1) % s.ringSize oKpgNoticeSize == s.ks.noticeHead

/-- The page number a page had before re-homing: logical page `j` of its instance has this number at base plus `j`. -/
def State.logicalOf (s : State) (p : Nat) : Nat := match s.ks.remap.find? (fun e => e.2 == p) with | none => p | some e => e.1

/-- Write a notice (Table 3.13). -/
def State.notice (p ver i flags logical : Nat) (s : State) : State :=
  let b := le 4 p ++ le 4 ver ++ le 2 i ++ le 2 flags ++ le 4 logical
  let s := (s.hostWrite 0 (s.reg oKpgNoticeBase + 16 * s.ks.noticeTail) b).errBit 7
  State.msix 0 (s.fld oKpgControl 26 16)
    { s with ks := { s.ks with noticeTail := (s.ks.noticeTail + 1) % s.ringSize oKpgNoticeSize } }

/-- Keys whose records the page now holds are clean; deleted ones leave the store. -/
def State.cleanKeys (content : List (Nat × Bytes)) (s : State) : State :=
  content.foldl (fun s c => match s.key? c.1 with
    | none => s
    | some r => if r.sealedBytes = c.2 then (if r.deleted then s.evict c.1 else s.modKey c.1 (fun r => { r with dirty := false })) else s) s

/-- Step 6 of R87, while the notice ring has room (R100). -/
def State.endWrite (p : Nat) (s : State) : State :=
  match s.ks.writes.get? p with
  | none => s
  | some w =>
    if s.noticeFull then { s with ks := { s.ks with writes := s.ks.writes.set p { w with stage := 3 } } }
    else
      let i := (s.ownerOf p).getD 0
      let o := s.logicalOf p
      let s := { s with ks := { s.ks with writes := s.ks.writes.erase p } }
      let moved := w.target != p
      let s := if !moved then s.modPage p (fun e => { e with ver := w.ver, begun := 0, purge := false })
        else
          let s := (s.modPage p (fun e => { e with ver := 0xFFFFFFFF, begun := 0 })).touchPage p
          let s := s.modPage w.target (fun e => { e with ver := w.ver })
          ({ s with ks := { s.ks with remap := s.ks.remap.set o w.target } }.journal (.page p (s.page p))).journal (.remap o w.target)
      let s := s.journal (.page w.target (s.page w.target))
      let flags := b2n (w.target != o) + 2 * b2n moved
      ((s.notice w.target w.ver i flags (o - (s.instOf i).d.base)).cleanKeys w.content).bump64 oKpgWritebacks 1

/-- PAGE_WRITE_CONFIRM (R87 step 5): the header read back matches, or the page is written again. -/
def State.pageWriteConfirm (p : Nat) (header : Option Bytes) (s : State) : State :=
  match s.ks.writes.get? p with
  | none => s
  | some w => if w.stage ≠ 2 ∨ !s.works then s else if header = some (w.bytes.take 64) then s.endWrite p else s.putPage w

/-- Software has consumed notices: write-backs that waited for room go on. -/
def State.noticeHeadMoved (v : Nat) (s : State) : State :=
  let s := { s with ks := { s.ks with noticeHead := v } }
  ((s.ks.writes.filter (fun e => e.2.stage == 3)).map Prod.fst).foldl (fun s p => s.endWrite p) s

/-! ### The journal and bases (R96) -/

/-- JOURNAL_COMMIT: every entry is durable; what waited for that goes on. -/
def State.journalCommit (s : State) : State :=
  if !s.ready then s
  else
    let ds := s.ks.journal
    let acks := s.twin.toAck
    let s := s.commitNow ds
    let s := { s with ks := { s.ks with journal := [] }, twin := { s.twin with toAck := [] } }
    let s := ds.foldl (fun s d => match d with | .figure k n => s.applyFigure k n | _ => s) s
    let s := acks.foldl (fun s id => s.emit (.mirrorAck id)) s
    let begun := s.ks.writes.filter (fun e => e.2.stage == 1)
    let s := begun.foldl (fun s e =>
      { s with ks := { s.ks with writes := s.ks.writes.set e.1 { e.2 with stage := 2 } } }.putPage e.2) s
    let waits := (s.disp.items.filter (fun e => e.2.stage == .parked && bit e.2.mask evJournal)).map Prod.fst
    let s : State := waits.foldl (fun s n => s.event n evJournal none) s
    if 75 ≤ s.ks.fill then { s with ks := { s.ks with baseBusy := true } } else s

/-- SNAPSHOT_BASE_COMMIT: the complete base in the other copy commits, and that copy becomes active. -/
def State.baseCommit (s : State) : State :=
  if !s.ready || !s.ks.baseBusy then s
  else
    let c := s.copy
    let s := { s with ks := { s.ks with baseBusy := false, active := !s.ks.active, fill := s.ks.journal.length } }
    let s := s.setCopy { seq := c.seq + 1, img := c.img }
    match s.mgmt.baseCmd with
    | none => s
    | some m => State.finish m .ok { s with mgmt := { s.mgmt with baseCmd := none } }

/-! ### Commands (R98) -/

/-- A command whose change is mirrored: it takes effect when the partner has acknowledged it (R410), at once without one. -/
def State.thenMirror (m : MCmd) (s : State) : Eff := { s := s.mirror (.command m.cmd.code m), st := none }

/-- Pages of a range are in no other instance's range. -/
def State.pagesFree (s : State) (i lo hi : Nat) : Bool :=
  s.inst.all (fun e => e.1 == i || decide (hi ≤ e.2.d.base ∨ e.2.d.base + e.2.d.p ≤ lo ∨ e.2.d.p = 0))

/-- KS_PAGE_RANGE_SET (R80). -/
def effPageRange (m : MCmd) (s : State) : Eff :=
  let i := m.cmd.unit
  let b := m.cmd.u 32 4
  let p := m.cmd.u 36 4
  let k := m.cmd.u 40 4
  let d := (s.instOf i).d
  let lo := if d.p = 0 then b else b + d.p
  let turned (q : Nat) : Bool := decide (d.base + d.k ≤ q ∧ q < d.base + min k d.p)
  effChecks s
    [ ((d.p == 0 || b == d.base) && decide (d.p ≤ p ∧ d.k ≤ k ∧ k ≤ p ∧ k ≤ 3994575 ∧ b + p ≤ 4194304) &&
        s.ks.pages.all (fun e => !turned e.1 || e.2.ver == 0) && s.ks.remap.all (fun e => !turned e.2), .badFieldValue),
      (s.pagesFree i lo (b + p), .quotaExceeded),
      (s.instLive i, .stateMismatch) ]
    (s.thenMirror m)

/-- The range takes effect: entries of added pages are 0 (R84). -/
def donePageRange (m : MCmd) (s : State) : State :=
  let i := m.cmd.unit
  let b := m.cmd.u 32 4
  let p := m.cmd.u 36 4
  let d := (s.instOf i).d
  let lo := if d.p = 0 then b else b + d.p
  let clear (t : Tbl PageEnt) : Tbl PageEnt := t.filterT (fun q _ => !decide (lo ≤ q ∧ q < b + p))
  let old := s.ks.pages.filter (fun e => decide (lo ≤ e.1 ∧ e.1 < b + p))
  let s := old.foldl (fun s e => s.journal (.page e.1 {})) s
  let s := { s with ks := { s.ks with pages := clear s.ks.pages } }
  let s := s.modInst i (fun x => { x with d := { x.d with base := b, p := p, k := m.cmd.u 40 4 } })
  ((s.touchInst i).saveInst i).finish m .ok

/-- Check the key a command names, without usage: the key's command goes on with `k`, or waits for its page (R69). -/
def State.withKey (m : MCmd) (s : State) (k : Nat → KeyRec → State → Eff) : Eff :=
  let h := m.cmd.unit
  let s := s.decisions 2
  match s.checkKey h (hInst h) false false none (fun _ => true) with
  | .fail st => .fail s st
  | .bad slot => .fail (s.markBad slot) .keySlotBad
  | .page g => { s := s.askPageFor g (hSlot h) (.paged m), st := none }
  | .key r => k (hSlot h) r s

/-- Symmetric slots of an instance that no eviction can free: ephemeral and pinned keys. -/
def State.fixedKeys (s : State) (i : Nat) : Nat :=
  (s.ks.keys.filter (fun e => hInst e.2.handle == i && hStore e.2.handle == 1 && !e.2.deleted &&
    (hEphemeral e.2.handle || bit e.2.flags fPinned))).length

/-- The key's page is frozen (R91). -/
def State.frozenKey (s : State) (r : KeyRec) : Bool :=
  hStore r.handle == 1 && !hEphemeral r.handle && (s.page (s.keyPage r.handle)).frozen

/-- KS_PIN_RESIDENT (R93). -/
def effPin (m : MCmd) (s : State) : Eff :=
  s.withKey m (fun _ r s =>
    let i := hInst r.handle
    let more := bit (byteAt m.cmd.desc 32) 0 && hStore r.handle == 1 && !bit r.flags fPinned && !hEphemeral r.handle
    effChecks s
      [ (!s.frozenKey r, .keySpaceFull), (!more || decide (s.fixedKeys i < (s.instOf i).d.lim.sym), .quotaExceeded) ]
      (s.thenMirror m))

/-- The pin takes effect. -/
def donePin (m : MCmd) (s : State) : State :=
  let slot := hSlot m.cmd.unit
  let pin := bit (byteAt m.cmd.desc 32) 0
  match s.key? slot with
  | none => s.finish m .keyNotFound
  | some r =>
    let durable := !hEphemeral r.handle
    let flags := if pin then setBit r.flags fPinned else clearBit r.flags fPinned
    let dirty := r.dirty || (durable && hStore r.handle == 1)
    let s := s.modKey slot (fun r => { r with flags := flags, dirty := dirty })
    let s := s.touchKey slot
    let s := if durable then s.journal (.key slot (s.key? slot)) else s
    s.finish m .ok

/-- KS_KEY_INFO: record bytes 32 to 55 with the live count. -/
def effKeyInfo (m : MCmd) (s : State) : Eff :=
  s.withKey m (fun _ r s => { s := s.overwrite m 32 (slice (KeyRec.sealedBytes { r with durable := none }) 32 24) })

/-- KS_PAGE_RETRY (R86): only a STALE page has a fetch to allow. -/
def effPageRetry (m : MCmd) (s : State) : Eff :=
  let p := m.cmd.unit
  effChecks s [((s.page p).stale, .stateMismatch)] { s := (s.modPage p (fun e => { e with retry := true })).touchPage p }

/-- KS_SNAPSHOT_BASE. -/
def effSnapshotBase (m : MCmd) (s : State) : Eff :=
  effChecks s [(s.mgmt.baseCmd.isNone, .busy)]
    (let t : State := { s with ks := { s.ks with baseBusy := true }, mgmt := { s.mgmt with baseCmd := some m } }
     { s := t, st := none })

end Sys2Proof.Machine
end

