-- ==== Sys2Proof/Machine/Kum.lean ====
section
/-! DEFINITION. Key update messages (R357-R367): their form, signatures and ops, and how one is checked, accepted, takes effect and is
answered. -/

namespace Sys2Proof.Machine

/-! ### Rosters (R357) -/

/-- Kind, custodian ID and key hash of roster entry `e`. -/
def rosterKind (r : Bytes) (e : Nat) : Nat := byteAt r (16 + 48 * e)
/-- Key hash. -/
def rosterHash (r : Bytes) (e : Nat) : Bytes := slice r (32 + 48 * e) 32
/-- Custodian ID. -/
def rosterId (r : Bytes) (e : Nat) : Bytes := slice r (24 + 48 * e) 8
/-- Quorum. -/
def rosterM (r : Bytes) : Nat := byteAt r 0
/-- Entries. -/
def rosterN (r : Bytes) : Nat := byteAt r 1

/-- Reserved bytes of a roster record. -/
def rosterRsvOk (r : Bytes) : Bool :=
  allZero (slice r 2 14) && (List.range (rosterN r)).all (fun e => allZero (slice r (17 + 48 * e) 7))

/-- Values of a roster record in a life-cycle state. -/
def rosterOk (life : Nat) (r : Bytes) : Bool :=
  let es := List.range (rosterN r)
  decide (1 ≤ rosterM r ∧ rosterM r ≤ rosterN r ∧ rosterN r ≤ 16) && es.all (fun e => decide (1 ≤ rosterKind r e ∧ rosterKind r e ≤ 2)) &&
    distinct (es.map (fun e => ofBe (rosterHash r e))) && distinct (es.map (fun e => ofBe (rosterId r e))) && !(rosterM r == 1 && (life == 2 || life == 3))

/-! ### The message (R360, R361, R364) -/

/-- An op entry: its code, head's reserved bytes, and the op. -/
structure OpEntry where
  code : Nat
  rsv : Bytes
  op : KeyOp
  pad : Bytes
  deriving DecidableEq, Repr

/-- A signature block. -/
structure SigBlock where
  ix : Nat
  kind : Nat
  rsv : Bytes
  pub : Bytes
  sig : Bytes
  pad : Bytes
  deriving DecidableEq, Repr

/-- Read `count` op entries that use up the bytes. -/
def readOps (target : Nat) : Nat → Bytes → Option (List OpEntry)
  | 0, b => if b.isEmpty then some [] else none
  | c + 1, b =>
    let n := leAt b 2 2
    let len := roundUp (16 + n) 8
    if b.length < 16 ∨ b.length < len then none
    else
      let e : OpEntry := { code := byteAt b 0, rsv := slice b 1 1 ++ slice b 4 4,
                           op := { target := target, handle := leAt b 8 8, body := slice b 16 n }, pad := slice b (16 + n) (len - 16 - n) }
      (readOps target c (b.drop len)).map (fun es => e :: es)

/-- Read `count` signature blocks that use up the bytes. -/
def readSigs : Nat → Bytes → Option (List SigBlock)
  | 0, b => if b.isEmpty then some [] else none
  | c + 1, b =>
    let k := leAt b 2 2
    let g := leAt b 4 2
    let len := roundUp (8 + k + g) 8
    if b.length < 8 ∨ b.length < len then none
    else
      let e : SigBlock := { ix := byteAt b 0, kind := byteAt b 1, rsv := slice b 6 2, pub := slice b 8 k, sig := slice b (8 + k) g,
                            pad := slice b (8 + k + g) (len - 8 - k - g) }
      (readSigs c (b.drop len)).map (fun es => e :: es)

/-- A message taken apart. -/
structure KumView where
  target : Nat
  serial : Nat
  partner : Nat
  inc : Nat
  counter : Nat
  ops : List OpEntry
  sigs : List SigBlock
  signed : Bytes
  deriving DecidableEq, Repr

/-- The message is for the device. -/
def KumView.device (v : KumView) : Bool := v.target == 0xFFFF

/-- The instance charged: the target, or instance 0 (R364). -/
def KumView.inst (v : KumView) : Nat := if v.device then 0 else v.target

/-- Take a message apart; none where its lengths disagree. -/
def readKum (b : Bytes) : Option KumView :=
  let n := leAt b 40 4
  if b.length < 64 ∨ leAt b 44 4 ≠ b.length ∨ b.length < 64 + n then none
  else match readOps (leAt b 6 2) (min 65 (leAt b 34 2)) (slice b 64 n), readSigs (min 17 (leAt b 36 2)) (b.drop (64 + n)) with
    | some ops, some sigs =>
      some { target := leAt b 6 2, serial := leAt b 8 8, partner := leAt b 16 8, inc := leAt b 24 4, counter := leAt b 28 6, ops := ops,
             sigs := sigs, signed := b.take (64 + n) }
    | _, _ => none

/-- Body lengths of Table 13.4. -/
def opLenOk (code : Nat) (b : Bytes) : Bool :=
  match code with
  | 0x01 => decide (32 ≤ b.length) && b.length == 32 + leAt b 28 2 && decide (1 ≤ leAt b 28 2 ∧ leAt b 28 2 ≤ 4096)
  | 0x02 => b.isEmpty
  | 0x03 => b.length == 4
  | 0x04 => b.length == 16
  | 0x05 => b.length == 16
  | 0x06 => decide (16 ≤ b.length) && b.length == 16 + 48 * byteAt b 1
  | 0x10 => decide (16 ≤ b.length) && b.length == 16 + 48 * byteAt b 1
  | 0x11 => b.length == 2689
  | 0x12 => b.length == 2689
  | 0x13 => b.length == 8
  | 0x14 => b.length == 4800
  | 0x15 => b.length == 8
  | 0x16 => decide (24 ≤ b.length) && b.length == 24 + 48 * byteAt b 9
  | _ => true

/-- Reserved fields of bodies. -/
def opRsvOk (code : Nat) (b : Bytes) : Bool :=
  match code with
  | 0x01 => allZero (slice b 9 3) && allZero (slice b 30 2)
  | 0x04 => allZero (slice b 9 7)
  | 0x05 => allZero (slice b 12 4)
  | 0x06 => rosterRsvOk b
  | 0x10 => rosterRsvOk b
  | 0x13 => allZero (slice b 1 7)
  | 0x15 => allZero (slice b 2 6)
  | 0x16 => allZero (slice b 2 2) && rosterRsvOk (b.drop 8)
  | _ => true

/-- The op is defined for the target, and its handle is zero where it names no key (R361). -/
def opKnown (device : Bool) (e : OpEntry) : Bool :=
  if e.code ≤ 5 then decide (1 ≤ e.code) && !device
  else if e.code = 6 then !device && e.op.handle == 0
  else decide (0x10 ≤ e.code ∧ e.code ≤ 0x16) && device && e.op.handle == 0

/-- Step 1 of R363: the form of the message, with its ring entry. -/
def kumForm (entry b : Bytes) : Except Status KumView :=
  if 262144 < b.length then .error .lengthLimit
  else match readKum b with
    | none => .error .badLength
    | some v =>
      let sole := v.ops.all (fun e => (e.code != 0x13 && e.code != 0x14) || v.ops.length == 1)
      match firstFail
        [ (leAt entry 8 4 == b.length && v.ops.all (fun e => opLenOk e.code e.op.body), .badLength),
          (allZero (slice entry 28 4) && allZero (slice b 38 2) && allZero (slice b 48 16) &&
            v.ops.all (fun e => allZero e.rsv && allZero e.pad && opRsvOk e.code e.op.body) &&
            v.sigs.all (fun g => allZero g.rsv && allZero g.pad), .reservedNonzero),
          (leAt b 0 4 == 0x4B554D31 && leAt b 4 2 == 1 && (v.device || decide (v.target < 4096)) &&
            decide (1 ≤ leAt b 34 2 ∧ leAt b 34 2 ≤ 64 ∧ leAt b 36 2 ≤ 16) && v.ops.all (opKnown v.device) && sole, .badFieldValue),
          (leAt entry 0 8 % 8 == 0 && leAt entry 16 8 % 8 == 0, .badFieldValue),
          (decide (4832 + 8 * v.ops.length ≤ leAt entry 24 4), .badLength) ] with
      | some st => .error st
      | none => .ok v

/-! ### Steps 2 to 6 -/

/-- The stored counter of a target. -/
def State.kumCounter (s : State) (v : KumView) : Nat := if v.device then s.drec.counter else (s.instOf v.target).d.counter

/-- The roster that authorises a message. -/
def State.kumRoster (s : State) (v : KumView) : Bytes := if v.device then s.drec.roster else (s.instOf v.target).d.roster

/-- Step 2: binding. -/
def State.kumBinding (s : State) (v : KumView) : Option Status :=
  let me := Config.deviceSerial.toNat
  let twin := match s.cfg.twin with | none => false | some t => v.partner == me && v.serial == t.partner
  let d := (s.instOf v.target).d
  firstFail
    [ (v.serial == me || twin, .kumWrongDevice), (v.device || d.st != .free, .badFieldValue),
      (v.device || (d.st != .resetting && d.st != .moving), .busy),
      (v.inc == (if v.device then 0 else d.inc), .kumWrongDevice) ]

/-- One signature block (R364). -/
def sigOk (roster signed : Bytes) (g : SigBlock) : Bool :=
  decide (g.ix < rosterN roster) && g.kind == rosterKind roster g.ix && sha3 32 g.pub == rosterHash roster g.ix &&
    (if g.kind = 1 then g.pub.length == 97 && g.sig.length == 96 && Config.pkVerify algEc 2 optEcdsa384 g.pub signed [] g.sig
     else g.pub.length == 1952 && g.sig.length == 3309 && Config.pkVerify algDsa 2 optMlDsa g.pub signed (ascii "LV5120-KUM") g.sig)

/-- Step 4: signatures and the quorum; the first device roster needs none (R359). -/
def State.kumSigned (s : State) (v : KumView) : Option Status :=
  let r := s.kumRoster v
  let first := v.device && rosterN r == 0 && decide (s.prot.life ≤ 1) && v.sigs.isEmpty && v.ops.map (fun e => e.code) == [0x10]
  firstFail
    [ (distinct (v.sigs.map (fun g => g.ix)), .badFieldValue), (v.sigs.all (sigOk r v.signed), .kumSignatureInvalid),
      (first || (decide (1 ≤ rosterM r) && decide (rosterM r ≤ v.sigs.length)), .kumQuorumShort) ]

/-- Step 5: the counter. -/
def State.kumFresh (s : State) (v : KumView) : Option Status :=
  firstFail [(s.kumCounter v != 2 ^ 48 - 1, .kumCounterExhausted), (decide (s.kumCounter v < v.counter), .kumCounterStale)]

/-- Steps 2 to 6. -/
def State.kumChecks (s : State) (v : KumView) : Option Status :=
  match s.kumBinding v with
  | some st => some st
  | none =>
    if s.standby then some .notActive
    else match s.kumSigned v with
      | some st => some st
      | none => match s.kumFresh v with
        | some st => some st
        | none => if s.rngOk then none else some .rngFailed

/-! ### Ops (R362) -/

/-- What an op comes to: the state and the resulting handle, a failure, or a page that is needed first. -/
inductive OpOut where
  | done (s : State) (h : Nat)
  | fail (s : State) (st : Status)
  | page (s : State) (p slot : Nat)

/-- Check a key that an op names (R69). -/
def State.opKey (h i : Nat) (usage : Option Nat) (ok : KeyRec → Bool) (s : State) (k : KeyRec → State → OpOut) : OpOut :=
  let s := s.decisions 2
  match s.checkKey h i false usage.isSome usage ok with
  | .fail st => .fail s st
  | .bad slot => .fail (s.markBad slot) .keySlotBad
  | .page p => .page s p (hSlot h)
  | .key r => k r s

/-- Items forget the uses they hold of a slot whose key is replaced or gone: what they hold ends with the old key. -/
def State.forgetUses (slot : Nat) (s : State) : State :=
  let f (x : Item) : Item :=
    { x with used1 := if x.used1 = some slot then none else x.used1, used2 := if x.used2 = some slot then none else x.used2,
             deferred := x.deferred.map (fun d => { d with uses := d.uses.filter (fun u => u.1 != slot) }) }
  { s with disp := { s.disp with items := s.disp.items.mapT (fun _ x => f x) } }

/-- Write a key to a persistent index after its prior record, if any: the next generation, its durable figure, room in the store
(R61, R74, R92). -/
def State.putPersistent (h : Nat) (n : NewKey) (prior : Option KeyRec) (s : State) : OpOut :=
  let i := hInst h
  let slot := hSlot h
  let sym := algSym n.alg
  let gen := match prior with | none => 1 | some r => hGen r.handle + 1
  let live := match prior with | none => false | some r => !r.deleted
  let frozen := sym && (s.page (s.keyPage h)).frozen
  if 0xFFFFF < gen ∨ frozen then .fail s .keySpaceFull
  else if !(live || (if sym then s.symRoom i else s.asymRoom i)) then .fail s .quotaExceeded
  else
    let s := s.when (sym && !live) (fun s => s.makeRoom i)
    let counted := n.uses != unlimited
    let v := reservation n.cap n.uses
    let r : KeyRec :=
      { handle := slot * 2 ^ 20 + gen, mat := n.mat, uses := n.uses, usage := n.usage, alg := n.alg, len := n.len, cls := n.cls, cap := n.cap,
        flags := n.flags, durable := if counted then some (n.uses - v) else none, resv := if counted then v else 0,
        bank := s.pickBank sym, dirty := sym }
    let s := match prior with | none => s | some r => s.touch 6 r.handle
    let s := (((s.eraseKey slot).forgetUses slot).setKey slot r).spend 8
    let s := { s with ks := { s.ks with gone := s.ks.gone.erase slot } }
    .done ((s.touch 6 r.handle).journal (.key slot (some r))) r.handle

/-- The record an index holds, for its generation. -/
def State.withPrior (h : Nat) (s : State) (k : Option KeyRec → State → OpOut) : OpOut :=
  if !s.indexOk h then .fail s .keyNotFound
  else match s.locate h with
    | .ok r => k r s
    | .error (.page p) => .page s p (hSlot h)
    | .error (.fail st) => .fail s st
    | .error _ => .fail s .keyNotFound

/-- The target handle of a write: a persistent index of the instance, generation 0 (Table 13.4). -/
def targetFail (h i : Nat) : Option Status :=
  firstFail
    [ ((hStore h == 1 || hStore h == 2) && hGen h == 0 && !hEphemeral h, .badFieldValue), (hInst h == i, .keyNotFound) ]

/-- Flags that a key update gives a persistent key (R66, Table 13.5). -/
def persistentFlagsFail (f : Nat) : Option Status :=
  firstFail [(within f 0x3F, .reservedNonzero), (bit f fPersistent && !bit f fPinned, .badFieldValue)]

/-- Length of the material of an asymmetric key (Table 3.8). -/
def materialLen (alg len cls : Nat) : Nat :=
  if cls = 0x12 then 32
  else if cls = 0x11 then publicLen alg len
  else if alg = algRsa then [0, 644, 964, 1284].getD len 0
  else if alg = algEc then [0, 97, 145, 199].getD len 0
  else if alg = algEd then [0, 64, 114].getD len 0
  else if alg = algX then 64
  else if alg = algDsa then 32
  else 64

/-- The key in a WRITE_KEY block under its key-encryption key: R143's rules, and an asymmetric key in format 4. -/
def openBlock (fmt : Nat) (kek : KeyRec) (b : Bytes) : Except Status NewKey :=
  let attr := leAt b 12 4
  let usage := leAt b 16 4
  let fl := leAt b 20 4 + leAt b 24 4 * 2 ^ 32
  let blk := b.drop 32
  let n := newKeyOf attr usage (leAt b 20 4) (leAt b 24 4)
  if algSym n.alg ∨ fmt ≤ 2 then (unwrapKey fmt kek blk (attr + usage * 2 ^ 32) fl).map (fun k => { k with cap := byteAt b 15 })
  else if fmt ≠ 4 then .error .unsupportedParameter
  else match kwpUnwrap kek.mat blk with
    | none => .error .tagMismatch
    | some m => if m.length = materialLen n.alg n.len n.cls then .ok { n with mat := m } else .error .badFieldValue

/-- The checks on a key that WRITE_KEY writes (R64-R66, R110, R111, R143). -/
def writtenFail (h : Nat) (n : NewKey) (kek : KeyRec) : Option Status :=
  let early := firstFail
    [ (within n.usage (2 ^ 21 - 1), .reservedNonzero),
      (classAllowed n.alg n.len n.cls && decide (n.cap ≤ 13) && (hStore h == 1) == algSym n.alg, .badFieldValue),
      (usageAllowed n.cls n.usage, .usageNotPermitted) ]
  match early with
  | some st => some st
  | none => if algSym n.alg then wrapStrength (n.alg, n.len) kek .usageNotPermitted else none

/-- WRITE_KEY. -/
def opWriteKey (op : KeyOp) (s : State) : OpOut :=
  let b := op.body
  let fmt := byteAt b 8
  let kek := leAt b 0 8
  let plain := fmt ≤ 2
  match targetFail op.handle op.target with
  | some st => .fail s st
  | none =>
    match persistentFlagsFail (leAt b 20 4) with
    | some st => .fail s st
    | none =>
      if !(decide (1 ≤ fmt ∧ fmt ≤ 5)) || (plain && !(allZero (slice b 12 3) && allZero (slice b 16 4))) then .fail s .badFieldValue
      else s.opKey kek op.target (some uUnwrap) (wrapKeyOk fmt 0x10) (fun k s =>
        if hEphemeral kek then .fail s .usageNotPermitted
        else match openBlock fmt k b with
          | .error st => .fail s st
          | .ok n => match writtenFail op.handle n k with
            | some st => .fail s st
            | none => s.withPrior op.handle (fun prior s =>
              let s := s.when k.counted (fun s => (s.hold (hSlot kek)).release (hSlot kek) true)
              s.putPersistent op.handle n prior))

/-- A change to a stored key: journalled when durable, its version rises; a frozen page takes none (R91). -/
def State.changeKey (r : KeyRec) (s : State) : OpOut :=
  let slot := hSlot r.handle
  let durable := !hEphemeral r.handle
  if s.frozenKey r then .fail s .keySpaceFull
  else
    let r := { r with dirty := r.dirty || (durable && hStore r.handle == 1) }
    let s := (s.setKey slot r).touchKey slot
    .done (if durable then s.journal (.key slot (s.key? slot)) else s) 0

/-- DELETE. -/
def opDelete (op : KeyOp) (s : State) : OpOut :=
  s.opKey op.handle op.target none (fun _ => true) (fun r s =>
    let slot := hSlot r.handle
    let s := s.forgetUses slot
    if hEphemeral r.handle then .done ((s.touch 6 r.handle).eraseKey slot) 0
    else s.changeKey { r with deleted := true, flags := clearBit r.flags fPinned, holds := 0 })

/-- REPLENISH: the live count, then the durable figure (R74). -/
def opReplenish (op : KeyOp) (s : State) : OpOut :=
  let n := leAt op.body 0 4
  if n = 0 then .fail s .badFieldValue
  else s.opKey op.handle op.target none (fun _ => true) (fun r s =>
    let v := reservation r.cap n
    let r := { r with uses := n, nextFigure := none }
    s.changeKey (if hasFigure r then { r with durable := some (n - v), resv := v } else { r with durable := none, resv := 0 }))

/-- SET_ATTRIBUTES: BAD and PINNED_RESIDENT keep their values. -/
def opSetAttributes (op : KeyOp) (s : State) : OpOut :=
  let usage := leAt op.body 0 4
  let fl := leAt op.body 4 4
  let cap := byteAt op.body 8
  s.opKey op.handle op.target none (fun _ => true) (fun r s =>
    match firstFail
      [ (within usage (2 ^ 21 - 1) && within fl 0x3F, .reservedNonzero),
        (bit fl fPersistent && !bit fl fPinned && decide (cap ≤ 13) && !hEphemeral r.handle, .badFieldValue),
        (usageAllowed r.cls usage, .usageNotPermitted) ] with
    | some st => .fail s st
    | none => s.changeKey { r with usage := usage, cap := cap, flags := fl ||| (r.flags &&& (2 ^ fPinned + 2 ^ fBad)) })

/-- MARK_PERSISTENT (R79). -/
def opMarkPersistent (op : KeyOp) (s : State) : OpOut :=
  let dest := leAt op.body 0 8
  let fl := leAt op.body 8 4
  s.opKey op.handle op.target none (fun _ => true) (fun r s =>
    if !hEphemeral r.handle then .fail s .badFieldValue
    else match targetFail dest op.target with
      | some st => .fail s st
      | none => match persistentFlagsFail fl with
        | some st => .fail s st
        | none =>
          if hStore dest ≠ hStore r.handle then .fail s .badFieldValue
          else s.withPrior dest (fun prior s =>
            let n : NewKey := { alg := r.alg, len := r.len, cls := r.cls, cap := r.cap, usage := r.usage, flags := fl, uses := r.uses,
                                mat := r.mat }
            let slot := hSlot r.handle
            (((s.touch 6 r.handle).forgetUses slot).eraseKey slot).putPersistent dest n prior))

/-- SET_ROSTER of an instance. -/
def opSetRoster (op : KeyOp) (s : State) : OpOut :=
  if !rosterOk s.prot.life op.body then .fail s .badFieldValue
  else .done (s.modInst op.target (fun x => { x with d := { x.d with roster := op.body } })) 0

/-- SET_ROSTER of the device. -/
def opSetRosterDevice (op : KeyOp) (s : State) : OpOut :=
  if !rosterOk s.prot.life op.body then .fail s .badFieldValue else .done { s with drec := { s.drec with roster := op.body } } 0

/-- The authority in an enrolment. -/
def enrolled (b : Bytes) : Authority := Authority.of (b.take 97) (b.drop 97)

/-- ENROL_IMAGE_AUTHORITY (R221). -/
def opEnrolImage (op : KeyOp) (s : State) : OpOut := .done { s with drec := { s.drec with image := some (enrolled op.body) } } 0

/-- ENROL_DOMAIN_AUTHORITY. -/
def opEnrolDomain (op : KeyOp) (s : State) : OpOut := .done { s with drec := { s.drec with domain := some (enrolled op.body) } } 0

/-- ESTABLISH_ROSTER: the first roster of an instance (R358). -/
def opEstablish (op : KeyOp) (s : State) : OpOut :=
  let i := leAt op.body 0 2
  let r := op.body.drop 8
  let d := (s.instOf i).d
  match firstFail
    [ (decide (i < 4096) && d.st != .free && rosterN d.roster == 0 && rosterOk s.prot.life r, .badFieldValue),
      (d.st != .resetting && d.st != .moving, .busy), (leAt op.body 4 4 == d.inc, .kumWrongDevice) ] with
  | some st => .fail s st
  | none => .done ((s.modInst i (fun x => { x with d := { x.d with roster := r } })).touchInst i) 0

/-- A life-cycle step exists and its condition is met (Table 16.5). -/
def State.stepOk (s : State) (dest : Nat) : Bool :=
  let life := s.prot.life
  (dest == 4 && decide (life ≤ 3)) || (life == 0 && dest == 1) || (life == 2 && dest == 3 && s.fuses.option 16) ||
    (life == 1 && dest == 2 && rosterN s.drec.roster != 0 && rosterM s.drec.roster != 1 && s.inst.all (fun e => rosterM e.2.d.roster != 1))

/-- LIFECYCLE_STEP (R450). -/
def opLifecycle (op : KeyOp) (s : State) : OpOut :=
  let dest := byteAt op.body 0
  let s := s.decisions 1
  match firstFail [(decide (dest ≤ 4), .badFieldValue), (s.prot.step.isNone, .busy), (s.stepOk dest, .lifecycleForbidden)] with
  | some st => .fail s st
  | none => .done { s with prot := { s.prot with step := some { target := dest, stage := 1, since := s.tick.count, kum := none } } } 0

/-- Debug levels that a token can enable in a life-cycle state (Table 16.7). -/
def debugAllowed (life lvl : Nat) : Bool := (lvl == 1 && decide (life ≤ 3)) || (lvl == 2 && (life == 0 || life == 3))

/-- DEBUG_ENABLE (R453, R455): a failed check consumes the nonce. -/
def opDebugEnable (op : KeyOp) (s : State) : OpOut :=
  let s := s.decisions 2
  match s.tokenFail debugAllowed op.body with
  | some .badLength => .fail s .badLength
  | some st => .fail s.spendNonce st
  | none =>
    let s := s.spendNonce
    .done (State.raise 14 oProtIrq 1 { s with prot := { s.prot with debug := byteAt op.body 6 } }) 0

/-- CLEAR_TAMPER (R436). -/
def opClearTamper (op : KeyOp) (s : State) : OpOut :=
  let m := leAt op.body 0 2
  let keep (k : Nat) : Bool := !bit m k || bit s.prot.live k || s.fuses.option k
  let sticky := (List.range 16).foldl (fun x k => if keep k then x else clearBit x k) s.bat.sticky
  .done { s with bat := { s.bat with sticky := sticky } } 0

/-- Apply one op; the three of R452 act only on the device the message names. -/
def applyOp (named : Bool) (code : Nat) (op : KeyOp) (s : State) : OpOut :=
  match code with
  | 0x01 => opWriteKey op s
  | 0x02 => opDelete op s
  | 0x03 => opReplenish op s
  | 0x04 => opSetAttributes op s
  | 0x05 => opMarkPersistent op s
  | 0x06 => opSetRoster op s
  | 0x10 => opSetRosterDevice op s
  | 0x11 => opEnrolImage op s
  | 0x12 => opEnrolDomain op s
  | 0x13 => if named then opLifecycle op s else .done s 0
  | 0x14 => if named then opDebugEnable op s else .done s 0
  | 0x15 => if named then opClearTamper op s else .done s 0
  | 0x16 => opEstablish op s
  | _ => .fail s .badFieldValue

/-- What the ops of a message come to: the state and the results, the failing op, or a page needed first. -/
inductive OpsOut where
  | done (s : State) (results : List Nat)
  | fail (s : State) (ix : Nat) (st : Status)
  | page (s : State) (p slot : Nat)

/-- Step 7: the ops in order, each on the state the earlier ones leave. -/
def applyOps (named : Bool) : List OpEntry → Nat → List Nat → State → OpsOut
  | [], _, rs, s => .done s rs
  | e :: es, k, rs, s => match applyOp named e.code e.op s with
    | .done t h => applyOps named es (k + 1) (rs ++ [h]) t
    | .fail t st => .fail t k st
    | .page t p slot => .page t p slot

/-- The ops of a message on a state. -/
def State.runOps (v : KumView) (s : State) : OpsOut := applyOps (v.serial == Config.deviceSerial.toNat) v.ops 0 [] s

/-! ### Completions and rejections (R363, R370) -/

/-- The key update completion ring is full. -/
def State.kumCqFull (s : State) : Bool := (s.kum.cqTail + 1) % s.ringSize oKumCqSize == s.kum.cqHead

/-- Write a completion, or hold it back while the ring is full (R56, R370). -/
def State.postKum (b : Bytes) (s : State) : State :=
  if s.kumCqFull || !s.kum.held.isEmpty then { s with kum := { s.kum with held := s.kum.held ++ [b] } }
  else
    let s := s.hostWrite 0 (s.reg oKumCqBase + 16 * s.kum.cqTail) b
    let s := { s with kum := { s.kum with cqTail := (s.kum.cqTail + 1) % s.ringSize oKumCqSize } }
    s.cqMsix 0 (s.fld oKumControl 26 16)

/-- Completions held back are written while there is room. -/
def State.releaseKum : Nat → State → State
  | 0, s => s
  | n + 1, s => match s.kum.held with
    | [] => s
    | b :: rest =>
      if s.kumCqFull then s
      else
        let t := State.postKum b { s with kum := { s.kum with held := [] } }
        State.releaseKum n { t with kum := { t.kum with held := rest } }

/-- A completion of a message (Table 13.8). -/
def State.completeKum (entry : Bytes) (st : Status) (ix flags counter : Nat) (s : State) : State :=
  (s.tally st.code).postKum (le 2 st.code ++ [BitVec.ofNat 8 ix, BitVec.ofNat 8 flags] ++ slice entry 12 4 ++ le 8 (counter % 2 ^ 48))

/-- Body of a KEY_UPDATE record (Table 17.4). -/
def kumRecord (target counter : Nat) (st : Status) (signed : Bytes) : Bytes :=
  le 2 target ++ le 2 st.code ++ zeros 2 ++ le 6 counter ++ sha384 signed

/-- A message is rejected: counted, recorded when the ledger is available, completed. -/
def State.rejectKum (entry msg : Bytes) (ix : Nat) (st : Status) (mute : Bool) (s : State) : State :=
  let target := leAt msg 6 2
  let signed := msg.take (64 + leAt msg 40 4)
  let s := (s.bump oKumRejected).raise 12 oKumIrq 0
  let s := s.when s.ledgerOk (fun s =>
    { s with ledger := { s.ledger with pending := s.ledger.pending ++ [{ typ := 0x10, body := kumRecord target (leAt msg 28 6) st signed }] } })
  let stored := if target = 0xFFFF then s.drec.counter else (s.instOf target).d.counter
  if mute then s else s.completeKum entry st ix 0 stored

/-- A message in progress is rejected. -/
def State.failKum (n ix : Nat) (st : Status) (s : State) : State :=
  match s.kum.msgs.get? n with
  | none => s
  | some x => ({ s with kum := { s.kum with msgs := s.kum.msgs.erase n } } : State).rejectKum x.entry x.msg ix st x.discard

/-! ### Acceptance and effect (R363 steps 7 to 9, R365) -/

/-- Change a message in progress. -/
def State.modKum (n : Nat) (f : KumMsg → KumMsg) (s : State) : State :=
  { s with kum := { s.kum with msgs := s.kum.msgs.modify n f } }

/-- Step 7 tried on the state as it is; then the claim check (step 8), or the wait for a page. -/
def State.tryKum (n : Nat) (s : State) : State :=
  match s.kum.msgs.get? n with
  | none => s
  | some x => match readKum x.msg with
    | none => s
    | some v => match s.runOps v with
      | .fail t ix st => t.failKum n ix st
      | .page t p slot => t.askPageFor p slot (.kumPaged n)
      | .done _ _ => if s.ledgerOk then s.privileged (.kum n) else s.failKum n 0xFF .ledgerUnavailable

/-- KEY_UPDATE_MESSAGE (R363, R370): the next ring entry and its message are fetched and checked. -/
def State.kumFetch (entry msg : Bytes) (s : State) : State :=
  let entry := padTo 32 entry
  if !s.works || !bit (s.reg oKumControl) 0 || !s.mayDma 0 || s.kum.sqHead = s.kum.sqTail || decide (256 ≤ s.kum.msgs.length) then s
  else
    let s := { s with kum := { s.kum with sqHead := (s.kum.sqHead + 1) % s.ringSize oKumSqSize } }
    match kumForm entry msg with
    | .error st => s.rejectKum entry msg 0xFF st false
    | .ok v => match s.kumChecks v with
      | some st => s.rejectKum entry msg 0xFF st false
      | none =>
        let n := s.kum.next
        let segs := (v.sigs.map (fun g => if g.kind = 1 then publicSegs algEc 2 else publicSegs algDsa 2)).foldl (· + ·) 0
        let s := ((s.decisions v.sigs.length).bump64 oPkSegments segs).charge v.inst 0 0 segs
        let s := { s with kum := { s.kum with next := n + 1, msgs := s.kum.msgs.set n { entry := entry, msg := msg } } }
        s.tryKum n

/-- The claim check has ended (step 8): the message's record waits to be committed (step 9). -/
def State.commitKum (n : Nat) (st : Option Status) (s : State) : State :=
  match s.kum.msgs.get? n, st with
  | none, _ => s
  | some _, some e => s.failKum n 0xFF e
  | some x, none =>
    let v := readKum x.msg
    let body := match v with | none => [] | some v => kumRecord v.target v.counter .ok v.signed
    let s := s.modKum n (fun x => { x with stage := 1 })
    { s with ledger := { s.ledger with pending := s.ledger.pending ++ [{ typ := 0x10, body := body, kum := some n }] } }

/-- The records of what the ops change, committed before it takes effect (Table 17.4). -/
def State.opRecords (v : KumView) (s : State) : State :=
  v.ops.foldl (fun s e =>
    let b := e.op.body
    let named := v.serial == Config.deviceSerial.toNat
    let authority (kind : Nat) : Bytes := [BitVec.ofNat 8 kind] ++ zeros 7 ++ (enrolled b).ident ++ b
    match e.code with
    | 0x06 => s.required 0x11 (le 2 v.target ++ zeros 2 ++ le 4 (s.instOf v.target).d.inc ++ b)
    | 0x10 => s.required 0x11 (le 2 0xFFFF ++ zeros 6 ++ b)
    | 0x11 => s.required 0x12 (authority 1)
    | 0x12 => s.required 0x12 (authority 2)
    | 0x13 => if named then s.required 0x14 ([BitVec.ofNat 8 s.prot.life, BitVec.ofNat 8 (byteAt b 0)] ++ zeros 6) else s
    | 0x14 => if named then s.required 0x15 ([BitVec.ofNat 8 (byteAt b 6)] ++ zeros 7 ++ slice b 16 32) else s
    | 0x16 => s.required 0x11 (le 2 (leAt b 0 2) ++ zeros 2 ++ slice b 4 4 ++ b.drop 8)
    | _ => s) s

/-- The stored counter becomes the message's. -/
def State.setCounter (v : KumView) (s : State) : State :=
  if v.device then { s with drec := { s.drec with counter := v.counter } }
  else s.modInst v.target (fun x => { x with d := { x.d with counter := v.counter } })

/-- Instances whose durable record the ops change. -/
def KumView.instances (v : KumView) : List Nat :=
  (if v.device then [] else [v.target]) ++ (v.ops.filter (fun e => e.code == 0x16)).map (fun e => leAt e.op.body 0 2)

/-- Steps 7 to 9 as one: the ops are checked again, the changes and the counter are durable, the records are committed. -/
def State.acceptKum (n : Nat) (s : State) : State :=
  match s.kum.msgs.get? n with
  | none => s
  | some x => match readKum x.msg with
    | none => s
    | some v => match (match s.kumBinding v with | some st => some st | none => s.kumFresh v) with
      | some st => s.failKum n 0xFF st
      | none => match s.runOps v with
        | .fail t ix st => t.failKum n ix st
        | .page t p slot => (t.modKum n (fun x => { x with stage := 0 })).askPageFor p slot (.kumPaged n)
        | .done t rs =>
          let t := t.setCounter v
          let ds := t.ks.journal.drop s.ks.journal.length ++ v.instances.map (fun i => Delta.inst i (t.instOf i).d) ++
            (if v.device then [Delta.dev t.drec] else [])
          let s := (((s.opRecords v).commitNow ds).commitRec 0x10 0 (kumRecord v.target v.counter .ok v.signed)).setCounter v
          let effect := s.tick.count + 1
          (s.bump64 oKumAccepted 1).modKum n (fun x => { x with stage := 2, results := rs, effect := effect, counter := v.counter })

/-- Admission stops and admitted items stop with LIFECYCLE_IN_PROGRESS (R451 step 1), for the message whose op began the step. -/
def State.beginStep (n : Option Nat) (s : State) : State :=
  match s.prot.step with
  | none => s
  | some x =>
    if s.disp.stopAdmit then s
    else
      let s := { s with prot := { s.prot with step := some { x with since := s.tick.count, kum := n } },
                        disp := { s.disp with stopAdmit := true } }
      (s.disp.items.map Prod.fst).foldl (fun s k => s.stopItem k .lifecycleInProgress) s

/-- An accepted message takes effect (R365); its receipt is signed on the lowest-numbered frond in service (R367). -/
def State.effectKum (n : Nat) (s : State) : State :=
  match s.kum.msgs.get? n with
  | none => s
  | some x => match readKum x.msg with
    | none => s
    | some v =>
      let s := match s.runOps v with
        | .done t _ => { t with ks := { t.ks with journal := s.ks.journal } }
        | _ => s
      let s := if v.device then s.touchDev else s.touchInst v.target
      let i := (iterSigns s v)
      let j : PkJob := { purpose := .receipt n, inst := v.inst, frond := s.mgmtDrbg, left := privateSegs algEc 2 1 + privateSegs algDsa 3 i,
                         split := privateSegs algDsa 3 i, order := s.eng.nextJob }
      let s := { s with eng := { s.eng with jobs := s.eng.jobs.set s.eng.nextJob j, nextJob := s.eng.nextJob + 1 } }
      (s.modKum n (fun x => { x with stage := 3 })).beginStep (some n)
where
  /-- Iterations of the receipt's ML-DSA signature (R345): free. -/
  iterSigns (s : State) (v : KumView) : Nat := Config.signIterations algDsa 3 identityDsa v.signed (s.drawn 32)

/-- Messages whose effect is due. -/
def State.dueKums (s : State) : List Nat :=
  (s.kum.msgs.filter (fun e => e.2.stage == 2 && decide (e.2.effect ≤ s.tick.count))).map Prod.fst

/-! ### Receipts (R367) -/

/-- The receipt up to its signatures (Table 13.6). -/
def State.receiptHead (s : State) (x : KumMsg) (v : KumView) : Bytes :=
  le 4 0x4B555243 ++ le 2 1 ++ le 2 v.target ++ le 8 Config.deviceSerial.toNat ++ le 4 v.inc ++ le 6 v.counter ++ le 2 v.ops.length ++
    zeros 4 ++ sha384 v.signed ++ le 8 x.effect ++ le 4 s.bat.cycles ++ le 6 s.bat.hours ++ zeros 6 ++ x.results.flatMap (le 8)

/-- The wipes of a life-cycle step begin (R451 step 3): the tamper-erasable secret is erased, and the step to INTEGRATOR empties the device
roster and both authorities. The step to FIELDED wipes nothing. -/
def State.startWipe (t : LifeStep) (s : State) : State :=
  let s := { s with prot := { s.prot with step := some { t with stage := if t.target = 2 then 3 else 2, since := s.tick.count } } }
  if t.target = 2 then s
  else
    let s := { s with bat := { s.bat with secret := none } }
    if t.target = 1 then { s with drec := { s.drec with roster := zeros 16, image := none, domain := none } } else s

/-- The receipt is signed: it is written and the completion follows; a failed release check leaves the receipt out. -/
def State.endReceipt (n : Nat) (ok : Bool) (s : State) : State :=
  match s.kum.msgs.get? n with
  | none => s
  | some x => match readKum x.msg with
    | none => s
    | some v =>
      let h := s.receiptHead x v
      let r := h ++ padTo 96 (signEc h s.free) ++ padTo 4627 (signDsa h (ascii "LV5120-KUR") (s.free + 48)) ++ zeros 5
      let s := (s.generate s.mgmtDrbg 80).spend 80
      let s := { s with kum := { s.kum with msgs := s.kum.msgs.erase n } }
      let s := s.when (ok && !x.discard) (fun s => s.hostWrite 0 (leAt x.entry 16 8) r)
      let s := s.when (!x.discard) (fun s => s.completeKum x.entry .ok 0xFF (b2n ok) v.counter)
      match s.prot.step with
      | none => s
      | some t => if t.kum = some n ∧ t.stage = 1 then s.startWipe t else s

/-- An op on its own: what it does once its message takes effect (R362, R365); a failure changes nothing. -/
def State.opRow (code : Nat) (op : KeyOp) (s : State) : State :=
  if !s.works then s
  else match applyOp true code op s with
    | .done t _ => if 0x10 ≤ code then (t.touchDev.saveDev).beginStep none else t.touchInst op.target
    | .fail t st => if code = 0x14 ∧ st ≠ .badLength then t else s
    | .page _ _ _ => s

end Sys2Proof.Machine
end

