-- ==== Sys2Proof/Machine/Fabric.lean ====
section
/-! DEFINITION. Errors, self-tests and retirement of banks and engines, bank power, arbitration events and the access rules (R487-R506),
and public-key jobs as they are admitted and run (R349-R354). -/

namespace Sys2Proof.Machine

/-! ### Units -/

/-- Numbers of a unit kind that can be tested (Tables 1.2, 1.3); none: not such a kind. -/
def unitNumbers (kind : Nat) : Option Nat :=
  if kind = 1 then some 256 else if 2 ≤ kind ∧ kind ≤ 5 then some 64 else if kind = 6 then some 32
  else if kind = 7 then some 3392 else none

/-- The identifier names an engine or a bank. -/
def testable (u : Nat) : Bool := match unitNumbers (u / 4096) with | none => false | some n => decide (u % 4096 < n)

/-- A bank of the layout that has been replaced, or an engine, is retired (R503). -/
def State.retired (s : State) (u : Nat) : Bool := if u / 4096 = 7 then s.drec.banks.has (u % 4096) else s.drec.engines.contains u

/-- The unit is in service: an enabled engine or a bank of the layout, not retired. -/
def State.inService (s : State) (u : Nat) : Bool :=
  if u / 4096 = 7 then decide (u % 4096 < 3328) && !s.retired u
  else s.engineOn (u / 4096) (s.kindMap (u / 4096)) (u % 4096) &&
    bit s.cfg.enables.fronds (u % 4096 / kindPer (u / 4096))

/-- A test ended: its FAULT record (Table 17.4), and the commands that wait for it complete (R505). -/
def State.testEnded (u : Nat) (pass retired : Bool) (s : State) : State :=
  let st : Status := if pass then .ok else .hwFault
  let s := s.localRec 0x04 (le 2 u ++ [BitVec.ofNat 8 (b2n (!pass)), BitVec.ofNat 8 (b2n retired)] ++ le 2 st.code ++ zeros 2)
  let mine := s.fab.cmds.filter (fun e => e.1 == u)
  let s := { s with fab := { s.fab with cmds := s.fab.cmds.filter (fun e => e.1 != u) } }
  mine.foldl (fun s e => s.finish e.2 st) s

/-- A retirement: counted, and its interrupt. -/
def State.noteRetired (s : State) : State := ((s.bumpHi oFabSelftest).raise 18 oFabIrq 1).saveDev

/-! ### Engines (R501, R503) -/

/-- The known-answer test of an engine starts. -/
def State.testEngine (u : Nat) (s : State) : State :=
  if s.fab.engTests.contains u then s else { s with fab := { s.fab with engTests := s.fab.engTests ++ [u] } }

/-- ENGINE_KAT_DONE: the engine works again, returns to service (R505), or is retired. -/
def State.katDone (u : Nat) (pass : Bool) (s : State) : State :=
  if !s.ready || !s.fab.engTests.contains u then s
  else
    let s := { s with fab := { s.fab with engTests := s.fab.engTests.filter (fun x => x != u) } }
    let was := s.drec.engines.contains u
    if pass then
      let s := (s.bumpF oFabSelftest 31 0 1).when was (fun s =>
        { s with drec := { s.drec with engines := s.drec.engines.filter (fun x => x != u) } }.saveDev.touchDev)
      s.testEnded u true false
    else if was then s.testEnded u false true
    else (State.noteRetired { s with drec := { s.drec with engines := s.drec.engines ++ [u] } }).testEnded u false true

/-- The item has drawn nothing from a DRBG, consumed no use, written no output and sent no frame (R504). -/
def idempotent (x : Item) : Bool :=
  !x.tainted && x.done == 0 && x.emis.isNone && (match x.result with | none => true | some o => o.drawn == 0)

/-- Jobs of an item leave the engines: their uses are the item's, which its end releases. -/
def State.dropJobs (n : Nat) (s : State) : State :=
  { s with eng := { s.eng with jobs := s.eng.jobs.filterT (fun _ j => !j.serves n) } }

/-- ENGINE_ERROR (R501, R504): the engine is tested; the item on a field processor or a public-key engine runs once more if it is
idempotent, and ends with HW_FAULT otherwise. The quanta of the other engines are QUANTUM_END's (R324). -/
def State.engineError (u n : Nat) (s : State) : State :=
  if !s.ready || !testable u || u / 4096 == 7 then s
  else
    let s := s.testEngine u
    match s.item? n with
    | none => s
    | some x =>
      if !(4 ≤ u / 4096 && x.admitted) then s
      else if idempotent x && !s.fab.engErrs.contains n then
        { s with fab := { s.fab with engErrs := s.fab.engErrs ++ [n] },
                 eng := { s.eng with jobs := s.eng.jobs.mapT (fun _ j => if j.serves n then { j with running := false } else j) } }
      else (s.dropJobs n).stopItem n .hwFault

/-! ### Banks (R500, R502) -/

/-- The lowest-numbered free spare of a quadrant. -/
def State.freeSpare (s : State) (q : Nat) : Option Nat :=
  ((List.range 16).map (fun k => 3328 + 16 * q + k)).find? (fun b => !s.drec.banks.any (fun e => e.2 == b))

/-- The next bank of a quadrant that waits for its test. -/
def State.nextBankTest (q : Nat) (s : State) : State :=
  let s := { s with fab := { s.fab with tests := s.fab.tests.erase q } }
  match s.fab.waiting.find? (fun t => bankQuadrant t.bank == q) with
  | none => s
  | some t =>
    let rest := s.fab.waiting.erase t
    if !t.bad && s.sparesFree q == 0 then { s with fab := { s.fab with waiting := rest } }
    else { s with fab := { s.fab with waiting := rest, tests := s.fab.tests.set q t } }

/-- The test running in a quadrant, at a stage. -/
def State.bankTest (s : State) (q stage : Nat) : Option BankTest :=
  match s.fab.tests.get? q with | none => none | some t => if t.stage = stage && s.ready then some t else none

/-- BANK_COPY_DONE. -/
def State.bankCopyDone (q : Nat) (s : State) : State :=
  match s.bankTest q 0 with
  | none => s
  | some t => { s with fab := { s.fab with tests := s.fab.tests.set q { t with stage := 1 } } }

/-- BANK_MARCH_TEST_DONE: a bank that fails is replaced for good; a retired bank that passes becomes a free spare (R505). -/
def State.marchDone (q : Nat) (pass : Bool) (s : State) : State :=
  match s.bankTest q 1 with
  | none => s
  | some t =>
    let u := unitId 7 t.bank
    if t.bad then
      let s := s.when pass (fun s => ({ s with drec := { s.drec with banks := s.drec.banks.erase t.bank } }.saveDev.touchDev).bumpF oFabSelftest 31 0 1)
      (s.testEnded u pass (!pass)).nextBankTest q
    else if pass then { s with fab := { s.fab with tests := s.fab.tests.set q { t with stage := 2 } } }
    else match s.freeSpare q with
      | none => s
      | some b =>
        let s := State.noteRetired { s with drec := { s.drec with banks := s.drec.banks.set t.bank b } }
        (s.testEnded u false true).nextBankTest q

/-- BANK_COPY_BACK_DONE: the error was transient. -/
def State.copyBackDone (q : Nat) (s : State) : State :=
  match s.bankTest q 2 with
  | none => s
  | some t => ((s.bumpF oFabSelftest 31 0 1).testEnded (unitId 7 t.bank) true false).nextBankTest q

/-- BANK_RETENTION_TIMEOUT (R490). -/
def State.retentionTimeout (b : Nat) (s : State) : State :=
  if s.fab.rest.getD b 0 = 1 && !s.fab.low.contains b then { s with fab := { s.fab with low := s.fab.low ++ [b] } } else s

/-- Index of a bank in its quadrant; spares follow their quadrants' numbers. -/
def bankLocal (b : Nat) : Nat := if b < 3328 then b % 832 else 832

/-- What an uncorrected error does, by region (Tables 1.6, 18.3). -/
def State.uncorrected (e : EccEvent) (s : State) : State :=
  let k := bankLocal e.bank
  if k < 176 then
    match s.key? (hSlot e.key) with
    | none => s.testBank e.bank
    | some _ => (s.modKey (hSlot e.key) (fun r => { r with tagOk := false, bank := e.bank })).markBad (hSlot e.key)
  else
    let s := s.testBank e.bank
    if k < 208 then s
    else if k < 528 then s.instFault e.inst 3
    else if k < 720 then s.stopItem e.item .hwFault
    else if k < 752 then (s.dropJobs e.item).stopItem e.item .hwFault
    else if k < 768 then s.stopItem e.item .hwFault
    else if k < 816 then
      let s := { s with last := { s.last with hit := if s.last.hit.contains e.sect then s.last.hit else s.last.hit ++ [e.sect] } }
      let hit := s.disp.items.filter (fun x => x.2.transit && x.2.admitted && s.sectionHit x.2.seam)
      hit.foldl (fun s x => s.stopItem x.1 .hwFault) s
    else match s.last.job with
      | none => s
      | some j => State.finish j.m .hwFault { s with last := { s.last with job := none } }

/-- ECC_ERROR (R500): counted; an access wakes the bank (R490); its effect, and its bank's test. -/
def State.eccError (e : EccEvent) (s : State) : State :=
  if !s.ready || 3392 ≤ e.bank then s
  else
    let s := { s with fab := { s.fab with low := s.fab.low.filter (fun b => b != e.bank) } }
    if e.corrected then (s.bumpF oFabEcc 31 0 1).testBank e.bank
    else (s.bumpHi oFabEcc).uncorrected e

/-! ### Arbitration (R495) -/

/-- ARBITER_STARVATION: the latest event is shown; at most one interrupt a tick. -/
def State.starvation (requester unit : Nat) (crossbar : Bool) (s : State) : State :=
  if !s.ready || 71 < requester then s
  else
    let s := (s.setFld oFabStarved 31 0 (b2n crossbar * 2 ^ 24 + requester * 2 ^ 16 + unit % 2 ^ 16)).bumpHi oFabStarved
    if s.fab.starvedAt = some s.tick.count then s
    else State.raise 18 oFabIrq 0 { s with fab := { s.fab with starvedAt := some s.tick.count } }

/-! ### Access rules (R497-R499) -/

/-- The rules that the boot monitor loads at start-up step 6. The spec does not give them (DESIGN CHOICE, log 22): each function may read
and write the whole of its BAR0, the management processors everything in register space, and debug what its level grants (R453). -/
def bootRules : List AccessRule :=
  [{ base := 0, pages := 16384, perm := 0x30FF }, { base := 2 ^ 32, pages := 65536, perm := 0x361B }]

/-- The permission for an access at a level: 0 read, 1 write. -/
def State.allowed (s : State) (level kind addr : Nat) : Bool :=
  match s.fab.rules.find? (fun r => decide (r.base ≤ addr ∧ addr < r.base + 4096 * r.pages)) with
  | none => false
  | some r => bit r.perm (3 * level + kind)

/-- A denied part: recorded, and the denial interrupt (R499). -/
def State.denied (level addr : Nat) (s : State) : State :=
  (((s.setFld oFabDenied 2 0 level).bumpHi oFabDenied).setReg oFabDeniedAddr addr).raise 18 oFabIrq 2

/-! ### Commands (R505) -/

/-- Bytes 32 and 33 of a fabric command. -/
def fabUnit (m : MCmd) : Nat := leAt m.cmd.desc 32 2

/-- A region's bank may be OFF (R491, case 1). -/
def State.offAllowed (s : State) (b : Nat) : Bool :=
  if 3328 ≤ b then !s.drec.banks.any (fun e => e.2 == b) && !(match s.fab.tests.get? (bankQuadrant b) with
      | none => false | some t => !t.bad && s.freeSpare (bankQuadrant b) == some b)
  else
    let k := b % 832
    decide (k < 208) || (decide (720 ≤ k ∧ k < 752) && !bit s.cfg.enables.fronds (4 * (b / 832) + (k - 720) / 8))

/-- Entries of the page version table that a bank holds: 32,768 of 4 bytes, in the order of page numbers over the quadrants' ranges
(DESIGN CHOICE, log 23). -/
def versionPages (b : Nat) : Nat × Nat := let n := 32 * (b / 832) + (b % 832 - 176); (32768 * n, 32768 * (n + 1))

/-- The bank holds no live slot and no entry of an assigned range (R491, case 2). -/
def State.bankEmpty (s : State) (b : Nat) : Bool :=
  if 3328 ≤ b then true
  else
    let k := b % 832
    if k < 176 then !s.ks.keys.any (fun e => e.2.bank == b && !e.2.deleted)
    else if k < 208 then
      let (lo, hi) := versionPages b
      !s.inst.any (fun e => e.2.d.st != .free && decide (e.2.d.base < hi ∧ lo < e.2.d.base + e.2.d.p))
    else true

/-- The quotas of all instances fit the slots that stay on (R381, R491). -/
def State.quotasFit (s : State) : Bool :=
  let sum (f : InstRec → Nat) : Nat := (s.inst.filter (fun e => e.2.d.st != .free)).foldl (fun a e => a + f e.2.d.lim) 0
  decide (sum (fun l => l.sym) ≤ s.slotsOn true) && decide (sum (fun l => l.asym) ≤ s.slotsOn false)

/-- FAB_BANK_POWER (R490, R491). -/
def effBankPower (m : MCmd) (s : State) : Eff :=
  let u := fabUnit m
  let b := u % 4096
  let r := byteAt m.cmd.desc 34
  let t := { s with fab := { s.fab with rest := if r = 0 then s.fab.rest.erase b else s.fab.rest.set b r,
                                        low := s.fab.low.filter (fun x => x != b) } }
  effChecks s [(u / 4096 == 7 && testable u && decide (r ≤ 2), .badFieldValue), (r != 2 || s.offAllowed b, .badFieldValue),
               (r != 2 || s.bankEmpty b, .busy), (r != 2 || t.quotasFit, .quotaExceeded)] { s := t.touchDev }

/-- A command starts a unit's test and waits for its end. -/
def State.startTest (u : Nat) (bad : Bool) (m : MCmd) (s : State) : Eff :=
  let s := { s with fab := { s.fab with cmds := s.fab.cmds ++ [(u, m)] } }
  if u / 4096 != 7 then { s := s.testEngine u, st := none }
  else
    let b := u % 4096
    let q := bankQuadrant b
    let under := s.fab.waiting.any (fun t => t.bank == b) || (match s.fab.tests.get? q with | none => false | some t => t.bank == b)
    let t : BankTest := { bank := b, stage := if bad then 1 else 0, bad := bad }
    if under then { s := s, st := none }
    else if s.fab.tests.has q then { s := { s with fab := { s.fab with waiting := s.fab.waiting ++ [t] } }, st := none }
    else { s := { s with fab := { s.fab with tests := s.fab.tests.set q t } }, st := none }

/-- FAB_UNRETIRE. -/
def effUnretire (m : MCmd) (s : State) : Eff :=
  let u := fabUnit m
  effChecks s [(testable u, .badFieldValue), (s.retired u, .badFieldValue)] (s.startTest u true m)

/-- FAB_SELFTEST; a quadrant with no free spare runs no bank test (log 24). -/
def effSelftest (m : MCmd) (s : State) : Eff :=
  let u := fabUnit m
  effChecks s [(testable u, .badFieldValue), (s.inService u, .badFieldValue),
               (u / 4096 != 7 || s.fab.tests.has (bankQuadrant (u % 4096)) || s.sparesFree (bankQuadrant (u % 4096)) != 0, .busy)]
    (s.startTest u false m)

/-! ### Public-key jobs (R349, R351-R354) -/

/-- The function that a job runs. -/
def State.jobFn (s : State) (j : PkJob) : Nat :=
  match j.purpose with
  | .receipt _ => 0x0C01
  | .item n => match s.item? n with | none => 0 | some x => (x.invoked.getD x.inv).fn
  | .deferred n k => match s.item? n with
    | none => 0
    | some x => match x.deferred[k]? with
      | none => 0
      | some d => match (s.itemSeam x).stitches[d.ix]? with
        | none => 0
        | some t => ((s.itemCfg x).seams.entries.getD t.ix {}).inv.fn

/-- PK_JOB_ADMIT (R349): the first job in queue order, when its places, frames and credit are there. -/
def State.pkAdmit (f : Nat) (s : State) : State :=
  if !s.works then s
  else match s.firstQueued f with
    | none => s
    | some (k, j) =>
      if !s.mayPlace j then s.noteWait k j
      else match j.purpose with
        | .item n => match s.item? n with
          | none => s.dropJob k
          | some x => match s.admitJob k n (x.invoked.getD x.inv) x.transit with
            | (s, none) => s
            | (s, some o) =>
              if x.transit then (s.modItem n (fun x => { x with result := some o, waitSt := none })).event n evSegment none
              else s.finishService n o none
        | .deferred n ix => match s.item? n with
          | none => s.dropJob k
          | some x => match x.deferred[ix]? with
            | none => s.dropJob k
            | some d => match (s.itemSeam x).stitches[d.ix]? with
              | none => s.dropJob k
              | some t => s.placeJob k (s.applyInvoc x t).1
        | .receipt _ =>
          let half := if s.cfg.timing.period = 0 then 2 else 1
          let j := { j with placed := true, frames := jobFrames 0x0C01 0 0, left := half * j.left, split := half * j.split,
                            lastRun := s.tick.count, order := s.nextOrder }
          State.startSegments f false 8 (State.takeOrder { s with eng := { s.eng with jobs := s.eng.jobs.set k j } })

/-- The outputs of the job pass a release check (Table 12.3). -/
def releases (fn : Nat) : Bool := [0x0801, 0x0901, 0x0A01, 0x0A02, 0x0C01].contains fn

/-- A failed release check (R354): nothing is released; it is counted and recorded, and the engine is tested. -/
def State.releaseFail (f fn : Nat) (lattice : Bool) (s : State) : State :=
  let kind := if lattice then 6 else 5
  let us := ((List.range (kindPer kind)).map (fun k => kindPer kind * f + k)).filter (fun k =>
    s.engineOn kind (s.kindMap kind) k && !s.fab.engTests.contains (unitId kind k))
  let u := unitId kind (us.headD (kindPer kind * f))
  (((s.bump oPkReleaseFail).raise 11 oPkIrq 0).localRec 0x07 (le 2 u ++ le 2 fn ++ zeros 4)).testEngine u

/-- A job has run its last segment: its check, its end, and what waited for it. -/
def State.jobEnd (k : Nat) (j : PkJob) (releaseOk : Bool) (s : State) : State :=
  let fn := s.jobFn j
  let ok := releaseOk || !releases fn
  let s := ((s.dropJob k).bump64 oPkJobsDone 1).decisions (if releases fn then 1 else 0)
  let s := s.when (!ok) (State.releaseFail j.frond fn j.lattice)
  match j.purpose with
  | .receipt n => s.endReceipt n ok
  | .deferred n ix => s.deferredEnd n ix (if ok then none else some .hwFault)
  | .item n => match s.item? n with
    | none => s
    | some x =>
      let o : FnOut := if ok then x.result.getD {} else { st := .hwFault }
      if x.transit then (s.modItem n (fun x => { x with result := some o })).event n evSegment none
      else s.finishService n o none

/-- SEGMENT_END (R351-R353): the running job whose segment began first ends it; the engine goes on with the next. -/
def State.segmentEnd (f : Nat) (lattice releaseOk : Bool) (s : State) : State :=
  if !s.works then s
  else match s.runningJob f lattice with
    | none => s
    | some (k, j) =>
      let s := (s.bump64 oPkSegments 1).charge j.inst 0 0 1
      let left := j.left - 1
      let j := { j with left := left, running := false, lastRun := s.tick.count, lattice := j.lattice || (left != 0 && decide (left ≤ j.split)) }
      let s := { s with eng := { s.eng with jobs := s.eng.jobs.set k j } }
      let s := if j.abandoned then (s.dropJob k).bump oPkAbandoned else if left = 0 then s.jobEnd k { j with lattice := lattice } releaseOk else s
      (s.startSegments f lattice 8).startSegments f (!lattice) 8

/-- Abandoned jobs that run no segment are gone (R353). -/
def State.reapJobs (s : State) : State :=
  let n := (s.eng.jobs.filter (fun e => e.2.abandoned && !e.2.running)).length
  if n = 0 then s
  else State.bumpF oPkAbandoned 31 0 n { s with eng := { s.eng with jobs := s.eng.jobs.filterT (fun _ j => !j.abandoned || j.running) } }

end Sys2Proof.Machine
end

