-- ==== Sys2Proof/Machine/Ledger.lean ====
section
/-! DEFINITION. The ledger at work: records one at a time, seals, wear, verification, exports (R465-R476), the ceremony card (R478-R482)
and key ceremonies (R368-R371). -/

namespace Sys2Proof.Machine

/-! ### Wear (R474, R475) -/

/-- Areas of the ledger that records are written to. -/
def areaOf (first : Bool) : Nat := if first then 1 else 2

/-- The physical sector of a sector of an area: its own (Table 17.1), or its replacement. -/
def Flash.physical (f : Flash) (area k : Nat) : Nat := f.sectors.getD (area * 65536 + k) ((if area = 1 then 512 else 1536) + k)

/-- LDG_ENDURANCE and LDG_CIRC_MIN (R484). -/
def Flash.enduranceOf (f : Flash) : Nat := f.endurance.getD 100000
/-- LDG_CIRC_MIN. -/
def Flash.circMinOf (f : Flash) : Nat := f.circMin.getD 1024

/-- The ledger becomes worn below LDG_CIRC_MIN. -/
def State.checkWorn (s : State) : State :=
  if s.flash.inService < s.flash.circMinOf ∧ !s.ledger.worn then
    State.raise 16 oLdgIrq 0 { s with ledger := { s.ledger with worn := true } }
  else s

/-- Retire sector `k` of an area (R474): the next free replacement takes its place, or the highest circular sector in service (R475).
`cause`: 1 endurance, 2 an error. -/
def State.retireSector (area k cause : Nat) (s : State) : State :=
  let f := s.flash
  let old := f.physical area k
  let last := f.inService - 1
  let (new, f) : Nat × Flash :=
    if 0 < f.spares then (7170 + (1022 - f.spares), { f with spares := f.spares - 1 })
    else (f.physical 2 last, { f with inService := last, records := f.records.filter (fun r => r.firstArea || r.sector != last) })
  let f := { f with retired := f.retired + 1, erases := f.erases.erase k, sectors := f.sectors.set (area * 65536 + k) new }
  let s := State.raise 16 oLdgIrq 1 { s with flash := f }
  (s.localRec 0x09 ([BitVec.ofNat 8 area, 0#8] ++ le 4 k ++ le 4 old ++ le 4 new ++ [BitVec.ofNat 8 cause, 0#8])).checkWorn

/-- SECTOR_ERASE_AHEAD (R468): the next circular sector is erased; at LDG_ENDURANCE erases, or at an error, it is retired. -/
def State.eraseAheadDone (ok : Bool) (s : State) : State :=
  if !s.ledger.opened || s.flash.ahead then s
  else
    let k := if s.flash.head.sector + 1 < s.flash.inService then s.flash.head.sector + 1 else 0
    let s := s.eraseAhead
    if !ok then s.retireSector 2 k 2
    else if s.flash.enduranceOf ≤ s.flash.erases.getD k 0 then s.retireSector 2 k 1 else s

/-! ### Records one at a time (R465, R466) -/

/-- The record at the head of those that wait is voided: it is written again from the start of the next block. -/
def State.voidRec (p : LedgerPend) (s : State) : State :=
  let r := s.makeRec p.typ p.flags p.body
  let s := s.placeRec { r with mark := 0 }
  if r.firstArea then { s with flash := { s.flash with first := s.flash.first.nextBlock firstSectors false } }
  else
    let h := s.flash.head.nextBlock s.flash.inService true
    { s with flash := { s.flash with head := h, ahead := s.flash.ahead && h.sector == s.flash.head.sector } }

/-- LEDGER_RECORD_COMMIT: outcome 0 the mark reads back, 1 a read-back differs, 2 a program error. The record of a key update message
is committed as it is accepted. -/
def State.recordCommit (outcome : Nat) (s : State) : State :=
  if !s.ledger.opened then s
  else match s.ledger.pending with
    | [] => s
    | p :: rest =>
      if outcome = 0 then
        let s := { s with ledger := { s.ledger with pending := rest } }
        match p.kum with
        | some n => if s.ledgerOk then s.acceptKum n else s.failKum n 0xFF .ledgerUnavailable
        | none => s.commitRec p.typ p.flags p.body
      else
        let r := s.makeRec p.typ p.flags p.body
        let s := s.voidRec p
        if outcome = 2 then s.retireSector (areaOf r.firstArea) r.sector 2 else s

/-! ### Seals (R469) -/

/-- Sequence number of the latest SEAL. -/
def State.lastSeal (s : State) : Nat := match s.findRec 0x02 (fun _ => true) with | none => 0 | some r => r.seq

/-- Write a SEAL over the records since the previous one; its signature is over record bytes 1 to 151. -/
def State.writeSeal (s : State) : State :=
  let s := s.drainLedger
  let lo := s.lastSeal + 1
  let covered := s.flash.records.filter (fun r => r.mark == 0xA5 && decide (lo ≤ r.seq))
  let body := le 8 lo ++ le 8 (s.ledger.nextSeq - 1) ++ sha384 (covered.flatMap (fun r => r.signed ++ r.mac)) ++ s.sealIndex.flatMap (le 8)
  let head := (s.makeRec 0x02 0 (padTo 200 body)).signed.take 151
  let s := (((s.commitRec 0x02 0 (padTo 104 body ++ padTo 96 (signEc head s.free))).generate s.mgmtDrbg 48).spend 48)
  { s with ledger := { s.ledger with unsealed := 0, sealAt := s.tick.count } }

/-- Seals are written while the ledger is open and random output runs. -/
def State.maySeal (s : State) : Bool := s.ready && s.ledger.opened && s.rngOk

/-- LEDGER_SEAL_COUNT. -/
def State.sealCount (s : State) : State := if s.maySeal && decide (65536 ≤ s.ledger.unsealed) then s.writeSeal else s

/-- LEDGER_SEAL_TIMER: 3,600 epochs or more after the previous seal, with records since. -/
def State.sealTimer (s : State) : State :=
  if s.maySeal && decide (0 < s.ledger.unsealed) && decide (s.ledger.sealAt / 1000000 + 3600 ≤ s.tick.count / 1000000) then s.writeSeal else s

/-- LEDGER_VERIFY_DONE (R471, R473). -/
def State.verifyDone (damaged : Nat) (brk : Bool) (s : State) : State :=
  if !s.ledger.opened || s.ledger.verified then s
  else State.raise 16 oLdgIrq 2 { s with ledger := { s.ledger with verified := true, damaged := damaged % 2 ^ 32, brk := brk } }

/-! ### Card commands: what they need -/

/-- A card session exists (R478, R480). -/
def State.cardUp (s : State) : Bool := s.card.state == 2 || s.card.state == 3

/-- Why a card access of `n` blocks from `b` fails before it begins. -/
def State.cardFail (s : State) (b n : Nat) : Option Status :=
  lowestFail [(s.card.job.isNone, .busy), (s.cardUp, .cardAbsent), (!s.cardUp || decide (b + n ≤ s.card.blocks), .badFieldValue)]

/-- A block's reading failed: 3 retries were made (R480). -/
def State.readFails (s : State) : State := s.bumpF oCardRetries 31 0 3

/-- CARD_READ (R480, R482): the blocks as the card answers them, unless one begins with the component magic. -/
def effCardRead (m : MCmd) (s : State) : Eff :=
  let b := m.cmd.u 32 4
  let n := m.cmd.u 36 4
  let a := m.cmd.u 40 8
  let d := padTo (512 * n) m.cmd.data
  effChecks s [(decide (1 ≤ n ∧ n ≤ 65536) && a % 4096 == 0, .badFieldValue)]
    (match s.cardFail b n with
     | some st => .fail s st
     | none =>
       if !m.cmd.pass then .fail s.readFails .cardReadFailed
       else if (chunks 512 d).any (fun x => leAt x 0 4 == 0x434F4D50) then .fail s .exportNotPermitted
       else { s := s.hostWrite 0 a d })

/-! ### Exports (R476, R477) -/

/-- The most records, from the first, whose bytes fit: `room` is the space for records. -/
def fitRecords (room : Nat) : List LedgerRec → Nat → List LedgerRec
  | [], _ => []
  | r :: rs, used => let n := used + r.bytes.length; if room < n then [] else r :: fitRecords room rs n

/-- The header of a segment (Table 17.7). -/
def segmentHeader (flags first last n : Nat) : Bytes :=
  le 4 0x4C444758 ++ le 2 1 ++ [BitVec.ofNat 8 flags, 0#8] ++ le 8 Config.deviceSerial.toNat ++ le 8 first ++ le 8 last ++ le 8 n ++ zeros 24

/-- An export's end: the sequence numbers it wrote go back to the descriptor. -/
def State.exported (m : MCmd) (first last : Nat) (s : State) : State := (s.overwrite m 32 (le 8 first ++ le 8 last)).finish m .ok

/-- Write the next block of an export, after the write-protect checks (R481). -/
def State.cardBlock (s : State) : State :=
  match s.card.job with
  | none => s
  | some j => match j.left with
    | [] => State.exported j.m j.first j.last { s with card := { s.card with job := none, state := 2 } }
    | (b, d) :: _ =>
      if s.card.wp || s.card.csd then State.finish j.m .cardWriteProtected { s with card := { s.card with job := none, state := 2 } }
      else State.emit (.card b d) { s with card := { s.card with job := some { j with since := s.tick.count }, state := 3 } }

/-- LEDGER_EXPORT: the records that are present from a first sequence on; to host memory at once, to a card block by block with block 0
first marked INCOMPLETE. The signatures pass their release check or the command fails with HW_FAULT (R354). -/
def effLedgerExport (m : MCmd) (s : State) : Eff :=
  let c := m.cmd
  let limit := c.u 40 4
  let toCard := byteAt c.desc 44 == 1
  let a := c.u 48 8
  let room := c.u 56 4
  let space := if toCard then (room - 11) * 512 else (room - 512 - 4723) / 512 * 512
  let all := (s.flash.records.filter (fun r => r.mark == 0xA5 && decide (c.u 32 8 ≤ r.seq))).take limit
  let rs := fitRecords space all 0
  let first := match rs.head? with | none => 0 | some r => r.seq
  let last := match rs.getLast? with | none => 0 | some r => r.seq
  let body := rs.flatMap LedgerRec.bytes
  let signed := segmentHeader 0 first last body.length ++ body
  let sigs := padTo 96 (signEc signed s.free) ++ padTo 4627 (signDsa signed (ascii "LV5120-LEDGER") (s.free + 48))
  let recs := padTo (roundUp body.length 512) body
  effChecks s
    [ (decide (1 ≤ limit ∧ limit ≤ 1048576) && decide (byteAt c.desc 44 ≤ 1) && (toCard || a % 4096 == 0), .badFieldValue),
      (!(!all.isEmpty && rs.isEmpty) && decide ((if toCard then 11 else 5235) ≤ room), .badLength),
      (s.ledger.opened, .ledgerUnavailable), (s.rngOk, .rngFailed) ]
    (match (if toCard then s.cardFail a 0 else none) with
     | some st => .fail s st
     | none =>
       if toCard && s.card.blocks < a + 11 + recs.length / 512 then .fail s .badFieldValue
       else
         let s := (s.generate s.mgmtDrbg 80).spend 80
         if !c.pass then .fail (s.releaseFail s.mgmtDrbg 0 false) .hwFault
         else if !toCard then
           let s := s.hostWrite 0 a (padTo 512 (segmentHeader 0 first last body.length) ++ recs ++ sigs)
           { s := s.overwrite m 32 (le 8 first ++ le 8 last) }
         else
           let head (f : Nat) : Bytes := padTo 512 (segmentHeader f first last body.length)
           let bs := head 1 :: chunks 512 recs ++ chunks 512 (padTo 5120 sigs) ++ [head 0]
           let at_ (k : Nat) : Nat := if k + 1 = bs.length then a else a + k
           let left := (List.range bs.length).map (fun k => (at_ k, bs.getD k []))
           let t : State := { s with card := { s.card with job := some { m := m, left := left, first := first, last := last } } }
           { s := t.cardBlock, st := none })

/-! ### The card port (R478-R481) -/

/-- A block that cannot be confirmed ends the export. -/
def State.uncertain (s : State) : State :=
  match s.card.job with
  | none => s
  | some j =>
    let s := (s.bump oCardUncertain).raise 17 oCardIrq 0
    State.finish j.m .cardWriteUncertain { s with card := { s.card with job := none, state := if s.card.state = 3 then 2 else s.card.state } }

/-- CARD_BUSY_END. -/
def State.cardBusyEnd (b : CardBusy) (s : State) : State :=
  match s.card.job with
  | none => s
  | some j =>
    if !s.ready then s
    else if b.present && !s.card.blink && b.answered && b.tran && b.errors == 0 then
      State.cardBlock { s with card := { s.card with job := some { j with left := j.left.drop 1 } } }
    else s.uncertain

/-- Ticks of a number of milliseconds, rounded up. -/
def State.msTicks (s : State) (ms : Nat) : Nat := (2000 * ms + s.tickHalves - 1) / s.tickHalves

/-- CARD_BUSY_TIMEOUT: 500 ms of busy. -/
def State.cardBusyTimeout (s : State) : State :=
  match s.card.job with
  | none => s
  | some j => if s.ready && decide (j.since + s.msTicks 500 ≤ s.tick.count) then s.uncertain else s

/-- CARD_DETECT: card-detect asserts, debounced, and the card is identified (R479). -/
def State.cardDetect (x : CardSeen) (s : State) : State :=
  if !s.ready || !s.cfg.enables.card || s.card.detect then s
  else
    let bad := !x.voltage || x.sdio
    let st := if bad then 4 else if x.ready then 2 else 1
    let up := st == 2
    let c : CardSt := { state := st, typ := if up then x.typ else 0, blocks := if up then x.blocks % 2 ^ 32 else 0, wide := up && x.wide,
                        fast := x.fast, wp := x.wpSwitch, csd := x.wpCsd, cid := if up then padTo 16 x.cid else zeros 16,
                        detect := true, since := s.tick.count }
    State.raise 17 oCardIrq 1 { s with card := c }

/-- CARD_REMOVAL: a deassertion of more than 1 ms ends the session. -/
def State.cardRemoval (us : Nat) (s : State) : State :=
  if !s.ready || !s.card.detect then s
  else if us ≤ 1000 then { s with card := { s.card with blink := true } }
  else
    let s := s.uncertain
    State.raise 17 oCardIrq 1 { s with card := {} }

/-- CARD_IDENTIFY_TIMEOUT: not ready within 1 s. -/
def State.identifyTimeout (s : State) : State :=
  if s.card.state = 1 ∧ s.card.since + s.msTicks 1000 ≤ s.tick.count then { s with card := { s.card with state := 4 } } else s

/-! ### Ceremonies (R368, R369) -/

/-- CEREMONY_BEGIN. -/
def effCeremonyBegin (m : MCmd) (s : State) : Eff :=
  let i := m.cmd.unit
  effChecks s
    [ (s.instLive i, .stateMismatch), (s.kum.ceremony.isNone, .busy), (rosterN (s.instOf i).d.roster != 0, .kumQuorumShort) ]
    { s := { s with kum := { s.kum with ceremony := some { inst := i, began := s.epoch } } } }

/-- The ceremony of the instance a command names; without one STATE_MISMATCH (log 25). -/
def withCeremony (m : MCmd) (s : State) (k : Ceremony → Eff) : Eff :=
  match s.kum.ceremony with
  | none => .fail s .stateMismatch
  | some c => if c.inst = m.cmd.unit then k c else .fail s .stateMismatch

/-- The checks of a component file (Table 13.7), with the statuses that R363 gives the same checks of a message (log 25). -/
def State.componentFail (s : State) (c : Ceremony) (b : Bytes) : Option Status :=
  let d := (s.instOf c.inst).d
  let k := leAt b 72 2
  let g : SigBlock := { ix := byteAt b 38, kind := byteAt b 39, rsv := [], pub := slice b 80 k, sig := slice b (80 + k) (leAt b 74 2), pad := [] }
  let len := byteAt b 37
  lowestFail
    [ (leAt b 0 4 == 0x434F4D50 && leAt b 4 2 == 1, .badFieldValue),
      (allZero (slice b 26 2) && allZero (slice b 76 4) && allZero (slice b (40 + len) (32 - len)), .reservedNonzero),
      (leAt b 6 2 == c.inst && leAt b 8 8 == Config.deviceSerial.toNat && leAt b 16 4 == d.inc, .kumWrongDevice),
      (d.counter != 2 ^ 48 - 1, .kumCounterExhausted), (leAt b 20 6 == d.counter + 1, .kumCounterStale),
      ((byteAt b 36 == algAes || byteAt b 36 == algTdes) && classAllowed (byteAt b 36) len 4, .badFieldValue),
      (hStore (leAt b 28 8) == 1 && (targetFail (leAt b 28 8) c.inst).isNone && s.indexOk (leAt b 28 8), .badFieldValue),
      (c.parts.isEmpty || (leAt b 28 8 == c.target && byteAt b 36 == c.alg && len == c.len && leAt b 20 6 == c.counter), .badFieldValue),
      (!c.parts.has (byteAt b 38), .badFieldValue),
      (let r := d.roster
       decide (g.ix < rosterN r) && g.kind == rosterKind r g.ix && sha3 32 g.pub == rosterHash r g.ix &&
         (if g.kind = 1 then g.pub.length == 97 && g.sig.length == 96 && Config.pkVerify algEc 2 optEcdsa384 g.pub (b.take (80 + k)) [] g.sig
          else g.pub.length == 1952 && g.sig.length == 3309 &&
            Config.pkVerify algDsa 2 optMlDsa g.pub (b.take (80 + k)) (ascii "LV5120-COMP") g.sig), .kumSignatureInvalid) ]

/-- CEREMONY_READ: the file at a card block; the component stays on chip, its check value goes back. -/
def effCeremonyRead (m : MCmd) (s : State) : Eff :=
  withCeremony m s (fun c =>
    let b := m.cmd.data
    let n := (80 + leAt b 72 2 + leAt b 74 2 + 511) / 512
    match s.cardFail (m.cmd.u 32 4) n with
    | some st => .fail s st
    | none =>
      if !m.cmd.pass then .fail s.readFails .cardReadFailed
      else
        let s := s.decisions 1
        match s.componentFail c b with
        | some st => .fail s st
        | none =>
          let x := slice b 40 (byteAt b 37)
          let parts := c.parts.set (byteAt b 38) x
          let c := { c with parts := parts, target := leAt b 28 8, alg := byteAt b 36, len := byteAt b 37, counter := leAt b 20 6 }
          let v := checkValue { mat := x, alg := c.alg, len := c.len }
          { s := State.overwrite m 40 (padTo 5 v ++ [BitVec.ofNat 8 parts.length]) { s with kum := { s.kum with ceremony := some c } } })

/-- The key that a ceremony forms (R369 step 3). -/
def Ceremony.key (c : Ceremony) : NewKey :=
  let x := c.parts.foldl (fun a e => xorB a e.2) (zeros c.len)
  let mat := if c.alg = algTdes then x.map oddParity else x
  { alg := c.alg, len := c.len, cls := 4, cap := 0, usage := [uWrap, uUnwrap, uCheckValue].foldl setBit 0,
    flags := setBit (setBit 0 fPersistent) fDualControl, uses := unlimited, mat := mat }

/-- The ceremony's commit on a state: the key in place of a dead record, or why not. -/
def State.ceremonyOut (c : Ceremony) (s : State) : OpOut :=
  let k := c.key
  if c.parts.length < rosterM (s.instOf c.inst).d.roster then .fail s .kumQuorumShort
  else if c.alg = algTdes ∧ c.len = 16 ∧ k.mat.take 8 = k.mat.drop 8 then .fail s .badFieldValue
  else if (s.instOf c.inst).d.counter + 1 != c.counter then .fail s .kumCounterStale
  else s.withPrior c.target (fun prior s =>
    match prior with
    | some r => if r.deleted then s.putPersistent c.target k prior else .fail s .badFieldValue
    | none => s.putPersistent c.target k none)

/-- CEREMONY_COMMIT: tried on the state as it is, then the claim check (R363 steps 8 and 9). -/
def effCeremonyCommit (m : MCmd) (s : State) : Eff :=
  withCeremony m s (fun c =>
    match s.ceremonyOut c with
    | .fail t st => .fail t st
    | .page t p slot => { s := t.askPageFor p slot (.paged m), st := none }
    | .done _ _ => if s.ledgerOk then { s := s.privileged (.command 0x8112 m), st := none } else .fail s .ledgerUnavailable)

/-- The claim check has passed: the required record, then the key, the counter and the versions. -/
def doneCeremony (m : MCmd) (s : State) : State :=
  match s.kum.ceremony with
  | none => s.finish m .stateMismatch
  | some c => match s.ceremonyOut c with
    | .fail t st => t.finish m st
    | .page t p slot => t.askPageFor p slot (.paged m)
    | .done t h =>
      if !s.ledgerOk then s.finish m .ledgerUnavailable
      else
        let k := c.key
        let v := padTo 5 (checkValue { mat := k.mat, alg := k.alg, len := k.len })
        let t := t.modInst c.inst (fun x => { x with d := { x.d with counter := c.counter } })
        let t := t.touchInst c.inst
        let ds := t.ks.journal.drop s.ks.journal.length ++ [Delta.inst c.inst (t.instOf c.inst).d]
        let t := { t with ks := { t.ks with journal := s.ks.journal }, kum := { t.kum with ceremony := none } }
        let t := (t.required 0x17 (le 2 c.inst ++ zeros 2 ++ le 4 (t.instOf c.inst).d.inc ++ le 8 h ++ v ++ zeros 3)).commitNow ds
        (t.overwrite m 40 (le 8 h ++ v)).finish m .ok

/-- CEREMONY_ABORT. -/
def effCeremonyAbort (m : MCmd) (s : State) : Eff :=
  withCeremony m s (fun _ => { s := { s with kum := { s.kum with ceremony := none } } })

/-- CEREMONY_TIMEOUT: KUM_CEREMONY_TIMEOUT epochs have passed. -/
def State.ceremonyTimeout (s : State) : State :=
  match s.kum.ceremony with
  | none => s
  | some c => if c.began + s.fld oKumCeremonyTimeout 11 0 ≤ s.epoch then { s with kum := { s.kum with ceremony := none } } else s

/-- IDENTITY_READ (R371, R374). -/
def effIdentityRead (m : MCmd) (s : State) : Eff :=
  let b := Config.certificates.flatMap (fun c => le 4 c.length ++ c)
  effChecks s [(m.cmd.u 32 8 % 4096 == 0, .badFieldValue), (decide (b.length ≤ m.cmd.u 40 4), .badLength)]
    { s := s.hostWrite 0 (m.cmd.u 32 8) b }

end Sys2Proof.Machine
end

