-- ==== Sys2Proof/Machine/Instances.lean ====
section
/-! DEFINITION. Instances (R377-R396): creation, limits, enabling, disabling, errors, reset, destruction, quiet, and mailboxes. -/

namespace Sys2Proof.Machine

/-! ### Quiet and state -/

/-- The instance is quiet (R386): nothing of it admitted, queued or in emission, no write waiting to be issued, not RESETTING. -/
def State.quiet (s : State) (i : Nat) : Bool :=
  (s.instOf i).d.st != .resetting && !s.disp.items.any (fun e => e.2.inst == i) && !s.pcie.outWait.any (fun e => e.1 == i)

/-- An instance's state changes: its version, its VF's interrupt, the instance table in the journal. -/
def State.moveInst (i : Nat) (f : InstDur → InstDur) (s : State) : State :=
  ((s.modInst i (fun x => { x with d := f x.d })).touchInst i).saveInst i

/-- Full credit buckets (R244): four ticks of credit. -/
def Inst.fill (x : Inst) : Inst :=
  { x with cipher := 4 * (x.d.lim.cipher : Int), field := 4 * (x.d.lim.field : Int), pk := 4 * (x.d.lim.pk : Int) }

/-- The VF's interrupt when QUIET changes (Table 14.12). -/
def State.vfState (i : Nat) (s : State) : State :=
  if i ≠ 0 ∧ s.hasFn i ∧ bit (s.reg (vfBase i + 0x100)) 0 then s.msix i (bits (s.reg (vfBase i + 0x100)) 10 8) else s

/-- QUIET has become 1: its interrupts, once. -/
def State.becameQuiet (i : Nat) (s : State) : State :=
  if (s.instOf i).quietWas then s
  else ((s.modInst i (fun x => { x with quietWas := true })).raise 4 (instReg oInstIrq i) 1).vfState i

/-- INSTANCE_QUIET: nothing of the instance is left; a drain ends (R383, R386). -/
def State.instQuiet (i : Nat) (s : State) : State :=
  if !s.works || !s.quiet i then s
  else (s.when ((s.instOf i).d.st == .quiescing) (State.moveInst i (fun d => { d with st := .disabled }))).becameQuiet i

/-! ### Records, quotas (R380-R382) -/

/-- Read an instance record. -/
def readInstRec (b : Bytes) : Except Status InstRec :=
  match chkInstRec (padTo 64 b) 0 with | .ok r => .ok r | .error e => .error e.1

/-- The record a command names: in host memory, or INSTANCE_DEFAULTS for address 0, which needs a last. -/
def State.recordOf (s : State) (m : MCmd) : Except Status InstRec :=
  let a := m.cmd.u 32 8
  if a ≠ 0 then
    match readInstRec m.cmd.data with
    | .error st => .error st
    | .ok r => if a % 8 ≠ 0 then .error .badAlignment else .ok r
  else if s.last.cur.isNone then .error .busy else .ok s.cfg.dflt

/-- The totals of R381 hold with instance `i` on record `r`. -/
def State.totalsOk (s : State) (i : Nat) (r : InstRec) : Bool :=
  let sum (f : InstRec → Nat) : Nat := f r + (s.inst.filter (fun e => e.1 != i && e.2.d.st != .free)).foldl (fun a e => a + f e.2.d.lim) 0
  decide (sum (fun l => l.sym) ≤ s.slotsOn true) && decide (sum (fun l => l.asym) ≤ s.slotsOn false) &&
    decide (sum (fun l => l.sessions) ≤ 1048576) && decide (sum (fun l => l.qps) ≤ 65536)

/-- Sessions of an instance that are not FREE. -/
def State.sessionsOf (s : State) (i : Nat) : Nat := (s.sessWhere (fun _ x => x.inst == i && x.st != .free)).length

/-- The record is not below the present use (R382). -/
def State.useFits (s : State) (i : Nat) (r : InstRec) : Bool :=
  decide (s.fixedKeys i ≤ r.sym ∧ s.resident i 2 ≤ r.asym ∧ s.flowsOf i ≤ r.flows ∧ s.sessionsOf i ≤ r.sessions ∧
    (s.queuesOf i).length ≤ r.qps)

/-- INSTANCE_CREATE. -/
def effInstCreate (m : MCmd) (s : State) : Eff :=
  let i := m.cmd.unit
  match s.recordOf m with
  | .error st => effChecks s [(i != 0, .badFieldValue), (!s.instLive i, .stateMismatch), (false, st)] (s.thenMirror m)
  | .ok r => effChecks s
      [(i != 0 && s.frondsOk r.fronds, .badFieldValue), (!s.instLive i, .stateMismatch), (s.instLive i || s.totalsOk i r, .quotaExceeded)]
      (s.thenMirror m)

/-- The instance exists: version 1 (R41, log 28), a new incarnation, empty roster, counter 0, no pages, full buckets, its DRBG (R380, R444). -/
def doneInstCreate (m : MCmd) (s : State) : State :=
  let i := m.cmd.unit
  match s.recordOf m with
  | .error st => s.finish m st
  | .ok r =>
    let s := s.modInst i (fun x => Inst.fill { d := { inc := x.d.inc, abandoned := x.d.abandoned, lim := r } })
    let s := s.moveInst i (fun d => { d with st := .created, inc := d.inc + 1 })
    ((s.when s.rngOk (State.instantiate (16 + i)))).finish m .ok

/-- INSTANCE_ENABLE. -/
def effInstEnable (m : MCmd) (s : State) : Eff :=
  let i := m.cmd.unit
  let d := (s.instOf i).d
  effChecks s
    [ (i != 0, .badFieldValue), (d.st == .created || d.st == .disabled, .stateMismatch), (s.quiet i && s.last.cur.isSome, .busy) ] (s.thenMirror m)

/-- The instance is ENABLED. -/
def doneInstEnable (m : MCmd) (s : State) : State := (s.moveInst m.cmd.unit (fun d => { d with st := .enabled })).finish m .ok

/-- INSTANCE_DISABLE. -/
def effInstDisable (m : MCmd) (s : State) : Eff :=
  let i := m.cmd.unit
  let d := (s.instOf i).d
  let abort := bit (byteAt m.cmd.desc 32) 0
  effChecks s [(i != 0, .badFieldValue), (d.st == .enabled || (abort && d.st == .quiescing), .stateMismatch)] (s.thenMirror m)

/-- Drain (R383): what is not yet admitted fails. Abort (R384): everything stops. -/
def doneInstDisable (m : MCmd) (s : State) : State :=
  let i := m.cmd.unit
  let abort := bit (byteAt m.cmd.desc 32) 0
  let s := s.moveInst i (fun d => { d with st := if abort then .disabled else .quiescing })
  let s := s.modInst i (fun x => { x with quietWas := false })
  (s.stopItems i abort (if abort then .instanceDisabled else .instanceQuiescing)).finish m .ok

/-- INSTANCE_SET_LIMITS. -/
def effInstLimits (m : MCmd) (s : State) : Eff :=
  let i := m.cmd.unit
  let here : List (Bool × Status) := [(s.instLive i, .stateMismatch), (m.cmd.u 32 8 % 8 == 0, .badAlignment)]
  match readInstRec m.cmd.data with
  | .error st => effChecks s (here ++ [(false, st)]) (s.thenMirror m)
  | .ok r => effChecks s
      (here ++ [ (s.frondsOk r.fronds, .badFieldValue), (!s.instLive i || s.totalsOk i r, .quotaExceeded), (s.useFits i r, .busy),
                 (!s.pinOutside i r.fronds, .placementPinConflict) ]) (s.thenMirror m)

/-- The record takes effect; buckets above their new limits are clipped. -/
def doneInstLimits (m : MCmd) (s : State) : State :=
  let i := m.cmd.unit
  match readInstRec m.cmd.data with
  | .error st => s.finish m st
  | .ok r =>
    let s := s.moveInst i (fun d => { d with lim := r })
    (s.modInst i (fun x => { x with cipher := min x.cipher (4 * (r.cipher : Int)), field := min x.field (4 * (r.field : Int)),
                                    pk := min x.pk (4 * (r.pk : Int)) })).finish m .ok

/-! ### Errors (R387, R388) -/

/-- The ledger record and the interrupt of an instance error. -/
def State.errorRecord (i cause : Nat) (s : State) : State :=
  (s.localRec 0x06 (le 2 i ++ [BitVec.ofNat 8 cause] ++ zeros 5)).raise 4 (instReg oInstIrq i) 0

/-- The queue pair becomes DRAINING, as QUEUE_DESTROY with ABORT would make it. -/
def State.drainQp (q : Nat) (s : State) : State :=
  { s with queues := s.queues.modify q (fun x => { x with active := false, abort := true }) }

/-- A fault of the tick that ends takes effect. -/
def State.applyError (i cause : Nat) (s : State) : State :=
  let s := s.modInst i (fun x => { x with erring := none })
  if i = 0 then
    let s := s.errorRecord 0 cause
    let s := s.modInst 0 (fun x => { x with d := { x.d with error := true, cause := cause } })
    let qs := (s.queues.filter (fun e => e.2.fn == 0 && e.2.faulted)).map Prod.fst
    (qs.foldl (fun s q => ((s.dropRequests q).drainQp q).reapQueue q) s).touchInst 0 |>.saveInst 0
  else
    let d := (s.instOf i).d
    if d.st == .enabled || d.st == .quiescing then
      let s := s.moveInst i (fun d => { d with st := .disabled, error := true, cause := cause })
      let s := s.modInst i (fun x => { x with quietWas := false })
      let s := (s.bump (instReg oInstErrors i)).errorRecord i cause
      s.stopItems i true .instanceDisabled
    else if d.st == .disabled then (s.modInst i (fun x => { x with d := { x.d with cause := cause } })).saveInst i
    else s

/-- Every fault of the tick takes effect at the tick boundary. -/
def State.applyErrors (s : State) : State :=
  let es := s.inst.filterMap (fun e => e.2.erring.map (fun c => (e.1, c)))
  let s := es.foldl (fun s e => s.applyError e.1 e.2) s
  if s.queues.any (fun e => e.2.faulted) then { s with queues := s.queues.mapT (fun _ q => { q with faulted := false }) } else s

/-! ### Reset and destruction (R389-R391) -/

/-- The mailbox slots of both directions are empty (R394). -/
def State.emptyMailbox (i : Nat) (s : State) : State :=
  let s := s.modInst i (fun x => { x with slots := [], pendIn := 0, busyOut := 0 })
  { s with pcie := { s.pcie with mbxWait := s.pcie.mbxWait.filter (fun e => e.1 != i), outWait := s.pcie.outWait.filter (fun e => e.1 != i) } }

/-- A resident key that expires at a reset is erased (R78): an ephemeral one goes, a persistent one is deleted in its record. -/
def State.expireKey (slot : Nat) (s : State) : State :=
  match s.key? slot with
  | none => s
  | some r =>
    let s := (s.touchKey slot).forgetUses slot
    if hEphemeral r.handle then s.evict slot
    else
      let s := s.modKey slot (fun r => { r with deleted := true, dirty := hStore r.handle == 1 })
      s.journal (.key slot (s.key? slot))

/-- Every key of a test that expires at a reset; keys in sealed pages are erased as the pages are next read or written. -/
def State.expireKeys (who : Nat → Bool) (s : State) : State :=
  let ks := (s.ks.keys.filter (fun e => who (hInst e.2.handle) && bit e.2.flags fExpires && !e.2.deleted)).map Prod.fst
  let s := ks.foldl (fun s k => s.expireKey k) s
  { s with ks := { s.ks with pages := s.ks.pages.mapT (fun p e =>
      if e.ver != 0 && who ((s.ownerOf p).getD 4096) then { e with purge := true } else e) } }

/-- Free the flows of an instance; pinned ones stay, empty, when `keep` is set. -/
def State.dropFlows (i : Nat) (keep : Bool) (s : State) : State :=
  let gone := s.disp.flows.filter (fun e => e.2.inst == i && !(keep && e.2.pinned))
  let s := gone.foldl (fun s e => s.touch 5 e.1) s
  { s with disp := { s.disp with flows := s.disp.flows.filterT (fun _ x => !(x.inst == i && !(keep && x.pinned))) },
           eng := { s.eng with ctxs := s.eng.ctxs.filterT (fun _ c => c.inst != i),
                               points := s.eng.points.filter (fun e => hInst e.2 != i) } }

/-- A ceremony of the instance ends. -/
def State.dropCeremony (i : Nat) (s : State) : State :=
  match s.kum.ceremony with
  | none => s
  | some c => if c.inst = i then { s with kum := { s.kum with ceremony := none } } else s

/-- Sessions of an instance in HANDSHAKE or OPEN. -/
def State.liveSessions (s : State) (i : Nat) : List Nat := s.sessWhere (fun _ x => x.inst == i && (x.st == .handshake || x.st == .opened))

/-- INSTANCE_RESET. -/
def effInstReset (m : MCmd) (s : State) : Eff :=
  let i := m.cmd.unit
  let d := (s.instOf i).d
  effChecks s
    [ (i != 0, .badFieldValue), (d.st == .created || d.st == .enabled || d.st == .quiescing || d.st == .disabled, .stateMismatch) ] (s.thenMirror m)

/-- The changes of Table 14.7. -/
def doneInstReset (m : MCmd) (s : State) : State :=
  let i := m.cmd.unit
  let s := s.moveInst i (fun d => { d with st := .resetting, error := false, cause := 0 })
  let s := s.stopItems i true .instanceReset
  let s := ((s.dropFlows i true).expireKeys (fun k => k == i)).dropCeremony i
  let s := (s.liveSessions i).foldl (fun s n => s.closeSess n .instanceReset false) s
  let s := (s.emptyMailbox i).modInst i (fun x => Inst.fill { x with quietWas := false, erring := none })
  let s := { s with disp := { s.disp with deficits := s.disp.deficits.filterT (fun k _ => k % 4096 != i) } }
  (s.dropDrbg (16 + i)).finish m .ok

/-- INSTANCE_RESET_DONE (R390): the erasures are in the journal. -/
def State.resetDone (i : Nat) (s : State) : State :=
  if !s.works || (s.instOf i).d.st != .resetting || !s.ks.journal.isEmpty then s
  else
    let s := s.moveInst i (fun d => { d with st := .disabled })
    (s.when s.rngOk (State.instantiate (16 + i))).when (s.quiet i) (State.becameQuiet i)

/-- Every key, session, flow and page assignment of an instance is gone. -/
def State.eraseInst (i : Nat) (s : State) : State :=
  let mine := s.ks.keys.filter (fun e => hInst e.2.handle == i)
  let s := mine.foldl (fun s e =>
    let s := s.touch 6 e.2.handle
    let s := if hEphemeral e.2.handle then s else s.journal (.key e.1 none)
    s.eraseKey e.1) s
  let s := { s with ks := { s.ks with gone := s.ks.gone.filterT (fun k _ => k / 2 ^ 32 != i) } }
  let s := (s.liveSessions i).foldl (fun s n => s.closeSess n .instanceDisabled false) s
  let s := (s.sessWhere (fun _ x => x.inst == i && x.st != .free)).foldl (fun s n => s.freeSess n) s
  let d := (s.instOf i).d
  let inRange (p : Nat) : Bool := decide (d.base ≤ p ∧ p < d.base + d.p)
  let s := { s with ks := { s.ks with remap := s.ks.remap.filterT (fun p _ => !inRange p) } }
  let s := ((s.dropFlows i false).emptyMailbox i).dropCeremony i
  let s := s.modInst i (fun x => { d := { version := x.d.version, inc := x.d.inc, abandoned := x.d.abandoned } })
  s.dropDrbg (16 + i)

/-- INSTANCE_DESTROY. -/
def effInstDestroy (m : MCmd) (s : State) : Eff :=
  let i := m.cmd.unit
  let d := (s.instOf i).d
  effChecks s
    [ (i != 0, .badFieldValue), (d.st == .created || d.st == .disabled, .stateMismatch), ((s.queuesOf i).isEmpty, .busy) ] (s.thenMirror m)

/-- The instance is FREE; its incarnation survives. -/
def doneInstDestroy (m : MCmd) (s : State) : State :=
  let i := m.cmd.unit
  let s := s.stopItems i true .instanceDisabled
  ((s.eraseInst i).moveInst i (fun d => { d with st := .free })).finish m .ok

/-! ### Mailboxes (R392-R394) -/

/-- Copy slot `k` to the manager's mailbox buffer. -/
def State.copySend (i k : Nat) (s : State) : State :=
  let s := s.hostWrite 0 (s.reg (instReg oInstMbxBase i) + 64 * k) (padTo 64 ((s.instOf i).slots.getD k []))
  s.raise 4 (instReg oInstIrq i) 2

/-- Copy a reply to the instance's receive buffer; a write that faults is an instance error (Table 14.6). -/
def State.copyPost (i k : Nat) (fault : Bool) (s : State) : State :=
  let b := padTo 64 ((s.instOf i).slots.getD (16 + k) [])
  if fault || !s.mayDma i then s.instFault i 2
  else
    let s := s.vfWrite i (s.reg (vfBase i + 0x1000) + 64 * k) b 3
    let q := s.reg (vfBase i + 0x100)
    if bit q 1 then s.msix i (bits q 10 8) else s

/-- Slots that a mask names. -/
def slotsOf (v : Nat) : List Nat := (List.range 16).filter (fun k => bit v k)

/-- How an instance's state answers mailbox use (Table 14.3, R394). -/
def State.mailboxFail (s : State) (i : Nat) : Option Status :=
  match (s.instOf i).d.st with
  | .free => some .badFieldValue
  | .resetting => some .busy
  | .moving => some .busy
  | _ => none

/-- A write of MBX_SEND: the status of its rejection, or the state. -/
def State.mbxSend (i v : Nat) (s : State) : Except Status State :=
  let x := s.instOf i
  match firstFail [((s.instOf i).d.st != .free, .badFieldValue), (x.pendIn &&& v == 0, .queueFull), ((s.mailboxFail i).isNone, .busy)] with
  | some st => .error st
  | none =>
    let s := s.modInst i (fun x => { x with pendIn := x.pendIn ||| v })
    .ok (if s.mayDma 0 then (slotsOf v).foldl (fun s k => s.copySend i k) s
      else { s with pcie := { s.pcie with mbxWait := s.pcie.mbxWait ++ (slotsOf v).map (fun k => (i, k)) } })

/-- A write of INST_MBX_IN: slots acknowledged. -/
def State.mbxAck (i v : Nat) (s : State) : State := s.modInst i (fun x => { x with pendIn := x.pendIn - (x.pendIn &&& v) })

/-- A post of INST_MBX_OUT: `msgs` is what the device reads of the manager's buffer from byte 1,024 on. -/
def State.mbxPost (i v : Nat) (msgs : Bytes) (fault : Bool) (s : State) : Except Status State :=
  let x := s.instOf i
  match firstFail
      [ (v == 0 || (x.d.st != .free && i != 0 && s.hasFn i && s.reg (vfBase i + 0x1000) != 0), .badFieldValue),
        (x.busyOut &&& v == 0, .queueFull), (v == 0 || (s.mailboxFail i).isNone, .busy) ] with
  | some st => .error st
  | none =>
    let s := s.modInst i (fun x => { x with
      busyOut := x.busyOut ||| v
      slots := (slotsOf v).foldl (fun t k => t.set (16 + k) (padTo 64 (slice msgs (64 * k) 64))) x.slots })
    .ok (if s.mayDma 0 then (slotsOf v).foldl (fun s k => s.copyPost i k fault) s
      else { s with pcie := { s.pcie with outWait := s.pcie.outWait ++ (slotsOf v).map (fun k => (i, k)) } })

/-- A write of MBX_RX: slots released. -/
def State.mbxRelease (i v : Nat) (s : State) : State := s.modInst i (fun x => { x with busyOut := x.busyOut - (x.busyOut &&& v) })

/-! ### Bus Master Enable (R316) -/

/-- BUS_MASTER_ENABLE: the function may master the bus again, and what waited for it goes out. -/
def State.busMaster (fn : Nat) (on : Bool) (s : State) : State :=
  if !s.dev.regsUp || !s.hasFn fn then s
  else if !on then
    { s with pcie := { s.pcie with bmeOff := if s.pcie.bmeOff.contains fn then s.pcie.bmeOff else s.pcie.bmeOff ++ [fn] } }
  else
    let p := s.pcie
    let s := { s with pcie := { p with bmeOff := p.bmeOff.filter (fun f => f != fn) } }
    if !s.mayDma fn then s
    else
      let pend := p.msixPend.filter (fun e => e.1 == fn && !bit (s.reg (msixControl e.1 e.2)) 32)
      let s := { s with pcie := { s.pcie with msixPend := p.msixPend.filter (fun e => !pend.contains e) } }
      let s := pend.foldl (fun s e => s.msix e.1 e.2) s
      if fn ≠ 0 then s
      else
        let s := { s with pcie := { s.pcie with mbxWait := [], outWait := [] } }
        let s := p.mbxWait.foldl (fun s e => s.copySend e.1 e.2) s
        let s := p.outWait.foldl (fun s e => s.copyPost e.1 e.2 false) s
        if !bit (s.reg oKpgControl) 0 then s
        else s.ks.fetches.foldl (fun s e => (s.bump64 oKpgFetches 1).emit (.pageRead e.1)) s

end Sys2Proof.Machine
end

