-- ==== Sys2Proof/Machine/Moves.lean ====
section
/-! DEFINITION. Moves of instances between devices (R397-R402): blobs, the checks on them, and the move commands. The bodies of the blobs
are not architectural; their layout here is the model's (DESIGN CHOICE, log 26). -/

namespace Sys2Proof.Machine

/-! ### Blobs (R397, R398) -/

/-- The header of a blob (Table 14.8). -/
def blobHeader (kind id src dst i total : Nat) : Bytes :=
  le 4 0x4D4F5645 ++ [BitVec.ofNat 8 kind] ++ zeros 3 ++ le 8 id ++ le 8 src ++ le 8 dst ++ le 2 i ++ zeros 6 ++ le 8 total ++ zeros 16

/-- The blob is of a kind and whole. -/
def blobOk (kind : Nat) (b : Bytes) : Bool :=
  leAt b 0 4 == 0x4D4F5645 && byteAt b 4 == kind && allZero (slice b 5 3) && allZero (slice b 34 6) && allZero (slice b 48 16) &&
    leAt b 40 8 == b.length

/-- Move ID, serials and instance of a blob. -/
def blobId (b : Bytes) : Nat := leAt b 8 8
/-- Source serial. -/
def blobSrc (b : Bytes) : Nat := leAt b 16 8
/-- Destination serial. -/
def blobDst (b : Bytes) : Nat := leAt b 24 8
/-- Instance. -/
def blobInst (b : Bytes) : Nat := leAt b 32 2

/-- This device's serial number. -/
def mySerial : Nat := Config.deviceSerial.toNat

/-- The identity keys as a blob carries them. -/
def identityKeys : Bytes := identityEcPub ++ identityDsaPub

/-- The claims of a statement: how many, and the map's bytes. -/
def statementClaims (b : Bytes) : Option (Nat × Bytes) := do
  let (_, _, b) ← cborTake b
  let (_, p, _, _) ← readSign1 b
  let (m, n, map) ← cborTake (← p)
  if m = 5 then some (n, map) else none

/-- An unsigned claim. -/
def cborNatClaim (key : Nat) : Nat → Bytes → Option Nat
  | 0, _ => none
  | c + 1, b =>
    match cborTake b with
    | some (0, k, r) =>
      if k = key then (match cborTake r with | some (0, v, _) => some v | _ => none)
      else match cborSkip (r.length + 1) 1 r with
        | none => none
        | some r => cborNatClaim key c r
    | _ => none

/-- A membership record verifies under this device's domain authority and names a device and identity (R398). -/
def State.memberOk (s : State) (rec_ : Bytes) (serial : Nat) (ident : Bytes) : Bool :=
  match s.drec.domain with
  | none => false
  | some a => rec_.length == 4763 && leAt rec_ 0 8 == serial && slice rec_ 8 32 == ident &&
      doubleSigned a.p384 a.mldsa (ascii "LV5120-DOMAIN") (rec_.take 40) (slice rec_ 40 96) (slice rec_ 136 4627)

/-- The checks of R399 on the other device: its record, its statement under the identity in the record, domain and life-cycle claims. -/
def State.peerOk (s : State) (rec_ keys statement nonce : Bytes) (serial : Nat) : Bool :=
  let c := statementClaims statement
  let domain := match c with | none => none | some (n, map) => cborClaim 12 n map
  let life := match c with | none => none | some (n, map) => cborNatClaim 4 n map
  s.memberOk rec_ serial (sha3 32 keys) && statementOk (keys.take 97) 3 (keys.drop 97) nonce statement &&
    domain == (s.drec.domain.map Authority.ident) && life == some s.prot.life && serial != mySerial

/-- A blob whose body is this device's identity keys and a statement over everything before it, drawn at the counter. -/
def State.signedBlob (s : State) (kind id src dst i : Nat) (body : Bytes) : Bytes :=
  let n := 64 + body.length + identityKeys.length + (s.statement true 0 (zeros 48) s.free).length
  let b := blobHeader kind id src dst i n ++ body ++ identityKeys
  b ++ s.statement true 0 (sha384 b) s.free

/-- The draw of a statement is spent. -/
def State.drewStatement (n : Nat) (s : State) : State := (s.generate s.mgmtDrbg n).spend n

/-- An acknowledgement or abandonment of the move, signed by the identity recorded for the other device (R401). -/
def endBlobOk (kind : Nat) (d : InstDur) (i : Nat) (b : Bytes) : Bool :=
  let keys := slice b 64 2689
  blobOk kind b && blobId b == d.moveId && blobInst b == i && blobSrc b == mySerial && blobDst b == d.movePeer &&
    sha3 32 keys == d.movePeerId && statementOk (keys.take 97) 3 (keys.drop 97) (sha384 (b.take 2753)) (b.drop 2753)

/-! ### The offer (R398) -/

/-- The body of an offer: the record, the ephemeral public keys. -/
def State.offerBlob (s : State) (id src i : Nat) (ec kem : Bytes) : Bytes :=
  s.signedBlob 1 id src mySerial i (s.drec.member ++ Config.pkPublic algEc 2 ec ++ Config.pkPublic algKem 3 kem)

/-- MOVE_PREPARE: 8 bytes of move ID, 48 and 64 bytes of ephemeral keys and the statement are drawn. -/
def effMovePrepare (m : MCmd) (s : State) : Eff :=
  let i := m.cmd.unit
  let b := m.cmd.u 40 4
  let p := m.cmd.u 44 4
  let here : List (Bool × Status) :=
    [ (i != 0 && decide (b + p ≤ 4194304), .badFieldValue), (!s.instLive i, .stateMismatch), (m.cmd.u 56 8 % 4096 == 0, .badAlignment),
      (s.memberOk s.drec.member mySerial identityHash, .moveNotPermitted), (s.rngOk, .rngFailed) ]
  match s.recordOf m with
  | .error st => effChecks s (here ++ [(false, st)]) (s.thenMirror m)
  | .ok r => effChecks s
      (here ++ [ (s.frondsOk r.fronds, .badFieldValue), (s.instLive i || (s.totalsOk i r && s.pagesFree i b (b + p)), .quotaExceeded) ])
      (s.thenMirror m)

/-- The number is MOVING, its pages are reserved, the offer is written. -/
def doneMovePrepare (m : MCmd) (s : State) : State :=
  let i := m.cmd.unit
  match s.recordOf m with
  | .error st => s.finish m st
  | .ok r =>
    let id := ofLe (s.drawn 8)
    let ec := Config.pkGenerate algEc 2 (freeBytes (s.free + 8) 48)
    let kem := Config.pkGenerate algKem 3 (freeBytes (s.free + 56) 64)
    let s := s.drewStatement 120
    let src := m.cmd.u 48 8
    let offer := s.offerBlob id src i ec kem
    let s := s.drewStatement 80
    let s := s.modInst i (fun x => Inst.fill { d := { inc := x.d.inc, abandoned := x.d.abandoned, lim := r } })
    let s := s.moveInst i (fun d => { d with st := .moving, base := m.cmd.u 40 4, p := m.cmd.u 44 4, moveId := id, moveEc := ec, moveKem := kem,
                                             movePeer := src, offer := offer })
    (s.hostWrite 0 (m.cmd.u 56 8) offer).finish m .ok

/-! ### The package (R399, R400) -/

/-- A key record as a package carries it. -/
def KeyRec.packed (r : KeyRec) : Bytes :=
  le 8 r.handle ++ le 4 r.uses ++ le 4 r.usage ++ [BitVec.ofNat 8 r.alg, BitVec.ofNat 8 r.len, BitVec.ofNat 8 r.cls, BitVec.ofNat 8 r.cap] ++
    le 4 r.flags ++ [BitVec.ofNat 8 (b2n r.deleted)] ++ le 2 r.mat.length ++ r.mat

/-- Read `n` packed records. -/
def unpackKeys : Nat → Bytes → List KeyRec
  | 0, _ => []
  | n + 1, b =>
    let k := leAt b 25 2
    { handle := leAt b 0 8, uses := leAt b 8 4, usage := leAt b 12 4, alg := byteAt b 16, len := byteAt b 17, cls := byteAt b 18,
      cap := byteAt b 19, flags := leAt b 20 4, deleted := byteAt b 24 == 1, mat := slice b 27 k } :: unpackKeys n (b.drop (27 + k))

/-- Logical pages of an instance that hold anything. -/
def State.fullPages (s : State) (i : Nat) : List Nat :=
  (List.range (s.instOf i).d.k).filter (fun j => (s.page (s.pageOf i j)).ver != 0)

/-- The records of the instance's pages, as the device reads them: the pages' bytes in order. None: a page is STALE or does not verify. -/
def State.pageRecords (s : State) (i : Nat) : List Nat → Bytes → Option (List KeyRec)
  | [], _ => some []
  | j :: js, b =>
    let p := s.pageOf i j
    match (if (s.page p).stale && !(s.page p).retry then none else s.openPage p i (b.take 4096)), State.pageRecords s i js (b.drop 4096) with
    | some rs, some rest =>
      some ((List.range 63).filterMap (fun k =>
        let slot := hSlot (mkHandle i 1 (63 * j + k) 0)
        if (s.key? slot).isSome then none else (readRecord (slice rs (64 * k) 64)).map (s.purged slot)) ++ rest)
    | _, _ => none

/-- The instance state that a package carries. -/
def State.instPlain (s : State) (i : Nat) (pages : List KeyRec) : Bytes :=
  let d := (s.instOf i).d
  let ks := ((s.ks.keys.filter (fun e => hInst e.2.handle == i && !hEphemeral e.2.handle)).map Prod.snd) ++ pages
  le 4 d.inc ++ le 4 d.p ++ le 4 d.k ++ le 6 d.counter ++ le 2 d.roster.length ++ d.roster ++ le 4 ks.length ++ ks.flatMap KeyRec.packed

/-- The chunk key. -/
def moveKey (z : Bytes) (id : Nat) : Bytes := kdf56 sha384 48 z (ascii "LV5120 MOVE" ++ le 8 id) 32

/-- Seal the chunks. -/
def sealChunks (key : Bytes) (b : Bytes) : Bytes :=
  let cs := chunks 65536 b
  (List.range cs.length).flatMap (fun n => gcmSeal key (be 12 n) [] (cs.getD n []) 16)

/-- Open the chunks. -/
def openChunks (key : Bytes) (b : Bytes) : Option Bytes :=
  let cs := chunks 65552 b
  ((List.range cs.length).mapM (fun n => gcmOpen key (be 12 n) [] (cs.getD n []) 16)).map List.flatten

/-- The package for an offer: the record, the ECDH key, the ciphertext, the identity keys, the statement, the sealed state. Drawn: 48 and 32
bytes, then the statement's. None: the offer's key is no point of the curve. -/
def State.package (s : State) (i : Nat) (offer : Bytes) (pages : List KeyRec) : Option Bytes :=
  let ec := Config.pkGenerate algEc 2 (freeBytes s.free 48)
  let (ct, z2) := Config.kemEncaps 3 (slice offer 4924 1568) (freeBytes (s.free + 48) 32)
  match Config.ecdh algEc 2 ec (slice offer 4827 97) with
  | none => none
  | some z1 =>
    let body := s.drec.member ++ Config.pkPublic algEc 2 ec ++ ct ++ identityKeys
    let c := sealChunks (moveKey (z1 ++ z2) (blobId offer)) (s.instPlain i pages)
    let n := (s.statement true 0 (zeros 48) (s.free + 80)).length
    let b := blobHeader 2 (blobId offer) mySerial (blobDst offer) i (64 + body.length + 4 + n + c.length) ++ body
    let st := s.statement true 0 (sha384 (offer ++ b)) (s.free + 80)
    some (b ++ le 4 st.length ++ st ++ c)

/-- The offer is one that this source accepts (R399). -/
def State.offerOk (s : State) (i : Nat) (b : Bytes) : Bool :=
  blobOk 1 b && blobInst b == i && blobSrc b == mySerial && s.memberOk s.drec.member mySerial identityHash &&
    s.peerOk (slice b 64 4763) (slice b 6492 2689) (b.drop 9181) (sha384 (b.take 9181)) (blobDst b)

/-- What MOVE_OUT comes to: the package, or its status. -/
def State.moveOut (m : MCmd) (s : State) : Except Status Bytes :=
  let i := m.cmd.unit
  let d := (s.instOf i).d
  let offer := m.cmd.data.take (m.cmd.u 40 4)
  let early := lowestFail
    [ (i != 0, .badFieldValue), (d.st == .disabled && s.quiet i, .stateMismatch),
      (m.cmd.u 32 8 % 8 == 0 && m.cmd.u 48 8 % 4096 == 0, .badAlignment), (s.offerOk i offer, .moveNotPermitted), (s.rngOk, .rngFailed),
      (d.st != .disabled || (s.fullPages i).isEmpty || (bit (s.reg oKpgControl) 0 && s.mayDma 0), .keyPageFetchFailed) ]
  match early with
  | some st => .error st
  | none => match s.pageRecords i (s.fullPages i) m.cmd.data2 with
    | none => .error .keyPageStale
    | some ks => match s.package i offer ks with
      | none => .error .moveNotPermitted
      | some b => .ok b

/-- A privileged move command: tried, then its claim check and a required record (R401, R466). -/
def State.privMove (m : MCmd) (s : State) : Eff :=
  if s.ledgerOk then { s := s.privileged (.command m.cmd.code m), st := none } else .fail s .ledgerUnavailable

/-- MOVE_OUT. A short buffer is told the length that the package needs. -/
def effMoveOut (m : MCmd) (s : State) : Eff :=
  match s.moveOut m with
  | .error st => .fail s st
  | .ok b => if m.cmd.u 56 8 < b.length then .fail (s.overwrite m 56 (le 8 b.length)) .badLength else s.privMove m

/-- The MOVE record (Table 17.4), and the instance in the journal's active copy. -/
def State.moveRecord (i step id : Nat) (s : State) : State :=
  let s := s.required 0x18 (le 2 i ++ [BitVec.ofNat 8 step] ++ zeros 5 ++ le 8 id)
  s.commitNow [.inst i (s.instOf i).d]

/-- The source is MOVING; the package is written. -/
def doneMoveOut (m : MCmd) (s : State) : State :=
  let i := m.cmd.unit
  match s.moveOut m with
  | .error st => s.finish m st
  | .ok b =>
    let offer := m.cmd.data
    let s := s.drewStatement 160
    let s := s.moveInst i (fun d => { d with st := .moving, moveId := blobId offer, moveSource := true, movePeer := blobDst offer,
                                             movePeerId := sha3 32 (slice offer 6492 2689) })
    ((((s.moveRecord i 1 (blobId offer)).hostWrite 0 (m.cmd.u 48 8) b).overwrite m 56 (le 8 b.length))).finish m .ok

/-! ### MOVE_IN (R399-R401) -/

/-- The plain instance state of a package, opened with the offer's private keys. -/
def State.openPackage (s : State) (i : Nat) (b : Bytes) : Except Status Bytes :=
  let d := (s.instOf i).d
  let n := leAt b 9181 4
  let st := slice b 9185 n
  if !(blobOk 2 b && blobInst b == i && blobDst b == mySerial && blobSrc b == d.movePeer &&
      s.peerOk (slice b 64 4763) (slice b 6492 2689) st (sha384 (d.offer ++ b.take 9181)) d.movePeer) then .error .moveNotPermitted
  else match Config.ecdh algEc 2 d.moveEc (slice b 4827 97) with
    | none => .error .moveNotPermitted
    | some z1 =>
      let z2 := Config.kemDecaps 3 d.moveKem (slice b 4924 1568)
      match openChunks (moveKey (z1 ++ z2) d.moveId) (b.drop (9185 + n)) with
      | none => .error .tagMismatch
      | some x => .ok x

/-- What a package says of the instance. -/
structure Arrival where
  inc : Nat
  p : Nat
  k : Nat
  counter : Nat
  roster : Bytes
  keys : List KeyRec

/-- Read it. -/
def readArrival (b : Bytes) : Arrival :=
  let n := leAt b 18 2
  { inc := leAt b 0 4, p := leAt b 4 4, k := leAt b 8 4, counter := leAt b 12 6, roster := slice b 20 n,
    keys := unpackKeys (leAt b (20 + n) 4) (b.drop (24 + n)) }

/-- What MOVE_IN comes to. -/
def State.moveIn (m : MCmd) (s : State) : Except Status Arrival :=
  let i := m.cmd.unit
  let d := (s.instOf i).d
  let b := m.cmd.data.take (m.cmd.u 40 8)
  let early := lowestFail
    [ (i != 0, .badFieldValue), (!d.abandoned.contains (blobId b), .moveAbandoned), (d.st == .moving && !d.moveSource, .stateMismatch),
      (m.cmd.u 32 8 % 8 == 0 && m.cmd.u 48 8 % 4096 == 0, .badAlignment), (d.st != .moving || blobId b == d.moveId, .moveAbandoned), (s.rngOk, .rngFailed) ]
  match early with
  | some st => .error st
  | none => match s.openPackage i b with
    | .error st => .error st
    | .ok x =>
      let a := readArrival x
      let live (f : KeyRec → Bool) : Nat := (a.keys.filter (fun r => !r.deleted && f r)).length
      match lowestFail
          [ (a.p == d.p, .badFieldValue),
            (decide (live (fun r => hStore r.handle == 2) ≤ d.lim.asym ∧
              live (fun r => hStore r.handle == 1 && bit r.flags fPinned) ≤ d.lim.sym), .quotaExceeded) ] with
      | some st => .error st
      | none => .ok a

/-- The acknowledgement is written. -/
def State.acknowledge (m : MCmd) (s : State) : State :=
  let i := m.cmd.unit
  let d := (s.instOf i).d
  let b := s.signedBlob 3 d.moveId d.movePeer mySerial i []
  (s.drewStatement 80).hostWrite 0 (m.cmd.u 48 8) b

/-- MOVE_IN; the same package again has the acknowledgement written again. -/
def effMoveIn (m : MCmd) (s : State) : Eff :=
  let d := (s.instOf m.cmd.unit).d
  if d.st = .disabled ∧ d.arrived ≠ [] ∧ d.arrived = sha384 (m.cmd.data.take (m.cmd.u 40 8)) then { s := s.acknowledge m }
  else match s.moveIn m with
    | .error st => .fail s st
    | .ok _ => s.privMove m

/-- A carried key with its durable figure set afresh (R74). -/
def KeyRec.arrive (r : KeyRec) : KeyRec :=
  if r.uses = unlimited then r
  else let v := reservation r.cap r.uses; { r with durable := some (r.uses - v), resv := v }

/-- Logical page `j` of the arriving instance is written as version 1. -/
def State.arrivePage (i : Nat) (keys : List KeyRec) (j : Nat) (s : State) : State :=
  let p := (s.instOf i).d.base + j
  let records := (List.range 63).flatMap (fun k =>
    match keys.find? (fun r => hStore r.handle == 1 && hIndex r.handle == 63 * j + k) with
    | none => zeros 64
    | some r => r.sealedBytes)
  let s := s.modPage p (fun _ => { ver := 1 })
  (s.hostWrite 0 (s.reg oKpgBackingBase + 4096 * p) (s.sealPage p i 1 records)).journal (.page p (s.page p))

/-- The instance has arrived. -/
def doneMoveIn (m : MCmd) (s : State) : State :=
  let i := m.cmd.unit
  match s.moveIn m with
  | .error st => s.finish m st
  | .ok a =>
    let hash := sha384 (m.cmd.data.take (m.cmd.u 40 8))
    let s := s.moveInst i (fun d => { d with st := .disabled, inc := max d.inc a.inc + 1, counter := a.counter, roster := a.roster, k := a.k,
                                             arrived := hash })
    let keys := a.keys.map KeyRec.arrive
    let s := keys.foldl (fun s r =>
      let s := s.journal (.key (hSlot r.handle) (some r))
      if hStore r.handle == 2 || (bit r.flags fPinned && !r.deleted)
      then ((s.setKey (hSlot r.handle) { r with bank := s.pickBank (hStore r.handle == 1) }).spend 8).touch 6 r.handle else s) s
    let s := (List.range a.k).foldl (fun s j => s.arrivePage i keys j) s
    let s := s.when s.rngOk (State.instantiate (16 + i))
    ((s.moveRecord i 2 (s.instOf i).d.moveId).acknowledge m).finish m .ok

/-! ### The other ends of a move (R401) -/

/-- A blob that ends the move at the source. -/
def endMove (kind : Nat) (m : MCmd) (s : State) : Eff :=
  let i := m.cmd.unit
  let d := (s.instOf i).d
  effChecks s
    [ (i != 0, .badFieldValue), (d.st == .moving && d.moveSource, .stateMismatch), (m.cmd.u 32 8 % 8 == 0, .badAlignment),
      (d.st != .moving || endBlobOk kind d i (m.cmd.data.take (m.cmd.u 40 4)), .moveAbandoned) ] (s.privMove m)

/-- MOVE_FINISH. -/
def effMoveFinish (m : MCmd) (s : State) : Eff := endMove 3 m s

/-- The source's copy is erased. -/
def doneMoveFinish (m : MCmd) (s : State) : State :=
  let i := m.cmd.unit
  let id := (s.instOf i).d.moveId
  (((s.eraseInst i).moveInst i (fun d => { d with st := .free })).moveRecord i 3 id).finish m .ok

/-- MOVE_CANCEL. -/
def effMoveCancel (m : MCmd) (s : State) : Eff := endMove 4 m s

/-- The source is DISABLED again. -/
def doneMoveCancel (m : MCmd) (s : State) : State :=
  let i := m.cmd.unit
  let id := (s.instOf i).d.moveId
  ((s.moveInst i (fun d => { d with st := .disabled, moveSource := false, moveId := 0 })).moveRecord i 4 id).finish m .ok

/-- MOVE_ABANDON: before MOVE_IN has committed. -/
def effMoveAbandon (m : MCmd) (s : State) : Eff :=
  let i := m.cmd.unit
  let d := (s.instOf i).d
  effChecks s
    [ (i != 0, .badFieldValue), (d.st == .moving && !d.moveSource, .stateMismatch), (m.cmd.u 32 8 % 4096 == 0, .badAlignment),
      (s.rngOk, .rngFailed) ] (s.privMove m)

/-- The abandonment is written; the number is FREE and its range released. -/
def doneMoveAbandon (m : MCmd) (s : State) : State :=
  let i := m.cmd.unit
  let d := (s.instOf i).d
  let b := s.signedBlob 4 d.moveId d.movePeer mySerial i []
  let s := (s.drewStatement 80).hostWrite 0 (m.cmd.u 32 8) b
  let s := (s.eraseInst i).moveInst i (fun x => { x with st := .free, abandoned := d.moveId :: x.abandoned })
  (s.moveRecord i 5 d.moveId).finish m .ok

/-- MOVE_MEMBERSHIP (R398). -/
def effMembership (m : MCmd) (s : State) : Eff :=
  let r := m.cmd.data.take 4763
  effChecks s [(m.cmd.u 32 8 % 8 == 0, .badAlignment), (s.memberOk r mySerial identityHash, .moveNotPermitted)]
    { s := State.saveDev { s with drec := { s.drec with member := r } } }

end Sys2Proof.Machine
end

