-- ==== Sys2Proof/Machine/Twin.lean ====
section
/-! DEFINITION. The twin (R406-R425): pairing, heartbeats, fencing, promotion and demotion, claim checks, mirrored changes, the return of
the primary, and the twin commands. -/

namespace Sys2Proof.Machine

/-! ### State -/

/-- The TWIN section in force. -/
def State.twinSec (s : State) : TwinSec := s.cfg.twin.getD {}

/-- The highest claim this device knows. -/
def State.topClaim (s : State) : Nat := max s.drec.claim s.twin.partnerClaim

/-- A claim of the partner's has been learnt; an ACTIVE device leaves ACTIVE at the next tick boundary for a higher one (R418). -/
def State.learnClaim (c : Nat) (s : State) : State :=
  { s with twin := { s.twin with partnerClaim := max s.twin.partnerClaim c, leaving := s.twin.leaving || (s.twin.active && decide (s.drec.claim < c)) } }

/-- The pair status changes. -/
def State.setPair (p : Nat) (s : State) : State :=
  if s.twin.pair = p then s
  else
    let s := { s with twin := { s.twin with
      pair := p, lastChange := s.tick.count, pairedSince := if p = 2 then some s.tick.count else none,
      fenced := s.twin.fenced && p == 0, resyncDone := false } }
    s.when (p == 2) (fun s => s.raise 13 oTwinIrq 2)

/-- A change of ACTIVE or FENCED: its tick, its interrupt, the device's version. -/
def State.twinChange (s : State) : State :=
  (State.raise 13 oTwinIrq 0 { s with twin := { s.twin with lastChange := s.tick.count } }).touchDev

/-! ### Promotion and demotion (R413, R416, R418, R419) -/

/-- The claim taken over a known claim (R413). -/
def State.nextClaim (s : State) (k : Nat) : Nat := 2 * (k / 2 + 1) + b2n (s.twinSec.role == 2)

/-- One promotion attempt over claim `k` (R416). -/
def State.tryPromote (k how : Nat) (m : Option MCmd) (s : State) : State :=
  if s.casPossible then s.issueCas k (s.nextClaim k) false (.promote (s.nextClaim k) how m)
  else
    let s := { s with twin := { s.twin with promoteFailed := true } }
    match m with | none => s | some m => s.finish m .claimUnreachable

/-- A session of a device that has promoted (R419): a new phase, the peer's phase with every sequence accepted, no credit. -/
def Sess.promoted (x : Sess) (phase : Nat) : Sess :=
  { x with txPhase := phase, txSeq := 0, txData := 0, limit := 0, rxHigh := maxSeq + 1, rxSeen := [], rxData := 0, rxSent := 0, granted := 0,
           grantSent := 0, held := 0 }

/-- The promotion's CAS has returned its compare value: the device is ACTIVE and admits from the next tick. -/
def State.promoted (c : Nat) (m : Option MCmd) (s : State) : State :=
  let s := { s with
    drec := { s.drec with claim := c }
    twin := { s.twin with active := true, promoteFailed := false, fenced := false, fenceAt := none, leaving := false, returning := none,
                          paused := none, startTried := true, admitFrom := s.tick.count + 1 }
    ks := { s.ks with keys := s.ks.keys.mapT (fun _ r => match r.durable with
      | none => r
      | some d => if r.counted then { r with uses := d, holds := 0 } else r) } }
  let s := (s.saveDev.commitNow [.dev s.drec]).bumpF oTwinTransitions 31 0 1
  let s := s.twinChange
  let ns := s.sessWhere (fun _ x => x.st == .opened)
  let s := ns.foldl (fun s n => (s.modSess n (fun x => x.promoted s.phase)).sendCredit n) s
  let s := (s.ks.keys.filter (fun e => hasFigure e.2 && decide (e.2.uses ≤ e.2.durable.getD 0))).foldl (fun s e => s.setFigure e.1) s
  match m with | none => s | some m => s.finish m .ok

/-- What R418 stops: changes that wait for an acknowledgement or a claim check fail, and items stop with a status. -/
def State.stopWork (st : Status) (s : State) : State :=
  let acks := s.twin.acks.map Prod.snd
  let keep (o : CasOp) : Bool := match o.purpose with | .promote _ _ _ => true | .takeRead _ => true | _ => false
  let checks := (s.twin.cas.filter (fun e => !keep e.2)).map (fun e => e.2.purpose)
  let s := { s with twin := { s.twin with acks := [], queued := [], cas := s.twin.cas.filterT (fun _ o => keep o) } }
  let s := acks.foldl (fun s p => s.pass p (some .mirrorUnavailable)) s
  let s := checks.foldl (fun s p => s.claimFailed p .claimSuperseded) s
  ((s.disp.items.map (fun e => e.2.inst)).eraseDups).foldl (fun s i => s.stopItems i true st) s

/-- The device leaves ACTIVE (R418); a halted one with TAMPER_HALT (R429). -/
def State.leaveActive (st : Status) (s : State) : State :=
  let s := { s with twin := { s.twin with active := false, leaving := false, paused := none } }.stopWork st
  (s.bumpHi oTwinTransitions).twinChange

/-- A device that must leave ACTIVE does so at a tick boundary; in a return of the primary, when its last admitted item has ended (R422). -/
def State.leaveDue (s : State) : State :=
  if s.twin.leaving && s.twin.active && (s.twin.paused.isNone || !s.disp.items.any (fun e => e.2.admitted)) then s.leaveActive .notActive else s

/-! ### The link and heartbeats (R408, R409, R417) -/

/-- WELT_LINK_UP: the partner is accepted or ignored. -/
def State.weltUp (w : WeltUp) (s : State) : State :=
  if !s.ready || !s.cfg.enables.welt || w.lanes < 2 then s
  else
    let lanes := if 8 ≤ w.lanes then 8 else if 4 ≤ w.lanes then 4 else 2
    let t := s.twinSec
    let ok := s.hasTwin && w.serial == t.partner && w.names == mySerial && (w.role == 1 || w.role == 2) && w.role != t.role &&
      s.memberOk w.record w.serial w.ident
    let s := { s with twin := { s.twin with lanes := lanes, linkUp := ok, rejected := s.hasTwin && !ok } }
    if !ok then s
    else
      let s := { s with twin := { s.twin with partnerTick := w.tick, lastHeard := s.tick.count } }.learnClaim w.claim
      s.when (s.twin.pair == 0 && w.active != s.twin.active) (State.setPair 1)

/-- The link is down: a partial copy is discarded (R412). -/
def State.weltDown (s : State) : State :=
  { s with twin := { s.twin with lanes := 0, linkUp := false, resyncDone := false, queued := [] } }

/-- The tick counters of a pair that forms: the lower one jumps at its next epoch boundary (R34). -/
def State.alignTick (h : Heartbeat) (s : State) : State :=
  if s.tick.aligned ∨ s.tick.jumpTo.isSome then { s with tick := { s.tick with offset := h.offsetNs } }
  else if h.tick = s.tick.count then { s with tick := { s.tick with aligned := true, offset := h.offsetNs } }
  else if s.tick.count < h.tick then { s with tick := { s.tick with jumpTo := some (h.tick - s.tick.count), offset := h.offsetNs } }
  else { s with tick := { s.tick with offset := h.offsetNs } }

/-- HEARTBEAT_RX. -/
def State.heartbeatRx (h : Heartbeat) (s : State) : State :=
  if !s.ready || !s.hasTwin || !s.twin.linkUp then s
  else
    let s := { s with twin := { s.twin with partnerTick := h.tick, lastHeard := s.tick.count } }
    let s := (s.learnClaim h.claim).alignTick h
    let s := s.when (s.twin.pair == 0 && h.active != s.twin.active) (State.setPair 1)
    s.when (!s.twin.active && s.twin.pair == 1 && s.twin.resyncDone && h.pair == 2) (State.setPair 2)

/-- HEARTBEAT_LOSS: 8 ticks without one. -/
def State.heartbeatLoss (s : State) : State :=
  if !s.ready || !s.hasTwin || s.twin.pair = 0 || s.tick.count < s.twin.lastHeard + 9 then s
  else
    let paired := s.twin.pair == 2
    let s := State.setPair 0 { s with twin := { s.twin with aloneSince := s.tick.count } }
    if s.twin.active then
      (State.leaveActive .notActive { s with twin := { s.twin with fenced := true, fenceAt := some (s.tick.count + 16) } })
    else s.when paired (fun s => s.tryPromote s.topClaim 0 none)

/-- FENCE_PROMOTION_ATTEMPT: 16 ticks after the fence. -/
def State.fenceAttempt (s : State) : State :=
  match s.twin.fenceAt with
  | none => s
  | some t =>
    if !s.ready || s.tick.count < t then s
    else State.tryPromote s.drec.claim 2 none { s with twin := { s.twin with fenceAt := none } }

/-- START_WAIT_EXPIRY: ALONE for the start wait since start-up. -/
def State.startWait (s : State) : State :=
  if !s.ready || !s.hasTwin || s.twin.active || s.twin.pair != 0 || s.twin.startTried || s.tick.count < s.twin.aloneSince + s.twinSec.startWait then s
  else State.tryPromote s.topClaim 1 none { s with twin := { s.twin with startTried := true } }

/-! ### The return of the primary (R422) -/

/-- RETURN_OF_PRIMARY, at an epoch boundary: a primary that has been PAIRED STANDBY for the hold-off tells the secondary; the ACTIVE
secondary that is told admits nothing from the next tick. -/
def State.returnPrimary (s : State) : State :=
  let t := s.twinSec
  if !s.works || !s.hasTwin || s.twin.pair != 2 || s.tick.count % 1000000 != 0 || s.tick.due then s
  else if s.twin.active then
    s.when (t.role == 2 && s.twin.paused.isNone) (fun s => { s with twin := { s.twin with paused := some s.tick.count } })
  else match s.twin.pairedSince with
    | none => s
    | some p =>
      s.when (t.role == 1 && t.autoReturn && !s.twin.returnHeld && s.twin.returning.isNone &&
          decide ((p + 999999) / 1000000 + t.holdOff ≤ s.tick.count / 1000000)) (fun s =>
        State.emit (.returnNotice s.tick.count) { s with twin := { s.twin with returning := some s.tick.count } })

/-- In tick E + 1 the primary promotes over the secondary's claim. -/
def State.returnDue (s : State) : State :=
  match s.twin.returning with
  | none => s
  | some e => if e < s.tick.count then State.tryPromote s.twin.partnerClaim 3 none { s with twin := { s.twin with returning := none } } else s

/-- RETURN_RESUME_TIMEOUT: at tick E + 8 the secondary resumes unless it has learnt of a higher claim. -/
def State.returnResume (s : State) : State :=
  match s.twin.paused with
  | none => s
  | some e => if s.twin.active && !s.twin.leaving && decide (e + 8 ≤ s.tick.count) then { s with twin := { s.twin with paused := none } } else s

/-! ### Claim checks (R414, R415) -/

/-- What is mirrored once its claim check has passed; a write-back and an applied mirrored change are not (Table 15.2). -/
def State.claimPassed (p : Purpose) (s : State) : State :=
  match p with
  | .page _ => s.pass p none
  | .mirrored _ => s.pass p none
  | _ => s.mirror p

/-- CLAIM_CAS_RESULT: the value that the cell held. -/
def State.casResult (id value : Nat) (s : State) : State :=
  match s.twin.cas.get? id with
  | none => s
  | some o =>
    let s := { s with twin := { s.twin with cas := s.twin.cas.erase id } }
    match o.purpose with
    | .takeRead m => s.tryPromote value 4 (some m)
    | .promote c _ m =>
      if value = o.cmp then s.promoted c m
      else
        let s := { s with twin := { s.twin with promoteFailed := true, partnerClaim := max s.twin.partnerClaim value } }
        match m with | none => s | some m => s.finish m .claimSuperseded
    | p =>
      if value = o.cmp then s.claimPassed p
      else if o.swap < value then (s.learnClaim value).claimFailed p .claimSuperseded
      else if o.restore then s.claimFailed p .claimUnreachable
      else s.issueCas value o.swap true p

/-- CLAIM_CAS_TIMEOUT: 4 ticks. -/
def State.casTimeout (id : Nat) (s : State) : State :=
  match s.twin.cas.get? id with
  | none => s
  | some o =>
    if s.tick.count < o.since + 4 then s
    else
      let s := { s with twin := { s.twin with cas := s.twin.cas.erase id } }
      match o.purpose with
      | .takeRead m => s.finish m .claimUnreachable
      | .promote _ _ m =>
        let s := { s with twin := { s.twin with promoteFailed := true } }
        match m with | none => s | some m => s.finish m .claimUnreachable
      | p => s.claimFailed p .claimUnreachable

/-! ### Mirrored changes (R410-R412) -/

/-- MIRROR_ACK. -/
def State.mirrorAck (id : Nat) (s : State) : State :=
  match s.twin.acks.get? id with
  | none => s
  | some p => State.pass p none { s with twin := { s.twin with acks := s.twin.acks.erase id } }

/-- MIRRORED_CHANGE_RX: a STANDBY device holds the change; a privileged one passes the claim check with the ACTIVE device's claim. -/
def State.mirroredRx (m : MirrorRx) (s : State) : State :=
  if !s.ready || !s.hasTwin || s.twin.active || s.twin.pair = 0 || m.claim < s.topClaim then s
  else
    let s := { s with twin := { s.twin with mirrored := s.twin.mirrored.set m.id m } }.learnClaim m.claim
    if m.priv then s.claimThen m.claim (.mirrored m.id) else s.pass (.mirrored m.id) none

/-- A mirrored change on the STANDBY device: only what Table 15.2 lists. -/
def State.applyMirrored (d : Delta) (s : State) : State :=
  match d with
  | .key k none => (s.eraseKey k).journal d
  | .key k (some r) =>
    let sym := hStore r.handle == 1 && !hEphemeral r.handle
    let s := ((s.setKey k { r with bank := s.pickBank (hStore r.handle == 1), dirty := sym, holds := 0 }).spend 8).touch 6 r.handle
    if hEphemeral r.handle then s else s.journal d
  | .figure k n => (s.modKey k (fun r => { r with durable := some n })).journal d
  | .inst i r => ((s.modInst i (fun x => { x with d := r })).touch 2 i).journal d
  | .dev r =>
    let t : DevDur := { s.drec with roster := r.roster, counter := r.counter, image := r.image, domain := r.domain, floor := max s.drec.floor r.floor }
    State.journal (.dev t) { s with drec := t }
  | .page _ _ => s
  | .remap _ _ => s
  | .sess n x => { s with sess := s.sess.set n { x with setup := none } }.touch 4 n
  | .dest i k n => s.modInst i (fun x => { x with dests := match n with | none => x.dests.erase k | some n => x.dests.set k n })

/-- A mirrored change has passed its check: applied, and acknowledged once a privileged one is in the journal. -/
def State.settleMirrored (id : Nat) (st : Option Status) (s : State) : State :=
  match s.twin.mirrored.get? id with
  | none => s
  | some m =>
    let s := { s with twin := { s.twin with mirrored := s.twin.mirrored.erase id } }
    if st.isSome then s
    else
      let s := s.applyMirrored m.change
      if m.priv then { s with twin := { s.twin with toAck := s.twin.toAck ++ [id] } } else s.emit (.mirrorAck id)

/-- RESYNC_COMPLETE: the STANDBY device has the whole copy; the ACTIVE device is told so, and becomes PAIRED, the queued changes sent. -/
def State.resyncComplete (s : State) : State :=
  if !s.ready || s.twin.pair != 1 || !s.twin.linkUp then s
  else if s.twin.active then
    let q := s.twin.queued
    let s := State.setPair 2 { s with twin := { s.twin with queued := [] } }
    q.foldl (fun s p =>
      let id := s.twin.nextId
      State.emit (.mirror id s.drec.claim p) { s with twin := { s.twin with nextId := id + 1 } }) s
  else { s with twin := { s.twin with resyncDone := true } }

/-! ### Each tick -/

/-- A tick of the twin: the heartbeat, the count of ticks without one, what is due at the boundary. -/
def State.twinTick (s : State) : State :=
  if !s.hasTwin || !s.ready then s
  else
    let s := s.when (decide (s.twin.lastHeard + 1 < s.tick.count)) (fun s => s.bump oTwinHeartbeatMissed)
    let s := s.when (s.twin.linkUp && s.prot.step.isNone && !s.prot.halted) (fun s => s.emit (.heartbeat s.tick.count s.twin.active s.twin.pair s.drec.claim))
    s.returnDue.leaveDue

/-! ### Commands (R424) -/

/-- FORCED_FAILOVER. -/
def effFailover (m : MCmd) (s : State) : Eff :=
  let take := bit (byteAt m.cmd.desc 32) 0
  if !s.hasTwin then .fail s .badFieldValue
  else if take == s.twin.active then { s := s }
  else if take then
    if s.casPossible then { s := s.issueCas 0 0 false (.takeRead m), st := none } else .fail s .claimUnreachable
  else { s := { s with twin := { s.twin with leaving := true } } }

/-- TWIN_RETURN_HOLD. -/
def effReturnHold (m : MCmd) (s : State) : Eff :=
  if !s.hasTwin then .fail s .badFieldValue
  else { s := State.touchDev { s with twin := { s.twin with returnHeld := bit (byteAt m.cmd.desc 32) 0 } } }

end Sys2Proof.Machine
end

