-- ==== Sys2Proof/Machine/Protection.lean ====
section
/-! DEFINITION. Protection (R427-R458): monitor sources, halt, zeroise, noise windows, DRBGs, the life-cycle steps, debug tokens, and the
protection commands. -/

namespace Sys2Proof.Machine

/-! ### Monitors (R428-R432) -/

/-- MONITOR_ASSERT: a source that stays asserted acts once. -/
def State.monitorAssert (src : Nat) (s : State) : State :=
  if 16 ≤ src ∨ bit s.prot.live src then s
  else State.assertSource src { s with prot := { s.prot with live := setBit s.prot.live src } }

/-- MONITOR_DEASSERT. -/
def State.monitorDeassert (src : Nat) (s : State) : State := { s with prot := { s.prot with live := clearBit s.prot.live src } }

/-- Commands that have been fetched and have not completed, with whether they have committed. -/
def State.openCommands (s : State) : List (MCmd × Bool) :=
  s.mgmt.staged.map (fun e => (e.1, false)) ++ (s.mgmt.urgentNow ++ s.mgmt.urgent).map (fun m => (m, false)) ++
    ((s.last.job.filter (fun j => j.boundary.isSome)).toList.map (fun j => j.m) ++ s.mgmt.baseCmd.toList ++ s.mgmt.portCmd.toList ++ s.fab.cmds.map Prod.snd ++ (s.dev.fwJob.map (fun j => j.m)).toList ++
      (s.card.job.map (fun j => j.m)).toList).map (fun m => (m, true))

/-- Every descriptor already fetched completes with a status. -/
def State.endCommands (st : Status) (s : State) : State :=
  let cs := s.openCommands
  let s := { s with
    mgmt := { s.mgmt with staged := [], urgent := [], urgentNow := [], committing := none, baseCmd := none, portCmd := none }
    last := { s.last with job := none }
    fab := { s.fab with cmds := [] }
    dev := { s.dev with fwJob := none }
    card := { s.card with job := none } }
  cs.foldl (fun s e => if e.2 then s.finish e.1 st else s.completeAs e.1 st.code 0 0) s

/-- Key update messages in progress end: one that is not accepted is rejected, one that is completes without its receipt. -/
def State.endKums (st : Status) (s : State) : State :=
  s.kum.msgs.foldl (fun s e =>
    if e.2.stage < 2 then s.failKum e.1 0xFF st
    else
      let s := { s with kum := { s.kum with msgs := s.kum.msgs.erase e.1 } }
      if e.2.discard then s else s.completeKum e.2.entry st 0xFF 0 e.2.counter) s

/-- A halt that a source has asked for takes place at the tick boundary (R429): work stops as R418 says, with TAMPER_HALT. -/
def State.haltDue (s : State) : State :=
  match s.prot.haltPending with
  | none => s
  | some c =>
    let s := { s with prot := { s.prot with haltPending := none, halted := true, haltCause := c } }
    let s := (s.endCommands .tamperHalt).endKums .tamperHalt
    if s.hasTwin && s.twin.active then s.leaveActive .tamperHalt else s.stopWork .tamperHalt

/-! ### Noise and DRBGs (R440-R447) -/

/-- NOISE_WINDOW: a window of a source while the noise sources run. -/
def State.noiseWindow (src : Nat) (w : Bytes) (s : State) : State :=
  if !s.ready || decide (8 ≤ src) || w.length != 512 || s.rng.state == 0 || s.rng.test == 1 then s else s.testWindow src w

/-- RNG_TEST_CONTROL.TEST: only in MAKER (R447). -/
def State.rngTestControl (v : Nat) (s : State) : State :=
  if 2 ≤ v then s.reject oRngTestControl .reservedNonzero
  else if s.prot.life ≠ 0 then s.reject oRngTestControl .lifecycleForbidden
  else if v = 0 then s
  else { s with rng := { s.rng with test := 1, state := if s.rng.state = 1 then 3 else s.rng.state } }

/-- RNG_TEST_DATA: with TEST set, 64 words are a window of every source. -/
def State.rngTestData (v : Nat) (s : State) : State :=
  let s := s.setReg oRngTestData v
  if s.rng.test = 0 then s
  else
    let ws := s.rng.testBits ++ [v % 2 ^ 64]
    if ws.length < 64 then { s with rng := { s.rng with testBits := ws } }
    else (List.range 8).foldl (fun s k => s.testWindow k (ws.flatMap (le 8))) { s with rng := { s.rng with testBits := [] } }

/-- DRBG_RESEED_COUNT: after 2^24 generate requests (R444). Kind 1: a frond's, 2: an instance's. -/
def State.reseedCount (kind number : Nat) (s : State) : State :=
  let d := if kind = 1 then number else 16 + number
  if (kind != 1 && kind != 2) || (kind == 1 && decide (16 ≤ number)) || !s.rngOk || decide (s.rng.drbgs.getD d 0 < 2 ^ 24) then s
  else s.reseed d

/-! ### Debug (R453, R455) -/

/-- PROT_DEBUG.REVOKE. -/
def State.revokeDebug (s : State) : State := { s with prot := { s.prot with debug := 0 } }

/-- PROT_DEBUG.NEW_NONCE: a management draw. -/
def State.newNonce (s : State) : State :=
  if !s.rngOk then s.reject oProtDebug .rngFailed
  else
    let t := { s with prot := { s.prot with nonce := some (s.drawn 32) } }
    (t.generate s.mgmtDrbg 32).spend 32

/-! ### Life-cycle steps (R451) -/

/-- LIFECYCLE_RECEIPT_TIMEOUT: 1,000 ticks. -/
def State.receiptTimeout (s : State) : State :=
  match s.prot.step with
  | none => s
  | some t => if t.stage = 1 ∧ t.since + 1000 ≤ s.tick.count then s.startWipe t else s

/-- WIPE_DONE: the zeroise set of R430 step 2, and the user area on the step to RETURNED. -/
def State.wipeDone (s : State) : State :=
  match s.prot.step with
  | none => s
  | some t =>
    if t.stage ≠ 2 then s
    else
      let s := s.stompAll
      let f := if t.target = 3 then { s.flash with store := {} } else s.flash
      { s with flash := f, ks := { s.ks with keys := [], storeKey := [], slotKey := [] }, sess := [], disp := { stopAdmit := true }, eng := {},
               prot := { s.prot with step := some { t with stage := 3, row := 0 } } }

/-- A row of a life-cycle step, once burned, and whether it was the last: the rows that a step burns (Table 16.5). -/
def State.burnRow (t : LifeStep) (s : State) : Fuses × Bool :=
  let f := s.fuses
  let word (k row : Nat) : Fuses :=
    { f with stages := (List.range 12).map (fun j => if j = 3 * k + row then f.stages.getD j 0 ||| stageWord k else f.stages.getD j 0) }
  if t.target = 2 then
    if t.row = 0 ∧ f.response.isNone then ({ f with response := some s.responses }, false)
    else if t.row ≤ 1 ∧ f.thresholds.isNone then ({ f with thresholds := some s.thresholds }, false)
    else (word 1 (t.row - 2), decide (4 ≤ t.row))
  else if t.target = 4 then
    if t.row = 0 then ({ f with secrets := false }, false) else (word 3 (t.row - 1), decide (3 ≤ t.row))
  else (word (if t.target = 1 then 0 else 2) t.row, decide (2 ≤ t.row))

/-- The next row of a step: rows of the responses and thresholds that are burned already are passed over. -/
def nextRow (f : Fuses) (t : LifeStep) : Nat :=
  let r := t.row + 1
  if t.target = 2 ∧ r = 1 ∧ f.thresholds.isSome then 2 else r

/-- The first row that is burned. -/
def firstRow (f : Fuses) (t : LifeStep) : Nat :=
  if t.target = 2 ∧ t.row = 0 ∧ f.response.isSome then (if f.thresholds.isSome then 2 else 1) else t.row

/-- FUSE_BURN_DONE: a row is burned; after the last the device resets (step 5), also when a zeroise waits for the end of the burn. -/
def State.fuseBurnDone (s : State) : State :=
  match s.prot.step with
  | none => s
  | some t =>
    if t.stage ≠ 3 then s
    else
      let t := { t with row := firstRow s.fuses t }
      let (f, last) := s.burnRow t
      let s := { s with fuses := f }
      if last then s.deviceReset (if s.prot.zeroising then 4 else 5)
      else { s with prot := { s.prot with step := some { t with row := nextRow f t } } }

/-! ### Commands (R456) -/

/-- ZEROISE: its completion is written before the zeroise runs. -/
def effZeroise (m : MCmd) (s : State) : Eff := { s := (s.finish m .ok).zeroiseNow 1 0, st := none }

/-- PROT_FUSE_OPTIONS: the bits set are burned in all three copies. -/
def effFuseOptions (m : MCmd) (s : State) : Eff :=
  let opts := leAt m.cmd.desc 32 2 + b2n (bit (byteAt m.cmd.desc 34) 0) * 65536
  effChecks (s.decisions 1) [(decide (s.prot.life ≤ 1), .lifecycleForbidden)]
    { s := (State.touchDev { s with fuses := { s.fuses with options := (List.range 3).map (fun k => s.fuses.options.getD k 0 ||| opts) } }).decisions 1 }

/-- DEBUG_UNLOCK: the token of R455; every check uses up the nonce. -/
def effDebugUnlock (m : MCmd) (s : State) : Eff :=
  let s := s.decisions 2
  if s.prot.life = 2 then .fail s .lifecycleForbidden
  else
    let t := if m.cmd.u 40 4 = 4800 then padTo 4800 m.cmd.data else []
    let u := s.spendNonce
    match s.tokenFail debugAllowed t with
    | some st => .fail u st
    | none => if !s.ledgerOk then .fail u .ledgerUnavailable else { s := u.enableDebug (byteAt t 6) (slice t 16 32) }

end Sys2Proof.Machine
end

