-- ==== Sys2Proof/Machine/Lasts.lean ====
section
/-! DEFINITION. Lasts (R211-R233): the start-up load, the last commands, their validation, and how a full image and an amendment commit. -/

namespace Sys2Proof.Machine

/-! ### Validation (R218, R219) -/

/-- The bindings that sessions in use name (R276). -/
def State.usedBindings (s : State) : List Nat := ((s.sess.filter (fun e => e.2.st != .free)).map (fun e => e.2.binding)).eraseDups

/-- What validation knows of the device, under a serial rule. -/
def State.imageEnv (s : State) (rule : SerialRule) : ImageEnv :=
  { serial := mySerial, life := s.prot.life, authority := s.drec.image, rule := rule,
    running := match s.last.cur with | none => none | some _ => some s.cfg, used := s.usedBindings }

/-- The rule of a command: the floor, and the running full image's serial (none matches without a last). -/
def State.commandRule (s : State) : SerialRule :=
  .command s.drec.floor (match s.last.cur with | none => 2 ^ 64 | some _ => s.last.serial)

/-- Image kinds that a command takes. -/
def kindsOfLast (code : Nat) : List Nat := if code = 0x8201 then [1] else if code = 0x8202 then [2] else [1, 2]

/-- A section's offset in an image; 128 where it is absent. -/
def sectionOff (img : Bytes) (t : Nat) : Nat :=
  match (List.range (leAt img 48 4 % 16)).find? (fun k => leAt img (128 + 16 * k) 2 == t) with
  | none => 128
  | some k => leAt img (132 + 16 * k) 4

/-- A LAST_LOAD on an ACTIVE twin would remove the TWIN section or change the role or the partner (R408). -/
def State.twinForbids (s : State) (c : LastConfig) : Bool :=
  match s.cfg.twin with
  | none => false
  | some t => s.twin.active && (match c.twin with | none => true | some u => u.role != t.role || u.partner != t.partner)

/-- The check of R408 on a validated full image. -/
def State.twinCheck (s : State) (code : Nat) (img : Bytes) (p : Parsed) : Except ImageFail Parsed :=
  if code = 0x8201 ∧ s.twinForbids p.cfg then .error ⟨.notActive, if p.cfg.twin.isSome then 11 else 0, sectionOff img 11⟩ else .ok p

/-- Bytes of the last store in use. -/
def LastStore.used (x : LastStore) : Nat := x.full.length + (x.log.map List.length).foldl (· + ·) 0

/-- LAST_RESULT and LAST_BOOT (Table 7.10). -/
def resultWord (r : Except ImageFail Unit) : Nat :=
  match r with
  | .ok _ => 0
  | .error e => e.st.code * 2 ^ 48 + e.sec % 65536 * 2 ^ 32 + e.off % 2 ^ 32

/-- The image that a last command names. -/
def MCmd.image (m : MCmd) : Bytes := m.cmd.data.take (m.cmd.u 40 4)

/-- LAST_VALIDATION_DONE (R227): the result; a LAST_AMEND is logged before it is ready (R230). -/
def State.validationDone (s : State) : State :=
  match s.last.job with
  | none => s
  | some j =>
    if j.isOver then s
    else
      let img := j.m.image
      let r : Except ImageFail Parsed := match validateImage (s.imageEnv s.commandRule) (kindsOfLast j.code) (j.m.cmd.u 40 4) img with
        | .error e => .error e
        | .ok p =>
          let full := j.code = 0x8202 ∧ (255 ≤ s.flash.store.log.length ∨ 33554432 < s.flash.store.used + img.length)
          if full then .error ⟨.lastResourceExceeded, 0, 52⟩ else s.twinCheck j.code img p
      let s := s.decisions 1
      let (fail, parsed, word) : Option ImageFail × Option Parsed × Nat := match r with
        | .error e => (some e, none, resultWord (.error e))
        | .ok p => (none, some p, 0)
      let j := { j with isOver := true, fail := fail, parsed := parsed }
      let st := if j.code = 0x8202 ∧ parsed.isSome then { s.flash.store with log := s.flash.store.log ++ [img] } else s.flash.store
      let s := { s with flash := { s.flash with store := st }, last := { s.last with job := some j, result := word } }
      s.raise 2 oLastIrq 0

/-! ### Taking effect -/

/-- A configuration comes into force; configurations that no item was admitted under are dropped (R49). -/
def State.useConfig (c : LastConfig) (s : State) : State :=
  let g := s.last.gen + 1
  let kept := s.last.cfgs.filterT (fun k _ => s.disp.items.any (fun e => e.2.admitted && e.2.cfg == k))
  { s with last := { s.last with gen := g, cur := some g, cfgs := kept.set g c } }

/-- Sub-ports under new PORTS (R228 step 4, R293, R339): where the mode changes, they train anew, the enabled ones up; a cleared MACSEC
flag removes the SAs. -/
def State.applyPorts (old new : LastConfig) (s : State) : State :=
  (List.range 64).foldl (fun s p =>
    let a := old.ports.getD p {}
    let b := new.ports.getD p {}
    let fresh (d : Option SubDef) : SubPort :=
      let on := match d with | none => false | some d => d.enabled
      { admin := on, training := on, presenceAt := s.tick.count, lldpAt := s.tick.count }
    if a.mode ≠ b.mode then
      (State.touchPort p { s with ports := s.ports.set p { s.portOf p with subs := (List.range 4).map (fun k => fresh b.subs[k]?), peers := [], hello := [] } })
    else
      let one (x : SubPort) (k : Nat) : SubPort :=
        let was := match a.subs[k]? with | none => false | some d => d.enabled
        let d := (b.subs[k]?).getD {}
        if d.enabled ∧ !was then fresh (some d)
        else
          let x := if d.enabled then x else { x with admin := false, link := false, training := false, waitq := [] }
          if d.macsec then x else { x with tx := [], rx := [], stalled := false }
      let subs := (List.range 4).map (fun k => one ((s.portOf p).subs.getD k {}) k)
      if subs = (s.portOf p).subs then s else State.touchPort p { s with ports := s.ports.set p { s.portOf p with subs := subs } }) s

/-- Sessions that the last in force no longer provides for are freed (R228 step 5, R276). -/
def State.dropSessions (s : State) : State :=
  (s.sessWhere (fun _ x => x.st != .free)).foldl (fun s n =>
    let x := s.sessOf n
    let en := match s.subDef x.port x.sub with | none => false | some d => d.enabled
    if en && s.encapOk x && (s.cfg.htt.bindings[x.binding]?).isSome then s
    else s.freeSess n) s

/-- The twin under a new TWIN section (R407, R408): one that appears makes the device STANDBY and ALONE; a STANDBY device whose role or
partner changes pairs anew; one without is ACTIVE. -/
def State.applyTwin (old : Option TwinSec) (s : State) : State :=
  let alone (a : Bool) : State :=
    { s with twin := { s.twin with active := a, pair := 0, linkUp := false, aloneSince := s.tick.count, startTried := false, pairedSince := none,
                                   returning := none, paused := none, resyncDone := false, lastChange := s.tick.count, fenced := false } }
  match old, s.cfg.twin with
  | none, none => s
  | none, some _ => alone false
  | some _, none => alone true
  | some t, some u => if t.role = u.role ∧ t.partner = u.partner then s else alone s.twin.active

/-- DRBGs of the fronds in service (R443, R444). -/
def State.frondDrbgs (s : State) : State :=
  (List.range 16).foldl (fun s f =>
    if bit s.cfg.enables.fronds f then (if s.rng.drbgs.has f then s else s.instantiate f) else s.dropDrbg f) s

/-- The record of a commit, and the durable floor and serial (R220); the floor is mirrored (Table 15.2). -/
def State.lastCommitted (kind serial : Nat) (measure : Bytes) (s : State) : State :=
  let d := { s.drec with floor := serial, fullSerial := if kind = 1 then serial else s.drec.fullSerial }
  let s := { s with drec := d, last := { s.last with measure := measure } }
  let s := s.required 0x13 ([BitVec.ofNat 8 kind] ++ zeros 7 ++ le 8 serial ++ le 8 serial ++ measure)
  let s := (s.saveDev.commitNow [.dev d]).touchDev
  if s.hasTwin && s.twin.active then s.mirror (.mirror [.dev d]) else s

/-- A full image takes effect: at its resumption boundary, or at once without a last (R228 steps 3 to 6, R232). -/
def State.loadTakes (m : MCmd) (p : Parsed) (s : State) : State :=
  let old := if s.last.cur.isSome then s.cfg else {}
  let s := if s.last.cur.isSome then s else { s with last := { s.last with counters := [], seamStats := [], patStats := [] } }
  let first := s.last.cur.isNone
  let s := s.useConfig p.cfg
  let s := { s with
    last := { s.last with serial := p.serial, amendSerial := 0, amendments := 0, persisted := false, image := m.image, hit := [] }
    flash := { s.flash with store := { s.flash.store with log := [] } } }
  let s := (s.applyPorts old p.cfg).dropSessions
  let s := (s.applyTwin (if first then none else old.twin)).frondDrbgs
  s.lastCommitted 1 p.serial (sha384 p.signed)

/-- A full image ends its load: a second read that differs brings the previous last back (R228 step 3). -/
def State.finishLoad (m : MCmd) (p : Parsed) (s : State) : State :=
  let img := m.cmd.data2.take (m.cmd.u 40 4)
  let s := { s with last := { s.last with job := none } }
  let m := { m with point := s.epoch }
  if sha384 (img.take (leAt img 56 4)) != sha384 p.signed then s.finish m .lastImageChanged
  else (s.loadTakes m p).finish m .ok

/-- The resumption boundary (R228): one epoch after B, or two while admitted work has not ended. -/
def State.resumeLoad (s : State) : State :=
  match s.last.job with
  | none => s
  | some j => match j.boundary, j.parsed with
    | some b, some p =>
      let ended := !s.disp.items.any (fun e => e.2.admitted)
      if (ended && decide (b + 1000000 ≤ s.tick.count)) || decide (b + 2000000 ≤ s.tick.count) then s.finishLoad j.m p else s
    | _, _ => s

/-! ### The commands (R226-R231) -/

/-- A last command has been fetched: one at a time (R227). -/
def startLast (code : Nat) (m : MCmd) (s : State) : Except Status State :=
  match lowestFail [(m.cmd.u 32 8 % 8 == 0, .badFieldValue), (s.last.job.isNone, .busy)] with
  | some st => .error st
  | none => .ok { s with last := { s.last with job := some { code := code, m := m } } }

/-- The job in progress ends. -/
def State.endLast (s : State) : State := { s with last := { s.last with job := none } }

/-- LAST_LOAD at its commit boundary: a failed validation, R408, or the interruption begins; without a last it commits now. -/
def effLastLoad (m : MCmd) (s : State) : Eff :=
  effChecks s [(m.early.isNone, m.early.getD .ok)] <|
  match s.last.job with
  | none => .fail s .busy
  | some j => match j.fail, j.parsed with
    | some e, _ => .fail s.endLast e.st
    | none, none => .fail s .busy
    | none, some p =>
      if s.twinForbids p.cfg then .fail s.endLast .notActive
      else if !s.ledgerOk then .fail s.endLast .ledgerUnavailable
      else if s.last.cur.isNone then { s := s.finishLoad m p, st := none }
      else { s := { s with last := { s.last with job := some { j with m := m, boundary := some s.tick.count } } }, st := none }

/-- A logged amendment that does not commit leaves the log. -/
def State.unlog (s : State) : State :=
  { s with flash := { s.flash with store := { s.flash.store with log := s.flash.store.log.dropLast } } }

/-- LAST_AMEND at its commit boundary (R230): sections that a session in use now names are checked again (R276). -/
def effLastAmend (m : MCmd) (s : State) : Eff :=
  effChecks s [(m.early.isNone, m.early.getD .ok)] <|
  match s.last.job with
  | none => .fail s .busy
  | some j => match j.fail, j.parsed with
    | some e, _ => .fail s.endLast e.st
    | none, none => .fail s .busy
    | none, some p =>
      let t := s.endLast
      if s.usedBindings.any (fun k => p.cfg.htt.bindings[k]? != s.cfg.htt.bindings[k]?) then .fail t.unlog .lastBadReference
      else if !s.ledgerOk then .fail t.unlog .ledgerUnavailable
      else
        let img := m.image
        let carried := (List.range (leAt img 48 4 % 16)).map (fun k => leAt img (128 + 16 * k) 2)
        let t := t.useConfig p.cfg
        let t := { t with last := { t.last with amendSerial := p.serial, amendments := t.last.amendments + 1,
                                                hit := t.last.hit.filter (fun h => !carried.contains h) } }
        { s := t.lastCommitted 2 p.serial (sha384 (s.last.measure ++ sha384 p.signed)) }

/-- LAST_CHECK: the validation status. -/
def effLastCheck (m : MCmd) (s : State) : Eff :=
  effChecks s [(m.early.isNone, m.early.getD .ok)] <|
  match s.last.job with
  | none => .fail s .busy
  | some j => .fail s.endLast (match j.fail with | none => .ok | some e => e.st)

/-- The buffer of Table 7.9. -/
def State.statistics (s : State) : Bytes :=
  le 4 s.epoch ++ zeros 4 ++ le 8 s.tick.count ++ le 8 s.last.serial ++ le 8 s.last.amendSerial ++
    (List.range 16384).flatMap (fun c => le 8 (s.last.counters.getD c 0)) ++
    (List.range 4096).flatMap (fun k => (List.range 8).flatMap (fun j =>
      le 8 (if s.cfg.seams.seams.has k then s.last.seamStats.getD (8 * k + j) 0 else 0))) ++
    (List.range 256).flatMap (fun p => (List.range 3).flatMap (fun j =>
      le 8 (if s.cfg.pats.patterns.has p then s.last.patStats.getD (3 * p + j) 0 else 0)) ++ zeros 8)

/-- LAST_STATS. -/
def effLastStats (m : MCmd) (s : State) : Eff :=
  effChecks s [(m.cmd.u 32 8 % 4096 == 0, .badFieldValue), (decide (401440 ≤ m.cmd.u 40 4), .badLength)]
    { s := s.hostWrite 0 (m.cmd.u 32 8) s.statistics }

/-- LAST_STORE_PERSISTED (R225). -/
def State.storePersisted (s : State) : State :=
  if s.last.persisted || s.last.cur.isNone then s
  else
    let st := { s.flash.store with full := s.last.image }
    State.raise 2 oLastIrq 1 { s with flash := { s.flash with store := st }, last := { s.last with persisted := true, image := [] } }

/-! ### The start-up load (R223, R224) -/

/-- The logged amendments that apply, in log order: the configuration, measurement and serial after them, how many, and the failure met. -/
def applyLog (env : ImageEnv) (full floor : Nat) :
    List Bytes → LastConfig × Bytes × Nat × Nat → LastConfig × Bytes × Nat × Nat × Option ImageFail
  | [], (c, ms, sn, k) => (c, ms, sn, k, none)
  | b :: bs, (c, ms, sn, k) =>
    match validateImage { env with rule := .bootAmend full sn floor, running := some c } [2] b.length b with
    | .error e => (c, ms, sn, k, some e)
    | .ok p => applyLog env full floor bs (p.cfg, sha384 (ms ++ sha384 p.signed), p.serial, k + 1)

/-- Start-up step 7. -/
def State.bootLoad (s : State) : State :=
  let full := s.flash.store.full
  let sn := s.drec.fullSerial
  let env := { s.imageEnv (.bootFull sn) with running := none, used := [] }
  let s := s.decisions (1 + s.flash.store.log.length)
  match validateImage env [1] full.length full with
  | .error e => { s with last := { s.last with boot := resultWord (.error e) } }
  | .ok p =>
    let (c, ms, am, k, fail) := applyLog env sn s.drec.floor s.flash.store.log (p.cfg, sha384 p.signed, p.serial, 0)
    let s := { s with flash := { s.flash with store := { s.flash.store with log := s.flash.store.log.take k } } }
    let word := match fail with | none => 0 | some e => resultWord (.error e)
    let s := { s with last := { s.last with serial := p.serial, amendSerial := if k = 0 then 0 else am, amendments := k, persisted := true,
                                            measure := ms, boot := word } }
    s.useConfig c

end Sys2Proof.Machine
end

