-- ==== Sys2Proof/Machine/Startup.lean ====
section
/-! DEFINITION. Power, resets and start-up (R517-R528, R471, R97), PCIe link and power states (R296, R519), temperature, and firmware
updates (R525, R526). -/

namespace Sys2Proof.Machine

/-! ### Power and resets (R517-R521) -/

/-- The main rails come up in order: a power-on device reset. -/
def State.powerUp (s : State) : State :=
  if s.dev.rails then s else State.deviceReset 1 { s with dev := { s.dev with rails := true } }

/-- POWER_LOSS: fuses, battery domain and flash survive; a row of a life-cycle step that was being burned leaves the device LOST (R449). -/
def State.powerLoss (s : State) : State :=
  if !s.dev.rails then s
  else
    let burning := match s.prot.step with | none => false | some t => t.stage == 3
    let s := { s with fuses := if burning then { s.fuses with torn := true } else s.fuses }
    let s := s.deviceReset 0
    { s with dev := { s.dev with rails := false } }

/-- SYS_RST_N held low for a time in ns (R518). -/
def State.sysReset (lowNs : Nat) (s : State) : State :=
  if !s.dev.rails ∨ lowNs < 50 then s
  else if lowNs < 10000 then s.assertSource 13
  else s.deviceReset 2

/-- PERST_N (R519): its assertion takes the link down and acts as an FLR of PF0. -/
def State.perst (low : Bool) (s : State) : State :=
  if !s.dev.rails || s.dev.perstLow == low then s
  else
    let s := { s with dev := { s.dev with perstLow := low } }
    if !low then s else State.flrPf0 { s with pcie := { s.pcie with up := false, rate := 0, width := 0, flit := false } }

/-- DEV_RESET_REQUEST (R528). -/
def State.resetRequest (v : Nat) (s : State) : State :=
  if 2 ^ 32 ≤ v then s.reject oDevResetRequest .reservedNonzero
  else if v ≠ 0x51205E7E then s.reject oDevResetRequest .badFieldValue
  else { s with dev := { s.dev with resetReq := true } }

/-- BATTERY_DOMAIN_LOSS: VBAT below 2.2 V while VDDIO is down. -/
def State.batteryLoss (s : State) : State := if s.dev.rails then s else { s with bat := { valid := false } }

/-- PCIE_POWER_STATE: a function that returns to D0 sends what waited. -/
def State.powerState (fn : Nat) (d3 : Bool) (s : State) : State :=
  if !s.dev.rails || !s.hasFn fn then s
  else if d3 then { s with pcie := { s.pcie with d3 := if s.pcie.d3.contains fn then s.pcie.d3 else s.pcie.d3 ++ [fn] } }
  else
    let s := { s with pcie := { s.pcie with d3 := s.pcie.d3.filter (fun f => f != fn) } }
    if s.pcie.bmeOff.contains fn then s else s.busMaster fn true

/-- PCIE_LINK_CHANGE: HQ_LINK follows; the link is down while PERST_N is low. -/
def State.pcieLink (up : Bool) (rate width : Nat) (flit : Bool) (s : State) : State :=
  if !s.dev.rails then s
  else if up && !s.dev.perstLow && decide (1 ≤ rate ∧ rate ≤ 6) && [1, 2, 4, 8, 16].contains width then
    { s with pcie := { s.pcie with up := true, rate := rate, width := width, flit := flit || rate == 6 } }
  else if !up then { s with pcie := { s.pcie with up := false, rate := 0, width := 0, flit := false } }
  else s

/-- A 16-bit two's complement number. -/
def signed16 (v : Nat) : Int := if v % 65536 < 32768 then (v % 65536 : Nat) else (v % 65536 : Nat) - 65536

/-- TEMP_WARN: the junction temperature in 1/16 °C; its interrupt when it first exceeds the threshold (Table 19.9). -/
def State.tempWarn (t : Nat) (s : State) : State :=
  if !s.dev.rails then s
  else
    let t := t % 65536
    let above := decide (signed16 (s.fld oDevTempWarn 15 0) < signed16 t)
    let fire := above && s.dev.tempArmed
    let top := if signed16 s.dev.tempMax < signed16 t then t else s.dev.tempMax
    let s := { s with dev := { s.dev with temp := t, tempMax := top, tempArmed := !above } }
    s.when fire (fun s => s.raise 0 oDevIrq 0)

/-! ### Start-up (R522) -/

/-- Start-up may run: after a device reset with the rails up. -/
def State.mayStart (s : State) : Bool :=
  s.dev.rails && !s.dev.ready && !s.dev.stopped && !s.dev.lost && s.prot.life != 4

/-- Step 1: the battery domain; a domain that lost its power is treated as a zeroise (R428, R464). -/
def State.batteryCheck (s : State) : State :=
  if s.bat.valid then { s with bat := { s.bat with cycles := min (s.bat.cycles + 1) (2 ^ 32 - 1) } }
  else
    let (h, c) := match s.lastRec with | none => (0, 1) | some r => (r.hours, r.cycles + 1)
    { s with bat := { secret := none, sticky := setBit 0 11, hours := h, cycles := c, valid := true } }

/-- Sources that assert as the monitors on the core rail start watching (step 2): those still asserted, and 14 when fuse copies disagree. -/
def State.startSources (s : State) : List Nat :=
  (List.range 16).filter (fun k => s.watched k && decide (k < 6 ∨ 12 ≤ k) && (bit s.prot.live k || (k == 14 && s.fuses.mixed)))

/-- Sources watched through the reset whose condition still holds halt the device again (R429). -/
def State.stillHalting (s : State) : List Nat :=
  (List.range 16).filter (fun k => decide (6 ≤ k ∧ k ≤ 11) && s.watched k && bit s.prot.live k && s.responseOf k == 2)

/-- A stopped device (R523). -/
def State.stopAt (step cause : Nat) (s : State) : State :=
  { s with dev := { s.dev with stopped := true, cause := cause, step := step } }

/-- The ledger flash meets R460. -/
def Flash.ok (f : Flash) : Bool := f.present && decide (512 ≤ f.cs0 + f.cs1)

/-- Writing resumes at the start of the block after the one that holds the end of the records (R471 step 6). -/
def Pos.resume (p : Pos) (n : Nat) (wrap : Bool) : Pos := if p.byte = blockStart p.block then p else p.nextBlock n wrap

/-- The ledger is opened (R471); the first area is erased in MAKER and INTEGRATOR (R467). -/
def State.openLedger (torn : Bool) (s : State) : State :=
  if !s.flash.ok then { s with ledger := { s.ledger with opened := false, failed := true } }
  else
    let f := s.flash
    let f := if s.prot.life ≤ 1 then { f with first := {}, records := f.records.filter (fun r => !r.firstArea) } else f
    let next := (f.records.filter (fun r => r.mark == 0xA5)).foldl (fun m r => max m (r.seq + 1)) 1
    let inFirst := decide (2 ≤ s.prot.life) && decide (f.first.sector < firstSectors)
    let p := if inFirst then f.first else f.head
    let void : LedgerRec := { mark := 0, seq := next, firstArea := inFirst, sector := p.sector, block := p.block }
    let f := if torn then { f with records := f.records ++ [void] } else f
    let first := f.first.resume firstSectors false
    let head := f.head.resume f.inService true
    let f := { f with first := first, head := head, ahead := f.ahead && head.sector == f.head.sector }
    State.checkWorn { s with flash := f, ledger := { s.ledger with opened := true, nextSeq := next } }

/-- The noise start test: four windows of each source pass (R441). -/
def State.noiseTest (ws : List Bytes) (s : State) : State :=
  let s := (List.range 32).foldl (fun s k => s.testWindow (k % 8) (ws.getD k [])) s
  if s.rng.state = 2 then s else { s with rng := { s.rng with state := 1 } }

/-- The device record that a start without a snapshot takes from the ledger (R220, R431): enrolments since the step to INTEGRATOR, which
empties them. -/
def State.recovered (s : State) : DevDur :=
  let all := s.flash.records.filter (fun r => r.mark == 0xA5)
  let since := match (all.filter (fun r => r.typ == 0x14 && byteAt r.body 1 == 1)).getLast? with | none => 0 | some r => r.seq
  let last (typ : Nat) (p : Bytes → Bool) : Option Bytes :=
    ((all.filter (fun r => r.typ == typ && p r.body && decide (since < r.seq))).getLast?).map (fun r => r.body)
  let authority (k : Nat) : Option Authority :=
    (last 0x12 (fun b => byteAt b 0 == k)).map (fun b => Authority.of (slice b 40 97) (slice b 137 2592))
  let roster := match last 0x11 (fun b => leAt b 0 2 == 0xFFFF) with
    | none => zeros 16
    | some b => slice b 8 (16 + 48 * byteAt b 9)
  let counter := match last 0x10 (fun b => leAt b 0 2 == 0xFFFF && leAt b 2 2 == 0) with | none => 0 | some b => leAt b 6 6
  let commits := (all.filter (fun r => r.typ == 0x13)).map (fun r => r.body)
  let full := match (commits.filter (fun b => byteAt b 0 == 1)).getLast? with | none => 0 | some b => leAt b 8 8
  { roster := roster, counter := counter, image := authority 1, domain := authority 2,
    floor := commits.foldl (fun m b => max m (leAt b 8 8)) 0, fullSerial := full }

/-- The copy that restores: the higher sequence number that verifies; 0 A, 1 B. None verifies once the storage key has changed. -/
def State.goodCopy (s : State) (snaps : Nat) : Option (Bool × Copy) :=
  if s.bat.secret.isNone then none
  else
    let a := if bit snaps 0 then s.flash.copyA else none
    let b := if bit snaps 1 then s.flash.copyB else none
    match a, b with
    | some a, some b => if a.seq < b.seq then some (true, b) else some (false, a)
    | some a, none => some (false, a)
    | none, some b => some (true, b)
    | none, none => none

/-- An instance as it starts again: a drain or a reset that was in progress has ended (R378, R390). -/
def InstDur.restart (d : InstDur) : InstDur :=
  match d.st with
  | .quiescing => { d with st := .disabled, version := nextVersion d.version }
  | .resetting => { d with st := .disabled, error := false, cause := 0, version := nextVersion d.version }
  | _ => d

/-- Step 8 with a copy: keys with their durable figures as live counts, pages, remap, instances (R75, R78, R82, R97). -/
def State.restoreFrom (b : Bool) (c : Copy) (s : State) : State :=
  let bank (s : State) (k : KeyRec) : Nat := s.pickBank (algSym k.alg)
  let keys := c.img.keys.mapT (fun _ k => { k with uses := k.durable.getD k.uses, nextFigure := none, holds := 0 })
  let s := { s with
    ks := { s.ks with keys := [], pages := c.img.pages, remap := c.img.remap, restore := if b then 2 else 1, active := b }
    inst := c.img.inst.map (fun (e : Nat × InstDur) => (e.1, ({ d := e.2.restart } : Inst).fill)) }
  let s := keys.foldl (fun s e => (s.setKey e.1 { e.2 with bank := bank s e.2 }).spend 8) s
  let changed := c.img.inst.filter (fun (e : Nat × InstDur) => e.2.restart != e.2)
  let s := changed.foldl (fun (s : State) e => s.saveInst e.1) s
  let s := s.expireKeys (fun _ => true)
  (s.ks.keys.filter (fun e => hasFigure e.2)).foldl (fun s e => s.setFigure e.1) s

/-- Step 8 without one (R97): a fresh tamper-erasable secret, empty stores, instance 0 alone. -/
def State.restoreNone (s : State) : State :=
  let img : Durable := { dev := s.drec, inst := [(0, managerInst)] }
  { s with
    bat := { s.bat with secret := none }
    flash := { s.flash with copyA := some { seq := 1, img := img }, copyB := none }
    ks := { s.ks with keys := [], pages := [], remap := [], restore := 3, active := false }
    inst := [(0, ({ d := managerInst } : Inst).fill)] }

/-- Draws of step 8: the store key, the slot-integrity key, the flow hash key, and a tamper-erasable secret where there is none. -/
def State.drawKeys (s : State) : State :=
  let s := { s with
    ks := { s.ks with storeKey := s.drawn 32, slotKey := freeBytes (s.free + 32) 32 }
    disp := { s.disp with hashKey := freeBytes (s.free + 64) 32 }
    bat := { s.bat with secret := some (s.bat.secret.getD (freeBytes (s.free + 96) 32)) }
    prot := { s.prot with jitterKey := freeBytes (s.free + 128) 16 } }
  (s.generate s.mgmtDrbg 128).spend 144

/-- The START record stands first among the records of its start (Table 17.4). -/
def State.startRecord (s : State) : State :=
  if !s.ledger.opened then s.bump oLdgLost
  else
    let body := [BitVec.ofNat 8 s.prot.life, BitVec.ofNat 8 s.ks.restore] ++ le 2 (s.last.boot / 2 ^ 48) ++ [BitVec.ofNat 8 s.rng.state] ++ zeros 3
    { s with ledger := { s.ledger with pending := { typ := 0x01, body := body } :: s.ledger.pending } }

/-- Enabled sub-ports come up; a port starts at version 1 (R41). -/
def State.startPorts (s : State) : State :=
  if s.last.cur.isNone then s
  else
    let t := s.applyPorts {} s.cfg
    { t with ports := t.ports.mapT (fun _ p => { p with version := 1 }), mgmt := { t.mgmt with changed := s.mgmt.changed } }

/-- Step 9: enabled sub-ports come up, READY is set; the twin starts ALONE, without a TWIN section the device is ACTIVE (R407). -/
def State.becomeReady (ms : Nat) (s : State) : State :=
  let s := s.startPorts
  let s := { s with
    twin := { s.twin with active := !s.hasTwin, aloneSince := s.tick.count }
    dev := { s.dev with ready := true, step := 0, startMs := ms } }
  s.raise 0 oDevIrq 1

/-- Steps 7 to 9. -/
def State.startRest (e : StartEnv) (s : State) : State :=
  let copy := s.goodCopy e.snaps
  let s := { s with drec := match copy with | none => s.recovered | some (_, c) => c.img.dev }
  let s := s.bootLoad.frondDrbgs
  let s := match copy with | none => s.restoreNone | some (b, c) => s.restoreFrom b c
  let s := s.drawKeys.raise 6 oKsIrq 1
  let s := ((s.inst.filter (fun x => x.2.d.st != .free)).map Prod.fst).foldl (fun s i => s.instantiate (16 + i)) s
  (s.startRecord).becomeReady e.ms

/-- The firmware copy that runs: the valid one of higher serial, A when they are equal (R525). -/
def State.pickFirmware (s : State) : Option (Bool × Firmware) :=
  let a := s.flash.fwA
  let b := s.flash.fwB
  if a.valid && (!b.valid || decide (b.serial ≤ a.serial)) then some (false, a) else if b.valid then some (true, b) else none

/-- Steps 4 to 9. -/
def State.startCore (e : StartEnv) (invalid : Bool) (srcs : List Nat) (s : State) : State :=
  if !e.romOk then s.stopAt 4 2
  else
    let s := { s with dev := { s.dev with romDigest := Config.romDigest } }
    let s := s.decisions 2
    match s.pickFirmware with
    | none => s.stopAt 5 1
    | some (b, f) =>
      let s := { s with dev := { s.dev with fwB := b, fwSerial := f.serial, fwDigest := f.digest, regsUp := true }, fab := { s.fab with rules := bootRules } }
      let s := s.openLedger e.torn
      let s := s.when (!s.ledger.opened) (fun s => s.raise 16 oLdgIrq 0)
      let s := s.when invalid (fun s => s.localRec 0x16 ([2#8, 11#8] ++ zeros 6))
      let halts := s.stillHalting
      let s := srcs.foldl (fun s k => s.assertSource k) s
      let s : State := halts.foldl (fun (s : State) k => { s with prot := { s.prot with haltPending := some (setBit (s.prot.haltPending.getD 0) k) } }) s
      let s := s.noiseTest e.noise
      if s.rng.state = 2 then
        ((s.localRec 0x08 ([BitVec.ofNat 8 s.rng.failed, BitVec.ofNat 8 s.rng.cause] ++ zeros 6)).startRecord).stopAt 6 3
      else s.startRest e

/-- START_UP: the steps of Table 19.7. A zeroise source that asserts starts it again from step 1 (R523). -/
def State.startUp (e : StartEnv) (s : State) : State :=
  if !s.mayStart then s
  else
    let invalid := !s.bat.valid
    let s := s.batteryCheck
    let s := { s with prot := { s.prot with watching := true } }
    let srcs := s.startSources
    if srcs.any (fun k => s.responseOf k == 3) then
      let s := { s with bat := { s.bat with secret := none, sticky := srcs.foldl setBit s.bat.sticky } }
      s.deviceReset 4
    else
      let s := (State.decisions 1 { s with prot := { s.prot with life := s.fuses.decode } })
      if s.prot.life = 4 then s
      else if s.prot.life = 5 then
        { s with bat := { s.bat with secret := none }, dev := { s.dev with lost := true, step := 3 } }
      else s.startCore e invalid srcs

/-! ### Firmware (R525, R526) -/

/-- What is wrong with a firmware image of a length; the serial that runs. -/
def firmwareFail (running len : Nat) (b : Bytes) : Option Status :=
  let n := leAt b 16 4
  let body := slice b 128 n
  let sig := b.drop (128 + n)
  lowestFail
    [ (allZero (slice b 6 2) && allZero (slice b 20 4) && allZero (slice b 72 56), .reservedNonzero),
      (len == 128 + n + 4723 && b.length == len, .badLength),
      (leAt b 0 4 == 0x4657494D && leAt b 4 2 == 1 && decide (1 ≤ n ∧ n ≤ 16764416) && decide (running < leAt b 8 8), .badFieldValue),
      (sha384 body == slice b 24 48 &&
        doubleSigned Config.firmwareP384 Config.firmwareMlDsa (ascii "LV5120-FW") (b.take 128) (sig.take 96) (slice sig 96 4627), .firmwareInvalid) ]

/-- FIRMWARE_UPDATE: after validation the area that is not running is written. -/
def effFirmware (m : MCmd) (s : State) : Eff :=
  effChecks s [(m.early.isNone && s.dev.fwJob.isNone, .busy)]
    (let s := s.decisions 2
     match lower (if m.cmd.u 32 8 % 8 = 0 then none else some .badFieldValue) (firmwareFail s.dev.fwSerial (m.cmd.u 40 4) m.image) with
     | some st => .fail s st
     | none =>
       let slot := if s.dev.fwB then 0 else 1
       let f := s.flash
       let f := if slot = 0 then { f with fwA := { f.fwA with valid := false } } else { f with fwB := { f.fwB with valid := false } }
       { s := { s with flash := f, dev := { s.dev with fwJob := some { m := m, slot := slot } } }, st := none })

/-- FIRMWARE_WRITE_DONE: the copy reads back as written, or not. -/
def State.firmwareDone (ok : Bool) (s : State) : State :=
  match s.dev.fwJob with
  | none => s
  | some j =>
    let s := { s with dev := { s.dev with fwJob := none } }
    if !ok then s.finish j.m .firmwareInvalid
    else
      let b := j.m.image
      let x : Firmware := { valid := true, serial := leAt b 8 8, digest := sha384 (b.take 128), image := b }
      let f := s.flash
      let s := { s with flash := if j.slot = 0 then { f with fwA := x } else { f with fwB := x } }
      s.finish j.m .ok

end Sys2Proof.Machine
end

