-- ==== Sys2Proof/Machine/RegView.lean ====
section
/-! DEFINITION. What registers read (the register tables of Tables 2.8 to 20.3): fields that follow from the rest of the state, the others as
stored. -/

namespace Sys2Proof.Machine

/-! ### Helpers -/

/-- Bits of `a` outside a mask. -/
def andNot (a m : Nat) : Nat := a - (a &&& m)

/-- A 4-bit map over the sub-ports. -/
def subMap (p : Nat → Bool) : Nat := (List.range 4).foldl (fun a k => a + b2n (p k) * 2 ^ k) 0

/-- 64-bit word `k` of bytes, little-endian. -/
def word64 (b : Bytes) (k : Nat) : Nat := leAt b (8 * k) 8

/-- Engines of a kind in service: enabled and not retired (R20, R21). -/
def State.enginesOn (s : State) (kind : Nat) : Nat :=
  ((List.range ((unitNumbers kind).getD 0)).filter (fun k => s.inService (unitId kind k))).length

/-! ### Blocks -/

/-- DEV (Table 19.9). -/
def State.devLive (s : State) (o : Nat) : Option Nat :=
  let d := s.dev
  match o with
  | 0x00 => some (0x1F3D * 2 ^ 32 + 0x5120 * 2 ^ 16 + 0x10)
  | 0x08 => some Config.deviceSerial.toNat
  | 0x10 => some (d.cause * 2 ^ 16 + d.step * 2 ^ 8 + 4 * b2n d.lost + 2 * b2n d.stopped + b2n d.ready)
  | 0x18 => some d.resetCause
  | 0x20 => some d.startMs
  | 0x28 => some (b2n d.fwB)
  | 0x30 => some d.fwSerial
  | 0x38 => some (d.tempMax * 2 ^ 16 + d.temp)
  | 0x40 => some (d.millivolts.getD 0 0 + d.millivolts.getD 1 0 * 2 ^ 16 + d.millivolts.getD 2 0 * 2 ^ 32 + d.millivolts.getD 3 0 * 2 ^ 48)
  | _ => none

/-- TICK (Table 2.8). -/
def State.tickLive (s : State) (o : Nat) : Option Nat :=
  match o with
  | 0x00 => some (s.cfg.timing.fetch * 2 ^ 16 + s.cfg.timing.bound * 2 ^ 8 + s.cfg.timing.period)
  | 0x08 => some (s.tick.count % 2 ^ 64)
  | 0x10 => some (s.tick.count % 1000000 * 2 ^ 32 + s.epoch)
  | 0x18 => some (b2n s.tick.aligned * 2 ^ 32 + s.tick.offset % 2 ^ 32)
  | _ => none

/-- LAST_STATE.STATE. -/
def State.lastStateCode (s : State) : Nat :=
  let base := b2n s.last.cur.isSome
  match s.last.job with
  | none => base
  | some j => if j.boundary.isSome then 3 else if j.isOver then base else 2

/-- LAST (Table 7.10). -/
def State.lastLive (s : State) (o : Nat) : Option Nat :=
  let l := s.last
  if 0x20 ≤ o ∧ o ≤ 0x48 then some (word64 l.measure ((o - 0x20) / 8))
  else if 0x50 ≤ o ∧ o ≤ 0x68 then some (match s.drec.image with | none => 0 | some a => word64 a.ident ((o - 0x50) / 8))
  else match o with
    | 0x00 => some (b2n l.persisted * 2 ^ 16 + l.amendments * 2 ^ 8 + s.lastStateCode)
    | 0x08 => some l.serial
    | 0x10 => some l.amendSerial
    | 0x18 => some s.drec.floor
    | 0x70 => some l.result
    | 0x78 => some l.boot
    | 0x88 => some s.flash.store.used
    | _ => none

/-- MGMT (Table 2.9). -/
def State.mgmtLive (s : State) (o : Nat) : Option Nat :=
  let m := s.mgmt
  match o with
  | 0x10 => some m.sqTail
  | 0x18 => some m.sqHead
  | 0x30 => some m.cqHead
  | 0x38 => some m.cqTail
  | 0x50 => some (b2n m.ack)
  | 0x60 => some (b2n m.overflow * 2 ^ 33 + b2n (decide (65536 ≤ m.staged.length)) * 2 ^ 32 + m.staged.length)
  | 0x78 => some (m.urgAddr + b2n m.busy)
  | _ => none

/-- Resident slots of a store in use. -/
def State.slotsUsed (s : State) (store : Nat) : Nat := (s.ks.keys.filter (fun e => hStore e.2.handle == store && !e.2.deleted)).length

/-- KS (Table 3.14). -/
def State.ksLive (s : State) (o : Nat) : Option Nat :=
  match o with
  | 0x00 => some (s.ks.restore * 2 ^ 32 + s.slotsUsed 1)
  | 0x08 => some (s.slotsUsed 2)
  | 0x30 => some (b2n s.ks.baseBusy * 2 ^ 40 + b2n s.ks.active * 2 ^ 32 + s.ks.fill)
  | 0x38 => some s.copy.seq
  | _ => none

/-- KPG (Table 3.15). -/
def State.kpgLive (s : State) (o : Nat) : Option Nat :=
  match o with
  | 0x20 => some s.ks.noticeTail
  | 0x28 => some s.ks.noticeHead
  | 0x30 => some ((s.ks.pages.filter (fun e => e.2.frozen)).length * 2 ^ 32 + s.ks.remap.length)
  | _ => none

/-- Posted slots of an instance whose messages the device has copied. -/
def State.postedSlots (s : State) (i : Nat) : Nat :=
  slotsOf (s.instOf i).busyOut |>.foldl (fun a k => if s.pcie.outWait.contains (i, k) then a else a + 2 ^ k) 0

/-- INST (Table 14.11), and its copies in a VF. -/
def State.instView (s : State) (i o : Nat) : Option Nat :=
  let x := s.instOf i
  let l := x.d.lim
  let own (v : Nat) : Option Nat := some (if x.d.st = .free then 0 else v)
  match o with
  | 0x00 => some (x.d.version * 2 ^ 32 + b2n (s.quiet i) * 2 ^ 16 + x.d.stateCode)
  | 0x08 => own (l.asym * 2 ^ 32 + l.sym)
  | 0x10 => own (l.sessions * 2 ^ 32 + l.flows)
  | 0x18 => own (l.fronds * 2 ^ 48 + l.weight * 2 ^ 32 + l.qps)
  | 0x20 => own (l.field * 2 ^ 32 + l.cipher)
  | 0x28 => own l.pk
  | 0x30 => some (s.resident i 2 * 2 ^ 32 + s.resident i 1)
  | 0x38 => some (s.sessionsOf i * 2 ^ 32 + s.flowsOf i)
  | 0x40 => some ((s.eng.ctxs.filter (fun e => e.2.inst == i)).length * 2 ^ 32 + (s.queuesOf i).length * 2 ^ 18 +
      (s.disp.items.filter (fun e => e.2.inst == i && e.2.admitted)).length)
  | 0x48 => some x.d.inc
  | 0x50 => some x.d.counter
  | 0x60 => some x.pendIn
  | 0x68 => some (x.busyOut * 2 ^ 16)
  | 0x80 => some x.logTail
  | 0x88 => some x.logHead
  | 0x98 => some (b2n x.logOver * 2 ^ 32 + min x.logCount (2 ^ 32 - 1))
  | _ => none

/-- DISP (Table 8.8). A delay list's entries are its items (log 27). -/
def State.dispLive (s : State) (o : Nat) : Option Nat :=
  let d := s.disp
  let held (q : Nat) : Nat := (d.items.filter (fun e => e.2.stage == .held && e.2.frond / 4 == q)).length
  if 0x80 ≤ o ∧ o ≤ 0xF8 then
    let f := (o - 0x80) / 8
    some (s.admittedOn f * 2 ^ 32 + (s.readyOn f).length)
  else if 0x30 ≤ o ∧ o ≤ 0x48 then some (held ((o - 0x30) / 8))
  else match o with
    | 0x00 => some s.cfg.disp.affinity
    | 0x08 => some s.cfg.disp.linger
    | 0x10 => some (s.cfg.disp.xon * 2 ^ 8 + s.cfg.disp.xoff)
    | 0x18 => some (d.flows.filter (fun e => decide (e.1 < 1044480))).length
    | 0x28 => some (d.items.filter (fun e => e.2.admitted)).length
    | 0x68 => some (d.planEpoch * 2 ^ 32 + d.planMoves * 2 + b2n d.frozen)
    | _ => none

/-- PORT (Table 9.16). -/
def State.portLive (s : State) (p o : Nat) : Option Nat :=
  let has (f : SubDef → Bool) (k : Nat) : Bool := match s.subDef p k with | none => false | some d => f d
  let st (f : SubPort → Bool) (k : Nat) : Bool := f (s.subOf p k)
  match o with
  | 0x00 => some (subMap (has (fun d => d.presence)) * 2 ^ 16 + subMap (has (fun d => d.lldp)) * 2 ^ 12 +
      subMap (has (fun d => d.macsec)) * 2 ^ 8 + subMap (has (fun d => d.enabled)) * 2 ^ 4 + (s.portDef p).mode)
  | 0x08 => some (subMap (st (fun x => x.training)) * 2 ^ 12 + subMap (st (fun x => x.solitary)) * 2 ^ 8 +
      subMap (st (fun x => x.link)) * 2 ^ 4 + subMap (st (fun x => x.admin)))
  | 0x10 => some (s.sessWhere (fun _ x => x.port == p && x.st == .opened)).length
  | 0x88 => some ((s.portOf p).peers.length * 2 ^ 32 + s.fld (portReg oPortPeers p) 31 0)
  | _ => none

/-- A doorbell of a function's local index: the value last accepted. -/
def State.doorbellLive (s : State) (fn q : Nat) (cq : Bool) : Nat :=
  match s.queueAt fn q with | none => 0 | some (_, x) => if cq then x.cqHead else x.sqTail

/-- HQ (Table 10.12). -/
def State.hqLive (s : State) (o : Nat) : Option Nat :=
  match o with
  | 0x00 => some (s.queues.length * 2 ^ 32 + if s.pcie.vfEnable then s.pcie.numVfs else 0)
  | 0x08 => some (b2n s.pcie.flit * 2 ^ 12 + s.pcie.width * 2 ^ 4 + s.pcie.rate)
  | _ => none

/-- CIPH (Table 11.8). -/
def State.ciphLive (s : State) (o : Nat) : Option Nat :=
  if 0x100 ≤ o ∧ o < 0x900 ∧ o % 32 = 0 then
    let p := (o - 0x100) / 32
    let an := (List.range 4).foldl (fun a k => a + (match (s.subOf p k).txUse with | none => 0 | some x => x.an % 4) * 4 ^ k) 0
    some (subMap (fun k => (s.subOf p k).stalled) * 2 ^ 12 + subMap (fun k => (s.subOf p k).pnWarn) * 2 ^ 8 + an)
  else match o with
    | 0x00 => some (s.enginesOn 1 * 2 ^ 32 + s.enginesOn 2 * 2 ^ 16 + s.enginesOn 3)
    | 0x08 => some s.eng.ctxs.length
    | _ => none

/-- PK (Table 12.5). -/
def State.pkLive (s : State) (o : Nat) : Option Nat :=
  let count (p : PkJob → Bool) : Nat := (s.eng.jobs.filter (fun e => p e.2)).length
  if 0x100 ≤ o ∧ o ≤ 0x178 then
    let f := (o - 0x100) / 8
    let on := s.jobsOn f (fun j => j.placed)
    some ((s.jobsOn f (fun j => !j.placed)).length * 2 ^ 32 + (on.filter (fun e => e.2.bounded)).length * 2 ^ 16 +
      on.foldl (fun a e => a + e.2.frames) 0)
  else match o with
    | 0x00 => some (s.enginesOn 6 * 2 ^ 32 + s.enginesOn 5)
    | 0x08 => some (count (fun j => !j.placed) * 2 ^ 32 + count (fun j => j.placed))
    | _ => none

/-- KUM (Table 13.12). -/
def State.kumLive (s : State) (o : Nat) : Option Nat :=
  let k := s.kum
  if 0x70 ≤ o ∧ o ≤ 0x88 then some (word64 identityHash ((o - 0x70) / 8))
  else match o with
    | 0x10 => some k.sqTail
    | 0x18 => some k.sqHead
    | 0x30 => some k.cqHead
    | 0x38 => some k.cqTail
    | 0x48 => some (k.msgs.length * 2 ^ 32 + match k.ceremony with
        | none => 0
        | some c => c.inst * 2 ^ 16 + c.parts.length * 2 ^ 8 + 1)
    | 0x50 => some s.drec.counter
    | 0x90 => some (rosterM s.drec.roster * 2 ^ 8 + rosterN s.drec.roster)
    | _ => none

/-- RESYNC_PCT: zero while ALONE; in RESYNC and PAIRED the spec gives no figure, a free value up to 100 (log 1). -/
def State.resyncPct (s : State) : Nat := if s.twin.pair = 0 then 0 else s.drawnNat 101

/-- TWIN (Table 15.6). -/
def State.twinLive (s : State) (o : Nat) : Option Nat :=
  let t := s.twin
  let sec (f : TwinSec → Nat) : Option Nat := some (match s.cfg.twin with | none => 0 | some x => f x)
  match o with
  | 0x00 => sec (fun x => x.role * 2 ^ 32 + b2n x.autoReturn * 2 ^ 16 + x.holdOff)
  | 0x08 => sec (fun x => x.partner)
  | 0x10 => some (t.lanes * 2 ^ 16 + t.pair * 2 ^ 8 + 16 * b2n t.rejected + 8 * b2n t.promoteFailed + 4 * b2n t.returnHeld +
      2 * b2n t.fenced + b2n t.active)
  | 0x18 => some s.drec.claim
  | 0x20 => some t.partnerClaim
  | 0x40 => some (t.acks.length * 2 ^ 8 + s.resyncPct)
  | 0x58 => some (t.lastChange % 2 ^ 64)
  | _ => none

/-- PROT (Table 16.10). -/
def State.protLive (s : State) (o : Nat) : Option Nat :=
  let p := s.prot
  if 0x48 ≤ o ∧ o ≤ 0x60 then some (word64 (p.nonce.getD []) ((o - 0x48) / 8))
  else match o with
    | 0x00 => some p.life
    | 0x08 => some s.fuses.sensed
    | 0x10 => some s.bat.sticky
    | 0x18 => some ((List.range 16).foldl (fun a k => if bit p.live k && s.watched k then a + 2 ^ k else a) 0)
    | 0x20 => some s.responses
    | 0x30 => some (b2n p.halted * 2 ^ 16 + p.haltCause)
    | 0x40 => some p.debug
    | _ => none

/-- RNG (Table 16.11). -/
def State.rngLive (s : State) (o : Nat) : Option Nat :=
  match o with
  | 0x00 => some (s.rng.failed * 2 ^ 32 + s.rng.cause * 2 ^ 16 + s.rng.state)
  | 0x08 => some s.thresholds
  | 0x60 => some s.rng.test
  | _ => none

/-- LDG_STATUS.CAUSE. -/
def State.ledgerCause (s : State) : Nat :=
  if s.ledger.failed then Status.ledgerUnavailable.code else if s.ledger.worn then Status.ledgerWorn.code else 0

/-- Blocks of the first area in use. -/
def Flash.firstBlocks (f : Flash) : Nat :=
  min 16384 (16 * f.first.sector + f.first.block + b2n (decide (blockStart f.first.block < f.first.byte)))

/-- LDG (Table 17.9). -/
def State.ldgLive (s : State) (o : Nat) : Option Nat :=
  let l := s.ledger
  let f := s.flash
  match o with
  | 0x00 => some (s.ledgerCause * 2 ^ 48 + 16 * b2n (decide (firstSectors ≤ f.first.sector)) + 8 * b2n l.opened +
      4 * b2n (l.opened && !l.verified) + 2 * b2n l.worn + b2n s.ledgerOk)
  | 0x08 => some (if f.present then f.cs1 * 2 ^ 32 + f.cs0 * 2 ^ 16 + b2n f.ok else 0)
  | 0x10 => some l.nextSeq
  | 0x18 => some f.firstBlocks
  | 0x20 => some (f.head.sector * 2 ^ 32 + f.inService)
  | 0x28 => some (f.spares * 2 ^ 32 + f.retired)
  | 0x30 => some f.enduranceOf
  | 0x38 => some f.circMinOf
  | 0x40 => some (l.damaged * 2 ^ 32 + 2 * b2n l.brk + b2n l.verified)
  | 0x48 => some s.bat.hours
  | 0x50 => some s.bat.cycles
  | 0x58 => some s.lastSeal
  | _ => none

/-- CARD (Table 17.10): the clock runs while a card access does. -/
def State.cardLive (s : State) (o : Nat) : Option Nat :=
  let c := s.card
  let mhz := if c.fast then 50 else if c.typ = 4 then 20 else 25
  let bus := if c.typ = 0 then 0 else if c.wide then 2 else 1
  match o with
  | 0x00 => some ((if c.job.isSome then mhz else 0) * 2 ^ 16 + b2n c.wp * 2 ^ 11 + b2n c.detect * 2 ^ 10 + bus * 2 ^ 8 + c.typ * 2 ^ 4 + c.state)
  | 0x08 => some c.blocks
  | 0x10 => some (word64 c.cid 0)
  | 0x18 => some (word64 c.cid 1)
  | _ => none

/-- FAB (Table 18.6). -/
def State.fabLive (s : State) (o : Nat) : Option Nat :=
  let quad (f : Nat → Nat) (w : Nat) : Nat := (List.range 4).foldl (fun a q => a + f q * 2 ^ (w * q)) 0
  let rule := s.fab.rules[s.reg oFabRuleSelect]?
  match o with
  | 0x00 => some (quad (fun q => b2n (s.fab.tests.has q)) 1 * 16 + quad (fun q => b2n (decide (16 ≤ s.retiredIn q))) 1)
  | 0x18 => some (s.drec.engines.length * 2 ^ 32 + s.drec.banks.length)
  | 0x20 => some (quad s.sparesFree 5)
  | 0x50 => some (match rule with | none => 0 | some r => r.base + 1)
  | 0x58 => some (match rule with | none => 0 | some r => r.pages * 2 ^ 32 + r.perm)
  | _ => none

/-! ### Reading -/

/-- A register of PF0's BAR0 that reads as the state says. -/
def State.live (s : State) (b : BlockDef) (off : Nat) : Option Nat :=
  let o := b.rel off
  match b.num with
  | 0 => s.devLive o | 1 => s.tickLive o | 2 => s.lastLive o | 3 => s.mgmtLive o | 4 => s.instView (b.copy off) o | 5 => s.dispLive o
  | 6 => s.ksLive o | 7 => s.kpgLive o | 8 => s.portLive (b.copy off) o | 9 => s.hqLive o | 10 => s.ciphLive o | 11 => s.pkLive o
  | 12 => s.kumLive o | 13 => s.twinLive o | 14 => s.protLive o | 15 => s.rngLive o | 16 => s.ldgLive o | 17 => s.cardLive o
  | 18 => s.fabLive o
  | _ => if o = 0x00 then some s.errPending else if o = 0x20 then some s.errCode else none

/-- What a listed register reads: reserved fields read zero (R4). -/
def State.view (s : State) (b : BlockDef) (r : RegDef) (off : Nat) : Nat := andNot ((s.live b off).getD (s.reg off) % 2 ^ 64) r.rsv

/-- A read clears RC fields (R4, R534). -/
def State.clearRc (b : BlockDef) (r : RegDef) (off : Nat) (s : State) : State :=
  let s := s.setReg off (andNot (s.reg off) r.rc)
  let o := b.rel off
  if b.num = 19 ∧ o = 0 then { s with errPending := 0 }
  else if b.num = 19 ∧ o = 0x20 then { s with errCode := 0 }
  else if b.num = 4 ∧ o = 0x98 ∧ s.inst.has (b.copy off) then s.modInst (b.copy off) (fun x => { x with logOver := false, logCount := 0 })
  else s

/-- The registers of a VF's BAR0 (Tables 10.3, 10.4, 14.12): RW and reserved bits; none: a reserved offset. -/
def vfReg (o : Nat) : Option RegDef :=
  let all := 2 ^ 64 - 1
  if o ≤ 0x50 then some ⟨o, 0, 0, 0, 0⟩
  else if o = 0x100 then some ⟨o, 0x703, 0, all - 0x703, 0⟩
  else if o = 0x1000 then some ⟨o, all - 0x3FF, 0, 0x3FF, 0⟩
  else if o = 0x1008 ∨ o = 0x1010 then some ⟨o, 0xFFFF, 0, all - 0xFFFF, 0⟩
  else if 0x1400 ≤ o ∧ o < 0x1800 then some ⟨o, all, 0, 0, 0⟩
  else if 0x2000 ≤ o ∧ o < 0x3000 then some ⟨o, 0xFFFF, 0, all - 0xFFFF, 0⟩
  else if o = 0x3000 then some ⟨o, 0, all, 0, 0⟩
  else none

/-- What a VF's register reads. -/
def State.vfView (s : State) (n o : Nat) : Nat :=
  if o ≤ 0x50 then (match regAt (0x100000 + 256 * n + o) with
    | none => 0
    | some r => andNot ((s.instView n o).getD 0 % 2 ^ 64) r.rsv)
  else if o = 0x1008 then (s.instOf n).pendIn
  else if o = 0x1010 then s.postedSlots n
  else if 0x1400 ≤ o ∧ o < 0x1800 then word64 (padTo 64 ((s.instOf n).slots.getD ((o - 0x1400) / 64) [])) (o % 64 / 8)
  else if 0x2000 ≤ o ∧ o < 0x3000 then s.doorbellLive n ((o - 0x2000) / 16) (o % 16 == 8)
  else s.reg (vfBase n + o)

/-! ### The MSI-X structures (R299) -/

/-- The MSI-X table of a function lies at an offset of its BAR0. -/
def inMsixTable (fn o : Nat) : Bool := if fn = 0 then decide (0xE00000 ≤ o ∧ o < 0xE08000) else decide (0x4000 ≤ o ∧ o < 0x4080)

/-- The pending-bit array. -/
def inMsixPba (fn o : Nat) : Bool := if fn = 0 then decide (0xE10000 ≤ o ∧ o < 0xE10100) else decide (0x5000 ≤ o ∧ o < 0x5008)

/-- Where a function's BAR0 offset stands in the register store, and its address in the interconnect (R497). -/
def regStore (fn o : Nat) : Nat := if fn = 0 then o else vfBase fn + o

/-- A 64-bit word of the pending-bit array. -/
def State.pbaWord (s : State) (fn k : Nat) : Nat :=
  (List.range 64).foldl (fun a j => if s.pcie.msixPend.contains (fn, 64 * k + j) then a + 2 ^ j else a) 0

/-- The 64-bit word of the MSI-X structures that holds an offset. -/
def State.msixWord (s : State) (fn o : Nat) : Nat :=
  let w := o / 8 * 8
  if inMsixPba fn o then s.pbaWord fn (if fn = 0 then (w - 0xE10000) / 8 else 0) else s.reg (regStore fn w)

end Sys2Proof.Machine
end

