-- ==== Sys2Proof/Machine/RegAccess.lean ====
section
/-! DEFINITION. Accesses to registers (R3, R4, R9, R299, R453, R497-R499, R524): checks, reads that clear, writes and their effects. -/

namespace Sys2Proof.Machine

/-! ### Writes -/

/-- A source's response in PROT_RESPONSE is legal (R446). -/
def responseLegal (v : Nat) : Bool :=
  (List.range 16).all (fun k => let r := v / 4 ^ k % 4; r != 0 && (!([6, 7, 14, 15].contains k) || r == 3))

/-- RNG_THRESHOLDS is legal (R446). -/
def thresholdsLegal (v : Nat) : Bool :=
  let pair (lo hi : Nat) : Bool := decide (lo < hi ∧ 1024 ≤ lo ∧ hi ≤ 3072)
  pair (bits v 12 0) (bits v 28 16) && pair (bits v 43 32) (bits v 59 48)

/-- The field checks of a write, in the order of their codes (R4, R531; R55-R57, R102, R340, R375, R403, R425, R446, R484, R506, R527,
R535). -/
def State.writeChecks (s : State) (b : BlockDef) (off v : Nat) : List (Bool × Status) :=
  let o := b.rel off
  let within (lo hi : Nat) : Bool × Status := (decide (lo ≤ v ∧ v ≤ hi), .badFieldValue)
  let idle (r : Nat) : Bool × Status := (!bit (s.reg r) 0, .busy)
  let below (r : Nat) : Bool × Status := (decide (v < s.ringSize r), .badFieldValue)
  match b.num with
  | 0 => if o = 0x50 then [(decide (signed16 v ≤ 1680), .badFieldValue)] else []
  | 3 =>
    if o = 0x00 ∨ o = 0x20 ∨ o = 0x40 then [idle oMgmtControl]
    else if o = 0x08 ∨ o = 0x28 then [within 6 16, idle oMgmtControl]
    else if o = 0x10 then [below oMgmtSqSize]
    else if o = 0x30 then [below oMgmtCqSize]
    else if o = 0x48 then [within 1 1048576]
    else if o = 0x68 then [within 100 100000]
    else if o = 0x78 then [(v / 128 != 0, .badFieldValue), (!s.mgmt.busy, .busy)]
    else []
  | 4 =>
    let ctl := instReg oInstLogControl (b.copy off)
    if o = 0x70 then [idle ctl]
    else if o = 0x78 then [within 6 20, idle ctl]
    else if o = 0x88 then [below (instReg oInstLogSize (b.copy off))]
    else if o = 0x90 then [(v == 0 || b.copy off != 0, .badFieldValue)]
    else []
  | 7 =>
    if o = 0x00 ∨ o = 0x10 then [idle oKpgControl]
    else if o = 0x18 then [within 6 20, idle oKpgControl]
    else if o = 0x28 then [below oKpgNoticeSize]
    else []
  | 10 => if o = 0x10 then [within 1000 (2 ^ 32 - 1)] else if o = 0x30 then [within 1 0xFFFFFFFF] else []
  | 12 =>
    if o = 0x00 ∨ o = 0x20 then [idle oKumControl]
    else if o = 0x08 ∨ o = 0x28 then [within 4 12, idle oKumControl]
    else if o = 0x10 then [below oKumSqSize]
    else if o = 0x30 then [below oKumCqSize]
    else if o = 0x68 then [within 10 3600]
    else []
  | 13 => if o = 0x28 then [(!(s.twin.active && s.hasTwin), .busy)] else []
  | 14 => if o = 0x20 then [(responseLegal v, .badFieldValue), (decide (s.prot.life ≤ 1), .lifecycleForbidden)] else []
  | 15 => if o = 0x08 then [(thresholdsLegal v, .badFieldValue), (decide (s.prot.life ≤ 1), .lifecycleForbidden)] else []
  | 16 => if o = 0x30 then [within 1000 1000000] else if o = 0x38 then [within 64 1536] else []
  | 18 => if o = 0x28 then [within 256 1048575] else if o = 0x48 then [within 0 1023] else []
  | 19 => if o = 0x18 then [(Status.all.any (fun c => c.code == v), .badFieldValue)] else []
  | _ => []

/-- A post in INST_MBX_OUT: the messages as the device reads them. -/
def State.postWrite (i v : Nat) (msgs : Bytes) (fault : Bool) (s : State) : State :=
  match s.mbxPost i v msgs fault with
  | .ok t => t
  | .error st => s.reject (instReg oInstMbxOut i) st

/-- PROT_DEBUG's two write-only bits. -/
def State.debugWrite (v : Nat) (s : State) : State :=
  (s.when (bit v 9) State.revokeDebug).when (bit v 8) State.newNonce

/-- Set KPG_CONTROL: page fetches that wait for ENABLE are issued (R102). -/
def State.pagingWrite (v : Nat) (s : State) : State :=
  let was := bit (s.reg oKpgControl) 0
  let s := s.setReg oKpgControl v
  if was || !bit v 0 || !s.mayDma 0 then s else s.ks.fetches.foldl (fun s e => (s.bump64 oKpgFetches 1).emit (.pageRead e.1)) s

/-- The effect of a write that has passed every check: RW fields take the value written. -/
def State.writeEffect (b : BlockDef) (r : RegDef) (off v : Nat) (s : State) : State :=
  let o := b.rel off
  let i := b.copy off
  let store : State := s.setReg off (andNot (s.reg off) r.rw + (v &&& r.rw))
  match b.num with
  | 0 => if o = 0x48 then s.resetRequest v else store
  | 3 =>
    if o = 0x10 then { s with mgmt := { s.mgmt with sqTail := v } }
    else if o = 0x30 then
      let s : State := { s with mgmt := { s.mgmt with cqHead := v } }
      s.releaseHeld (s.mgmt.held.length + 1)
    else if o = 0x50 then { s with mgmt := { s.mgmt with ack := bit v 0 } }
    else if o = 0x78 then { s with mgmt := { s.mgmt with urgAddr := v / 128 * 128, busy := true, urgRead := false } }
    else store
  | 4 =>
    if o = 0x60 then s.when (s.inst.has i) (State.mbxAck i v)
    else if o = 0x68 then (s.postWrite i (v % 65536) (s.drawn 1024) false).spend 1024
    else if o = 0x88 then s.modInst i (fun x => { x with logHead := v })
    else store
  | 7 => if o = 0x08 then s.pagingWrite v else if o = 0x28 then s.noticeHeadMoved v else store
  | 12 =>
    if o = 0x10 then { s with kum := { s.kum with sqTail := v } }
    else if o = 0x30 then
      let s : State := { s with kum := { s.kum with cqHead := v } }
      s.releaseKum (s.kum.held.length + 1)
    else store
  | 14 => if o = 0x40 then s.debugWrite v else store
  | 15 => if o = 0x60 then s.rngTestControl v else if o = 0x68 then s.rngTestData v else store
  | 16 =>
    if o = 0x30 then { s with flash := { s.flash with endurance := some v } }
    else if o = 0x38 then State.checkWorn { s with flash := { s.flash with circMin := some v } }
    else store
  | 19 => if o = 0x18 then { store with errCode := 0 } else store
  | _ => store

/-- A write of a listed register of PF0's BAR0 (R4). -/
def State.writeListed (b : BlockDef) (r : RegDef) (off v : Nat) (s : State) : State :=
  let v := v % 2 ^ 64
  if v &&& r.rsv ≠ 0 then s.reject off .reservedNonzero
  else if r.rw = 0 then s
  else
    let v := v &&& r.rw
    match firstFail (s.writeChecks b off v) with
    | some st => s.reject off st
    | none => s.writeEffect b r off v

/-- Store a 32- or 64-bit write into the MSI-X table: the vector control word keeps its mask bit alone; a vector that is unmasked sends what
is pending. The pending bits are read-only. -/
def State.msixWrite (fn o size v : Nat) (s : State) : State :=
  if inMsixPba fn o then s
  else
    let w := regStore fn (o / 8 * 8)
    let x := if size = 8 then v % 2 ^ 64 else if o % 8 = 0 then putBits (s.reg w) 31 0 v else putBits (s.reg w) 63 32 v
    let x := if isMsixControl w then x % 2 ^ 32 + b2n (bit x 32) * 2 ^ 32 else x
    let s := s.setReg w x
    let k := (if fn = 0 then o - 0xE00000 else o - 0x4000) / 16
    if s.pcie.msixPend.contains (fn, k) && !bit (s.reg (msixControl fn k)) 32 && s.mayDma fn then
      State.msix fn k { s with pcie := { s.pcie with msixPend := s.pcie.msixPend.filter (fun e => e != (fn, k)) } }
    else s

/-- A write of a listed register of VF `n`'s BAR0. -/
def State.vfWriteListed (n o v : Nat) (r : RegDef) (s : State) : State :=
  let v := v % 2 ^ 64
  if v &&& r.rsv ≠ 0 then s.rejectVf n o .reservedNonzero
  else if r.rw = 0 then s
  else if o = 0x1008 then (match s.mbxSend n v with | .ok t => t | .error st => s.rejectVf n o st)
  else if o = 0x1010 then s.when (s.inst.has n) (State.mbxRelease n v)
  else if 0x1400 ≤ o ∧ o < 0x1800 then
    let k := (o - 0x1400) / 64
    s.modInst n (fun x =>
      let b := padTo 64 (x.slots.getD k [])
      { x with slots := x.slots.set k (b.take (o % 64) ++ le 8 v ++ b.drop (o % 64 + 8)) })
  else s.setReg (vfBase n + o) (v &&& r.rw)

/-! ### The path of an access -/

/-- Where an access comes from: a function's BAR, at level 2 or 3, or debug at level 4 (R497). -/
def levelOf (debug : Bool) (fn : Nat) : Nat := if debug then 4 else if fn = 0 then 2 else 3

/-- An access that R3 lets pass, or the status of its rejection: 64 bits, aligned; in the MSI-X structures also 32 bits, aligned. -/
def accessOk (fn o size : Nat) : Bool := (size == 8 && o % 8 == 0) || ((inMsixTable fn o || inMsixPba fn o) && size == 4 && o % 4 == 0)

/-- What stops an access before the register: a rejection (R3, R524), a denial (R499); the state after it. -/
def State.barred (debug : Bool) (fn o size kind : Nat) (s : State) : Option State :=
  if !accessOk fn o size then some (s.rejectFn fn o .badAlignment)
  else if !s.dev.regsUp then (if fn = 0 ∧ o < 0x10000 then none else some (s.rejectFn fn o .busy))
  else
    let s := s.decisions 1
    if s.allowed (levelOf debug fn) kind (regStore fn o) then none else some (s.denied (levelOf debug fn) (regStore fn o))

/-- A PF0 offset that holds a doorbell (R301). -/
def isDoorbell (o : Nat) : Bool := decide (0x501000 ≤ o ∧ o < 0x502000)

/-- A write that reaches its register. -/
def State.writeReg (fn o size v : Nat) (s : State) : State :=
  if inMsixTable fn o || inMsixPba fn o then s.msixWrite fn o size v
  else if fn ≠ 0 then
    if 0x2000 ≤ o ∧ o < 0x3000 then s.doorbellWrite fn ((o - 0x2000) / 16) (v % 2 ^ 64) (o % 16 == 8)
    else match vfReg o with
      | none => s.rejectVf fn o .badFieldValue
      | some r => s.vfWriteListed fn o v r
  else if isDoorbell o then s.doorbellWrite 0 ((o - 0x501000) / 16) (v % 2 ^ 64) (o % 16 == 8)
  else match blockOf o, regAt o with
    | some b, some r => s.writeListed b r o v
    | _, _ => s.reject o .badFieldValue

/-- The value that a read of a register answers. -/
def State.readValue (s : State) (fn o size : Nat) : Nat :=
  if inMsixTable fn o || inMsixPba fn o then
    let w := s.msixWord fn o
    if size = 8 then w else if o % 8 = 0 then w % 2 ^ 32 else w / 2 ^ 32
  else if fn ≠ 0 then (match vfReg o with | none => 0 | some _ => s.vfView fn o)
  else if isDoorbell o then s.doorbellLive 0 ((o - 0x501000) / 16) (o % 16 == 8)
  else match blockOf o, regAt o with
    | some b, some r => s.view b r o
    | _, _ => 0

/-- What a read changes: RC fields clear; a read outside every block is latched (R9); RESYNC_PCT's free value is used up. -/
def State.readEffect (fn o : Nat) (s : State) : State :=
  if inMsixTable fn o || inMsixPba fn o then s
  else if fn ≠ 0 then s.when (o == 0x3000) (State.setReg (vfBase fn + 0x3000) 0)
  else match blockOf o with
    | none => s.reject o .badFieldValue
    | some b => match regAt o with
      | none => s
      | some r => (s.clearRc b r o).when (o == oTwinMirror) (State.spend 8)

/-- The host reaches the function's BAR: the rails are up, PERST_N is high, the device is not SCRAPPED (R449), the function is in D0. -/
def State.hostSees (s : State) (fn o : Nat) : Bool :=
  s.dev.rails && !s.dev.perstLow && s.prot.life != 4 && s.hasFn fn && !s.pcie.d3.contains fn && decide (o < (if fn = 0 then 2 ^ 26 else 2 ^ 16))

/-- A write to a register, from a function's BAR or from debug. -/
def State.busWrite (debug : Bool) (fn o size v : Nat) (s : State) : State :=
  match s.barred debug fn o size 1 with
  | some t => t
  | none => (s.when s.dev.regsUp (State.decisions 1)).writeReg fn o size v

/-- A read of a register: its answer is sent out; zero where it is barred. -/
def State.busRead (debug : Bool) (fn o size : Nat) (s : State) : State :=
  match s.barred debug fn o size 0 with
  | some t => t.emit (.value 0)
  | none =>
    let s := s.when s.dev.regsUp (State.decisions 1)
    (s.readEffect fn o).emit (.value (s.readValue fn o size))

/-- REGISTER_WRITE. -/
def State.hostWriteReg (a : RegAccess) (s : State) : State := if s.hostSees a.fn a.off then s.busWrite false a.fn a.off a.size a.value else s

/-- REGISTER_READ and RC_REGISTER_READ. -/
def State.hostReadReg (a : RegAccess) (s : State) : State := if s.hostSees a.fn a.off then s.busRead false a.fn a.off a.size else s

/-- A 64-bit write of PF0's BAR0: the rows that name one register. -/
def State.pfWrite (off v : Nat) (s : State) : State := s.hostWriteReg { fn := 0, off := off, size := 8, value := v }

/-- A 64-bit write of an instance's VF. -/
def State.vfReg64 (n o v : Nat) (s : State) : State := s.hostWriteReg { fn := n, off := o, size := 8, value := v }

/-- INST_MBX_OUT_POST: the post with the messages that the device reads from the manager's buffer. -/
def State.mbxOutPost (i v : Nat) (msgs : Bytes) (fault : Bool) (s : State) : State :=
  let off := instReg oInstMbxOut i
  if 4096 ≤ i || !s.hostSees 0 off then s
  else match s.barred false 0 off 8 1 with
    | some t => t
    | none =>
      let s := s.decisions 1
      if v % 2 ^ 64 / 2 ^ 32 ≠ 0 then s.reject off .reservedNonzero else s.postWrite i (v % 65536) msgs fault

/-! ### Debug (R453, R497) -/

/-- The function and offset of an interconnect address in register space (R497). -/
def regSpace (a : Nat) : Option (Nat × Nat) :=
  if a < 2 ^ 26 then some (0, a)
  else if 2 ^ 32 + 0x10000 ≤ a ∧ a < 2 ^ 32 + 0x10000000 then some ((a - 2 ^ 32) / 0x10000, a % 0x10000)
  else none

/-- The parts of an access, split at 4 KiB boundaries: the address of each (R499). -/
def partsOf (a n : Nat) : List Nat := (pagesOf a n).map (fun p => max a (4096 * p))

/-- DEBUG_ACCESS: OBSERVE reads, FULL reads and writes; without a level there is boundary scan alone. Outside register space no rule covers
an access, and each part is denied. -/
def State.debugAccess (d : DebugAcc) (s : State) : State :=
  let n := d.data.length
  if !s.dev.rails || s.prot.debug = 0 || n = 0 then s
  else if d.write && s.prot.debug != 2 then (partsOf d.addr n).foldl (fun s a => s.denied 4 a) s
  else match regSpace d.addr with
    | some (fn, o) => if d.write then s.busWrite true fn o n (ofLe d.data) else s.busRead true fn o n
    | none =>
      let s := (partsOf d.addr n).foldl (fun s a => (s.decisions 1).denied 4 a) s
      if d.write then s else s.emit (.data (zeros n))

end Sys2Proof.Machine
end

