-- ==== Sys2Proof/Machine/Boundaries.lean ====
section
/-! DEFINITION. Tick and epoch boundaries (R33, R34, R45-R47), descriptor fetches (R43, R46, R57), the plane commands (Table 2.5), and the table
of every management command's effect. -/

namespace Sys2Proof.Machine

/-! ### Plane commands (Table 2.5) -/

/-- EPOCH_FENCE. -/
def effFence (_ : MCmd) (s : State) : Eff := { s := s }

/-- READ_STATE. -/
def effReadState (m : MCmd) (s : State) : Eff := { s := s.overwrite m 32 (le 4 (s.unitState m.cmd.unitType m.cmd.unit)) }

/-- DIGEST_RESYNC: it changes no unit; the reserved unit types have no bit. -/
def effResync (m : MCmd) (s : State) : Eff :=
  let t := byteAt m.cmd.desc 32
  effChecks s [(!bit t 0, .badFieldValue)] { s := { s with mgmt := { s.mgmt with resync := s.mgmt.resync ||| t } } }

/-! ### Every management command -/

/-- Effects of the commands 0x80xx to 0x82xx. -/
def planeEffect (code : Nat) : Option (MCmd → State → Eff) :=
  match code with
  | 0x8001 => some effFence | 0x8002 => some effReadState | 0x8003 => some effResync
  | 0x8101 => some effPageRange | 0x8102 => some effPin | 0x8103 => some effKeyInfo | 0x8104 => some effPageRetry
  | 0x8105 => some effSnapshotBase | 0x8110 => some effCeremonyBegin | 0x8111 => some effCeremonyRead
  | 0x8112 => some effCeremonyCommit | 0x8113 => some effCeremonyAbort | 0x8114 => some effIdentityRead
  | 0x8201 => some effLastLoad | 0x8202 => some effLastAmend | 0x8203 => some effLastCheck | 0x8204 => some effLastStats
  | _ => none

/-- Effects of the commands 0x83xx to 0x85xx. -/
def trafficEffect (code : Nat) : Option (MCmd → State → Eff) :=
  match code with
  | 0x8301 => some effFlowLookup | 0x8302 => some effPinFlow | 0x8303 => some effHintFlow | 0x8304 => some effFronds
  | 0x8305 => some effHintKey | 0x8306 => some effPlacement
  | 0x8401 => some effPortAdmin | 0x8402 => some effPortShutdown | 0x8403 => some effSessionCreate | 0x8404 => some effSessionConnect
  | 0x8405 => some effSessionClose | 0x8406 => some effSessionDest | 0x8407 => some effPortPeers | 0x8408 => some effSaInstall
  | 0x8409 => some effTxUse | 0x840A => some effSaRemove | 0x840B => some effSaStatus
  | 0x8501 => some effQueueCreate | 0x8502 => some effQueueDestroy | 0x8503 => some effQueueStatus
  | _ => none

/-- Effects of the commands 0x86xx to 0x8Axx. -/
def deviceEffect (code : Nat) : Option (MCmd → State → Eff) :=
  match code with
  | 0x8601 => some effInstCreate | 0x8602 => some effInstEnable | 0x8603 => some effInstDisable | 0x8604 => some effInstReset
  | 0x8605 => some effInstDestroy | 0x8606 => some effInstLimits | 0x8607 => some effMovePrepare | 0x8608 => some effMoveOut
  | 0x8609 => some effMoveIn | 0x860A => some effMoveFinish | 0x860B => some effMoveAbandon | 0x860C => some effMoveCancel
  | 0x860D => some effMembership
  | 0x8701 => some effFailover | 0x8702 => some effReturnHold
  | 0x8801 => some effZeroise | 0x8802 => some effFuseOptions | 0x8803 => some effDebugUnlock
  | 0x8901 => some effLedgerExport | 0x8902 => some effCardRead | 0x8903 => some effFirmware
  | 0x8A01 => some effBankPower | 0x8A02 => some effUnretire | 0x8A03 => some effSelftest
  | _ => none

/-- The effect of a command code; an undefined code never gets so far (R43). -/
def mgmtEffect (code : Nat) (m : MCmd) (s : State) : Eff :=
  match planeEffect code, trafficEffect code, deviceEffect code with
  | some f, _, _ => f m s
  | none, some f, _ => f m s
  | none, none, some f => f m s
  | none, none, none => .fail s .badOpcode

/-- A command's effect tried again: the page it needs has arrived. -/
def State.tryAgain (m : MCmd) (s : State) : State :=
  let r := mgmtEffect m.cmd.code m s
  match r.st with
  | none => r.s
  | some st => r.s.finish m st

/-! ### Fetching (R43, R46, R47, R57) -/

/-- A validated command waits for its boundary: urgent commands for the next tick's, the others staged (R45, R47). Of the last commands one
at a time is in progress (R227), of the firmware updates too (R526). -/
def State.stage (m : MCmd) (s : State) : State :=
  let code := m.cmd.code
  if m.cmd.urgent then { s with mgmt := { s.mgmt with urgent := s.mgmt.urgent ++ [m] } }
  else
    let keep (m : MCmd) (s : State) : State := { s with mgmt := { s.mgmt with staged := s.mgmt.staged ++ [(m, s.tick.count)] } }
    if code = 0x8201 ∨ code = 0x8202 ∨ code = 0x8203 then
      match startLast code m s with
      | .error st => keep { m with early := some st } s
      | .ok t => keep m t
    else if code = 0x8903 ∧ s.dev.fwJob.isSome then keep { m with early := some .busy } s
    else keep m s

/-- The slot takes the five urgent commands alone (R57). -/
def slotFail (c : Cmd) : Option Status :=
  match formatFail c with
  | some st => some st
  | none => if c.urgent then none else some .badFieldValue

/-- MGMT_DESCRIPTOR_FETCH: the descriptor of the urgent slot, or the next of the submission ring. -/
def State.descriptorFetch (slot : Bool) (c : Cmd) (s : State) : State :=
  let c := { c with desc := padTo 64 c.desc }
  if !s.works || !s.mayDma 0 then s
  else if slot then
    if !s.mgmt.busy || s.mgmt.urgRead then s
    else
      let s := { s with mgmt := { s.mgmt with urgRead := true } }
      let m : MCmd := { cmd := c, addr := s.mgmt.urgAddr, slot := true }
      match slotFail c with
      | some st => s.completeAs m st.code 0 0
      | none => s.stage m
  else if !bit (s.reg oMgmtControl) 0 || s.mgmt.sqHead == s.mgmt.sqTail || decide (65536 ≤ s.mgmt.staged.length) ||
      s.mgmtCqFull || !s.mgmt.held.isEmpty then s
  else
    let m : MCmd := { cmd := c, addr := s.reg oMgmtSqBase + 64 * s.mgmt.sqHead }
    let s := { s with mgmt := { s.mgmt with sqHead := (s.mgmt.sqHead + 1) % s.ringSize oMgmtSqSize } }
    match formatFail c with
    | some st => s.completeAs m st.code 0 0
    | none => s.stage m

/-- The row of a last command: submitted and validated by R43; it commits at a boundary once its validation has ended. -/
def State.lastRow (code : Nat) (c : Cmd) (s : State) : State :=
  let c := { c with desc := padTo 64 (le 2 code ++ c.desc.drop 2) }
  let m : MCmd := { cmd := c, addr := s.reg oMgmtSqBase + 64 * s.mgmt.sqHead }
  if !s.works then s
  else match formatFail c with
    | some st => s.completeAs m st.code 0 0
    | none => s.stage m

/-! ### The tick boundary -/

/-- Half microseconds of an hour. -/
def hourHalves : Nat := 7200000000

/-- Time passes: `d` ticks. The hours of operation advance, buckets refill (R244), a tick's admitted work starts anew. -/
def State.passTicks (d : Nat) (s : State) : State :=
  let part := s.bat.part + 65536 * s.tickHalves * d
  let full (f : Nat) : Bool := decide (8192 ≤ s.admittedOn f)
  let pool := (List.range 16).foldl (fun (t : Tbl Nat) f =>
    if full f then (if t.getD f 0 = 65 then t else t.set f (min 64 (t.getD f 0 + d))) else t.erase f) s.disp.poolFull
  let up (x : Int) (lim : Nat) : Int := min (4 * (lim : Int)) (x + (d : Int) * (lim : Int))
  { s with
    tick := { s.tick with count := s.tick.count + d }
    bat := { s.bat with hours := min (s.bat.hours + part / hourHalves) (2 ^ 48 - 1), part := part % hourHalves }
    disp := { s.disp with work := [], poolFull := pool }
    inst := s.inst.mapT (fun _ x => if x.d.st == .free then x else
      { x with cipher := up x.cipher x.d.lim.cipher, field := up x.field x.d.lim.field, pk := up x.pk x.d.lim.pk }) }

/-- The counter has reached an epoch boundary; a device that aligns jumps there (R34): deadlines, due ticks and the fetch ticks of staged
commands move with it. -/
def State.alignJump (s : State) : State :=
  match s.tick.jumpTo with
  | none => s
  | some d =>
    { s with
      tick := { s.tick with count := s.tick.count + d, jumpTo := none, aligned := true }
      disp := { s.disp with items := s.disp.items.mapT (fun _ x =>
        if x.admitted then { x with admitTick := x.admitTick + d, due := x.due + d } else x) }
      mgmt := { s.mgmt with staged := s.mgmt.staged.map (fun e => (e.1, e.2 + d)) } }

/-- Interrupt messages that waited for the end of the tick go out, once for each vector (R309). -/
def State.flushMsix (s : State) : State :=
  let es := s.pcie.msixWait
  es.foldl (fun s e => s.msix e.1 e.2) { s with pcie := { s.pcie with msixWait := [] } }

/-- The summary interrupt (R536). -/
def State.summary (s : State) : State :=
  if s.errNew && bit (s.reg oErrIrq) 0 then State.msix 0 (s.fld oErrIrq 26 16) { s with errNew := false } else s

/-- Priorities whose pause has run out send again (R251, R266). -/
def State.pausesEnd (s : State) : State :=
  s.ports.foldl (fun s p => (List.range 4).foldl (fun s k =>
    let x := s.subOf p.1 k
    let ends := x.paused.filter (fun e => decide (e.2 ≤ s.tick.count))
    if ends.isEmpty then s
    else (s.modSub p.1 k (fun x => { x with paused := x.paused.filter (fun e => decide (s.tick.count < e.2)) })).flushPort p.1 k) s) s

/-- What is due at a tick boundary: key updates take effect (R366), instance errors (R387), a halt (R429), the twin (R417, R418, R422),
pauses (R251), completions that waited for room, interrupts; urgent commands then commit (R47). -/
def State.tickDue (s : State) : State :=
  if !s.ready then s
  else
    let s := if s.works then s.dueKums.foldl (fun s n => s.effectKum n) s else s
    let s := s.applyErrors.haltDue
    let s := s.twinTick.pausesEnd.shareTurns
    let s := s.releaseHeld (s.mgmt.held.length + 1)
    let s := s.releaseKum (s.kum.held.length + 1)
    let s := s.flushMsix.summary
    if s.works then { s with mgmt := { s.mgmt with urgentNow := s.mgmt.urgent, urgent := [] } } else s

/-- TICK_BOUNDARY (R33). An epoch boundary's own work is done before the next tick ends. -/
def State.tickBoundary (s : State) : State :=
  if !s.dev.rails || s.tick.due then s
  else if s.dev.resetReq then s.deviceReset 3
  else
    let s := s.passTicks 1
    if s.tick.count % 1000000 = 0 then
      let s := s.alignJump
      ({ s with tick := { s.tick with due := true } }).tickDue
    else s.tickDue

/-! ### The epoch boundary -/

/-- The estimates of R243: the mean over the epoch that ends. -/
def State.newEstimates (s : State) : State :=
  { s with disp := { s.disp with
      estim := s.disp.estim.mapT (fun _ e => (0, 0, if e.2.1 = 0 then e.2.2 else e.1 / e.2.1))
      overflowSeen := false, faultSeen := false, waitSeen := false } }

/-- The decision-jitter generator is rekeyed while noise output runs (R439). -/
def State.rekeyJitter (s : State) : State :=
  if s.rngOk then { s with prot := { s.prot with jitterKey := s.drawn 16 } }.spend 16 else s

/-- An epoch boundary's work: a load resumes, the staged commands commit (Settle goes through them), counts and flags of the epoch. -/
def State.epochWork (s : State) : State :=
  let s := { s with tick := { s.tick with due := false } }
  if !s.ready then s
  else
    let s := if s.works then s.resumeLoad else s
    let s := if s.works then { s with mgmt := { s.mgmt with committing := some s.tick.count } } else s
    s.countSilence.newEstimates.rekeyJitter.raise 1 oTickIrq 0

/-- EPOCH_BOUNDARY (R45): the boundary that the counter has reached, or else the next one: the ticks up to it pass, with what is due at it. -/
def State.epochBoundary (s : State) : State :=
  if !s.dev.rails then s
  else if s.tick.due then s.epochWork
  else if s.dev.resetReq then s.deviceReset 3
  else (s.passTicks (1000000 - s.tick.count % 1000000)).alignJump.tickDue.epochWork

/-- A boundary's changes after its staged commands: the placement run (R253) and the digest (R51). -/
def State.boundaryEnd (s : State) : State :=
  ({ s with mgmt := { s.mgmt with committing := none } }).commitPlan.digest

/-! ### Staged commands (R45-R47, R227) -/

/-- A management command waits for the partner, for a claim check or for a page. -/
def State.commandWaits (s : State) : Bool :=
  let cmd (p : Purpose) : Bool := match p with | .command _ _ => true | .paged _ => true | _ => false
  s.twin.acks.any (fun e => cmd e.2) || s.twin.cas.any (fun e => cmd e.2.purpose) || s.ks.fetches.any (fun e => e.2.tasks.any (fun t => cmd t.1))

/-- The staged command that commits next at boundary `b`, with its index; none: no more commit there. A command that is too late, and one
behind a LAST_LOAD or LAST_AMEND that is not ready, waits for the next boundary; a LAST_CHECK that is not over lets others pass. -/
def State.nextStaged (s : State) (b : Nat) : List (MCmd × Nat) → Nat → Option (Nat × MCmd)
  | [], _ => none
  | (m, t) :: rest, k =>
    if b < t + s.fld oMgmtCutoff 16 0 then none
    else
      let isOver := match s.last.job with | none => true | some j => j.isOver
      if (m.cmd.code == 0x8201 || m.cmd.code == 0x8202) && m.early.isNone && !isOver then none
      else if m.cmd.code = 0x8203 ∧ m.early.isNone ∧ !isOver then s.nextStaged b rest (k + 1)
      else some (k, m)

/-- One staged command commits, or the boundary's commits have ended. A LAST_LOAD that interrupts service holds those behind it. -/
def State.commitStaged (b : Nat) (s : State) : State :=
  let held := match s.last.job with | none => false | some j => j.boundary.isSome
  if held then s.boundaryEnd
  else match s.nextStaged b s.mgmt.staged 0 with
    | none => s.boundaryEnd
    | some (k, m) =>
      State.commitCmd (mgmtEffect m.cmd.code) m { s with mgmt := { s.mgmt with staged := s.mgmt.staged.eraseIdx k } }

end Sys2Proof.Machine
end

