-- ==== Sys2Proof/Machine/Settle.lean ====
section
/-! DEFINITION. What a step settles after its command's own effect: checks and acknowledgements that have ended (R410, R415), the urgent and the
staged commands of a boundary in order (R45, R47), items whose session is gone (R277), abandoned jobs (R353), and the flows (R240, R241). -/

namespace Sys2Proof.Machine

/-- A privileged or mirrored management command whose check has passed takes effect (R410, R415). -/
def State.commandDone (code : Nat) (m : MCmd) (s : State) : State :=
  match code with
  | 0x8101 => donePageRange m s
  | 0x8102 => donePin m s
  | 0x8112 => doneCeremony m s
  | 0x8304 => doneFronds m s
  | 0x8601 => doneInstCreate m s
  | 0x8602 => doneInstEnable m s
  | 0x8603 => doneInstDisable m s
  | 0x8604 => doneInstReset m s
  | 0x8605 => doneInstDestroy m s
  | 0x8606 => doneInstLimits m s
  | 0x8607 => doneMovePrepare m s
  | 0x8608 => doneMoveOut m s
  | 0x8609 => doneMoveIn m s
  | 0x860A => doneMoveFinish m s
  | 0x860B => doneMoveAbandon m s
  | 0x860C => doneMoveCancel m s
  | _ => s.finish m .ok

/-- What waited goes on: its check or acknowledgement has ended with `st` (none: it has passed). -/
def State.settlePass (p : Purpose) (st : Option Status) (s : State) : State :=
  match p, st with
  | .figure k, none => s.commitFigure k
  | .figure k, some _ => s.dropFigure k
  | .kum n, st => s.commitKum n st
  | .command code m, none => s.commandDone code m
  | .command _ m, some e => s.finish m e
  | .page p, st => s.commitPage p st
  | .mirrored id, st => s.settleMirrored id st
  | .item n, st => s.itemAcked n st
  | .paged m, none => s.tryAgain m
  | .paged m, some e => s.finish m e
  | .kumPaged n, none => s.tryKum n
  | .kumPaged n, some e => s.failKum n 0xFF e
  | .mirror _, _ => s
  | .promote _ _ _, _ => s
  | .takeRead _, _ => s

/-- One thing that a step settles; none: nothing is left. What has passed comes first, then urgent commands, then staged ones, unless one of
them still waits. -/
def State.settleOne (s : State) : Option State :=
  match s.twin.passed with
  | (p, st) :: rest => some (State.settlePass p st { s with twin := { s.twin with passed := rest } })
  | [] => match s.mgmt.urgentNow with
    | m :: rest => some (State.commitCmd (mgmtEffect m.cmd.code) m { s with mgmt := { s.mgmt with urgentNow := rest } })
    | [] => match s.mgmt.committing with
      | some b => if s.commandWaits then none else some (s.commitStaged b)
      | none => none

/-- Settle until nothing is left; `n` bounds the number of things. -/
def State.settleAll : Nat → State → State
  | 0, s => s
  | n + 1, s => match s.settleOne with
    | none => s
    | some t => State.settleAll n t

/-- More than a step can have to settle. -/
def settleBound : Nat := 4294967296

/-- Items that wait for the credit of a session that is no longer OPEN (R192, R193, R277): a response is undeliverable, a message is discarded. -/
def State.dropUndeliverable (s : State) : State :=
  (s.disp.items.filter (fun e => e.2.stage == .parked && bit e.2.mask evCredit)).foldl (fun s e =>
    match s.creditTarget e.2 with
    | none => s
    | some k =>
      let y := s.sessOf k
      if y.st == .opened then s
      else if !e.2.transit then (s.bump (portReg oPortUndeliverable y.port)).endItem e.1
      else match s.itemStitch e.2 with
        | none => s
        | some t =>
          if t.op = opEmit then (s.modItem e.1 (fun x => { x with st := Status.noRoute.code })).discard e.1 (some Status.noRoute.code)
          else (s.seamStat e.2 5).endItem e.1) s

/-- What follows a command's own effect within its step. -/
def State.settle (s : State) : State := (State.settleAll settleBound s).dropUndeliverable.reapJobs.pump

end Sys2Proof.Machine
end

