-- ==== Sys2Proof/Machine/RowsFns.lean ====
section
/-! DEFINITION. The rows of the transaction functions (chapter 4): the service request that a frond runs (R105, R107). -/

namespace Sys2Proof.Machine

/-- PIN_TRANSLATE. -/
def execPinTranslate (item : Nat) (s : State) : Host.Outcome State Fault Refusal := run (fun s => (s.fnRow 0x0101 item).settle) s

/-- PIN_VERIFY_OFFSET. -/
def execPinVerifyOffset (item : Nat) (s : State) : Host.Outcome State Fault Refusal := run (fun s => (s.fnRow 0x0102 item).settle) s

/-- PIN_VERIFY_PVV. -/
def execPinVerifyPvv (item : Nat) (s : State) : Host.Outcome State Fault Refusal := run (fun s => (s.fnRow 0x0103 item).settle) s

/-- PIN_GENERATE_OFFSET. -/
def execPinGenerateOffset (item : Nat) (s : State) : Host.Outcome State Fault Refusal := run (fun s => (s.fnRow 0x0104 item).settle) s

/-- MAC_GENERATE. -/
def execMacGenerate (item : Nat) (s : State) : Host.Outcome State Fault Refusal := run (fun s => (s.fnRow 0x0201 item).settle) s

/-- MAC_VERIFY. -/
def execMacVerify (item : Nat) (s : State) : Host.Outcome State Fault Refusal := run (fun s => (s.fnRow 0x0202 item).settle) s

/-- MAC_TRANSLATE. -/
def execMacTranslate (item : Nat) (s : State) : Host.Outcome State Fault Refusal := run (fun s => (s.fnRow 0x0203 item).settle) s

/-- ARQC_VERIFY. -/
def execArqcVerify (item : Nat) (s : State) : Host.Outcome State Fault Refusal := run (fun s => (s.fnRow 0x0301 item).settle) s

/-- ARPC_GENERATE. -/
def execArpcGenerate (item : Nat) (s : State) : Host.Outcome State Fault Refusal := run (fun s => (s.fnRow 0x0302 item).settle) s

/-- CARD_VALUE_VERIFY. -/
def execCardValueVerify (item : Nat) (s : State) : Host.Outcome State Fault Refusal := run (fun s => (s.fnRow 0x0303 item).settle) s

/-- CARD_VALUE_GENERATE. -/
def execCardValueGenerate (item : Nat) (s : State) : Host.Outcome State Fault Refusal := run (fun s => (s.fnRow 0x0304 item).settle) s

/-- DUKPT_DERIVE. -/
def execDukptDerive (item : Nat) (s : State) : Host.Outcome State Fault Refusal := run (fun s => (s.fnRow 0x0401 item).settle) s

/-- KEY_DERIVE. -/
def execKeyDerive (item : Nat) (s : State) : Host.Outcome State Fault Refusal := run (fun s => (s.fnRow 0x0402 item).settle) s

/-- TOKENISE. -/
def execTokenise (item : Nat) (s : State) : Host.Outcome State Fault Refusal := run (fun s => (s.fnRow 0x0501 item).settle) s

/-- DETOKENISE. -/
def execDetokenise (item : Nat) (s : State) : Host.Outcome State Fault Refusal := run (fun s => (s.fnRow 0x0502 item).settle) s

/-- ENCRYPT. -/
def execEncrypt (item : Nat) (s : State) : Host.Outcome State Fault Refusal := run (fun s => (s.fnRow 0x0601 item).settle) s

/-- DECRYPT. -/
def execDecrypt (item : Nat) (s : State) : Host.Outcome State Fault Refusal := run (fun s => (s.fnRow 0x0602 item).settle) s

/-- AEAD_SEAL. -/
def execAeadSeal (item : Nat) (s : State) : Host.Outcome State Fault Refusal := run (fun s => (s.fnRow 0x0603 item).settle) s

/-- AEAD_OPEN. -/
def execAeadOpen (item : Nat) (s : State) : Host.Outcome State Fault Refusal := run (fun s => (s.fnRow 0x0604 item).settle) s

/-- CONTEXT_EXPORT. -/
def execContextExport (item : Nat) (s : State) : Host.Outcome State Fault Refusal := run (fun s => (s.fnRow 0x0605 item).settle) s

/-- CONTEXT_IMPORT. -/
def execContextImport (item : Nat) (s : State) : Host.Outcome State Fault Refusal := run (fun s => (s.fnRow 0x0606 item).settle) s

/-- HASH. -/
def execHash (item : Nat) (s : State) : Host.Outcome State Fault Refusal := run (fun s => (s.fnRow 0x0701 item).settle) s

/-- HMAC_GENERATE. -/
def execHmacGenerate (item : Nat) (s : State) : Host.Outcome State Fault Refusal := run (fun s => (s.fnRow 0x0702 item).settle) s

/-- HMAC_VERIFY. -/
def execHmacVerify (item : Nat) (s : State) : Host.Outcome State Fault Refusal := run (fun s => (s.fnRow 0x0703 item).settle) s

/-- SIGN. -/
def execSign (item : Nat) (s : State) : Host.Outcome State Fault Refusal := run (fun s => (s.fnRow 0x0801 item).settle) s

/-- VERIFY. -/
def execVerify (item : Nat) (s : State) : Host.Outcome State Fault Refusal := run (fun s => (s.fnRow 0x0802 item).settle) s

/-- KEY_AGREE. -/
def execKeyAgree (item : Nat) (s : State) : Host.Outcome State Fault Refusal := run (fun s => (s.fnRow 0x0901 item).settle) s

/-- KEM_ENCAPS. -/
def execKemEncaps (item : Nat) (s : State) : Host.Outcome State Fault Refusal := run (fun s => (s.fnRow 0x0902 item).settle) s

/-- KEM_DECAPS. -/
def execKemDecaps (item : Nat) (s : State) : Host.Outcome State Fault Refusal := run (fun s => (s.fnRow 0x0903 item).settle) s

/-- KEY_GENERATE. -/
def execKeyGenerate (item : Nat) (s : State) : Host.Outcome State Fault Refusal := run (fun s => (s.fnRow 0x0A01 item).settle) s

/-- KEY_IMPORT_BLOCK. -/
def execKeyImportBlock (item : Nat) (s : State) : Host.Outcome State Fault Refusal := run (fun s => (s.fnRow 0x0A02 item).settle) s

/-- KEY_EXPORT_BLOCK. -/
def execKeyExportBlock (item : Nat) (s : State) : Host.Outcome State Fault Refusal := run (fun s => (s.fnRow 0x0A03 item).settle) s

/-- KEY_CHECK_VALUE. -/
def execKeyCheckValue (item : Nat) (s : State) : Host.Outcome State Fault Refusal := run (fun s => (s.fnRow 0x0A04 item).settle) s

/-- RANDOM. -/
def execRandom (item : Nat) (s : State) : Host.Outcome State Fault Refusal := run (fun s => (s.fnRow 0x0B01 item).settle) s

/-- DRBG_RESEED. -/
def execDrbgReseed (item : Nat) (s : State) : Host.Outcome State Fault Refusal := run (fun s => (s.fnRow 0x0B02 item).settle) s

/-- ATTEST. -/
def execAttest (item : Nat) (s : State) : Host.Outcome State Fault Refusal := run (fun s => (s.fnRow 0x0C01 item).settle) s

end Sys2Proof.Machine
end

