-- ==== Sys2Proof/Machine/RowsKeys.lean ====
section
/-! DEFINITION. The rows of key updates, life-cycle steps, pages and the journal (chapters 3, 13, 16). -/

namespace Sys2Proof.Machine

/-! ### Key update messages (R363, R370) -/

/-- KEY_UPDATE_MESSAGE. -/
def execKeyUpdateMessage (entry : Bytes) (msg : Bytes) (s : State) : Host.Outcome State Fault Refusal := 
  run (fun s => (s.kumFetch entry msg).settle) s

/-! ### The effects of their ops (R361, R362, R365) -/

/-- WRITE_KEY. -/
def execWriteKey (op : KeyOp) (s : State) : Host.Outcome State Fault Refusal := run (fun s => (s.opRow 0x01 op).settle) s

/-- DELETE. -/
def execDelete (op : KeyOp) (s : State) : Host.Outcome State Fault Refusal := run (fun s => (s.opRow 0x02 op).settle) s

/-- REPLENISH. -/
def execReplenish (op : KeyOp) (s : State) : Host.Outcome State Fault Refusal := run (fun s => (s.opRow 0x03 op).settle) s

/-- SET_ATTRIBUTES. -/
def execSetAttributes (op : KeyOp) (s : State) : Host.Outcome State Fault Refusal := run (fun s => (s.opRow 0x04 op).settle) s

/-- MARK_PERSISTENT. -/
def execMarkPersistent (op : KeyOp) (s : State) : Host.Outcome State Fault Refusal := run (fun s => (s.opRow 0x05 op).settle) s

/-- SET_ROSTER. -/
def execSetRoster (op : KeyOp) (s : State) : Host.Outcome State Fault Refusal := run (fun s => (s.opRow 0x06 op).settle) s

/-- SET_ROSTER_DEVICE. -/
def execSetRosterDevice (op : KeyOp) (s : State) : Host.Outcome State Fault Refusal := run (fun s => (s.opRow 0x10 op).settle) s

/-- ENROL_IMAGE_AUTHORITY. -/
def execEnrolImageAuthority (op : KeyOp) (s : State) : Host.Outcome State Fault Refusal := run (fun s => (s.opRow 0x11 op).settle) s

/-- ENROL_DOMAIN_AUTHORITY. -/
def execEnrolDomainAuthority (op : KeyOp) (s : State) : Host.Outcome State Fault Refusal := run (fun s => (s.opRow 0x12 op).settle) s

/-- LIFECYCLE_STEP. -/
def execLifecycleStep (op : KeyOp) (s : State) : Host.Outcome State Fault Refusal := run (fun s => (s.opRow 0x13 op).settle) s

/-- DEBUG_ENABLE. -/
def execDebugEnable (op : KeyOp) (s : State) : Host.Outcome State Fault Refusal := run (fun s => (s.opRow 0x14 op).settle) s

/-- CLEAR_TAMPER. -/
def execClearTamper (op : KeyOp) (s : State) : Host.Outcome State Fault Refusal := run (fun s => (s.opRow 0x15 op).settle) s

/-- ESTABLISH_ROSTER. -/
def execEstablishRoster (op : KeyOp) (s : State) : Host.Outcome State Fault Refusal := run (fun s => (s.opRow 0x16 op).settle) s

/-! ### Life-cycle steps (R451) -/

/-- LIFECYCLE_RECEIPT_TIMEOUT. -/
def execLifecycleReceiptTimeout (s : State) : Host.Outcome State Fault Refusal := run (fun s => (s.receiptTimeout).settle) s

/-- FUSE_BURN_DONE. -/
def execFuseBurnDone (s : State) : Host.Outcome State Fault Refusal := run (fun s => s.fuseBurnDone) s

/-- WIPE_DONE. -/
def execWipeDone (s : State) : Host.Outcome State Fault Refusal := run (fun s => (s.wipeDone).settle) s

/-! ### Pages and the journal (R85-R100) -/

/-- PAGE_FETCH_DONE. -/
def execPageFetchDone (page : Nat) (data : Option Bytes) (s : State) : Host.Outcome State Fault Refusal := 
  run (fun s => (s.pageFetchDone page data).settle) s

/-- PAGE_FETCH_TIMEOUT. -/
def execPageFetchTimeout (page : Nat) (s : State) : Host.Outcome State Fault Refusal := run (fun s => (s.pageFetchTimeout page).settle) s

/-- PAGE_WRITE_BACK. -/
def execPageWriteBack (page : Nat) (data : Option Bytes) (s : State) : Host.Outcome State Fault Refusal := 
  run (fun s => (s.pageWriteBack page data).settle) s

/-- PAGE_WRITE_CONFIRM. -/
def execPageWriteConfirm (page : Nat) (header : Option Bytes) (s : State) : Host.Outcome State Fault Refusal := 
  run (fun s => (s.pageWriteConfirm page header).settle) s

/-- JOURNAL_COMMIT. -/
def execJournalCommit (s : State) : Host.Outcome State Fault Refusal := run (fun s => (s.journalCommit).settle) s

/-- SNAPSHOT_BASE_COMMIT. -/
def execSnapshotBaseCommit (s : State) : Host.Outcome State Fault Refusal := run (fun s => (s.baseCommit).settle) s

end Sys2Proof.Machine
end

