-- ==== Sys2Proof/Machine/RowsMgmt.lean ====
section
/-! DEFINITION. The rows of the management commands (chapter 2, and the command table of each chapter). -/

namespace Sys2Proof.Machine

/-! ### The management queue (R43, R57) -/

/-- MGMT_DESCRIPTOR_FETCH. -/
def execMgmtDescriptorFetch (urgent : Bool) (c : Cmd) (s : State) : Host.Outcome State Fault Refusal := 
  run (fun s => (s.descriptorFetch urgent c).settle) s

/-! ### Commands submitted, validated and committed in one step (log 12) -/

/-- EPOCH_FENCE. -/
def execEpochFence (c : Cmd) (s : State) : Host.Outcome State Fault Refusal := run (fun s => (s.cmdRow 0x8001 effFence c).settle) s

/-- READ_STATE. -/
def execReadState (c : Cmd) (s : State) : Host.Outcome State Fault Refusal := run (fun s => (s.cmdRow 0x8002 effReadState c).settle) s

/-- DIGEST_RESYNC. -/
def execDigestResync (c : Cmd) (s : State) : Host.Outcome State Fault Refusal := run (fun s => (s.cmdRow 0x8003 effResync c).settle) s

/-- KS_PAGE_RANGE_SET. -/
def execKsPageRangeSet (c : Cmd) (s : State) : Host.Outcome State Fault Refusal := run (fun s => (s.cmdRow 0x8101 effPageRange c).settle) s

/-- KS_PIN_RESIDENT. -/
def execKsPinResident (c : Cmd) (s : State) : Host.Outcome State Fault Refusal := run (fun s => (s.cmdRow 0x8102 effPin c).settle) s

/-- KS_KEY_INFO. -/
def execKsKeyInfo (c : Cmd) (s : State) : Host.Outcome State Fault Refusal := run (fun s => (s.cmdRow 0x8103 effKeyInfo c).settle) s

/-- KS_PAGE_RETRY. -/
def execKsPageRetry (c : Cmd) (s : State) : Host.Outcome State Fault Refusal := run (fun s => (s.cmdRow 0x8104 effPageRetry c).settle) s

/-- KS_SNAPSHOT_BASE. -/
def execKsSnapshotBase (c : Cmd) (s : State) : Host.Outcome State Fault Refusal := run (fun s => (s.cmdRow 0x8105 effSnapshotBase c).settle) s

/-- CEREMONY_BEGIN. -/
def execCeremonyBegin (c : Cmd) (s : State) : Host.Outcome State Fault Refusal := run (fun s => (s.cmdRow 0x8110 effCeremonyBegin c).settle) s

/-- CEREMONY_READ. -/
def execCeremonyRead (c : Cmd) (s : State) : Host.Outcome State Fault Refusal := run (fun s => (s.cmdRow 0x8111 effCeremonyRead c).settle) s

/-- CEREMONY_COMMIT. -/
def execCeremonyCommit (c : Cmd) (s : State) : Host.Outcome State Fault Refusal := run (fun s => (s.cmdRow 0x8112 effCeremonyCommit c).settle) s

/-- CEREMONY_ABORT. -/
def execCeremonyAbort (c : Cmd) (s : State) : Host.Outcome State Fault Refusal := run (fun s => (s.cmdRow 0x8113 effCeremonyAbort c).settle) s

/-- IDENTITY_READ. -/
def execIdentityRead (c : Cmd) (s : State) : Host.Outcome State Fault Refusal := run (fun s => (s.cmdRow 0x8114 effIdentityRead c).settle) s

/-- LAST_STATS. -/
def execLastStats (c : Cmd) (s : State) : Host.Outcome State Fault Refusal := run (fun s => (s.cmdRow 0x8204 effLastStats c).settle) s

/-- DISP_FLOW_LOOKUP. -/
def execDispFlowLookup (c : Cmd) (s : State) : Host.Outcome State Fault Refusal := run (fun s => (s.cmdRow 0x8301 effFlowLookup c).settle) s

/-- DISP_PIN_FLOW. -/
def execDispPinFlow (c : Cmd) (s : State) : Host.Outcome State Fault Refusal := run (fun s => (s.cmdRow 0x8302 effPinFlow c).settle) s

/-- DISP_HINT_FLOW. -/
def execDispHintFlow (c : Cmd) (s : State) : Host.Outcome State Fault Refusal := run (fun s => (s.cmdRow 0x8303 effHintFlow c).settle) s

/-- DISP_FRONDS. -/
def execDispFronds (c : Cmd) (s : State) : Host.Outcome State Fault Refusal := run (fun s => (s.cmdRow 0x8304 effFronds c).settle) s

/-- DISP_HINT_KEY. -/
def execDispHintKey (c : Cmd) (s : State) : Host.Outcome State Fault Refusal := run (fun s => (s.cmdRow 0x8305 effHintKey c).settle) s

/-- DISP_PLACEMENT. -/
def execDispPlacement (c : Cmd) (s : State) : Host.Outcome State Fault Refusal := run (fun s => (s.cmdRow 0x8306 effPlacement c).settle) s

/-- PORT_ADMIN. -/
def execPortAdmin (c : Cmd) (s : State) : Host.Outcome State Fault Refusal := run (fun s => (s.cmdRow 0x8401 effPortAdmin c).settle) s

/-- PORT_SHUTDOWN. -/
def execPortShutdown (c : Cmd) (s : State) : Host.Outcome State Fault Refusal := run (fun s => (s.cmdRow 0x8402 effPortShutdown c).settle) s

/-- SESSION_CREATE. -/
def execSessionCreate (c : Cmd) (s : State) : Host.Outcome State Fault Refusal := run (fun s => (s.cmdRow 0x8403 effSessionCreate c).settle) s

/-- SESSION_CONNECT. -/
def execSessionConnect (c : Cmd) (s : State) : Host.Outcome State Fault Refusal := run (fun s => (s.cmdRow 0x8404 effSessionConnect c).settle) s

/-- SESSION_CLOSE. -/
def execSessionClose (c : Cmd) (s : State) : Host.Outcome State Fault Refusal := run (fun s => (s.cmdRow 0x8405 effSessionClose c).settle) s

/-- SESSION_DEST. -/
def execSessionDest (c : Cmd) (s : State) : Host.Outcome State Fault Refusal := run (fun s => (s.cmdRow 0x8406 effSessionDest c).settle) s

/-- PORT_PEERS. -/
def execPortPeers (c : Cmd) (s : State) : Host.Outcome State Fault Refusal := run (fun s => (s.cmdRow 0x8407 effPortPeers c).settle) s

/-- MACSEC_SA_INSTALL. -/
def execMacsecSaInstall (c : Cmd) (s : State) : Host.Outcome State Fault Refusal := run (fun s => (s.cmdRow 0x8408 effSaInstall c).settle) s

/-- MACSEC_TX_USE. -/
def execMacsecTxUse (c : Cmd) (s : State) : Host.Outcome State Fault Refusal := run (fun s => (s.cmdRow 0x8409 effTxUse c).settle) s

/-- MACSEC_SA_REMOVE. -/
def execMacsecSaRemove (c : Cmd) (s : State) : Host.Outcome State Fault Refusal := run (fun s => (s.cmdRow 0x840A effSaRemove c).settle) s

/-- MACSEC_SA_STATUS. -/
def execMacsecSaStatus (c : Cmd) (s : State) : Host.Outcome State Fault Refusal := run (fun s => (s.cmdRow 0x840B effSaStatus c).settle) s

/-- QUEUE_CREATE. -/
def execQueueCreate (c : Cmd) (s : State) : Host.Outcome State Fault Refusal := run (fun s => (s.cmdRow 0x8501 effQueueCreate c).settle) s

/-- QUEUE_DESTROY. -/
def execQueueDestroy (c : Cmd) (s : State) : Host.Outcome State Fault Refusal := run (fun s => (s.cmdRow 0x8502 effQueueDestroy c).settle) s

/-- QUEUE_STATUS. -/
def execQueueStatus (c : Cmd) (s : State) : Host.Outcome State Fault Refusal := run (fun s => (s.cmdRow 0x8503 effQueueStatus c).settle) s

/-- INSTANCE_CREATE. -/
def execInstanceCreate (c : Cmd) (s : State) : Host.Outcome State Fault Refusal := run (fun s => (s.cmdRow 0x8601 effInstCreate c).settle) s

/-- INSTANCE_ENABLE. -/
def execInstanceEnable (c : Cmd) (s : State) : Host.Outcome State Fault Refusal := run (fun s => (s.cmdRow 0x8602 effInstEnable c).settle) s

/-- INSTANCE_DISABLE. -/
def execInstanceDisable (c : Cmd) (s : State) : Host.Outcome State Fault Refusal := run (fun s => (s.cmdRow 0x8603 effInstDisable c).settle) s

/-- INSTANCE_RESET. -/
def execInstanceReset (c : Cmd) (s : State) : Host.Outcome State Fault Refusal := run (fun s => (s.cmdRow 0x8604 effInstReset c).settle) s

/-- INSTANCE_DESTROY. -/
def execInstanceDestroy (c : Cmd) (s : State) : Host.Outcome State Fault Refusal := run (fun s => (s.cmdRow 0x8605 effInstDestroy c).settle) s

/-- INSTANCE_SET_LIMITS. -/
def execInstanceSetLimits (c : Cmd) (s : State) : Host.Outcome State Fault Refusal := run (fun s => (s.cmdRow 0x8606 effInstLimits c).settle) s

/-- MOVE_PREPARE. -/
def execMovePrepare (c : Cmd) (s : State) : Host.Outcome State Fault Refusal := run (fun s => (s.cmdRow 0x8607 effMovePrepare c).settle) s

/-- MOVE_OUT. -/
def execMoveOut (c : Cmd) (s : State) : Host.Outcome State Fault Refusal := run (fun s => (s.cmdRow 0x8608 effMoveOut c).settle) s

/-- MOVE_IN. -/
def execMoveIn (c : Cmd) (s : State) : Host.Outcome State Fault Refusal := run (fun s => (s.cmdRow 0x8609 effMoveIn c).settle) s

/-- MOVE_FINISH. -/
def execMoveFinish (c : Cmd) (s : State) : Host.Outcome State Fault Refusal := run (fun s => (s.cmdRow 0x860A effMoveFinish c).settle) s

/-- MOVE_CANCEL. -/
def execMoveCancel (c : Cmd) (s : State) : Host.Outcome State Fault Refusal := run (fun s => (s.cmdRow 0x860C effMoveCancel c).settle) s

/-- MOVE_ABANDON. -/
def execMoveAbandon (c : Cmd) (s : State) : Host.Outcome State Fault Refusal := run (fun s => (s.cmdRow 0x860B effMoveAbandon c).settle) s

/-- MOVE_MEMBERSHIP. -/
def execMoveMembership (c : Cmd) (s : State) : Host.Outcome State Fault Refusal := run (fun s => (s.cmdRow 0x860D effMembership c).settle) s

/-- FORCED_FAILOVER. -/
def execForcedFailover (c : Cmd) (s : State) : Host.Outcome State Fault Refusal := run (fun s => (s.cmdRow 0x8701 effFailover c).settle) s

/-- TWIN_RETURN_HOLD. -/
def execTwinReturnHold (c : Cmd) (s : State) : Host.Outcome State Fault Refusal := run (fun s => (s.cmdRow 0x8702 effReturnHold c).settle) s

/-- ZEROISE. -/
def execZeroise (c : Cmd) (s : State) : Host.Outcome State Fault Refusal := run (fun s => (s.cmdRow 0x8801 effZeroise c).settle) s

/-- PROT_FUSE_OPTIONS. -/
def execProtFuseOptions (c : Cmd) (s : State) : Host.Outcome State Fault Refusal := run (fun s => (s.cmdRow 0x8802 effFuseOptions c).settle) s

/-- DEBUG_UNLOCK. -/
def execDebugUnlock (c : Cmd) (s : State) : Host.Outcome State Fault Refusal := run (fun s => (s.cmdRow 0x8803 effDebugUnlock c).settle) s

/-- LEDGER_EXPORT. -/
def execLedgerExport (c : Cmd) (s : State) : Host.Outcome State Fault Refusal := run (fun s => (s.cmdRow 0x8901 effLedgerExport c).settle) s

/-- CARD_READ. -/
def execCardRead (c : Cmd) (s : State) : Host.Outcome State Fault Refusal := run (fun s => (s.cmdRow 0x8902 effCardRead c).settle) s

/-- FIRMWARE_UPDATE. -/
def execFirmwareUpdate (c : Cmd) (s : State) : Host.Outcome State Fault Refusal := run (fun s => (s.cmdRow 0x8903 effFirmware c).settle) s

/-- FAB_BANK_POWER. -/
def execFabBankPower (c : Cmd) (s : State) : Host.Outcome State Fault Refusal := run (fun s => (s.cmdRow 0x8A01 effBankPower c).settle) s

/-- FAB_UNRETIRE. -/
def execFabUnretire (c : Cmd) (s : State) : Host.Outcome State Fault Refusal := run (fun s => (s.cmdRow 0x8A02 effUnretire c).settle) s

/-- FAB_SELFTEST. -/
def execFabSelftest (c : Cmd) (s : State) : Host.Outcome State Fault Refusal := run (fun s => (s.cmdRow 0x8A03 effSelftest c).settle) s

/-! ### Commands of the lasts, which their validation precedes (R227) -/

/-- LAST_LOAD. -/
def execLastLoad (c : Cmd) (s : State) : Host.Outcome State Fault Refusal := run (fun s => (s.lastRow 0x8201 c).settle) s

/-- LAST_AMEND. -/
def execLastAmend (c : Cmd) (s : State) : Host.Outcome State Fault Refusal := run (fun s => (s.lastRow 0x8202 c).settle) s

/-- LAST_CHECK. -/
def execLastCheck (c : Cmd) (s : State) : Host.Outcome State Fault Refusal := run (fun s => (s.lastRow 0x8203 c).settle) s

/-! ### What management work waits for -/

/-- CEREMONY_TIMEOUT. -/
def execCeremonyTimeout (s : State) : Host.Outcome State Fault Refusal := run (fun s => s.ceremonyTimeout) s

/-- LAST_VALIDATION_DONE. -/
def execLastValidationDone (s : State) : Host.Outcome State Fault Refusal := run (fun s => (s.validationDone).settle) s

/-- LAST_STORE_PERSISTED. -/
def execLastStorePersisted (s : State) : Host.Outcome State Fault Refusal := run (fun s => s.storePersisted) s

/-- INSTANCE_RESET_DONE. -/
def execInstanceResetDone (inst : Nat) (s : State) : Host.Outcome State Fault Refusal := run (fun s => s.resetDone inst) s

/-- INSTANCE_QUIET. -/
def execInstanceQuiet (inst : Nat) (s : State) : Host.Outcome State Fault Refusal := run (fun s => s.instQuiet inst) s

end Sys2Proof.Machine
end

