-- ==== Sys2Proof/Machine/RowsNet.lean ====
section
/-! DEFINITION. The rows of ports, sessions and discovery (chapter 9). -/

namespace Sys2Proof.Machine

/-! ### Frames (R264-R292) -/

/-- ETHERNET_FRAME_RX. -/
def execEthernetFrameRx (f : RxFrame) (s : State) : Host.Outcome State Fault Refusal := run (fun s => (s.receive .any f).settle) s

/-- PFC_FRAME. -/
def execPfcFrame (f : RxFrame) (s : State) : Host.Outcome State Fault Refusal := run (fun s => (s.receive .pfc f).settle) s

/-- ARP_REQUEST. -/
def execArpRequest (f : RxFrame) (s : State) : Host.Outcome State Fault Refusal := run (fun s => (s.receive .arp f).settle) s

/-- NEIGHBOUR_SOLICITATION. -/
def execNeighbourSolicitation (f : RxFrame) (s : State) : Host.Outcome State Fault Refusal := run (fun s => (s.receive .neighbour f).settle) s

/-- LLDPDU. -/
def execLldpdu (f : RxFrame) (s : State) : Host.Outcome State Fault Refusal := run (fun s => (s.receive .lldp f).settle) s

/-- DATA_FRAME. -/
def execDataFrame (f : RxFrame) (s : State) : Host.Outcome State Fault Refusal := run (fun s => (s.receive (.htt 0x01) f).settle) s

/-- NOTICE_FRAME. -/
def execNoticeFrame (f : RxFrame) (s : State) : Host.Outcome State Fault Refusal := run (fun s => (s.receive (.htt 0x02) f).settle) s

/-- CREDIT_FRAME. -/
def execCreditFrame (f : RxFrame) (s : State) : Host.Outcome State Fault Refusal := run (fun s => (s.receive (.htt 0x03) f).settle) s

/-- CLOSE_FRAME. -/
def execCloseFrame (f : RxFrame) (s : State) : Host.Outcome State Fault Refusal := run (fun s => (s.receive (.htt 0x04) f).settle) s

/-- HELLO. -/
def execHello (f : RxFrame) (s : State) : Host.Outcome State Fault Refusal := run (fun s => (s.receive (.htt 0x10) f).settle) s

/-- OFFER. -/
def execOffer (f : RxFrame) (s : State) : Host.Outcome State Fault Refusal := run (fun s => (s.receive (.htt 0x11) f).settle) s

/-- ACCEPT. -/
def execAccept (f : RxFrame) (s : State) : Host.Outcome State Fault Refusal := run (fun s => (s.receive (.htt 0x12) f).settle) s

/-- PRESENCE_FRAME. -/
def execPresenceFrame (f : RxFrame) (s : State) : Host.Outcome State Fault Refusal := run (fun s => (s.receive (.htt 0x20) f).settle) s

/-! ### Timers of sessions (R274, R277, R283, R285, R286) -/

/-- SETUP_TIMEOUT. -/
def execSetupTimeout (session : Nat) (s : State) : Host.Outcome State Fault Refusal := run (fun s => (s.setupTimeout session).settle) s

/-- HELLO_RESEND. -/
def execHelloResend (session : Nat) (s : State) : Host.Outcome State Fault Refusal := run (fun s => (s.helloResend session).settle) s

/-- ACCEPT_RESEND. -/
def execAcceptResend (session : Nat) (s : State) : Host.Outcome State Fault Refusal := run (fun s => (s.acceptResend session).settle) s

/-- CREDIT_RESEND. -/
def execCreditResend (session : Nat) (s : State) : Host.Outcome State Fault Refusal := run (fun s => (s.creditResend session).settle) s

/-- CREDIT_GRANT_SEND. -/
def execCreditGrantSend (session : Nat) (s : State) : Host.Outcome State Fault Refusal := run (fun s => (s.creditGrantSend session).settle) s

/-- SERVICE_RESPONSE_TIMEOUT. -/
def execServiceResponseTimeout (item : Nat) (s : State) : Host.Outcome State Fault Refusal := run (fun s => (s.responseTimeout item).settle) s

/-- PARK_TIME_EXPIRY. -/
def execParkTimeExpiry (session : Nat) (s : State) : Host.Outcome State Fault Refusal := run (fun s => (s.parkExpiry session).settle) s

/-- RECLAIM_TIME_EXPIRY. -/
def execReclaimTimeExpiry (session : Nat) (s : State) : Host.Outcome State Fault Refusal := run (fun s => (s.reclaimExpiry session).settle) s

/-! ### Discovery and links (R267, R290-R293) -/

/-- PRESENCE_ANNOUNCE. -/
def execPresenceAnnounce (port : Nat) (sub : Nat) (s : State) : Host.Outcome State Fault Refusal := run (fun s => s.presenceAnnounce port sub) s

/-- LLDP_ANNOUNCE. -/
def execLldpAnnounce (port : Nat) (sub : Nat) (s : State) : Host.Outcome State Fault Refusal := run (fun s => s.lldpAnnounce port sub) s

/-- SOLITARY_ENTRY. -/
def execSolitaryEntry (port : Nat) (sub : Nat) (s : State) : Host.Outcome State Fault Refusal := run (fun s => s.solitaryEntry port sub) s

/-- PEER_ENTRY_AGEING. -/
def execPeerEntryAgeing (port : Nat) (ix : Nat) (s : State) : Host.Outcome State Fault Refusal := run (fun s => s.peerAge port ix) s

/-- LINK_CHANGE. -/
def execLinkChange (port : Nat) (sub : Nat) (up : Bool) (s : State) : Host.Outcome State Fault Refusal := 
  run (fun s => (s.linkChange port sub up).settle) s

end Sys2Proof.Machine
end

