-- ==== Sys2Proof/Machine/RowsPower.lean ====
section
/-! DEFINITION. The rows of power, resets, PCIe, start-up and temperature (chapters 10 and 19). -/

namespace Sys2Proof.Machine

/-! ### Power, resets, start-up -/

/-- POWER_ON: rails that come up out of order leave the rated conditions (R435, R517), where the spec gives no behaviour. -/
def execPowerOn (inOrder : Bool) (s : State) : Host.Outcome State Fault Refusal := 
  if !s.dev.rails && !inOrder then .fault .outsideRatedConditions else run (fun s => s.powerUp) s

/-- POWER_LOSS. -/
def execPowerLoss (s : State) : Host.Outcome State Fault Refusal := run (fun s => s.powerLoss) s

/-- SYS_RST_N, low for a time in ns. -/
def execSysRstN (lowNs : Nat) (s : State) : Host.Outcome State Fault Refusal := run (fun s => (s.sysReset lowNs).settle) s

/-- PERST_N. -/
def execPerstN (low : Bool) (s : State) : Host.Outcome State Fault Refusal := run (fun s => (s.perst low).settle) s

/-- DEV_RESET_REQUEST. -/
def execDevResetRequest (value : Nat) (s : State) : Host.Outcome State Fault Refusal := run (fun s => s.pfWrite oDevResetRequest value) s

/-- START_UP. -/
def execStartUp (env : StartEnv) (s : State) : Host.Outcome State Fault Refusal := run (fun s => (s.startUp env).settle) s

/-- BATTERY_DOMAIN_LOSS. -/
def execBatteryDomainLoss (s : State) : Host.Outcome State Fault Refusal := run (fun s => s.batteryLoss) s

/-- TEMP_WARN. -/
def execTempWarn (temp : Nat) (s : State) : Host.Outcome State Fault Refusal := run (fun s => s.tempWarn temp) s

/-- FIRMWARE_WRITE_DONE. -/
def execFirmwareWriteDone (ok : Bool) (s : State) : Host.Outcome State Fault Refusal := run (fun s => (s.firmwareDone ok).settle) s

/-! ### PCIe functions -/

/-- BUS_MASTER_ENABLE. -/
def execBusMasterEnable (fn : Nat) (on : Bool) (s : State) : Host.Outcome State Fault Refusal := run (fun s => (s.busMaster fn on).settle) s

/-- FLR_PF0. -/
def execFlrPf0 (s : State) : Host.Outcome State Fault Refusal := run (fun s => (s.flrPf0).settle) s

/-- VF_FLR. -/
def execVfFlr (fn : Nat) (s : State) : Host.Outcome State Fault Refusal := run (fun s => (s.vfFlr fn).settle) s

/-- VF_ENABLE. -/
def execVfEnable (numVfs : Nat) (s : State) : Host.Outcome State Fault Refusal := run (fun s => (s.vfEnable numVfs).settle) s

/-- PCIE_POWER_STATE. -/
def execPciePowerState (fn : Nat) (d3 : Bool) (s : State) : Host.Outcome State Fault Refusal := run (fun s => (s.powerState fn d3).settle) s

/-- PCIE_LINK_CHANGE. -/
def execPcieLinkChange (up : Bool) (rate : Nat) (width : Nat) (flit : Bool) (s : State) : Host.Outcome State Fault Refusal := 
  run (fun s => s.pcieLink up rate width flit) s

/-! ### Ticks and epochs -/

/-- TICK_BOUNDARY. -/
def execTickBoundary (s : State) : Host.Outcome State Fault Refusal := run (fun s => (s.tickBoundary).settle) s

/-- EPOCH_BOUNDARY. -/
def execEpochBoundary (s : State) : Host.Outcome State Fault Refusal := run (fun s => (s.epochBoundary).settle) s

/-- PLACEMENT_RUN. -/
def execPlacementRun (moves : List PlanMove) (s : State) : Host.Outcome State Fault Refusal := run (fun s => s.placementRun moves) s

end Sys2Proof.Machine
end

