-- ==== Sys2Proof/Machine/RowsRegs.lean ====
section
/-! DEFINITION. The rows that read and write registers (R3-R9, R56, R57, R99, R301, R302, R370, R392-R396, R447, R497, R534, R535). -/

namespace Sys2Proof.Machine

/-- A doorbell's row (R301, R302): `k` 0 the tail of the submission ring, 1 the head of the completion ring. -/
def State.doorbellRow (fn q k v : Nat) (s : State) : State :=
  if 256 ≤ q ∨ 4096 ≤ fn then s else if fn = 0 then s.pfWrite (doorbell 0 q k) v else s.vfReg64 fn (doorbell fn q k) v

/-- A row of a VF register of an instance; instance 0 has none. -/
def State.vfRow (i off v : Nat) (s : State) : State := if i = 0 ∨ 4096 ≤ i then s else s.vfReg64 i off v

/-- A row of an instance's register in PF0. -/
def State.instRow (i off v : Nat) (s : State) : State := if 4096 ≤ i then s else s.pfWrite (instReg off i) v

/-! ### Any register -/

/-- REGISTER_WRITE. -/
def execRegisterWrite (r : RegAccess) (s : State) : Host.Outcome State Fault Refusal := run (fun s => (s.hostWriteReg r).settle) s

/-- REGISTER_READ. -/
def execRegisterRead (r : RegAccess) (s : State) : Host.Outcome State Fault Refusal := run (fun s => s.hostReadReg r) s

/-- RC_REGISTER_READ. -/
def execRcRegisterRead (r : RegAccess) (s : State) : Host.Outcome State Fault Refusal := run (fun s => s.hostReadReg r) s

/-- DEBUG_ACCESS. -/
def execDebugAccess (d : DebugAcc) (s : State) : Host.Outcome State Fault Refusal := run (fun s => (s.debugAccess d).settle) s

/-- ERR_CODE_SELECT. -/
def execErrCodeSelect (value : Nat) (s : State) : Host.Outcome State Fault Refusal := run (fun s => s.pfWrite oErrCodeSelect value) s

/-! ### Queue indices -/

/-- MGMT_SQ_TAIL. -/
def execMgmtSqTail (value : Nat) (s : State) : Host.Outcome State Fault Refusal := run (fun s => s.pfWrite oMgmtSqTail value) s

/-- MGMT_CQ_HEAD. -/
def execMgmtCqHead (value : Nat) (s : State) : Host.Outcome State Fault Refusal := run (fun s => s.pfWrite oMgmtCqHead value) s

/-- MGMT_DIGEST_ACK. -/
def execMgmtDigestAck (value : Nat) (s : State) : Host.Outcome State Fault Refusal := run (fun s => s.pfWrite oMgmtDigestAck value) s

/-- MGMT_URGENT. -/
def execMgmtUrgent (value : Nat) (s : State) : Host.Outcome State Fault Refusal := run (fun s => s.pfWrite oMgmtUrgent value) s

/-- KUM_SQ_TAIL. -/
def execKumSqTail (value : Nat) (s : State) : Host.Outcome State Fault Refusal := run (fun s => s.pfWrite oKumSqTail value) s

/-- KUM_CQ_HEAD. -/
def execKumCqHead (value : Nat) (s : State) : Host.Outcome State Fault Refusal := run (fun s => s.pfWrite oKumCqHead value) s

/-- KPG_NOTICE_HEAD. -/
def execKpgNoticeHead (value : Nat) (s : State) : Host.Outcome State Fault Refusal := run (fun s => (s.pfWrite oKpgNoticeHead value).settle) s

/-- SQ_TAIL. -/
def execSqTail (fn : Nat) (q : Nat) (value : Nat) (s : State) : Host.Outcome State Fault Refusal := 
  run (fun s => (s.doorbellRow fn q 0 value).settle) s

/-- CQ_HEAD. -/
def execCqHead (fn : Nat) (q : Nat) (value : Nat) (s : State) : Host.Outcome State Fault Refusal := 
  run (fun s => (s.doorbellRow fn q 1 value).settle) s

/-! ### Mailboxes and the request log -/

/-- MBX_SEND. -/
def execMbxSend (inst : Nat) (value : Nat) (s : State) : Host.Outcome State Fault Refusal := run (fun s => s.vfRow inst 0x1008 value) s

/-- MBX_RX. -/
def execMbxRx (inst : Nat) (value : Nat) (s : State) : Host.Outcome State Fault Refusal := run (fun s => s.vfRow inst 0x1010 value) s

/-- INST_MBX_IN. -/
def execInstMbxIn (inst : Nat) (value : Nat) (s : State) : Host.Outcome State Fault Refusal := run (fun s => s.instRow inst oInstMbxIn value) s

/-- INST_MBX_OUT_POST. -/
def execInstMbxOutPost (inst : Nat) (value : Nat) (msgs : Bytes) (fault : Bool) (s : State) : Host.Outcome State Fault Refusal := 
  run (fun s => s.mbxOutPost inst value msgs fault) s

/-- INST_LOG_HEAD. -/
def execInstLogHead (inst : Nat) (value : Nat) (s : State) : Host.Outcome State Fault Refusal := run (fun s => s.instRow inst oInstLogHead value) s

/-! ### Test and debug -/

/-- RNG_TEST_CONTROL. -/
def execRngTestControl (value : Nat) (s : State) : Host.Outcome State Fault Refusal := run (fun s => s.pfWrite oRngTestControl value) s

/-- RNG_TEST_DATA. -/
def execRngTestData (value : Nat) (s : State) : Host.Outcome State Fault Refusal := run (fun s => (s.pfWrite oRngTestData value).settle) s

/-- PROT_DEBUG_REVOKE. -/
def execProtDebugRevoke (s : State) : Host.Outcome State Fault Refusal := run (fun s => s.pfWrite oProtDebug 0x200) s

/-- PROT_DEBUG_NEW_NONCE. -/
def execProtDebugNewNonce (s : State) : Host.Outcome State Fault Refusal := run (fun s => s.pfWrite oProtDebug 0x100) s

end Sys2Proof.Machine
end

