-- ==== Sys2Proof/Machine/RowsUnits.lean ====
section
/-! DEFINITION. The rows of memory, engines, protection, the twin, the ledger and the card (chapters 15 to 18). -/

namespace Sys2Proof.Machine

/-! ### Memory and engines (R490-R505) -/

/-- ECC_ERROR. -/
def execEccError (e : EccEvent) (s : State) : Host.Outcome State Fault Refusal := run (fun s => (s.eccError e).settle) s

/-- ENGINE_ERROR. -/
def execEngineError (unit : Nat) (item : Nat) (s : State) : Host.Outcome State Fault Refusal := run (fun s => (s.engineError unit item).settle) s

/-- ENGINE_KAT_DONE. -/
def execEngineKatDone (unit : Nat) (pass : Bool) (s : State) : Host.Outcome State Fault Refusal := run (fun s => (s.katDone unit pass).settle) s

/-- BANK_COPY_DONE. -/
def execBankCopyDone (quadrant : Nat) (s : State) : Host.Outcome State Fault Refusal := run (fun s => (s.bankCopyDone quadrant).settle) s

/-- BANK_MARCH_TEST_DONE. -/
def execBankMarchTestDone (quadrant : Nat) (pass : Bool) (s : State) : Host.Outcome State Fault Refusal := 
  run (fun s => (s.marchDone quadrant pass).settle) s

/-- BANK_COPY_BACK_DONE. -/
def execBankCopyBackDone (quadrant : Nat) (s : State) : Host.Outcome State Fault Refusal := run (fun s => (s.copyBackDone quadrant).settle) s

/-- BANK_RETENTION_TIMEOUT. -/
def execBankRetentionTimeout (bank : Nat) (s : State) : Host.Outcome State Fault Refusal := run (fun s => s.retentionTimeout bank) s

/-- ARBITER_STARVATION. -/
def execArbiterStarvation (requester : Nat) (unit : Nat) (crossbar : Bool) (s : State) : Host.Outcome State Fault Refusal := 
  run (fun s => s.starvation requester unit crossbar) s

/-! ### Protection (R429-R447) -/

/-- MONITOR_ASSERT. -/
def execMonitorAssert (source : Nat) (s : State) : Host.Outcome State Fault Refusal := run (fun s => (s.monitorAssert source).settle) s

/-- MONITOR_DEASSERT. -/
def execMonitorDeassert (source : Nat) (s : State) : Host.Outcome State Fault Refusal := run (fun s => s.monitorDeassert source) s

/-- NOISE_WINDOW. -/
def execNoiseWindow (source : Nat) (window : Bytes) (s : State) : Host.Outcome State Fault Refusal := 
  run (fun s => (s.noiseWindow source window).settle) s

/-- DRBG_RESEED_COUNT. -/
def execDrbgReseedCount (kind : Nat) (number : Nat) (s : State) : Host.Outcome State Fault Refusal := run (fun s => s.reseedCount kind number) s

/-! ### The twin (R408-R422) -/

/-- WELT_LINK_UP. -/
def execWeltLinkUp (w : WeltUp) (s : State) : Host.Outcome State Fault Refusal := run (fun s => (s.weltUp w).settle) s

/-- WELT_LINK_DOWN. -/
def execWeltLinkDown (s : State) : Host.Outcome State Fault Refusal := run (fun s => (s.weltDown).settle) s

/-- WELT_FRAME_TIMEOUT: a frame was not acknowledged, and the link is down (R409). -/
def execWeltFrameTimeout (s : State) : Host.Outcome State Fault Refusal := run (fun s => (s.weltDown).settle) s

/-- HEARTBEAT_RX. -/
def execHeartbeatRx (h : Heartbeat) (s : State) : Host.Outcome State Fault Refusal := run (fun s => (s.heartbeatRx h).settle) s

/-- HEARTBEAT_LOSS. -/
def execHeartbeatLoss (s : State) : Host.Outcome State Fault Refusal := run (fun s => (s.heartbeatLoss).settle) s

/-- FENCE_PROMOTION_ATTEMPT. -/
def execFencePromotionAttempt (s : State) : Host.Outcome State Fault Refusal := run (fun s => (s.fenceAttempt).settle) s

/-- START_WAIT_EXPIRY. -/
def execStartWaitExpiry (s : State) : Host.Outcome State Fault Refusal := run (fun s => (s.startWait).settle) s

/-- RETURN_OF_PRIMARY. -/
def execReturnOfPrimary (s : State) : Host.Outcome State Fault Refusal := run (fun s => (s.returnPrimary).settle) s

/-- RETURN_RESUME_TIMEOUT. -/
def execReturnResumeTimeout (s : State) : Host.Outcome State Fault Refusal := run (fun s => (s.returnResume).settle) s

/-- MIRRORED_CHANGE_RX. -/
def execMirroredChangeRx (m : MirrorRx) (s : State) : Host.Outcome State Fault Refusal := run (fun s => (s.mirroredRx m).settle) s

/-- MIRROR_ACK. -/
def execMirrorAck (id : Nat) (s : State) : Host.Outcome State Fault Refusal := run (fun s => (s.mirrorAck id).settle) s

/-- RESYNC_COMPLETE. -/
def execResyncComplete (s : State) : Host.Outcome State Fault Refusal := run (fun s => (s.resyncComplete).settle) s

/-- CLAIM_CAS_RESULT. -/
def execClaimCasResult (id : Nat) (value : Nat) (s : State) : Host.Outcome State Fault Refusal := run (fun s => (s.casResult id value).settle) s

/-- CLAIM_CAS_TIMEOUT. -/
def execClaimCasTimeout (id : Nat) (s : State) : Host.Outcome State Fault Refusal := run (fun s => (s.casTimeout id).settle) s

/-! ### The ledger and the card (R465-R482) -/

/-- LEDGER_RECORD_COMMIT. -/
def execLedgerRecordCommit (outcome : Nat) (s : State) : Host.Outcome State Fault Refusal := run (fun s => (s.recordCommit outcome).settle) s

/-- LEDGER_SEAL_COUNT. -/
def execLedgerSealCount (s : State) : Host.Outcome State Fault Refusal := run (fun s => (s.sealCount).settle) s

/-- LEDGER_SEAL_TIMER. -/
def execLedgerSealTimer (s : State) : Host.Outcome State Fault Refusal := run (fun s => (s.sealTimer).settle) s

/-- SECTOR_ERASE_AHEAD. -/
def execSectorEraseAhead (ok : Bool) (s : State) : Host.Outcome State Fault Refusal := run (fun s => (s.eraseAheadDone ok).settle) s

/-- LEDGER_VERIFY_DONE. -/
def execLedgerVerifyDone (damaged : Nat) (brk : Bool) (s : State) : Host.Outcome State Fault Refusal := run (fun s => s.verifyDone damaged brk) s

/-- CARD_DETECT. -/
def execCardDetect (card : CardSeen) (s : State) : Host.Outcome State Fault Refusal := run (fun s => s.cardDetect card) s

/-- CARD_REMOVAL. -/
def execCardRemoval (us : Nat) (s : State) : Host.Outcome State Fault Refusal := run (fun s => (s.cardRemoval us).settle) s

/-- CARD_IDENTIFY_TIMEOUT. -/
def execCardIdentifyTimeout (s : State) : Host.Outcome State Fault Refusal := run (fun s => s.identifyTimeout) s

/-- CARD_BUSY_END. -/
def execCardBusyEnd (b : CardBusy) (s : State) : Host.Outcome State Fault Refusal := run (fun s => (s.cardBusyEnd b).settle) s

/-- CARD_BUSY_TIMEOUT. -/
def execCardBusyTimeout (s : State) : Host.Outcome State Fault Refusal := run (fun s => (s.cardBusyTimeout).settle) s

end Sys2Proof.Machine
end

