-- ==== Sys2Proof/Machine/RowsWork.lean ====
section
/-! DEFINITION. The rows of requests, items, stitches and engine work (chapters 6, 8, 10, 11, 12). -/

namespace Sys2Proof.Machine

/-- The end of a bulk quantum: a transit item's deferred stitch, or a service request's next output. -/
def State.quantumRow (q : QuantumEnd) (s : State) : State :=
  if !s.works then s
  else match s.item? q.item with
    | none => s
    | some x => if x.transit then s.deferredQuantum q.item q.errors else s.quantumEnd q

/-! ### Requests and dispatch (R242-R258, R304-R313) -/

/-- SERVICE_DESCRIPTOR_FETCH. -/
def execServiceDescriptorFetch (f : ServiceFetch) (s : State) : Host.Outcome State Fault Refusal := run (fun s => (s.serviceFetch f).settle) s

/-- GATHER_FAULT. -/
def execGatherFault (item : Nat) (operand : Nat) (element : Nat) (s : State) : Host.Outcome State Fault Refusal := 
  run (fun s => (s.gatherFault item operand element).settle) s

/-- ITEM_ADMIT. -/
def execItemAdmit (frond : Nat) (s : State) : Host.Outcome State Fault Refusal := run (fun s => (s.itemAdmit frond).settle) s

/-- WAIT_POOL_FULL_COUNT. -/
def execWaitPoolFullCount (frond : Nat) (s : State) : Host.Outcome State Fault Refusal := run (fun s => s.waitPoolFullCount frond) s

/-- FLOW_LINGER_EXPIRY. -/
def execFlowLingerExpiry (flow : Nat) (s : State) : Host.Outcome State Fault Refusal := run (fun s => s.flowLinger flow) s

/-- CONTEXT_IDLE_EXPIRY. -/
def execContextIdleExpiry (entry : Nat) (s : State) : Host.Outcome State Fault Refusal := run (fun s => s.contextIdle entry) s

/-! ### Stitches (R183-R198) -/

/-- EXTRACT. -/
def execExtract (item : Nat) (s : State) : Host.Outcome State Fault Refusal := 
  run (fun s => (s.stitchRow opExtract State.extractStitch item).settle) s

/-- SELECT_KEY. -/
def execSelectKey (item : Nat) (s : State) : Host.Outcome State Fault Refusal := 
  run (fun s => (s.stitchRow opSelectKey State.selectKeyStitch item).settle) s

/-- APPLY. -/
def execApply (item : Nat) (s : State) : Host.Outcome State Fault Refusal := run (fun s => (s.stitchRow opApply State.applyStitch item).settle) s

/-- REWRITE. -/
def execRewrite (item : Nat) (s : State) : Host.Outcome State Fault Refusal := 
  run (fun s => (s.stitchRow opRewrite State.rewriteStitch item).settle) s

/-- TEST. -/
def execTest (item : Nat) (s : State) : Host.Outcome State Fault Refusal := run (fun s => (s.stitchRow opTest State.testStitch item).settle) s

/-- SKIP_IF. -/
def execSkipIf (item : Nat) (s : State) : Host.Outcome State Fault Refusal := run (fun s => (s.stitchRow opSkipIf State.skipStitch item).settle) s

/-- ROUTE. -/
def execRoute (item : Nat) (s : State) : Host.Outcome State Fault Refusal := run (fun s => (s.stitchRow opRoute State.routeStitch item).settle) s

/-- RESPOND. -/
def execRespond (item : Nat) (s : State) : Host.Outcome State Fault Refusal := 
  run (fun s => (s.stitchRow opRespond State.terminalStitch item).settle) s

/-- REJECT. -/
def execReject (item : Nat) (s : State) : Host.Outcome State Fault Refusal := run (fun s => (s.stitchRow opReject State.terminalStitch item).settle) s

/-- DROP. -/
def execDrop (item : Nat) (s : State) : Host.Outcome State Fault Refusal := run (fun s => (s.stitchRow opDrop State.terminalStitch item).settle) s

/-- HOLD. -/
def execHold (item : Nat) (s : State) : Host.Outcome State Fault Refusal := run (fun s => (s.stitchRow opHold State.holdStitch item).settle) s

/-- SET_FLOW. -/
def execSetFlow (item : Nat) (s : State) : Host.Outcome State Fault Refusal := 
  run (fun s => (s.stitchRow opSetFlow State.setFlowStitch item).settle) s

/-- COUNT. -/
def execCount (item : Nat) (s : State) : Host.Outcome State Fault Refusal := run (fun s => (s.stitchRow opCount State.countStitch item).settle) s

/-- EMIT. -/
def execEmit (item : Nat) (s : State) : Host.Outcome State Fault Refusal := run (fun s => (s.stitchRow opEmit State.emitStitch item).settle) s

/-! ### Timers and engines of running items (R40, R247, R322, R349, R351) -/

/-- HOLD_DUE. -/
def execHoldDue (item : Nat) (s : State) : Host.Outcome State Fault Refusal := run (fun s => (s.holdDue item).settle) s

/-- DEADLINE_EXPIRY. -/
def execDeadlineExpiry (item : Nat) (s : State) : Host.Outcome State Fault Refusal := run (fun s => (s.deadlineExpiry item).settle) s

/-- QUANTUM_END: of a service request, or of a deferred stitch (R205). -/
def execQuantumEnd (q : QuantumEnd) (s : State) : Host.Outcome State Fault Refusal := run (fun s => (s.quantumRow q).settle) s

/-- PK_JOB_ADMIT. -/
def execPkJobAdmit (frond : Nat) (s : State) : Host.Outcome State Fault Refusal := run (fun s => (s.pkAdmit frond).settle) s

/-- SEGMENT_END. -/
def execSegmentEnd (frond : Nat) (lattice : Bool) (releaseOk : Bool) (s : State) : Host.Outcome State Fault Refusal := 
  run (fun s => (s.segmentEnd frond lattice releaseOk).settle) s

end Sys2Proof.Machine
end

