-- ==== Sys2Proof/Machine/Dispatch.lean ====
section
/-! DEFINITION. The command dispatch: one arm for each constructor of Instr. -/

namespace Sys2Proof.Machine

def exec (i : Instr) (s : State) : Host.Outcome State Fault Refusal :=
  match i with
  | .powerOn inOrder => Sys2Proof.Machine.execPowerOn inOrder s
  | .powerLoss => Sys2Proof.Machine.execPowerLoss s
  | .sysRstN lowNs => Sys2Proof.Machine.execSysRstN lowNs s
  | .perstN low => Sys2Proof.Machine.execPerstN low s
  | .devResetRequest value => Sys2Proof.Machine.execDevResetRequest value s
  | .startUp env => Sys2Proof.Machine.execStartUp env s
  | .busMasterEnable fn on => Sys2Proof.Machine.execBusMasterEnable fn on s
  | .flrPf0 => Sys2Proof.Machine.execFlrPf0 s
  | .vfFlr fn => Sys2Proof.Machine.execVfFlr fn s
  | .tickBoundary => Sys2Proof.Machine.execTickBoundary s
  | .epochBoundary => Sys2Proof.Machine.execEpochBoundary s
  | .placementRun moves => Sys2Proof.Machine.execPlacementRun moves s
  | .mgmtSqTail value => Sys2Proof.Machine.execMgmtSqTail value s
  | .mgmtCqHead value => Sys2Proof.Machine.execMgmtCqHead value s
  | .mgmtDigestAck value => Sys2Proof.Machine.execMgmtDigestAck value s
  | .mgmtUrgent value => Sys2Proof.Machine.execMgmtUrgent value s
  | .mgmtDescriptorFetch urgent c => Sys2Proof.Machine.execMgmtDescriptorFetch urgent c s
  | .epochFence c => Sys2Proof.Machine.execEpochFence c s
  | .readState c => Sys2Proof.Machine.execReadState c s
  | .digestResync c => Sys2Proof.Machine.execDigestResync c s
  | .ksPageRangeSet c => Sys2Proof.Machine.execKsPageRangeSet c s
  | .ksPinResident c => Sys2Proof.Machine.execKsPinResident c s
  | .ksKeyInfo c => Sys2Proof.Machine.execKsKeyInfo c s
  | .ksPageRetry c => Sys2Proof.Machine.execKsPageRetry c s
  | .ksSnapshotBase c => Sys2Proof.Machine.execKsSnapshotBase c s
  | .ceremonyBegin c => Sys2Proof.Machine.execCeremonyBegin c s
  | .ceremonyRead c => Sys2Proof.Machine.execCeremonyRead c s
  | .ceremonyCommit c => Sys2Proof.Machine.execCeremonyCommit c s
  | .ceremonyAbort c => Sys2Proof.Machine.execCeremonyAbort c s
  | .ceremonyTimeout => Sys2Proof.Machine.execCeremonyTimeout s
  | .identityRead c => Sys2Proof.Machine.execIdentityRead c s
  | .lastLoad c => Sys2Proof.Machine.execLastLoad c s
  | .lastAmend c => Sys2Proof.Machine.execLastAmend c s
  | .lastCheck c => Sys2Proof.Machine.execLastCheck c s
  | .lastStats c => Sys2Proof.Machine.execLastStats c s
  | .lastValidationDone => Sys2Proof.Machine.execLastValidationDone s
  | .lastStorePersisted => Sys2Proof.Machine.execLastStorePersisted s
  | .dispFlowLookup c => Sys2Proof.Machine.execDispFlowLookup c s
  | .dispPinFlow c => Sys2Proof.Machine.execDispPinFlow c s
  | .dispHintFlow c => Sys2Proof.Machine.execDispHintFlow c s
  | .dispFronds c => Sys2Proof.Machine.execDispFronds c s
  | .dispHintKey c => Sys2Proof.Machine.execDispHintKey c s
  | .dispPlacement c => Sys2Proof.Machine.execDispPlacement c s
  | .portAdmin c => Sys2Proof.Machine.execPortAdmin c s
  | .portShutdown c => Sys2Proof.Machine.execPortShutdown c s
  | .sessionCreate c => Sys2Proof.Machine.execSessionCreate c s
  | .sessionConnect c => Sys2Proof.Machine.execSessionConnect c s
  | .sessionClose c => Sys2Proof.Machine.execSessionClose c s
  | .sessionDest c => Sys2Proof.Machine.execSessionDest c s
  | .portPeers c => Sys2Proof.Machine.execPortPeers c s
  | .macsecSaInstall c => Sys2Proof.Machine.execMacsecSaInstall c s
  | .macsecTxUse c => Sys2Proof.Machine.execMacsecTxUse c s
  | .macsecSaRemove c => Sys2Proof.Machine.execMacsecSaRemove c s
  | .macsecSaStatus c => Sys2Proof.Machine.execMacsecSaStatus c s
  | .queueCreate c => Sys2Proof.Machine.execQueueCreate c s
  | .queueDestroy c => Sys2Proof.Machine.execQueueDestroy c s
  | .queueStatus c => Sys2Proof.Machine.execQueueStatus c s
  | .instanceCreate c => Sys2Proof.Machine.execInstanceCreate c s
  | .instanceEnable c => Sys2Proof.Machine.execInstanceEnable c s
  | .instanceDisable c => Sys2Proof.Machine.execInstanceDisable c s
  | .instanceReset c => Sys2Proof.Machine.execInstanceReset c s
  | .instanceResetDone inst => Sys2Proof.Machine.execInstanceResetDone inst s
  | .instanceQuiet inst => Sys2Proof.Machine.execInstanceQuiet inst s
  | .instanceDestroy c => Sys2Proof.Machine.execInstanceDestroy c s
  | .instanceSetLimits c => Sys2Proof.Machine.execInstanceSetLimits c s
  | .movePrepare c => Sys2Proof.Machine.execMovePrepare c s
  | .moveOut c => Sys2Proof.Machine.execMoveOut c s
  | .moveIn c => Sys2Proof.Machine.execMoveIn c s
  | .moveFinish c => Sys2Proof.Machine.execMoveFinish c s
  | .moveAbandon c => Sys2Proof.Machine.execMoveAbandon c s
  | .moveCancel c => Sys2Proof.Machine.execMoveCancel c s
  | .moveMembership c => Sys2Proof.Machine.execMoveMembership c s
  | .forcedFailover c => Sys2Proof.Machine.execForcedFailover c s
  | .twinReturnHold c => Sys2Proof.Machine.execTwinReturnHold c s
  | .zeroise c => Sys2Proof.Machine.execZeroise c s
  | .protFuseOptions c => Sys2Proof.Machine.execProtFuseOptions c s
  | .debugUnlock c => Sys2Proof.Machine.execDebugUnlock c s
  | .ledgerExport c => Sys2Proof.Machine.execLedgerExport c s
  | .cardRead c => Sys2Proof.Machine.execCardRead c s
  | .firmwareUpdate c => Sys2Proof.Machine.execFirmwareUpdate c s
  | .fabBankPower c => Sys2Proof.Machine.execFabBankPower c s
  | .fabUnretire c => Sys2Proof.Machine.execFabUnretire c s
  | .fabSelftest c => Sys2Proof.Machine.execFabSelftest c s
  | .kumSqTail value => Sys2Proof.Machine.execKumSqTail value s
  | .kumCqHead value => Sys2Proof.Machine.execKumCqHead value s
  | .keyUpdateMessage entry msg => Sys2Proof.Machine.execKeyUpdateMessage entry msg s
  | .writeKey op => Sys2Proof.Machine.execWriteKey op s
  | .delete op => Sys2Proof.Machine.execDelete op s
  | .replenish op => Sys2Proof.Machine.execReplenish op s
  | .setAttributes op => Sys2Proof.Machine.execSetAttributes op s
  | .markPersistent op => Sys2Proof.Machine.execMarkPersistent op s
  | .setRoster op => Sys2Proof.Machine.execSetRoster op s
  | .setRosterDevice op => Sys2Proof.Machine.execSetRosterDevice op s
  | .enrolImageAuthority op => Sys2Proof.Machine.execEnrolImageAuthority op s
  | .enrolDomainAuthority op => Sys2Proof.Machine.execEnrolDomainAuthority op s
  | .establishRoster op => Sys2Proof.Machine.execEstablishRoster op s
  | .lifecycleStep op => Sys2Proof.Machine.execLifecycleStep op s
  | .lifecycleReceiptTimeout => Sys2Proof.Machine.execLifecycleReceiptTimeout s
  | .fuseBurnDone => Sys2Proof.Machine.execFuseBurnDone s
  | .debugEnable op => Sys2Proof.Machine.execDebugEnable op s
  | .clearTamper op => Sys2Proof.Machine.execClearTamper op s
  | .sqTail fn q value => Sys2Proof.Machine.execSqTail fn q value s
  | .cqHead fn q value => Sys2Proof.Machine.execCqHead fn q value s
  | .serviceDescriptorFetch f => Sys2Proof.Machine.execServiceDescriptorFetch f s
  | .gatherFault item operand element => Sys2Proof.Machine.execGatherFault item operand element s
  | .itemAdmit frond => Sys2Proof.Machine.execItemAdmit frond s
  | .waitPoolFullCount frond => Sys2Proof.Machine.execWaitPoolFullCount frond s
  | .extract item => Sys2Proof.Machine.execExtract item s
  | .selectKey item => Sys2Proof.Machine.execSelectKey item s
  | .apply item => Sys2Proof.Machine.execApply item s
  | .rewrite item => Sys2Proof.Machine.execRewrite item s
  | .test item => Sys2Proof.Machine.execTest item s
  | .skipIf item => Sys2Proof.Machine.execSkipIf item s
  | .route item => Sys2Proof.Machine.execRoute item s
  | .respond item => Sys2Proof.Machine.execRespond item s
  | .reject item => Sys2Proof.Machine.execReject item s
  | .drop item => Sys2Proof.Machine.execDrop item s
  | .hold item => Sys2Proof.Machine.execHold item s
  | .holdDue item => Sys2Proof.Machine.execHoldDue item s
  | .setFlow item => Sys2Proof.Machine.execSetFlow item s
  | .count item => Sys2Proof.Machine.execCount item s
  | .emit item => Sys2Proof.Machine.execEmit item s
  | .deadlineExpiry item => Sys2Proof.Machine.execDeadlineExpiry item s
  | .pinTranslate item => Sys2Proof.Machine.execPinTranslate item s
  | .pinVerifyOffset item => Sys2Proof.Machine.execPinVerifyOffset item s
  | .pinVerifyPvv item => Sys2Proof.Machine.execPinVerifyPvv item s
  | .pinGenerateOffset item => Sys2Proof.Machine.execPinGenerateOffset item s
  | .macGenerate item => Sys2Proof.Machine.execMacGenerate item s
  | .macVerify item => Sys2Proof.Machine.execMacVerify item s
  | .macTranslate item => Sys2Proof.Machine.execMacTranslate item s
  | .arqcVerify item => Sys2Proof.Machine.execArqcVerify item s
  | .arpcGenerate item => Sys2Proof.Machine.execArpcGenerate item s
  | .cardValueVerify item => Sys2Proof.Machine.execCardValueVerify item s
  | .cardValueGenerate item => Sys2Proof.Machine.execCardValueGenerate item s
  | .dukptDerive item => Sys2Proof.Machine.execDukptDerive item s
  | .keyDerive item => Sys2Proof.Machine.execKeyDerive item s
  | .tokenise item => Sys2Proof.Machine.execTokenise item s
  | .detokenise item => Sys2Proof.Machine.execDetokenise item s
  | .encrypt item => Sys2Proof.Machine.execEncrypt item s
  | .decrypt item => Sys2Proof.Machine.execDecrypt item s
  | .aeadSeal item => Sys2Proof.Machine.execAeadSeal item s
  | .aeadOpen item => Sys2Proof.Machine.execAeadOpen item s
  | .contextExport item => Sys2Proof.Machine.execContextExport item s
  | .contextImport item => Sys2Proof.Machine.execContextImport item s
  | .hash item => Sys2Proof.Machine.execHash item s
  | .hmacGenerate item => Sys2Proof.Machine.execHmacGenerate item s
  | .hmacVerify item => Sys2Proof.Machine.execHmacVerify item s
  | .sign item => Sys2Proof.Machine.execSign item s
  | .verify item => Sys2Proof.Machine.execVerify item s
  | .keyAgree item => Sys2Proof.Machine.execKeyAgree item s
  | .kemEncaps item => Sys2Proof.Machine.execKemEncaps item s
  | .kemDecaps item => Sys2Proof.Machine.execKemDecaps item s
  | .keyGenerate item => Sys2Proof.Machine.execKeyGenerate item s
  | .keyImportBlock item => Sys2Proof.Machine.execKeyImportBlock item s
  | .keyExportBlock item => Sys2Proof.Machine.execKeyExportBlock item s
  | .keyCheckValue item => Sys2Proof.Machine.execKeyCheckValue item s
  | .random item => Sys2Proof.Machine.execRandom item s
  | .drbgReseed item => Sys2Proof.Machine.execDrbgReseed item s
  | .attest item => Sys2Proof.Machine.execAttest item s
  | .quantumEnd q => Sys2Proof.Machine.execQuantumEnd q s
  | .pkJobAdmit frond => Sys2Proof.Machine.execPkJobAdmit frond s
  | .segmentEnd frond lattice releaseOk => Sys2Proof.Machine.execSegmentEnd frond lattice releaseOk s
  | .pageFetchDone page data => Sys2Proof.Machine.execPageFetchDone page data s
  | .pageFetchTimeout page => Sys2Proof.Machine.execPageFetchTimeout page s
  | .pageWriteBack page data => Sys2Proof.Machine.execPageWriteBack page data s
  | .pageWriteConfirm page header => Sys2Proof.Machine.execPageWriteConfirm page header s
  | .kpgNoticeHead value => Sys2Proof.Machine.execKpgNoticeHead value s
  | .journalCommit => Sys2Proof.Machine.execJournalCommit s
  | .snapshotBaseCommit => Sys2Proof.Machine.execSnapshotBaseCommit s
  | .ethernetFrameRx f => Sys2Proof.Machine.execEthernetFrameRx f s
  | .pfcFrame f => Sys2Proof.Machine.execPfcFrame f s
  | .arpRequest f => Sys2Proof.Machine.execArpRequest f s
  | .neighbourSolicitation f => Sys2Proof.Machine.execNeighbourSolicitation f s
  | .lldpdu f => Sys2Proof.Machine.execLldpdu f s
  | .dataFrame f => Sys2Proof.Machine.execDataFrame f s
  | .noticeFrame f => Sys2Proof.Machine.execNoticeFrame f s
  | .creditFrame f => Sys2Proof.Machine.execCreditFrame f s
  | .closeFrame f => Sys2Proof.Machine.execCloseFrame f s
  | .hello f => Sys2Proof.Machine.execHello f s
  | .offer f => Sys2Proof.Machine.execOffer f s
  | .accept f => Sys2Proof.Machine.execAccept f s
  | .presenceFrame f => Sys2Proof.Machine.execPresenceFrame f s
  | .setupTimeout session => Sys2Proof.Machine.execSetupTimeout session s
  | .helloResend session => Sys2Proof.Machine.execHelloResend session s
  | .acceptResend session => Sys2Proof.Machine.execAcceptResend session s
  | .creditResend session => Sys2Proof.Machine.execCreditResend session s
  | .creditGrantSend session => Sys2Proof.Machine.execCreditGrantSend session s
  | .serviceResponseTimeout item => Sys2Proof.Machine.execServiceResponseTimeout item s
  | .parkTimeExpiry session => Sys2Proof.Machine.execParkTimeExpiry session s
  | .reclaimTimeExpiry session => Sys2Proof.Machine.execReclaimTimeExpiry session s
  | .presenceAnnounce port sub => Sys2Proof.Machine.execPresenceAnnounce port sub s
  | .lldpAnnounce port sub => Sys2Proof.Machine.execLldpAnnounce port sub s
  | .solitaryEntry port sub => Sys2Proof.Machine.execSolitaryEntry port sub s
  | .peerEntryAgeing port ix => Sys2Proof.Machine.execPeerEntryAgeing port ix s
  | .linkChange port sub up => Sys2Proof.Machine.execLinkChange port sub up s
  | .flowLingerExpiry flow => Sys2Proof.Machine.execFlowLingerExpiry flow s
  | .contextIdleExpiry entry => Sys2Proof.Machine.execContextIdleExpiry entry s
  | .mbxSend inst value => Sys2Proof.Machine.execMbxSend inst value s
  | .instMbxIn inst value => Sys2Proof.Machine.execInstMbxIn inst value s
  | .instMbxOutPost inst value msgs fault => Sys2Proof.Machine.execInstMbxOutPost inst value msgs fault s
  | .mbxRx inst value => Sys2Proof.Machine.execMbxRx inst value s
  | .instLogHead inst value => Sys2Proof.Machine.execInstLogHead inst value s
  | .eccError e => Sys2Proof.Machine.execEccError e s
  | .engineError unit item => Sys2Proof.Machine.execEngineError unit item s
  | .engineKatDone unit pass => Sys2Proof.Machine.execEngineKatDone unit pass s
  | .bankCopyDone quadrant => Sys2Proof.Machine.execBankCopyDone quadrant s
  | .bankMarchTestDone quadrant pass => Sys2Proof.Machine.execBankMarchTestDone quadrant pass s
  | .bankCopyBackDone quadrant => Sys2Proof.Machine.execBankCopyBackDone quadrant s
  | .bankRetentionTimeout bank => Sys2Proof.Machine.execBankRetentionTimeout bank s
  | .arbiterStarvation requester unit crossbar => Sys2Proof.Machine.execArbiterStarvation requester unit crossbar s
  | .monitorAssert source => Sys2Proof.Machine.execMonitorAssert source s
  | .tempWarn temp => Sys2Proof.Machine.execTempWarn temp s
  | .noiseWindow source window => Sys2Proof.Machine.execNoiseWindow source window s
  | .drbgReseedCount kind number => Sys2Proof.Machine.execDrbgReseedCount kind number s
  | .rngTestControl value => Sys2Proof.Machine.execRngTestControl value s
  | .rngTestData value => Sys2Proof.Machine.execRngTestData value s
  | .protDebugRevoke => Sys2Proof.Machine.execProtDebugRevoke s
  | .protDebugNewNonce => Sys2Proof.Machine.execProtDebugNewNonce s
  | .weltLinkUp w => Sys2Proof.Machine.execWeltLinkUp w s
  | .weltFrameTimeout => Sys2Proof.Machine.execWeltFrameTimeout s
  | .heartbeatRx h => Sys2Proof.Machine.execHeartbeatRx h s
  | .heartbeatLoss => Sys2Proof.Machine.execHeartbeatLoss s
  | .fencePromotionAttempt => Sys2Proof.Machine.execFencePromotionAttempt s
  | .startWaitExpiry => Sys2Proof.Machine.execStartWaitExpiry s
  | .returnOfPrimary => Sys2Proof.Machine.execReturnOfPrimary s
  | .returnResumeTimeout => Sys2Proof.Machine.execReturnResumeTimeout s
  | .mirroredChangeRx m => Sys2Proof.Machine.execMirroredChangeRx m s
  | .mirrorAck id => Sys2Proof.Machine.execMirrorAck id s
  | .resyncComplete => Sys2Proof.Machine.execResyncComplete s
  | .claimCasResult id value => Sys2Proof.Machine.execClaimCasResult id value s
  | .claimCasTimeout id => Sys2Proof.Machine.execClaimCasTimeout id s
  | .ledgerRecordCommit outcome => Sys2Proof.Machine.execLedgerRecordCommit outcome s
  | .ledgerSealCount => Sys2Proof.Machine.execLedgerSealCount s
  | .ledgerSealTimer => Sys2Proof.Machine.execLedgerSealTimer s
  | .sectorEraseAhead ok => Sys2Proof.Machine.execSectorEraseAhead ok s
  | .ledgerVerifyDone damaged brk => Sys2Proof.Machine.execLedgerVerifyDone damaged brk s
  | .cardDetect card => Sys2Proof.Machine.execCardDetect card s
  | .cardRemoval us => Sys2Proof.Machine.execCardRemoval us s
  | .cardIdentifyTimeout => Sys2Proof.Machine.execCardIdentifyTimeout s
  | .cardBusyEnd b => Sys2Proof.Machine.execCardBusyEnd b s
  | .cardBusyTimeout => Sys2Proof.Machine.execCardBusyTimeout s
  | .errCodeSelect value => Sys2Proof.Machine.execErrCodeSelect value s
  | .rcRegisterRead r => Sys2Proof.Machine.execRcRegisterRead r s
  | .registerWrite r => Sys2Proof.Machine.execRegisterWrite r s
  | .weltLinkDown => Sys2Proof.Machine.execWeltLinkDown s
  | .monitorDeassert source => Sys2Proof.Machine.execMonitorDeassert source s
  | .batteryDomainLoss => Sys2Proof.Machine.execBatteryDomainLoss s
  | .registerRead r => Sys2Proof.Machine.execRegisterRead r s
  | .debugAccess d => Sys2Proof.Machine.execDebugAccess d s
  | .vfEnable numVfs => Sys2Proof.Machine.execVfEnable numVfs s
  | .pciePowerState fn d3 => Sys2Proof.Machine.execPciePowerState fn d3 s
  | .pcieLinkChange up rate width flit => Sys2Proof.Machine.execPcieLinkChange up rate width flit s
  | .firmwareWriteDone ok => Sys2Proof.Machine.execFirmwareWriteDone ok s
  | .wipeDone => Sys2Proof.Machine.execWipeDone s

end Sys2Proof.Machine
end

