-- ==== Sys2Proof/Safety.lean ====
section
/-! DEFINITION. The terms in which the statements about the machine are made: how a command completes, when a management command or a
register access is accepted, when nothing is left to settle, and what no step may undo. -/

namespace Sys2Proof.Machine

/-! ### How a command completes -/

/-- Command `c` completes at `s` in state `t`: the queue stays as it was, and no fuse unburns (R433, R448). -/
def Goes (c : Instr) (s t : State) : Prop := exec c s = .next { t with pending := s.pending, fuses := s.fuses.burn t.fuses }

/-- What the rest of a step settles once the command's own effect has reached `e`: what has passed its check goes on (R410, R415), commands
whose boundary has come commit (R45, R47), the flows are brought up to date (R240, R241). -/
def After (e t : State) : Prop := ∃ n, t = (State.settleAll n e).dropUndeliverable.reapJobs.pump

/-- Command `c` completes at `s`, its own effect reaching `e`; what then settles in the same step is `After`. -/
def Leads (c : Instr) (s e : State) : Prop := ∃ t, After e t ∧ Goes c s t

/-- Nothing is left to settle: nothing has passed a check, no command waits at its boundary, the device holds no item, no job is
abandoned. -/
def Quiet (s : State) : Prop :=
  s.twin.passed = [] ∧ s.mgmt.urgentNow = [] ∧ s.mgmt.committing = none ∧ s.disp.items = [] ∧ s.eng.jobs = []

/-! ### Management commands -/

/-- A command as its own row submits it: its code in bytes 0 and 1, 64 bytes long. -/
def coded (code : Nat) (c : Cmd) : Cmd := { c with desc := padTo 64 (le 2 code ++ c.desc.drop 2) }

/-- The command on its way: the address of its descriptor (Table 2.9) and its commit point (Table 2.4). -/
def submitted (code : Nat) (c : Cmd) (s : State) : MCmd :=
  { cmd := coded code c, addr := s.reg oMgmtSqBase + 64 * s.mgmt.sqHead, point := s.commitPoint (coded code c) }

/-- The version check of R41: the command expects no version, its unit's version, or version 0 of a unit that is free. -/
def versionOk (c : Cmd) (s : State) : Bool :=
  !(match mgmtSpec c.code with | none => true | some x => x.checked) ||
    (s.unitVersion c.unitType c.unit == c.expected || (c.expected == 0 && s.unitFree c.unitType c.unit))

/-- The device takes management commands, and this one passes the checks of R43, the role check of R423 and the version check of R41. -/
def Accepted (code : Nat) (c : Cmd) (s : State) : Prop :=
  s.works = true ∧ formatFail (coded code c) = none ∧ (s.standby = false ∨ standbyAccepts (coded code c).code = true) ∧
    versionOk (coded code c) s = true

/-- The device has no twin, so that no change waits for a claim check or for the partner (R407), and nothing has passed one. -/
def Alone (s : State) : Prop := s.hasTwin = false ∧ s.twin.passed = []

/-- The code and the command of a row that submits a management command (Table 2.5 and the command tables). -/
def mgmtRow : Instr → Option (Nat × Cmd)
  | .epochFence c => some (0x8001, c)
  | .readState c => some (0x8002, c)
  | .digestResync c => some (0x8003, c)
  | .ksPageRangeSet c => some (0x8101, c)
  | .ksPinResident c => some (0x8102, c)
  | .ksKeyInfo c => some (0x8103, c)
  | .ksPageRetry c => some (0x8104, c)
  | .ksSnapshotBase c => some (0x8105, c)
  | .ceremonyBegin c => some (0x8110, c)
  | .ceremonyRead c => some (0x8111, c)
  | .ceremonyCommit c => some (0x8112, c)
  | .ceremonyAbort c => some (0x8113, c)
  | .identityRead c => some (0x8114, c)
  | .lastStats c => some (0x8204, c)
  | .dispFlowLookup c => some (0x8301, c)
  | .dispPinFlow c => some (0x8302, c)
  | .dispHintFlow c => some (0x8303, c)
  | .dispFronds c => some (0x8304, c)
  | .dispHintKey c => some (0x8305, c)
  | .dispPlacement c => some (0x8306, c)
  | .portAdmin c => some (0x8401, c)
  | .portShutdown c => some (0x8402, c)
  | .sessionCreate c => some (0x8403, c)
  | .sessionConnect c => some (0x8404, c)
  | .sessionClose c => some (0x8405, c)
  | .sessionDest c => some (0x8406, c)
  | .portPeers c => some (0x8407, c)
  | .macsecSaInstall c => some (0x8408, c)
  | .macsecTxUse c => some (0x8409, c)
  | .macsecSaRemove c => some (0x840A, c)
  | .macsecSaStatus c => some (0x840B, c)
  | .queueCreate c => some (0x8501, c)
  | .queueDestroy c => some (0x8502, c)
  | .queueStatus c => some (0x8503, c)
  | .instanceCreate c => some (0x8601, c)
  | .instanceEnable c => some (0x8602, c)
  | .instanceDisable c => some (0x8603, c)
  | .instanceReset c => some (0x8604, c)
  | .instanceDestroy c => some (0x8605, c)
  | .instanceSetLimits c => some (0x8606, c)
  | .movePrepare c => some (0x8607, c)
  | .moveOut c => some (0x8608, c)
  | .moveIn c => some (0x8609, c)
  | .moveFinish c => some (0x860A, c)
  | .moveCancel c => some (0x860C, c)
  | .moveAbandon c => some (0x860B, c)
  | .moveMembership c => some (0x860D, c)
  | .forcedFailover c => some (0x8701, c)
  | .twinReturnHold c => some (0x8702, c)
  | .zeroise c => some (0x8801, c)
  | .protFuseOptions c => some (0x8802, c)
  | .debugUnlock c => some (0x8803, c)
  | .ledgerExport c => some (0x8901, c)
  | .cardRead c => some (0x8902, c)
  | .firmwareUpdate c => some (0x8903, c)
  | .fabBankPower c => some (0x8A01, c)
  | .fabUnretire c => some (0x8A02, c)
  | .fabSelftest c => some (0x8A03, c)
  | _ => none

/-! ### Registers -/

/-- A 64-bit write of the host reaches the register at an offset of a function's BAR0: the function is there (R296, R298), the offset is
aligned (R3), firmware has loaded the register rules (R524) and they allow the write (R498, R499). -/
def Reaches (fn off : Nat) (s : State) : Prop :=
  s.hostSees fn off = true ∧ accessOk fn off 8 = true ∧ s.dev.regsUp = true ∧
    s.allowed (levelOf false fn) 1 (regStore fn off) = true

/-- The access was decided on once (R437). -/
def decided (s : State) : State := s.decisions 1

/-! ### Items -/

/-- Item `n` is `x`, its seam stands at stitch `t`, which runs. -/
def AtStitch (n : Nat) (x : Item) (t : Stitch) (s : State) : Prop := s.item? n = some x ∧ s.itemStitch x = some t

/-- Stitch `t`, of opcode `op`, runs for the message `x` (item `n`): a frond runs it, it neither waits for its end nor is in emission. -/
def Stitching (op n : Nat) (x : Item) (t : Stitch) (s : State) : Prop :=
  AtStitch n x t s ∧ s.works = true ∧ x.transit = true ∧ x.admitted = true ∧ x.stage = .running ∧ x.ending = false ∧ x.emis = none ∧ t.op = op

/-! ### Frames -/

/-- An up sub-port of definition `d` receives frame `f`, which passes the checks below the encapsulations as `k`, in state `t` (R264, R272). -/
def Hears (f : RxFrame) (d : SubDef) (k : Taken) (s t : State) : Prop :=
  s.subDef f.port f.sub = some d ∧ s.subUp f.port f.sub = true ∧ s.takeRx f d = (k, t)

/-! ### Functions -/

/-- The function's code and the item of a row that runs a function (R112, Table 4.4). -/
def fnRowOf : Instr → Option (Nat × Nat)
  | .pinTranslate n => some (0x0101, n)
  | .pinVerifyOffset n => some (0x0102, n)
  | .pinVerifyPvv n => some (0x0103, n)
  | .pinGenerateOffset n => some (0x0104, n)
  | .macGenerate n => some (0x0201, n)
  | .macVerify n => some (0x0202, n)
  | .macTranslate n => some (0x0203, n)
  | .arqcVerify n => some (0x0301, n)
  | .arpcGenerate n => some (0x0302, n)
  | .cardValueVerify n => some (0x0303, n)
  | .cardValueGenerate n => some (0x0304, n)
  | .dukptDerive n => some (0x0401, n)
  | .keyDerive n => some (0x0402, n)
  | .tokenise n => some (0x0501, n)
  | .detokenise n => some (0x0502, n)
  | .encrypt n => some (0x0601, n)
  | .decrypt n => some (0x0602, n)
  | .aeadSeal n => some (0x0603, n)
  | .aeadOpen n => some (0x0604, n)
  | .contextExport n => some (0x0605, n)
  | .contextImport n => some (0x0606, n)
  | .hash n => some (0x0701, n)
  | .hmacGenerate n => some (0x0702, n)
  | .hmacVerify n => some (0x0703, n)
  | .sign n => some (0x0801, n)
  | .verify n => some (0x0802, n)
  | .keyAgree n => some (0x0901, n)
  | .kemEncaps n => some (0x0902, n)
  | .kemDecaps n => some (0x0903, n)
  | .keyGenerate n => some (0x0A01, n)
  | .keyImportBlock n => some (0x0A02, n)
  | .keyExportBlock n => some (0x0A03, n)
  | .keyCheckValue n => some (0x0A04, n)
  | .random n => some (0x0B01, n)
  | .drbgReseed n => some (0x0B02, n)
  | .attest n => some (0x0C01, n)
  | _ => none

/-- Item `n` is `x`, a service request that a frond runs, of a function with code `code`, and its invocation passes R105 steps 1 to 4. -/
def Runs (code n : Nat) (x : Item) (s : State) : Prop :=
  s.works = true ∧ s.item? n = some x ∧ x.admitted = true ∧ x.stage = .running ∧ x.transit = false ∧ x.job = false ∧ x.waitSt = none ∧
    x.inv.fn = code ∧ s.formStep x.inv x.unver = none

/-- What the function of an item computes from (R105, R107): its invocation, the keys found, the context a piece resumes. -/
def State.fnCtx (t : State) (x : Item) (cx : Option CipherCtx) (k1 k2 : KeyRec) : FnCtx :=
  { inv := if x.unver then { x.inv with flags := setBit x.inv.flags 15 } else x.inv, k1 := k1, k2 := k2, seed := t.free,
    symRoom := t.symRoom x.inst, asymRoom := t.asymRoom x.inst, ctx := cx, extra := t.prepared x.inst x.inv cx }

/-- The invocation of item `x` runs with the context `cx` and the keys `k1` and `k2`: its keys are found, their holds taken (R105 step 5,
R326) in state `t`, and its policy and the random source let it compute (R105 step 6, R435). -/
def Supplied (code n : Nat) (x : Item) (cx : Option (Nat × CipherCtx)) (k1 k2 : KeyRec) (s t : State) : Prop :=
  x.inv.fn = code ∧ s.resumeStep n x.inst x.inv = .ok cx ∧
    ∃ f h1 h2 u, fnSpec code = some f ∧ s.takeKeys x.inst x.inv false (f.roles x.inv) = (.got k1 k2, h1, h2, u) ∧
      (let v := u.modItem n (fun y => { y with used1 := h1, used2 := h2, ctxSlot := cx.map Prod.fst })
       t = (match cx with
         | none => v
         | some (e, _) =>
           { v with eng := { v.eng with ctxs := v.eng.ctxs.modify e (fun c => { c with holder := some n, lastUse := v.tick.count }) } })) ∧
      f.policy (t.fnCtx x (cx.map Prod.snd) k1 k2) = none ∧ (f.random x.inv = true → t.rngOk = true)

/-- Item `n` runs a function that takes no public-key engine (R342), with everything it needs (`Found`). -/
def Served (code n : Nat) (x : Item) (cx : Option (Nat × CipherCtx)) (k1 k2 : KeyRec) (s t : State) : Prop :=
  Runs code n x s ∧ isPkFn x.inv = false ∧ Supplied code n x cx k1 k2 s t

/-- The computation has run with outcome `o`: the random bytes it drew are generated (R434), RANDOM and DRBG_RESEED reseed. -/
def State.computed (x : Item) (o : FnOut) (t : State) : State :=
  let r := match fnSpec x.inv.fn with | none => false | some f => f.random x.inv
  let t := t.when r (fun s => s.generate (16 + x.inst) (max 1 o.drawn))
  let t := t.when (x.inv.fn = 0x0B02 ∨ (x.inv.fn = 0x0B01 ∧ bit x.inv.opts 0)) (fun s => s.reseed (16 + x.inst))
  t.spend o.drawn

/-- The instance is charged for the invocation (R244), which item `n` keeps. -/
def State.charged (n : Nat) (x : Item) (t : State) : State :=
  (t.charge x.inst (cipherCost x.inv) 0 0).modItem n (fun y => { y with invoked := some x.inv })

/-- Item `n` completes with outcome `o`. -/
def State.answers (n : Nat) (x : Item) (o : FnOut) (t : State) : State := ((t.computed x o).charged n x).finishService n o none

/-- Item `n` keeps outcome `o` while its data runs in quanta (R319). -/
def State.runsOn (n : Nat) (x : Item) (o : FnOut) (t : State) : State :=
  let u := t.charged n x
  u.modItem n (fun y => { y with result := some o, job := true, done := 0, total := quantaOf (u.cfg.timing.period == 0) x.inv })

/-! ### What no step undoes -/

/-- A fuse row of the stage words or the options has a bit burned. -/
def Fuses.burned (f : Fuses) (row k : Nat) : Bool :=
  if row < 12 then (f.stages.getD row 0).testBit k else decide (row < 15) && (f.options.getD (row - 12) 0).testBit k

/-- Everything that `f` has burned stands in `g`: rows, programmed response and threshold words, destroyed secrets, a torn row. -/
def Fuses.keeps (f g : Fuses) : Prop :=
  (∀ row k, f.burned row k = true → g.burned row k = true) ∧ (∀ v, f.response = some v → g.response = some v) ∧
    (∀ v, f.thresholds = some v → g.thresholds = some v) ∧ (f.secrets = false → g.secrets = false) ∧ (f.torn = true → g.torn = true)

end Sys2Proof.Machine
end

