-- ==== Sys2Proof/Certificates/Slice0/Obligations.lean ====
section
/-! DEFINITION. The statements for the provers. Each says what commands of the LV5120 do: a clause gives hypotheses on the state and the
command's operands, and the state that the command then completes in (`Goes`, `Leads`: see Safety). -/

open Sys2Proof Sys2Proof.Machine

/-! ### Steps and the queue -/

/-- A step takes the command at the front of the queue and runs it with the queue's rest.
The model's choices in it: log 85. -/
def Obligations.StepRunsTheFrontCommand : Prop :=
  ∀ (c : Instr) (s : State), step { s with pending := c :: s.pending } = exec c s

/-- On an empty queue the block idles (the model's choice, log 11). -/
def Obligations.EmptyQueueIdles : Prop := ∀ s : State, s.pending = [] → step s = .next s

/-- Every command answers a next state, except POWER_ON with the rails down that come up out of order, which faults (R517).
The model's choices in it: log 34. -/
def Obligations.OnlyPowerOnOutOfOrderStops : Prop :=
  ∀ (c : Instr) (s : State),
    (∃ t, exec c s = .next t) ∨ (c = .powerOn false ∧ s.dev.rails = false ∧ exec c s = .fault .outsideRatedConditions)

/-! ### The invariant that every step keeps -/

/-- Fuses only burn: what a fuse image `f` has burned and stands burned before a step stands burned after it, in rows that keep their
numbers, and the queue loses its front command alone. -/
def Obligations.EveryStepKeepsBurnedFuses : Prop :=
  ∀ (f : Fuses) (s t : State), f.keeps s.fuses → step s = .next t →
    f.keeps t.fuses ∧ t.pending = s.pending.tail ∧
      (s.pending ≠ [] → t.fuses.stages.length = 12 ∧ t.fuses.options.length = 3)

/-- The reset state has exactly the burned rows of a part as shipped: W0 in its three rows, nothing else (R448, Table 16.4). -/
def Obligations.ResetHasWordZeroBurned : Prop :=
  ({} : Fuses).keeps State.reset.fuses ∧ State.reset.fuses.decode = 1 ∧ State.reset.fuses.stages.length = 12 ∧
    State.reset.fuses.options.length = 3 ∧ State.reset.pending = []

/-! ### What holds of every management command -/

/-- Nothing is left to settle in a quiet state: what follows a command's own effect leaves it as it is, so that a command whose effect reaches a
quiet state completes in exactly that state.
The model's choices in it: log 33. -/
def Obligations.QuietStatesAreSettled : Prop :=
  (∀ e t : State, Quiet e → After e t → t = e) ∧ (∀ (c : Instr) (s e : State), Quiet e → Leads c s e → Goes c s e)

/-- The checks before a management command acts, each of which leaves everything but the completion as it is: the checks of R43, the first
status in the order of R531, with version and commit point 0; on a STANDBY device NOT_ACTIVE for what R423 does not name; the expected
version (R41, R45). A device that does no work (not ready, stopped, halted) takes no command.
The model's choices in it: logs 12, 14, 32. -/
def Obligations.CommandsAreCheckedBeforeTheyAct : Prop :=
  (∀ (i : Instr) (code : Nat) (c : Cmd) (s : State) (st : Status), mgmtRow i = some (code, c) → s.works = true →
    formatFail (coded code c) = some st →
    Leads i s (s.completeAs { submitted code c s with point := 0 } st.code 0 0)) ∧
  (∀ (i : Instr) (code : Nat) (c : Cmd) (s : State), mgmtRow i = some (code, c) → s.works = true →
    formatFail (coded code c) = none → (s.standby = false ∨ standbyAccepts (coded code c).code = true) →
    versionOk (coded code c) s = false →
    Leads i s (s.finish (submitted code c s) .stateMismatch)) ∧
  (∀ (i : Instr) (code : Nat) (c : Cmd) (s : State), mgmtRow i = some (code, c) → s.works = true →
    formatFail (coded code c) = none → s.standby = true → standbyAccepts (coded code c).code = false →
    Leads i s (s.finish (submitted code c s) .notActive)) ∧
  (∀ (i : Instr) (code : Nat) (c : Cmd) (s : State), mgmtRow i = some (code, c) → s.works = false → Leads i s s)

/-! ### Power, resets and start-up (chapter 19) -/

/-- Rails that come up in order reset the device as a power-on reset does (R517, R520): fuses, battery domain and flash stay. Rails that come
up out of order stop the machine. POWER_LOSS: fuses, battery domain and flash survive, all else is lost; a row of a life-cycle step that was
being burned stays torn, which reads as LOST (R449). With the rails down POWER_LOSS changes nothing, with them up POWER_ON does not.
The model's choices in it: logs 2, 43. -/
def Obligations.RailsComeUpAndGoDown : Prop :=
  ((∀ (b : Bool) (s : State), s.dev.rails = true → Goes (.powerOn b) s s) ∧
  (∀ s : State, s.dev.rails = false → Goes (.powerOn true) s
    { State.reset with pending := s.pending, free := s.free, out := s.out, fuses := s.fuses, bat := s.bat, flash := s.flash,
                       dev := { rails := true, perstLow := s.dev.perstLow, resetCause := 1 },
                       prot := { live := s.prot.live, life := s.fuses.decode } }) ∧
  (∀ s : State, s.dev.rails = false → exec (.powerOn false) s = .fault .outsideRatedConditions)) ∧
  ((∀ s : State, s.dev.rails = false → Goes .powerLoss s s) ∧
  (∀ s : State, s.dev.rails = true →
    let burning := match s.prot.step with | none => false | some t => t.stage == 3
    let f := if burning then { s.fuses with torn := true } else s.fuses
    Goes .powerLoss s
      { State.reset with pending := s.pending, free := s.free, out := s.out, fuses := f, bat := s.bat, flash := s.flash,
                         dev := { rails := false, perstLow := s.dev.perstLow, resetCause := 0 },
                         prot := { live := s.prot.live, life := f.decode } }) ∧
  (∀ f : Fuses, f.torn = true → f.decode = 5))

/-- SYS_RST_N is filtered by width: below 50 ns ignored, up to 10 µs a glitch that asserts source 13, from 10 µs on a device reset with
cause 2 (R518, R520). -/
def Obligations.ResetPinIsFilteredByWidth : Prop :=
  ∀ (ns : Nat) (s : State), s.dev.rails = true →
    (ns < 50 → Leads (.sysRstN ns) s s) ∧
    (50 ≤ ns → ns < 10000 → Leads (.sysRstN ns) s (s.assertSource 13)) ∧
    (10000 ≤ ns →
      let t : State := { State.reset with
        pending := s.pending, free := s.free, out := s.out, fuses := s.fuses, bat := s.bat, flash := s.flash,
        dev := { rails := true, perstLow := s.dev.perstLow, resetCause := 2 }, prot := { live := s.prot.live, life := s.fuses.decode } }
      Leads (.sysRstN ns) s t ∧ (s.fuses.decode ≠ 4 → t.mayStart = true))

/-- DEV_RESET_REQUEST takes 0x5120_5E7E alone; any other value is rejected with BAD_FIELD_VALUE and nothing else happens. The reset comes at
the next tick boundary, with cause 3.
The model's choices in it: logs 2, 40. -/
def Obligations.ResetRequestTakesItsKeyAlone : Prop :=
  (∀ s : State, Reaches 0 oDevResetRequest s →
    Goes (.devResetRequest 0x51205E7E) s { decided s with dev := { s.dev with resetReq := true } }) ∧
  (∀ (v : Nat) (s : State), Reaches 0 oDevResetRequest s → v < 2 ^ 32 → v ≠ 0x51205E7E →
    Goes (.devResetRequest v) s ((decided s).reject oDevResetRequest .badFieldValue)) ∧
  (∀ s : State, s.dev.rails = true → s.tick.due = false → s.dev.resetReq = true →
    Leads .tickBoundary s
      { State.reset with pending := s.pending, free := s.free, out := s.out, fuses := s.fuses, bat := s.bat, flash := s.flash,
                         dev := { rails := true, perstLow := s.dev.perstLow, resetCause := 3 },
                         prot := { live := s.prot.live, life := s.fuses.decode } })

/-- START_UP runs after a device reset (R522). A life-cycle that decodes as LOST stops it at step 3 with the tamper-erasable secret erased,
SCRAPPED stops it there with nothing brought up (R449); a boot ROM that does not match stops it at step 4 with cause 2, no valid firmware at
step 5 with cause 1 (R523, R525). Otherwise it goes on from step 6 with the firmware of higher serial.
The model's choices in it: logs 4, 22, 52, 53. -/
def Obligations.StartUpStepsStopOrGoOn : Prop :=
  ∀ (e : StartEnv) (s : State), s.mayStart = true → s.bat.valid = true →
    let b : State := { s with bat := { s.bat with cycles := min (s.bat.cycles + 1) (2 ^ 32 - 1) }, prot := { s.prot with watching := true } }
    b.startSources = [] →
    let d := (State.decisions 1 { b with prot := { b.prot with life := s.fuses.decode } })
    (s.fuses.decode = 4 → Leads (.startUp e) s d) ∧
    (s.fuses.decode = 5 →
      Leads (.startUp e) s { d with bat := { d.bat with secret := none }, dev := { d.dev with lost := true, step := 3 } }) ∧
    (s.fuses.decode < 4 → e.romOk = false → Leads (.startUp e) s (d.stopAt 4 2)) ∧
    (s.fuses.decode < 4 → e.romOk = true → s.flash.fwA.valid = false → s.flash.fwB.valid = false →
      Leads (.startUp e) s ((State.decisions 2 { d with dev := { d.dev with romDigest := Config.romDigest } }).stopAt 5 1)) ∧
    (s.fuses.decode < 4 → e.romOk = true → (s.flash.fwA.valid = true ∨ s.flash.fwB.valid = true) →
      let useB := s.flash.fwB.valid && (!s.flash.fwA.valid || decide (s.flash.fwA.serial < s.flash.fwB.serial))
      let fw := if useB then s.flash.fwB else s.flash.fwA
      let r := State.decisions 2 { d with dev := { d.dev with romDigest := Config.romDigest } }
      let c : State := { r with dev := { r.dev with fwB := useB, fwSerial := fw.serial, fwDigest := fw.digest, regsUp := true },
                                fab := { r.fab with rules := bootRules } }
      let o := c.openLedger e.torn
      let o := if o.ledger.opened then o else o.raise 16 oLdgIrq 0
      o.stillHalting = [] →
      let n := o.noiseTest e.noise
      Leads (.startUp e) s (if n.rng.state = 2
        then ((n.localRec 0x08 ([BitVec.ofNat 8 n.rng.failed, BitVec.ofNat 8 n.rng.cause] ++ zeros 6)).startRecord).stopAt 6 3
        else n.startRest e))

/-- BATTERY_DOMAIN_LOSS with VDDIO down empties the battery domain; TEMP_WARN holds the temperature and its highest value, and raises its
interrupt when the threshold is first exceeded (R521, Table 19.9). FIRMWARE_UPDATE erases the area that is not running and writes a valid
image there; FIRMWARE_WRITE_DONE completes it with OK once the copy reads back as written (R526).
The model's choices in it: logs 34, 55. -/
def Obligations.BatteryTemperatureAndFirmware : Prop :=
  ((∀ s : State, s.dev.rails = false → Goes .batteryDomainLoss s { s with bat := { valid := false } }) ∧
  (∀ s : State, s.dev.rails = true → Goes .batteryDomainLoss s s) ∧
  (∀ (t : Nat) (s : State), s.dev.rails = true → t < 2 ^ 16 →
    let above := decide (signed16 (s.fld oDevTempWarn 15 0) < signed16 t)
    let e : State := { s with dev := { s.dev with
      temp := t, tempMax := if signed16 s.dev.tempMax < signed16 t then t else s.dev.tempMax, tempArmed := !above } }
    Goes (.tempWarn t) s (if above && s.dev.tempArmed then e.raise 0 oDevIrq 0 else e))) ∧
  ((∀ (c : Cmd) (s : State), Accepted 0x8903 c s → s.dev.fwJob = none →
    let m := submitted 0x8903 c s
    m.cmd.u 32 8 % 8 = 0 → firmwareFail s.dev.fwSerial (m.cmd.u 40 4) m.image = none →
    let d := s.decisions 2
    Leads (.firmwareUpdate c) s (if s.dev.fwB
      then { d with flash := { d.flash with fwA := { d.flash.fwA with valid := false } }, dev := { d.dev with fwJob := some { m := m, slot := 0 } } }
      else { d with flash := { d.flash with fwB := { d.flash.fwB with valid := false } }, dev := { d.dev with fwJob := some { m := m, slot := 1 } } })) ∧
  (∀ (j : FwJob) (s : State), s.dev.fwJob = some j →
    let d : State := { s with dev := { s.dev with fwJob := none } }
    let x : Firmware := { valid := true, serial := leAt j.m.image 8 8, digest := sha384 (j.m.image.take 128), image := j.m.image }
    Leads (.firmwareWriteDone false) s (d.finish j.m .firmwareInvalid) ∧
    Leads (.firmwareWriteDone true) s
      (State.finish j.m .ok { d with flash := if j.slot = 0 then { s.flash with fwA := x } else { s.flash with fwB := x } })))

/-! ### PCIe functions (chapter 10) -/

/-- PCIe functions: VF_ENABLE gives NumVFs functions; an FLR of VF n removes its queue pairs, increments its instance's version and takes its
bus mastering away until it is set again; PERST_N low takes the link down and acts as an FLR of PF0, which ends every access through it
(VF Enable, ring and log enables, held completions, staged and urgent commands); PCIE_POWER_STATE, BUS_MASTER_ENABLE and PCIE_LINK_CHANGE
set what they name, and the messages that wait for a function go when it masters the bus again (R296, R298, R315, R316, R519).
The model's choices in it: log 7. -/
def Obligations.PcieFunctionsAndLink : Prop :=
  ((∀ (n : Nat) (s : State), s.dev.regsUp = true → 0 < n → n ≤ 4095 → s.pcie.vfEnable = false →
    Leads (.vfEnable n) s { s with pcie := { s.pcie with vfEnable := true, numVfs := n } }) ∧
  (∀ (n : Nat) (s : State), n ≠ 0 → s.hasFn n = true →
    let d := (((s.dropQueues n).touchInst n).bump oHqFlr).raise 9 oHqIrq 1
    Leads (.vfFlr n) s { d with pcie := { d.pcie with
      bmeOff := if d.pcie.bmeOff.contains n then d.pcie.bmeOff else d.pcie.bmeOff ++ [n]
      msixWait := d.pcie.msixWait.filter (fun e => e.1 != n)
      msixPend := d.pcie.msixPend.filter (fun e => e.1 != n) } }) ∧
  (∀ s : State, s.dev.rails = true → s.dev.perstLow = false →
    Leads (.perstN true) s (State.flrPf0 { s with dev := { s.dev with perstLow := true },
                                                  pcie := { s.pcie with up := false, rate := 0, width := 0, flit := false } })) ∧
  (∀ s : State, s.dev.rails = true → s.dev.perstLow = true →
    Leads (.perstN false) s { s with dev := { s.dev with perstLow := false } })) ∧
  (∀ s : State, s.dev.regsUp = true → s.pcie.vfEnable = false → s.queues = [] → s.inst.map Prod.fst = [0] →
    let f := s.flrManagement
    let g := (((f.setFld oMgmtControl 0 0 0).setFld oKpgControl 0 0 0).setFld oKumControl 0 0 0).bump oHqFlr
    Leads .flrPf0 s { g with pcie := { g.pcie with
      vfEnable := false, numVfs := 0, bmeOff := if g.pcie.bmeOff.contains 0 then g.pcie.bmeOff else g.pcie.bmeOff ++ [0]
      msixWait := [], msixPend := g.pcie.msixPend.filter (fun e => e.1 != 0) } } ∧
    f.mgmt.staged = [] ∧ f.mgmt.urgent = [] ∧ f.mgmt.held = [] ∧ f.mgmt.busy = false ∧ f.kum.held = []) ∧
  ((∀ (fn : Nat) (s : State), s.dev.rails = true → s.hasFn fn = true → s.pcie.d3.contains fn = false →
    Leads (.pciePowerState fn true) s { s with pcie := { s.pcie with d3 := s.pcie.d3 ++ [fn] } }) ∧
  (∀ (fn : Nat) (s : State), s.dev.rails = true → s.hasFn fn = true → s.pcie.bmeOff.contains fn = true →
    Leads (.pciePowerState fn false) s { s with pcie := { s.pcie with d3 := s.pcie.d3.filter (fun f => f != fn) } }) ∧
  (∀ (fn : Nat) (s : State), s.dev.regsUp = true → s.hasFn fn = true → s.pcie.bmeOff.contains fn = false →
    Leads (.busMasterEnable fn false) s { s with pcie := { s.pcie with bmeOff := s.pcie.bmeOff ++ [fn] } }) ∧
  (∀ (fn : Nat) (s : State), s.dev.regsUp = true → fn ≠ 0 → s.hasFn fn = true → s.pcie.d3.contains fn = false →
    let pend := s.pcie.msixPend.filter (fun e => e.1 == fn && !bit (s.reg (msixControl e.1 e.2)) 32)
    Leads (.busMasterEnable fn true) s (pend.foldl (fun (s : State) e => s.msix e.1 e.2)
      { s with pcie := { s.pcie with bmeOff := s.pcie.bmeOff.filter (fun f => f != fn)
                                     msixPend := s.pcie.msixPend.filter (fun e => !pend.contains e) } })) ∧
  (∀ (rate width : Nat) (flit : Bool) (s : State), s.dev.rails = true → s.dev.perstLow = false → 1 ≤ rate → rate ≤ 6 →
    [1, 2, 4, 8, 16].contains width = true →
    Goes (.pcieLinkChange true rate width flit) s
      { s with pcie := { s.pcie with up := true, rate := rate, width := width, flit := flit || rate == 6 } }) ∧
  (∀ (rate width : Nat) (flit : Bool) (s : State), s.dev.rails = true →
    Goes (.pcieLinkChange false rate width flit) s { s with pcie := { s.pcie with up := false, rate := 0, width := 0, flit := false } }))

/-! ### Ticks and epochs (chapter 2) -/

/-- A tick boundary adds one to the tick counter and does what is due; when the counter becomes a multiple of 1,000,000 the epoch boundary's
own work follows before the next tick (R33, R45). PLACEMENT_RUN: the engine's moves within the budgets wait for the next epoch boundary;
while FREEZE is set it makes none (R253).
The model's choices in it: logs 35, 66. -/
def Obligations.TicksEpochsAndPlacement : Prop :=
  ((∀ s : State, s.dev.rails = true → s.tick.due = false → s.dev.resetReq = false → (s.tick.count + 1) % 1000000 ≠ 0 →
    Leads .tickBoundary s (s.passTicks 1).tickDue ∧ (s.passTicks 1).tick.count = s.tick.count + 1) ∧
  (∀ s : State, s.dev.rails = true → s.tick.due = false → s.dev.resetReq = false → (s.tick.count + 1) % 1000000 = 0 → s.tick.jumpTo = none →
    let p := s.passTicks 1
    Leads .tickBoundary s (State.tickDue { p with tick := { p.tick with due := true } })) ∧
  (∀ s : State, s.dev.rails = true → s.tick.due = true → s.ready = true → s.works = true → s.last.job = none →
    let p : State := { s with tick := { s.tick with due := false }, mgmt := { s.mgmt with committing := some s.tick.count } }
    Leads .epochBoundary s (p.countSilence.newEstimates.rekeyJitter.raise 1 oTickIrq 0)) ∧
  (∀ s : State, s.epoch = s.tick.count / 1000000 % 2 ^ 32)) ∧
  ((∀ (moves : List PlanMove) (s : State), s.works = true → s.disp.frozen = true → Goes (.placementRun moves) s s) ∧
  (∀ (moves : List PlanMove) (s : State), s.works = true → s.disp.frozen = false →
    ∃ plan, Goes (.placementRun moves) s { s with disp := { s.disp with plan := plan } } ∧
      (plan.filter (fun p => p.kind == 0)).length ≤ s.cfg.disp.flowBudget ∧
      (plan.filter (fun p => p.kind == 1 || p.kind == 2)).length ≤ s.cfg.disp.slotBudget ∧ ∀ p ∈ plan, p ∈ moves))

/-! ### Registers (chapters 0, 2, 18 and 20) -/

/-- A write of PF0's BAR0 that is not an aligned 64-bit access is rejected with BAD_ALIGNMENT and changes nothing else (R3); one that no
rule allows is denied (R499); one that sets a reserved bit of a listed register is rejected with RESERVED_NONZERO; a register without RW
bits ignores it (R4); otherwise the fields' checks are made, and with all passed the register takes the value (REGISTER_WRITE).
The model's choices in it: logs 22, 40. -/
def Obligations.RegisterWritesAreCheckedFirst : Prop :=
  ∀ (off size v : Nat) (s : State), s.hostSees 0 off = true → s.dev.regsUp = true →
    let a : RegAccess := { fn := 0, off := off, size := size, value := v }
    (accessOk 0 off size = false → Leads (.registerWrite a) s (s.reject off .badAlignment)) ∧
    (accessOk 0 off size = true → (decided s).allowed 2 1 (regStore 0 off) = false →
      Leads (.registerWrite a) s ((decided s).denied 2 (regStore 0 off))) ∧
    (∀ (b : BlockDef) (r : RegDef), accessOk 0 off size = true → (decided s).allowed 2 1 (regStore 0 off) = true →
      inMsixTable 0 off = false → inMsixPba 0 off = false → isDoorbell off = false → blockOf off = some b → regAt off = some r → v < 2 ^ 64 →
      (v &&& r.rsv ≠ 0 → Leads (.registerWrite a) s ((decided s).reject off .reservedNonzero)) ∧
      (v &&& r.rsv = 0 → r.rw = 0 → Leads (.registerWrite a) s (decided s)) ∧
      (v &&& r.rsv = 0 → r.rw ≠ 0 → ∀ st, firstFail ((decided s).writeChecks b off (v &&& r.rw)) = some st →
        Leads (.registerWrite a) s ((decided s).reject off st)) ∧
      (v &&& r.rsv = 0 → r.rw ≠ 0 → firstFail ((decided s).writeChecks b off (v &&& r.rw)) = none →
        Leads (.registerWrite a) s ((decided s).writeEffect b r off (v &&& r.rw))))

/-- A read answers the register's value and clears its RC fields; a read that no rule allows, or that is not aligned, answers 0; a read of
an unlisted address inside a block answers 0 and nothing is latched, outside every block it is latched with BAD_FIELD_VALUE (R3, R9, R499).
REGISTER_READ and RC_REGISTER_READ are the same access.
The model's choices in it: logs 22, 40, 42. -/
def Obligations.RegisterReadsAnswerValues : Prop :=
  ∀ (off size v : Nat) (s : State), s.hostSees 0 off = true → s.dev.regsUp = true →
    let a : RegAccess := { fn := 0, off := off, size := size, value := v }
    (∀ i, (i = .registerRead a ∨ i = .rcRegisterRead a) →
      (accessOk 0 off size = false → Goes i s ((s.reject off .badAlignment).emit (.value 0))) ∧
      (accessOk 0 off size = true → (decided s).allowed 2 0 (regStore 0 off) = false →
        Goes i s (((decided s).denied 2 (regStore 0 off)).emit (.value 0))) ∧
      (accessOk 0 off size = true → (decided s).allowed 2 0 (regStore 0 off) = true → inMsixTable 0 off = false → inMsixPba 0 off = false →
        isDoorbell off = false →
        (blockOf off = none → Goes i s (((decided s).reject off .badFieldValue).emit (.value 0))) ∧
        (∀ b, blockOf off = some b → regAt off = none → Goes i s ((decided s).emit (.value 0))) ∧
        (∀ b r, blockOf off = some b → regAt off = some r →
          Goes i s ((((decided s).clearRc b r off).when (off == oTwinMirror) (State.spend 8)).emit (.value ((decided s).view b r off))))))

/-- The tails and heads of the management ring and the key-update ring take indices below their ring's size and refuse others with
BAD_FIELD_VALUE (R56, R57 and, for the heads, the model's reading, log 30); a head that moves lets held completions go out, oldest first;
KPG_NOTICE_HEAD does the same for notices of pages. MGMT_DIGEST_ACK takes its bit. MGMT_URGENT takes the address of a descriptor while the
device is not busy with one: 0 is refused with BAD_FIELD_VALUE, a write while busy with BUSY (R57).
The model's choices in it: logs 30, 42. -/
def Obligations.RingAndUrgentRegistersAct : Prop :=
  (∀ (v : Nat) (s : State), v < 2 ^ 16 →
    (Reaches 0 oMgmtSqTail s →
      (v < (decided s).ringSize oMgmtSqSize → Goes (.mgmtSqTail v) s { decided s with mgmt := { s.mgmt with sqTail := v } }) ∧
      ((decided s).ringSize oMgmtSqSize ≤ v → Goes (.mgmtSqTail v) s ((decided s).reject oMgmtSqTail .badFieldValue))) ∧
    (Reaches 0 oMgmtCqHead s →
      let h : State := { decided s with mgmt := { s.mgmt with cqHead := v } }
      (v < (decided s).ringSize oMgmtCqSize →
        Goes (.mgmtCqHead v) s (h.releaseHeld (s.mgmt.held.length + 1)) ∧ (s.mgmt.held = [] → h.releaseHeld 1 = h)) ∧
      ((decided s).ringSize oMgmtCqSize ≤ v → Goes (.mgmtCqHead v) s ((decided s).reject oMgmtCqHead .badFieldValue))) ∧
    (Reaches 0 oKumSqTail s →
      (v < (decided s).ringSize oKumSqSize → Goes (.kumSqTail v) s { decided s with kum := { s.kum with sqTail := v } }) ∧
      ((decided s).ringSize oKumSqSize ≤ v → Goes (.kumSqTail v) s ((decided s).reject oKumSqTail .badFieldValue))) ∧
    (Reaches 0 oKumCqHead s →
      let h : State := { decided s with kum := { s.kum with cqHead := v } }
      (v < (decided s).ringSize oKumCqSize →
        Goes (.kumCqHead v) s (h.releaseKum (s.kum.held.length + 1)) ∧ (s.kum.held = [] → h.releaseKum 1 = h)) ∧
      ((decided s).ringSize oKumCqSize ≤ v → Goes (.kumCqHead v) s ((decided s).reject oKumCqHead .badFieldValue))) ∧
    (Reaches 0 oKpgNoticeHead s →
      let h : State := { decided s with ks := { s.ks with noticeHead := v } }
      (v < (decided s).ringSize oKpgNoticeSize →
        Leads (.kpgNoticeHead v) s (((s.ks.writes.filter (fun e => e.2.stage == 3)).map Prod.fst).foldl (fun (s : State) p => s.endWrite p) h)) ∧
      ((decided s).ringSize oKpgNoticeSize ≤ v → Leads (.kpgNoticeHead v) s ((decided s).reject oKpgNoticeHead .badFieldValue)))) ∧
  ((∀ (v : Nat) (s : State), v < 2 → Reaches 0 oMgmtDigestAck s →
    Goes (.mgmtDigestAck v) s { decided s with mgmt := { s.mgmt with ack := bit v 0 } }) ∧
  (∀ (k : Nat) (s : State), k < 2 ^ 57 → Reaches 0 oMgmtUrgent s →
    (k ≠ 0 → s.mgmt.busy = false → Goes (.mgmtUrgent (128 * k)) s
      { decided s with mgmt := { s.mgmt with urgAddr := 128 * k, busy := true, urgRead := false } }) ∧
    (k ≠ 0 → s.mgmt.busy = true → Goes (.mgmtUrgent (128 * k)) s ((decided s).reject oMgmtUrgent .busy)) ∧
    (k = 0 → Goes (.mgmtUrgent 0) s ((decided s).reject oMgmtUrgent .badFieldValue))))

/-- SQ_TAIL and CQ_HEAD: the doorbells, at the addresses of Table 10.4, of an ACTIVE queue pair of PF0 or of a VF take an index below the ring's size; an index beyond it,
or a doorbell without an ACTIVE queue pair (none, or one that is DRAINING), is rejected with BAD_FIELD_VALUE (R301, R302). -/
def Obligations.DoorbellsMoveTheirRings : Prop :=
  (∀ fn q : Nat, fn ≠ 0 → doorbell fn q 0 = 0x2000 + 16 * q ∧ doorbell fn q 1 = 0x2008 + 16 * q) ∧
  (∀ q : Nat, doorbell 0 q 0 = 0x501000 + 16 * q ∧ doorbell 0 q 1 = 0x501008 + 16 * q) ∧
  ∀ (fn q v : Nat) (s : State), q < 256 → fn < 4096 → v < 2 ^ 16 →
    (Reaches fn (doorbell fn q 0) s →
      (∀ k x, (decided s).queueAt fn q = some (k, x) → x.active = true → v < 2 ^ x.sqLog →
        Leads (.sqTail fn q v) s { decided s with queues := s.queues.set k { x with sqTail := v } }) ∧
      (∀ k x, (decided s).queueAt fn q = some (k, x) → (x.active = false ∨ 2 ^ x.sqLog ≤ v) →
        Leads (.sqTail fn q v) s ((decided s).rejectFn fn (doorbell fn q 0) .badFieldValue)) ∧
      ((decided s).queueAt fn q = none → Leads (.sqTail fn q v) s ((decided s).rejectFn fn (doorbell fn q 0) .badFieldValue))) ∧
    (Reaches fn (doorbell fn q 1) s →
      (∀ k x, (decided s).queueAt fn q = some (k, x) → x.active = true → v < 2 ^ x.cqLog →
        Leads (.cqHead fn q v) s { decided s with queues := s.queues.set k { x with cqHead := v } }) ∧
      (∀ k x, (decided s).queueAt fn q = some (k, x) → (x.active = false ∨ 2 ^ x.cqLog ≤ v) →
        Leads (.cqHead fn q v) s ((decided s).rejectFn fn (doorbell fn q 1) .badFieldValue)) ∧
      ((decided s).queueAt fn q = none → Leads (.cqHead fn q v) s ((decided s).rejectFn fn (doorbell fn q 1) .badFieldValue)))

/-- Mailboxes: MBX_SEND marks its slots pending and copies them, MBX_RX and INST_MBX_IN clear the slots they name, INST_MBX_OUT_POST marks
its slots busy and hands the messages over; a slot that is taken is refused with QUEUE_FULL (R392, R393). INST_LOG_HEAD takes an index
below its ring's size.
The model's choices in it: logs 3, 40. -/
def Obligations.MailboxesHandMessagesOver : Prop :=
  (∀ (i v : Nat) (s : State), 0 < i → i < 4096 → v < 2 ^ 16 → Reaches i 0x1008 s → (s.instOf i).d.st ≠ .free →
    ((s.instOf i).pendIn &&& v = 0 → (decided s).mailboxFail i = none → s.mayDma 0 = true →
      Goes (.mbxSend i v) s ((slotsOf v).foldl (fun (s : State) k => s.copySend i k)
        ((decided s).modInst i (fun x => { x with pendIn := x.pendIn ||| v })))) ∧
    ((s.instOf i).pendIn &&& v ≠ 0 → Goes (.mbxSend i v) s ((decided s).rejectVf i 0x1008 .queueFull))) ∧
  (∀ (i v : Nat) (s : State), 0 < i → i < 4096 → v < 2 ^ 16 → Reaches i 0x1010 s → s.inst.has i = true →
    Goes (.mbxRx i v) s ((decided s).modInst i (fun x => { x with busyOut := x.busyOut - (x.busyOut &&& v) }))) ∧
  (∀ (i v : Nat) (s : State), i < 4096 → v < 2 ^ 16 → Reaches 0 (instReg oInstMbxIn i) s → s.inst.has i = true →
    Goes (.instMbxIn i v) s ((decided s).modInst i (fun x => { x with pendIn := x.pendIn - (x.pendIn &&& v) }))) ∧
  (∀ (i v : Nat) (msgs : Bytes) (fault : Bool) (s : State), i < 4096 → v < 2 ^ 16 → Reaches 0 (instReg oInstMbxOut i) s →
    (∀ t, (decided s).mbxPost i v msgs fault = .ok t → Goes (.instMbxOutPost i v msgs fault) s t) ∧
    (∀ st, (decided s).mbxPost i v msgs fault = .error st →
      Goes (.instMbxOutPost i v msgs fault) s ((decided s).reject (instReg oInstMbxOut i) st)) ∧
    (v ≠ 0 → (s.instOf i).d.st ≠ .free → i ≠ 0 → s.hasFn i = true → (decided s).reg (vfBase i + 0x1000) ≠ 0 → (s.instOf i).busyOut &&& v = 0 →
      (decided s).mailboxFail i = none → s.mayDma 0 = true →
      Goes (.instMbxOutPost i v msgs fault) s ((slotsOf v).foldl (fun (s : State) k => s.copyPost i k fault)
        ((decided s).modInst i (fun x => { x with busyOut := x.busyOut ||| v
                                                  slots := (slotsOf v).foldl (fun t k => t.set (16 + k) (padTo 64 (slice msgs (64 * k) 64))) x.slots }))))) ∧
  (∀ (i v : Nat) (s : State), i < 4096 → v < 2 ^ 20 → Reaches 0 (instReg oInstLogHead i) s → v < (decided s).ringSize (instReg oInstLogSize i) →
    Goes (.instLogHead i v) s ((decided s).modInst i (fun x => { x with logHead := v })))

/-- RNG_TEST_CONTROL sets TEST in the life-cycle stage MAKER alone, and a device that served random bits then fails (R447); 64 words in
RNG_TEST_DATA are a window of each of the eight noise sources. REVOKE_UNLOCK ends debug at once and NEW_NONCE draws a nonce (R455).
Debug reads and writes at level 4: OBSERVE reads alone, FULL both (R453, R497). ERR_CODE_SELECT takes status codes alone.
The model's choices in it: logs 44, 49, 50. -/
def Obligations.TestAndDebugAccess : Prop :=
  (∀ s : State, Reaches 0 oRngTestControl s →
    (s.prot.life = 0 → Goes (.rngTestControl 1) s
      { decided s with rng := { s.rng with test := 1, state := if s.rng.state = 1 then 3 else s.rng.state } }) ∧
    (s.prot.life ≠ 0 → Goes (.rngTestControl 1) s ((decided s).reject oRngTestControl .lifecycleForbidden))) ∧
  (∀ (v : Nat) (s : State), v < 2 ^ 64 → Reaches 0 oRngTestData s →
    let d := (decided s).setReg oRngTestData v
    let ws := s.rng.testBits ++ [v]
    (s.rng.test = 0 → Leads (.rngTestData v) s d) ∧
    (s.rng.test ≠ 0 → ws.length < 64 → Leads (.rngTestData v) s { d with rng := { s.rng with testBits := ws } }) ∧
    (s.rng.test ≠ 0 → 64 ≤ ws.length → Leads (.rngTestData v) s
      ((List.range 8).foldl (fun (s : State) k => s.testWindow k (ws.flatMap (le 8))) { d with rng := { s.rng with testBits := [] } }))) ∧
  (∀ s : State, Reaches 0 oProtDebug s →
    Goes .protDebugRevoke s { decided s with prot := { s.prot with debug := 0 } } ∧
    ((decided s).rngOk = true → Goes .protDebugNewNonce s
      (((State.generate (decided s).mgmtDrbg 32 { decided s with prot := { s.prot with nonce := some ((decided s).drawn 32) } })).spend 32)) ∧
    ((decided s).rngOk = false → Goes .protDebugNewNonce s ((decided s).reject oProtDebug .rngFailed))) ∧
  (∀ (d : DebugAcc) (s : State) (fn o : Nat), s.dev.rails = true → d.data ≠ [] → regSpace d.addr = some (fn, o) →
    (s.prot.debug = 0 → Leads (.debugAccess d) s s) ∧
    (s.prot.debug = 1 → d.write = true → Leads (.debugAccess d) s ((partsOf d.addr d.data.length).foldl (fun (s : State) a => s.denied 4 a) s)) ∧
    (s.prot.debug = 2 → d.write = true → Leads (.debugAccess d) s (s.busWrite true fn o d.data.length (ofLe d.data))) ∧
    (s.prot.debug ≠ 0 → d.write = false → Leads (.debugAccess d) s (s.busRead true fn o d.data.length))) ∧
  (∀ (v : Nat) (s : State), v < 2 ^ 16 → Reaches 0 oErrCodeSelect s →
    (Status.all.any (fun c => c.code == v) = true → Goes (.errCodeSelect v) s
      { (decided s).setReg oErrCodeSelect (andNot ((decided s).reg oErrCodeSelect) 0xFFFF + v) with errCode := 0 }) ∧
    (Status.all.any (fun c => c.code == v) = false → Goes (.errCodeSelect v) s ((decided s).reject oErrCodeSelect .badFieldValue)))

/-! ### The command planes (chapter 2) -/

/-- EPOCH_FENCE completes with OK and changes nothing; READ_STATE puts the unit's state code into its descriptor; DIGEST_RESYNC asks for the
unit types it names, of which type 0 is reserved (Table 2.5). A command's commit point is the epoch, an urgent one's the tick (R45, R47).
The model's choices in it: logs 12, 15, 16. -/
def Obligations.PlaneCommandsReport : Prop :=
  (∀ (c : Cmd) (s : State), Accepted 0x8001 c s → Leads (.epochFence c) s (s.finish (submitted 0x8001 c s) .ok)) ∧
  (∀ (c : Cmd) (s : State), Accepted 0x8002 c s →
    let m := submitted 0x8002 c s
    Leads (.readState c) s ((s.overwrite m 32 (le 4 (s.unitState m.cmd.unitType m.cmd.unit))).finish m .ok)) ∧
  (∀ (c : Cmd) (s : State), Accepted 0x8003 c s →
    let m := submitted 0x8003 c s
    let t := byteAt m.cmd.desc 32
    (bit t 0 = false → Leads (.digestResync c) s (State.finish m .ok { s with mgmt := { s.mgmt with resync := s.mgmt.resync ||| t } })) ∧
    (bit t 0 = true → Leads (.digestResync c) s (s.finish m .badFieldValue))) ∧
  (∀ (code : Nat) (c : Cmd) (s : State),
    (submitted code c s).point = if (coded code c).urgent then s.tick.count % 2 ^ 32 else s.tick.count / 1000000 % 2 ^ 32)

/-- MGMT_DESCRIPTOR_FETCH: the next descriptor of the ring is staged with the tick of its fetch, an urgent one waits for the next tick
boundary, one that fails R43 completes at once with version and commit point 0; each moves the ring's head. The urgent slot takes the urgent
commands alone (R43, R46, R47, R57).
The model's choices in it: log 31. -/
def Obligations.DescriptorsAreFetchedOneByOne : Prop :=
  ∀ (c : Cmd) (s : State), s.works = true → s.mayDma 0 = true → c.desc.length = 64 →
    (bit (s.reg oMgmtControl) 0 = true → s.mgmt.sqHead ≠ s.mgmt.sqTail → s.mgmt.staged.length < 65536 → s.mgmtCqFull = false →
      s.mgmt.held = [] →
      let m : MCmd := { cmd := c, addr := s.reg oMgmtSqBase + 64 * s.mgmt.sqHead }
      let d : State := { s with mgmt := { s.mgmt with sqHead := (s.mgmt.sqHead + 1) % s.ringSize oMgmtSqSize } }
      (∀ st, formatFail c = some st → Leads (.mgmtDescriptorFetch false c) s (d.completeAs m st.code 0 0)) ∧
      (formatFail c = none → c.urgent = true →
        Leads (.mgmtDescriptorFetch false c) s { d with mgmt := { d.mgmt with urgent := s.mgmt.urgent ++ [m] } }) ∧
      (formatFail c = none → c.urgent = false → c.code < 0x8200 →
        Leads (.mgmtDescriptorFetch false c) s { d with mgmt := { d.mgmt with staged := s.mgmt.staged ++ [(m, s.tick.count)] } })) ∧
    (s.mgmt.busy = true → s.mgmt.urgRead = false →
      let m : MCmd := { cmd := c, addr := s.mgmt.urgAddr, slot := true }
      let d : State := { s with mgmt := { s.mgmt with urgRead := true } }
      (∀ st, formatFail c = some st → Leads (.mgmtDescriptorFetch true c) s (d.completeAs m st.code 0 0)) ∧
      (formatFail c = none → c.urgent = false → Leads (.mgmtDescriptorFetch true c) s (d.completeAs m Status.badFieldValue.code 0 0)) ∧
      (formatFail c = none → c.urgent = true →
        Leads (.mgmtDescriptorFetch true c) s { d with mgmt := { d.mgmt with urgent := s.mgmt.urgent ++ [m] } }))

/-! ### The key store (chapter 3) -/

/-- The key-store commands (Table 3.12): a page range that grows without crossing another instance's is set and its new pages have entry 0;
a pin changes the key's flag; a key's record bytes 32 to 55 are read back; a STALE page's fetch is allowed again, one that is not STALE
answers STATE_MISMATCH (log 30); a snapshot base completes when it commits.
The model's choices in it: logs 12, 30, 74. -/
def Obligations.KeyStoreCommandsAct : Prop :=
  (∀ (c : Cmd) (s : State), Accepted 0x8101 c s → Alone s →
    let m := submitted 0x8101 c s
    let i := m.cmd.unit
    let b := m.cmd.u 32 4
    let p := m.cmd.u 36 4
    let k := m.cmd.u 40 4
    let d := (s.instOf i).d
    let lo := if d.p = 0 then b else b + d.p
    let fresh (q : Nat) : Prop := d.base + d.k ≤ q ∧ q < d.base + min k d.p
    (d.p = 0 ∨ b = d.base) → d.p ≤ p → d.k ≤ k → k ≤ p → k ≤ 3994575 → b + p ≤ 4194304 →
    (∀ e ∈ s.ks.pages, fresh e.1 → e.2.ver = 0) → (∀ e ∈ s.ks.remap, ¬ fresh e.2) → s.pagesFree i lo (b + p) = true → s.instLive i = true →
    let old := s.ks.pages.filter (fun e => decide (lo ≤ e.1 ∧ e.1 < b + p))
    let t := old.foldl (fun (s : State) e => s.journal (.page e.1 {})) s
    let t : State := { t with ks := { t.ks with pages := t.ks.pages.filterT (fun q _ => !decide (lo ≤ q ∧ q < b + p)) } }
    Leads (.ksPageRangeSet c) s
      (State.finish m .ok (((t.modInst i (fun x => { x with d := { x.d with base := b, p := p, k := k } })).touchInst i).saveInst i))) ∧
  (∀ (c : Cmd) (s : State) (r : KeyRec), Accepted 0x8102 c s → Alone s →
    let m := submitted 0x8102 c s
    let d := s.decisions 2
    let slot := hSlot m.cmd.unit
    d.checkKey m.cmd.unit (hInst m.cmd.unit) false false none (fun _ => true) = .key r → hEphemeral r.handle = true →
    d.key? slot = some r →
    Leads (.ksPinResident c) s (State.finish m .ok ((d.modKey slot (fun x => { x with
      flags := if bit (byteAt m.cmd.desc 32) 0 then setBit r.flags fPinned else clearBit r.flags fPinned, dirty := r.dirty })).touchKey slot))) ∧
  (∀ (c : Cmd) (s : State) (r : KeyRec), Accepted 0x8103 c s →
    let m := submitted 0x8103 c s
    let d := s.decisions 2
    d.checkKey m.cmd.unit (hInst m.cmd.unit) false false none (fun _ => true) = .key r →
    Leads (.ksKeyInfo c) s
      (State.finish m .ok (d.overwrite m 32 (slice (KeyRec.sealedBytes { r with durable := none }) 32 24)))) ∧
  (∀ (c : Cmd) (s : State), Accepted 0x8104 c s →
    let m := submitted 0x8104 c s
    let p := m.cmd.unit
    ((s.page p).stale = true →
      Leads (.ksPageRetry c) s (State.finish m .ok ((s.modPage p (fun e => { e with retry := true })).touchPage p))) ∧
    ((s.page p).stale = false → Leads (.ksPageRetry c) s (s.finish m .stateMismatch))) ∧
  (∀ (c : Cmd) (s : State), Accepted 0x8105 c s →
    let m := submitted 0x8105 c s
    (s.mgmt.baseCmd = none → Leads (.ksSnapshotBase c) s
      { s with ks := { s.ks with baseBusy := true }, mgmt := { s.mgmt with baseCmd := some m } }) ∧
    (s.mgmt.baseCmd ≠ none → Leads (.ksSnapshotBase c) s (s.finish m .busy)))

/-- Pages (R85-R88, R96): a page that verifies lets what waits for it go on with its key, one that does not becomes STALE; a fetch that took
T ticks fails with KEY_PAGE_FETCH_FAILED; a write-back of a page that was never written builds it from empty records; a header read back as
written ends the write-back, another writes it again; a journal commit makes what waits durable; a base commits into the other copy.
The model's choices in it: log 61. -/
def Obligations.PagesTravelSealed : Prop :=
  (∀ (p i : Nat) (b records : Bytes) (s : State), s.ks.fetches.has p = true → s.works = true → bit (s.reg oKpgControl) 0 = true →
    s.ownerOf p = some i →
    (s.openPage p i b = some records → Leads (.pageFetchDone p (some b)) s
      ((s.modPage p (fun e => { e with stale := false })).pageArrived p (fun k s => s.installKey k records))) ∧
    (s.openPage p i b = none → Leads (.pageFetchDone p (some b)) s
      (((s.bump oKpgStale).modPage p (fun e => { e with stale := true })).pageArrived p (fun _ s => (some .keyPageStale, s))))) ∧
  (∀ (p : Nat) (w : Fetch) (s : State), s.ks.fetches.get? p = some w → w.since + s.cfg.timing.fetch ≤ s.tick.count →
    Leads (.pageFetchTimeout p) s
      ((s.bumpF oKpgFetchFailed 31 0 (w.waiters.length + w.tasks.length)).pageArrived p (fun _ s => (some .keyPageFetchFailed, s)))) ∧
  (∀ (p i : Nat) (data : Option Bytes) (s : State), s.ownerOf p = some i → s.works = true → bit (s.reg oKpgControl) 0 = true →
    s.mayDma 0 = true → s.ks.writes.has p = false → s.page p = {} → s.dirtyOf p ≠ [] → Alone s →
    let w : WriteBack := { target := p, ver := 1, bytes := s.sealPage p i 1 (overlay (zeros 4032) (s.dirtyOf p)),
                           content := (s.dirtyOf p).map (fun d => (d.1, d.2.sealedBytes)) }
    let t : State := { s with ks := { s.ks with writes := s.ks.writes.set p w } }
    Leads (.pageWriteBack p data) s (t.pass (.page p) none)) ∧
  (∀ (p : Nat) (w : WriteBack) (header : Option Bytes) (s : State), s.ks.writes.get? p = some w → w.stage = 2 → s.works = true →
    (header = some (w.bytes.take 64) → Leads (.pageWriteConfirm p header) s (s.endWrite p)) ∧
    (header ≠ some (w.bytes.take 64) → Leads (.pageWriteConfirm p header) s
      (s.hostWrite 0 (s.reg oKpgBackingBase + 4096 * w.target) w.bytes))) ∧
  (∀ s : State, s.ready = true → s.ks.fill < 75 → s.disp.items = [] →
    let ds := s.ks.journal
    let a : State := { s.commitNow ds with ks := { s.ks with journal := [] }, twin := { s.twin with toAck := [] } }
    let b := ds.foldl (fun (s : State) d => match d with | .figure k n => s.applyFigure k n | _ => s) a
    let c := s.twin.toAck.foldl (fun (s : State) id => s.emit (.mirrorAck id)) b
    let e := (c.ks.writes.filter (fun e => e.2.stage == 1)).foldl (fun (s : State) e =>
      let t : State := { s with ks := { s.ks with writes := s.ks.writes.set e.1 { e.2 with stage := 2 } } }
      t.hostWrite 0 (t.reg oKpgBackingBase + 4096 * e.2.target) e.2.bytes) c
    e.disp.items = [] → e.ks.fill < 75 → Leads .journalCommit s e) ∧
  (∀ (m : MCmd) (s : State), s.ready = true → s.ks.baseBusy = true → s.mgmt.baseCmd = some m →
    let t : State := { s with ks := { s.ks with baseBusy := false, active := !s.ks.active, fill := s.ks.journal.length } }
    let u := t.setCopy { seq := s.copy.seq + 1, img := s.copy.img }
    Leads .snapshotBaseCommit s (State.finish m .ok { u with mgmt := { u.mgmt with baseCmd := none } }))

/-- Key ceremonies (R368-R371): CEREMONY_BEGIN opens one for an instance with a roster, one at a time; CEREMONY_READ keeps a component that
verifies and answers its check value and the number of components; CEREMONY_COMMIT makes the key of enough components, with the
instance's counter and a ledger record; CEREMONY_ABORT and the timeout erase the components. IDENTITY_READ writes the certificates.
The model's choices in it: logs 25, 76. -/
def Obligations.CeremoniesFormKeys : Prop :=
  (∀ (c : Cmd) (s : State), Accepted 0x8110 c s →
    let m := submitted 0x8110 c s
    let i := m.cmd.unit
    (s.instLive i = true → s.kum.ceremony = none → rosterN (s.instOf i).d.roster ≠ 0 →
      Leads (.ceremonyBegin c) s (State.finish m .ok { s with kum := { s.kum with ceremony := some { inst := i, began := s.epoch } } })) ∧
    (s.instLive i = true → s.kum.ceremony ≠ none → rosterN (s.instOf i).d.roster ≠ 0 → Leads (.ceremonyBegin c) s (s.finish m .busy)) ∧
    (s.instLive i = true → s.kum.ceremony = none → rosterN (s.instOf i).d.roster = 0 →
      Leads (.ceremonyBegin c) s (s.finish m .kumQuorumShort))) ∧
  (∀ (c : Cmd) (s : State) (y : Ceremony), Accepted 0x8111 c s →
    let m := submitted 0x8111 c s
    let b := m.cmd.data
    let d := s.decisions 1
    s.kum.ceremony = some y → y.inst = m.cmd.unit → s.cardFail (m.cmd.u 32 4) ((80 + leAt b 72 2 + leAt b 74 2 + 511) / 512) = none →
    (m.cmd.pass = true → d.componentFail y b = none →
      let x := slice b 40 (byteAt b 37)
      let parts := y.parts.set (byteAt b 38) x
      let z : Ceremony := { y with parts := parts, target := leAt b 28 8, alg := byteAt b 36, len := byteAt b 37, counter := leAt b 20 6 }
      let v := checkValue { mat := x, alg := byteAt b 36, len := byteAt b 37 }
      Leads (.ceremonyRead c) s (State.finish m .ok (State.overwrite m 40 (padTo 5 v ++ [BitVec.ofNat 8 parts.length])
        { d with kum := { d.kum with ceremony := some z } }))) ∧
    (m.cmd.pass = true → ∀ st, d.componentFail y b = some st → Leads (.ceremonyRead c) s (d.finish m st)) ∧
    (m.cmd.pass = false → Leads (.ceremonyRead c) s (s.readFails.finish m .cardReadFailed))) ∧
  (∀ (c : Cmd) (s t : State) (y : Ceremony) (h : Nat), Accepted 0x8112 c s → Alone s →
    let m := submitted 0x8112 c s
    s.kum.ceremony = some y → y.inst = m.cmd.unit → s.ceremonyOut y = .done t h → s.ledgerOk = true →
    let v := padTo 5 (checkValue { mat := y.key.mat, alg := y.key.alg, len := y.key.len })
    let t := (t.modInst y.inst (fun x => { x with d := { x.d with counter := y.counter } })).touchInst y.inst
    let ds := t.ks.journal.drop s.ks.journal.length ++ [Delta.inst y.inst (t.instOf y.inst).d]
    let t : State := { t with ks := { t.ks with journal := s.ks.journal }, kum := { t.kum with ceremony := none } }
    let t := (t.required 0x17 (le 2 y.inst ++ zeros 2 ++ le 4 (t.instOf y.inst).d.inc ++ le 8 h ++ v ++ zeros 3)).commitNow ds
    Leads (.ceremonyCommit c) s ((t.overwrite m 40 (le 8 h ++ v)).finish m .ok)) ∧
  (∀ (c : Cmd) (s : State) (y : Ceremony), Accepted 0x8112 c s →
    let m := submitted 0x8112 c s
    s.kum.ceremony = some y → y.inst = m.cmd.unit → y.parts.length < rosterM (s.instOf y.inst).d.roster →
    Leads (.ceremonyCommit c) s (s.finish m .kumQuorumShort)) ∧
  (∀ (c : Cmd) (s : State) (y : Ceremony), Accepted 0x8113 c s →
    let m := submitted 0x8113 c s
    s.kum.ceremony = some y → y.inst = m.cmd.unit →
    Leads (.ceremonyAbort c) s (State.finish m .ok { s with kum := { s.kum with ceremony := none } })) ∧
  (∀ (s : State) (y : Ceremony), s.kum.ceremony = some y →
    (y.began + s.fld oKumCeremonyTimeout 11 0 ≤ s.epoch → Goes .ceremonyTimeout s { s with kum := { s.kum with ceremony := none } }) ∧
    (s.epoch < y.began + s.fld oKumCeremonyTimeout 11 0 → Goes .ceremonyTimeout s s)) ∧
  (∀ (c : Cmd) (s : State), Accepted 0x8114 c s →
    let m := submitted 0x8114 c s
    let b := Config.certificates.flatMap (fun c => le 4 c.length ++ c)
    (m.cmd.u 32 8 % 4096 = 0 → b.length ≤ m.cmd.u 40 4 → Leads (.identityRead c) s (State.finish m .ok (s.hostWrite 0 (m.cmd.u 32 8) b))) ∧
    (m.cmd.u 32 8 % 4096 ≠ 0 → b.length ≤ m.cmd.u 40 4 → Leads (.identityRead c) s (s.finish m .badFieldValue)) ∧
    (m.cmd.u 32 8 % 4096 = 0 → m.cmd.u 40 4 < b.length → Leads (.identityRead c) s (s.finish m .badLength)))

/-! ### Lasts (chapter 7) -/

/-- A last command that passes R43 is staged and is the one in progress, to be validated; a second is staged to complete with BUSY at its own
boundary (R227). LAST_VALIDATION_DONE keeps the result of the validation, writes LAST_RESULT and raises LAST_IRQ's source 0.
The model's choices in it: log 31. -/
def Obligations.LastCommandsAreValidatedFirst : Prop :=
  (∀ (i : Instr) (code : Nat) (c : Cmd) (s : State),
    ((i, code) = (.lastLoad c, 0x8201) ∨ (i, code) = (.lastAmend c, 0x8202) ∨ (i, code) = (.lastCheck c, 0x8203)) →
    s.works = true → formatFail (coded code c) = none → (coded code c).urgent = false → (coded code c).u 32 8 % 8 = 0 →
    let m : MCmd := { submitted code c s with point := 0 }
    (s.last.job = none → Leads i s
      { s with last := { s.last with job := some { code := code, m := m } },
               mgmt := { s.mgmt with staged := s.mgmt.staged ++ [(m, s.tick.count)] } }) ∧
    (s.last.job ≠ none → Leads i s
      { s with mgmt := { s.mgmt with staged := s.mgmt.staged ++ [({ m with early := some .busy }, s.tick.count)] } })) ∧
  (∀ (j : LastJob) (s : State), s.last.job = some j → j.isOver = false →
    let img := j.m.image
    let v := validateImage (s.imageEnv s.commandRule) (kindsOfLast j.code) (j.m.cmd.u 40 4) img
    let d := s.decisions 1
    (∀ e, v = .error e → Leads .lastValidationDone s (State.raise 2 oLastIrq 0
      { d with last := { d.last with job := some { j with isOver := true, fail := some e, parsed := none }, result := resultWord (.error e) } })) ∧
    (∀ p, v = .ok p → j.code = 0x8203 → Leads .lastValidationDone s (State.raise 2 oLastIrq 0
      { d with last := { d.last with job := some { j with isOver := true, fail := none, parsed := some p }, result := 0 } })) ∧
    (∀ p, v = .ok p → j.code = 0x8202 → s.flash.store.log.length < 255 → s.flash.store.used + img.length ≤ 33554432 →
      Leads .lastValidationDone s (State.raise 2 oLastIrq 0
        { d with flash := { d.flash with store := { d.flash.store with log := d.flash.store.log ++ [img] } },
                 last := { d.last with job := some { j with isOver := true, fail := none, parsed := some p }, result := 0 } })))

/-- What the last commands do at their boundary: LAST_CHECK answers its validation's status; a failed LAST_LOAD or LAST_AMEND answers it too; a
LAST_LOAD that interrupts a running last notes the boundary; a full image whose second read differs is refused with LAST_IMAGE_CHANGED
(R228). LAST_STORE_PERSISTED keeps the full image (R225), LAST_STATS writes the statistics buffer.
The model's choices in it: log 56. -/
def Obligations.LastCommandsCommitAtBoundaries : Prop :=
  (∀ (m : MCmd) (j : LastJob) (s : State), m.early = none → s.last.job = some j →
    (j.fail = none → effLastCheck m s = { s := s.endLast, st := some .ok }) ∧
    (∀ e, j.fail = some e → effLastCheck m s = { s := s.endLast, st := some e.st } ∧ effLastLoad m s = { s := s.endLast, st := some e.st } ∧
      effLastAmend m s = { s := s.endLast, st := some e.st }) ∧
    (∀ p, j.fail = none → j.parsed = some p → s.twinForbids p.cfg = false → s.ledgerOk = true → s.last.cur ≠ none →
      effLastLoad m s = { s := { s with last := { s.last with job := some { j with m := m, boundary := some s.tick.count } } }, st := none })) ∧
  (∀ (m : MCmd) (p : Parsed) (s : State),
    let img := m.cmd.data2.take (m.cmd.u 40 4)
    sha384 (img.take (leAt img 56 4)) ≠ sha384 p.signed →
    s.finishLoad m p = State.finish { m with point := s.epoch } .lastImageChanged { s with last := { s.last with job := none } }) ∧
  (∀ s : State, (s.last.persisted = true → Goes .lastStorePersisted s s) ∧
    (s.last.persisted = false → s.last.cur ≠ none → Goes .lastStorePersisted s (State.raise 2 oLastIrq 1
      { s with flash := { s.flash with store := { s.flash.store with full := s.last.image } },
               last := { s.last with persisted := true, image := [] } }))) ∧
  (∀ (c : Cmd) (s : State), Accepted 0x8204 c s →
    let m := submitted 0x8204 c s
    (m.cmd.u 32 8 % 4096 = 0 → 401440 ≤ m.cmd.u 40 4 →
      Leads (.lastStats c) s (State.finish m .ok (s.hostWrite 0 (m.cmd.u 32 8) s.statistics))) ∧
    (m.cmd.u 32 8 % 4096 ≠ 0 → 401440 ≤ m.cmd.u 40 4 → Leads (.lastStats c) s (s.finish m .badFieldValue)) ∧
    (m.cmd.u 32 8 % 4096 = 0 → m.cmd.u 40 4 < 401440 → Leads (.lastStats c) s (s.finish m .badLength)))

/-! ### Dispatch and placement (chapter 8) -/

/-- The dispatch commands (R253-R258): a lookup answers the flow's entry and version, or FLOW_NOT_LIVE; a pin keeps a flow on a frond of its
instance; a hint is set or removed; a frond set that leaves a pinned flow outside is refused with PLACEMENT_PIN_CONFLICT; a key's hint and
placement's FREEZE are set.
The model's choices in it: logs 1, 66, 67. -/
def Obligations.DispatchCommandsAct : Prop :=
  (∀ (c : Cmd) (s : State) (sp : Nat) (par : Bool) (v : Bytes), Accepted 0x8301 c s →
    let m := submitted 0x8301 c s
    let b := m.cmd.data
    let i := m.cmd.unit
    let done (f : Nat) (s : State) := State.finish m .ok ((s.overwrite m 48 (le 4 f)).overwrite m 52 (le 4 (s.flowOf f).version))
    keyRecordFail b = none → flowKeyOf b = some (sp, par, v) → leAt b 0 2 = i → s.instLive i = true →
    (∀ f, s.findFlow i par sp v = some f → Leads (.dispFlowLookup c) s (done f s)) ∧
    (s.findFlow i par sp v = none → bit (byteAt m.cmd.desc 40) 0 = false → Leads (.dispFlowLookup c) s (s.finish m .flowNotLive)) ∧
    (∀ f t, s.findFlow i par sp v = none → bit (byteAt m.cmd.desc 40) 0 = true → s.allocFlow i par sp v = some (f, t) →
      Leads (.dispFlowLookup c) s (done f t)) ∧
    (s.findFlow i par sp v = none → bit (byteAt m.cmd.desc 40) 0 = true → s.allocFlow i par sp v = none →
      Leads (.dispFlowLookup c) s (s.finish m .quotaExceeded))) ∧
  (∀ (c : Cmd) (s : State) (x : Flow), Accepted 0x8302 c s →
    let m := submitted 0x8302 c s
    let k := m.cmd.unit
    let f := byteAt m.cmd.desc 41
    keyRecordFail m.cmd.data = none → s.disp.flows.get? k = some x → k < 1044480 → flowMatches x m.cmd.data = true → f ≤ 15 →
    (bit (byteAt m.cmd.desc 40) 0 = true → bit (s.instOf x.inst).d.lim.fronds f = true →
      Leads (.dispPinFlow c) s (State.finish m .ok ((s.modFlow k (fun x => { x with pinned := true, home := some f })).touchFlow k))) ∧
    (bit (byteAt m.cmd.desc 40) 0 = true → bit (s.instOf x.inst).d.lim.fronds f = false →
      Leads (.dispPinFlow c) s (s.finish m .placementPinConflict)) ∧
    (bit (byteAt m.cmd.desc 40) 0 = false →
      Leads (.dispPinFlow c) s (State.finish m .ok ((s.modFlow k (fun x => { x with pinned := false })).touchFlow k)))) ∧
  (∀ (c : Cmd) (s : State) (x : Flow), Accepted 0x8303 c s →
    let m := submitted 0x8303 c s
    let k := m.cmd.unit
    let h := byteAt m.cmd.desc 40
    keyRecordFail m.cmd.data = none → s.disp.flows.get? k = some x → k < 1044480 → flowMatches x m.cmd.data = true →
    (h ≤ 15 ∨ h = 0xFF → Leads (.dispHintFlow c) s
      (State.finish m .ok ((s.modFlow k (fun x => { x with hint := if h = 0xFF then none else some h, streak := 0 })).touchFlow k))) ∧
    (15 < h → h ≠ 0xFF → Leads (.dispHintFlow c) s (s.finish m .badFieldValue))) ∧
  (∀ (c : Cmd) (s : State), Accepted 0x8304 c s → Alone s →
    let m := submitted 0x8304 c s
    let i := m.cmd.unit
    let set := m.cmd.u 32 2
    s.instLive i = true → s.frondsOk set = true →
    (s.pinOutside i set = false → Leads (.dispFronds c) s (State.finish m .ok
      (((s.modInst i (fun x => { x with d := { x.d with lim := { x.d.lim with fronds := set } } })).touchInst i).saveInst i))) ∧
    (s.pinOutside i set = true → Leads (.dispFronds c) s (s.finish m .placementPinConflict))) ∧
  (∀ (c : Cmd) (s : State), Accepted 0x8305 c s →
    let m := submitted 0x8305 c s
    let h := m.cmd.unit
    let q := byteAt m.cmd.desc 32
    hStore h = 1 → (q ≤ 3 ∨ q = 0xFF) →
    ((s.keyUnit h).1 ≠ 0 → Leads (.dispHintKey c) s (State.finish m .ok (State.touchHandle h
      { s with ks := { s.ks with hints := if q = 0xFF then s.ks.hints.erase (hSlot h) else s.ks.hints.set (hSlot h) (q, 0) } }))) ∧
    ((s.keyUnit h).1 = 0 → Leads (.dispHintKey c) s (s.finish m .keyNotFound))) ∧
  (∀ (c : Cmd) (s : State), Accepted 0x8306 c s →
    let m := submitted 0x8306 c s
    Leads (.dispPlacement c) s
      (State.finish m .ok (State.touchDev { s with disp := { s.disp with frozen := bit (byteAt m.cmd.desc 32) 0 } })))

/-- ITEM_ADMIT takes the frond's oldest resumed item before any ready one; a ready one starts with the configuration in force and its deadline
(R37, R242, R244); a frond with nothing to take does nothing. A partition full for 64 ticks withholds credit (R251). A flow that has been
empty for the linger time without pin or hint is freed, a saved context that was idle too long expires (R238, R331).
The model's choices in it: logs 17, 63. -/
def Obligations.DispatchTakesAndExpires : Prop :=
  (∀ (f n : Nat) (s : State), s.works = true → s.firstResumed f = some n →
    Leads (.itemAdmit f) s (s.modItem n (fun x => { x with stage := .running }))) ∧
  (∀ (f n : Nat) (s t : State), s.works = true → s.firstResumed f = none → s.admitting = true → s.frondOn f = true → s.serve f = some (n, t) →
    Leads (.itemAdmit f) s (t.startItem f n)) ∧
  (∀ (f : Nat) (s : State), s.firstResumed f = none → s.serve f = none → Leads (.itemAdmit f) s s) ∧
  (∀ (f : Nat) (s : State),
    (64 ≤ s.disp.poolFull.getD f 0 → 8192 ≤ s.admittedOn f →
      Goes (.waitPoolFullCount f) s { s with disp := { s.disp with poolFull := s.disp.poolFull.set f 65 } }) ∧
    (s.disp.poolFull.getD f 0 < 64 → Goes (.waitPoolFullCount f) s s)) ∧
  (∀ (f : Nat) (x : Flow) (s : State), s.disp.flows.get? f = some x →
    (s.works = true → f < 1044480 → s.inFlow f = [] → x.pinned = false → x.hint = none → x.emptyAt + s.cfg.disp.linger ≤ s.tick.count →
      Goes (.flowLingerExpiry f) s { s with disp := { s.disp with flows := s.disp.flows.erase f } }) ∧
    ((x.pinned = true ∨ x.hint ≠ none ∨ s.inFlow f ≠ []) → Goes (.flowLingerExpiry f) s s)) ∧
  (∀ (e : Nat) (x : CipherCtx) (s : State), s.eng.ctxs.get? e = some x →
    (s.works = true → x.holder = none → x.lastUse + s.fld oCiphContextIdle 31 0 ≤ s.tick.count →
      Goes (.contextIdleExpiry e) s ((s.freeCtx e).bump oCiphContextExpired)) ∧
    (x.holder ≠ none → Goes (.contextIdleExpiry e) s s))

/-! ### Ports, sessions and queue pairs by command (chapters 9 to 11) -/

/-- The port commands (Table 9.15): PORT_ADMIN and PORT_SHUTDOWN act on the enabled sub-ports of their mask and refuse a mask that names
another with BAD_FIELD_VALUE; PORT_PEERS writes the peer table, as much as its buffer holds.
The model's choices in it: logs 30, 70, 72. -/
def Obligations.PortCommandsAct : Prop :=
  (∀ (c : Cmd) (s : State), Accepted 0x8401 c s →
    let m := submitted 0x8401 c s
    let p := m.cmd.unit
    let bs := byteAt m.cmd.desc 32
    (s.subMaskOk p bs = true → Leads (.portAdmin c) s (State.finish m .ok
      (((List.range 4).foldl (fun (s : State) k => if bit bs k then s.modSub p k (fun x => { x with admin := true }) else s) s).touchPort p))) ∧
    (s.subMaskOk p bs = false → Leads (.portAdmin c) s (s.finish m .badFieldValue))) ∧
  (∀ (c : Cmd) (s : State), Accepted 0x8402 c s →
    let m := submitted 0x8402 c s
    let p := m.cmd.unit
    let bs := byteAt m.cmd.desc 32
    (s.subMaskOk p bs = true → Leads (.portShutdown c) s (State.finish m .ok
      (((List.range 4).foldl (fun (s : State) k => if bit bs k then s.subDown p k else s) s).touchPort p))) ∧
    (s.subMaskOk p bs = false → Leads (.portShutdown c) s (s.finish m .badFieldValue))) ∧
  (∀ (p k : Nat) (s : State), (s.subOf p k).admin = true → s.subDef p k = none →
    s.sessWhere (fun _ x => x.port == p && x.sub == k && (x.st == .opened || x.st == .handshake)) = [] →
    s.subDown p k = s.modSub p k (fun x => { x with admin := false, solitary := false, silent := 0 })) ∧
  (∀ (c : Cmd) (s : State), Accepted 0x8407 c s →
    let m := submitted 0x8407 c s
    let a := m.cmd.u 32 8
    let n := m.cmd.u 40 4
    let es := (s.portOf m.cmd.unit).peers
    (a % 4096 = 0 → Leads (.portPeers c) s (State.finish m .ok
      ((s.hostWrite 0 a ((le 4 es.length).take n)).hostWrite 0 (a + 64) ((es.flatMap Peer.bytes).take (n - 64))))) ∧
    (a % 4096 ≠ 0 → Leads (.portPeers c) s (s.finish m .badFieldValue)))

/-- The MACsec commands (R335-R339, Table 11.6): an SA is installed with its key where the record's values allow it; a transmit SA is chosen for
protection, unless it is absent or exhausted; an SA is removed; its state and packet number are read back.
The model's choices in it: logs 21, 30, 71. -/
def Obligations.MacsecCommandsAct : Prop :=
  (∀ (c : Cmd) (s : State) (r : KeyRec), Accepted 0x8408 c s →
    let m := submitted 0x8408 c s
    let b := padTo 64 m.cmd.data
    let p := m.cmd.unit
    let k := byteAt b 0
    let dir := byteAt b 1
    let d := s.decisions 2
    m.cmd.u 32 8 % 8 = 0 → saRsvOk b = true →
    (s.saOk p b = false → Leads (.macsecSaInstall c) s (s.finish m .badFieldValue)) ∧
    (s.saOk p b = true → d.checkKey (leAt b 8 8) 0 false true (some (if dir = 0 then uEncrypt else uDecrypt))
        (fun r => r.alg == algAes && r.len == 32) = .key r → r.counted = false →
      let a := { readSa (match d.subDef p k with | none => [] | some d => d.mac) b with key := r.mat }
      Leads (.macsecSaInstall c) s (State.finish m .ok ((d.modSub p k (fun x =>
        if dir = 0 then { x with tx := x.tx.set a.an a } else { x with rx := x.rx.set a.an a })).touchPort p))) ∧
    (s.saOk p b = true → ∀ st, d.checkKey (leAt b 8 8) 0 false true (some (if dir = 0 then uEncrypt else uDecrypt))
        (fun r => r.alg == algAes && r.len == 32) = .fail st → Leads (.macsecSaInstall c) s (d.finish m st))) ∧
  (∀ (c : Cmd) (s : State), Accepted 0x8409 c s →
    let m := submitted 0x8409 c s
    let p := m.cmd.unit
    let k := byteAt m.cmd.desc 32
    let an := byteAt m.cmd.desc 33
    ((s.subOf p k).tx.get? an = none → Leads (.macsecTxUse c) s (s.finish m .badFieldValue)) ∧
    (∀ a, (s.subOf p k).tx.get? an = some a → s.saNamed m 33 = true → a.pn ≤ a.maxPn →
      Leads (.macsecTxUse c) s (State.finish m .ok ((s.modSub p k (fun x =>
        { x with tx := x.tx.mapT (fun n y => { y with protecting := n == an }), pnWarn := false, stalled := false })).touchPort p))) ∧
    (∀ a, (s.subOf p k).tx.get? an = some a → a.maxPn < a.pn → Leads (.macsecTxUse c) s (s.finish m .badFieldValue))) ∧
  (∀ (c : Cmd) (s : State), Accepted 0x840A c s →
    let m := submitted 0x840A c s
    let p := m.cmd.unit
    let k := byteAt m.cmd.desc 32
    let dir := byteAt m.cmd.desc 33
    let an := byteAt m.cmd.desc 34
    s.saNamed m 34 = true → dir ≤ 1 →
    Leads (.macsecSaRemove c) s (State.finish m .ok ((s.modSub p k (fun x =>
      if dir = 0 then { x with tx := x.tx.erase an } else { x with rx := x.rx.erase an })).touchPort p))) ∧
  (∀ (c : Cmd) (s : State), Accepted 0x840B c s →
    let m := submitted 0x840B c s
    let dir := byteAt m.cmd.desc 33
    let a := ((s.subOf m.cmd.unit (byteAt m.cmd.desc 32)).sas dir).get? (byteAt m.cmd.desc 34)
    s.saNamed m 34 = true → dir ≤ 1 →
    Leads (.macsecSaStatus c) s (State.finish m .ok
      (s.overwrite m 40 (le 8 (match a with | none => 0 | some a => if dir = 0 then a.pn else a.low) ++ [BitVec.ofNat 8 (saState dir a)]))))

/-- The session commands (R192, R279, R283, R287, R293): a session is created PARKED with version 1 more, on a free index, with values and peer
keys that hold, within its instance's limit; its initiator starts the setup, unless one is under way; closing parks or frees it; a
destination is bound to a session of its instance or unbound.
The model's choices in it: log 12. -/
def Obligations.SessionCommandsAct : Prop :=
  (∀ (c : Cmd) (s : State), Accepted 0x8403 c s →
    let m := submitted 0x8403 c s
    let b := padTo 64 m.cmd.data
    let n := m.cmd.unit
    let x := readSession b
    ((s.sessOf n).st ≠ .free → Leads (.sessionCreate c) s (s.finish m .stateMismatch)) ∧
    ((s.sessOf n).st = .free → s.sessionOk (byteAt b 5) x = false → Leads (.sessionCreate c) s (s.finish m .badFieldValue)) ∧
    (∀ ke kd, (s.sessOf n).st = .free → s.sessionOk (byteAt b 5) x = true → s.peerKey x.keyEc x.inst false = .ok ke →
      s.peerKey x.keyDsa x.inst true = .ok kd →
      ((s.sessWhere (fun _ y => y.inst == x.inst && y.st != .free)).length < (s.instOf x.inst).d.lim.sessions →
        Leads (.sessionCreate c) s (State.finish m .ok
          ((s.modSess n (fun _ => { x with st := .parked, parkedAt := s.tick.count, version := 0 })).touchSess n))) ∧
      ((s.instOf x.inst).d.lim.sessions ≤ (s.sessWhere (fun _ y => y.inst == x.inst && y.st != .free)).length →
        Leads (.sessionCreate c) s (s.finish m .quotaExceeded)))) ∧
  (∀ (c : Cmd) (s : State), Accepted 0x8404 c s →
    let m := submitted 0x8404 c s
    let x := s.sessOf m.cmd.unit
    (x.st ≠ .free → x.initiator = false → Leads (.sessionConnect c) s (s.finish m .badFieldValue)) ∧
    (x.st ≠ .free → x.initiator = true → (x.st = .handshake ∨ x.setup ≠ none) → Leads (.sessionConnect c) s (s.finish m .ok)) ∧
    (x.st ≠ .free → x.initiator = true → x.st ≠ .handshake → x.setup = none →
      Leads (.sessionConnect c) s ((s.startSetup m.cmd.unit).finish m .ok))) ∧
  (∀ (c : Cmd) (s : State), Accepted 0x8405 c s →
    let m := submitted 0x8405 c s
    let n := m.cmd.unit
    let free := bit (byteAt m.cmd.desc 32) 0
    ((s.sessOf n).st = .free → Leads (.sessionClose c) s (s.finish m .stateMismatch)) ∧
    ((s.sessOf n).st = .parked → free = true → Leads (.sessionClose c) s ((s.freeSess n).finish m .ok)) ∧
    ((s.sessOf n).st = .parked → free = false → Leads (.sessionClose c) s (s.finish m .ok)) ∧
    ((s.sessOf n).st ≠ .free → (s.sessOf n).st ≠ .parked → Leads (.sessionClose c) s ((s.closeSess n .ok free).finish m .ok))) ∧
  (∀ (c : Cmd) (s : State), Accepted 0x8406 c s → s.hasTwin = false →
    let m := submitted 0x8406 c s
    let i := m.cmd.unit
    let d := m.cmd.u 32 2
    let n := m.cmd.u 36 4
    d < 4096 → s.instLive i = true →
    (n = 0xFFFFFFFF → Leads (.sessionDest c) s (State.finish m .ok ((s.modInst i (fun y => { y with dests := y.dests.erase d })).touchInst i))) ∧
    (n < 1048576 → (s.sessOf n).st ≠ .free → (s.sessOf n).inst = i →
      Leads (.sessionDest c) s (State.finish m .ok ((s.modInst i (fun y => { y with dests := y.dests.set d n })).touchInst i))) ∧
    (n < 1048576 → (s.sessOf n).inst ≠ i → Leads (.sessionDest c) s (s.finish m .badFieldValue)))

/-- The queue commands (R300, R317): a queue pair is created on a free local index of a function that is there, within the instance's limit;
destroying stops fetching and, with ABORT, ends its requests; its status is read back.
The model's choices in it: log 12. -/
def Obligations.QueueCommandsAct : Prop :=
  (∀ (c : Cmd) (s : State), Accepted 0x8501 c s →
    let m := submitted 0x8501 c s
    let i := m.cmd.unit
    let x : Qp :=
      { fn := i, lix := byteAt m.cmd.desc 32, sqLog := byteAt m.cmd.desc 33, cqLog := byteAt m.cmd.desc 34, cls := byteAt m.cmd.desc 35,
        parallel := bit (byteAt m.cmd.desc 36) 0, unver := bit (byteAt m.cmd.desc 36) 1, vector := m.cmd.u 38 2, sqBase := m.cmd.u 40 8,
        cqBase := m.cmd.u 48 8 }
    let k := s.queues.firstFree 65536 0
    s.hasFn i = true → s.queueAt i x.lix = none → 6 ≤ x.sqLog → x.sqLog ≤ 16 → 6 ≤ x.cqLog → x.cqLog ≤ 16 → (x.cls ≤ 7 ∨ x.cls = 0xFF) →
    x.vector ≤ (if i = 0 then 2047 else 7) → k < 65536 →
    (x.sqBase % 4096 = 0 → x.cqBase % 4096 = 0 → (s.queuesOf i).length < (s.instOf i).d.lim.qps →
      Leads (.queueCreate c) s
        (State.finish m .ok ((State.touchInst i { s with queues := s.queues.set k x }).overwrite m 56 (le 2 k)))) ∧
    (x.sqBase % 4096 ≠ 0 → (s.queuesOf i).length < (s.instOf i).d.lim.qps → Leads (.queueCreate c) s (s.finish m .badAlignment)) ∧
    (x.sqBase % 4096 = 0 → x.cqBase % 4096 = 0 → (s.instOf i).d.lim.qps ≤ (s.queuesOf i).length →
      Leads (.queueCreate c) s (s.finish m .quotaExceeded))) ∧
  (∀ (c : Cmd) (s : State), Accepted 0x8502 c s →
    let m := submitted 0x8502 c s
    let i := m.cmd.unit
    let a := bit (byteAt m.cmd.desc 33) 0
    (s.queueAt i (byteAt m.cmd.desc 32) = none → Leads (.queueDestroy c) s (s.finish m .badFieldValue)) ∧
    (∀ k x, s.queueAt i (byteAt m.cmd.desc 32) = some (k, x) → s.hasFn i = true →
      let d : State := { s with queues := s.queues.set k { x with active := false, abort := x.abort || a } }
      Leads (.queueDestroy c) s (State.finish m .ok (((if a then d.dropRequests k else d).touchInst i).reapQueue k)))) ∧
  (∀ (c : Cmd) (s : State), Accepted 0x8503 c s →
    let m := submitted 0x8503 c s
    (s.hasFn m.cmd.unit = false → Leads (.queueStatus c) s (s.finish m .badFieldValue)) ∧
    (s.hasFn m.cmd.unit = true → s.queueAt m.cmd.unit (byteAt m.cmd.desc 32) = none →
      Leads (.queueStatus c) s (State.finish m .ok (s.overwrite m 40 (zeros 16)))) ∧
    (∀ k x, s.hasFn m.cmd.unit = true → s.queueAt m.cmd.unit (byteAt m.cmd.desc 32) = some (k, x) →
      Leads (.queueStatus c) s (State.finish m .ok (s.overwrite m 40
        (le 2 k ++ [BitVec.ofNat 8 (if x.active then 1 else 2), 0#8] ++ le 2 x.sqHead ++ le 2 x.cqTail ++ le 4 (s.qpItems k).length ++ zeros 4)))))

/-! ### Instances (chapter 14) -/

/-- The instance commands without a twin (R377-R391): a free number becomes CREATED with the next incarnation and full credit buckets; CREATED or
DISABLED becomes ENABLED when quiet and a last runs; a drain leaves admitted items, an abort stops everything; a reset goes through
RESETTING; a destroyed number is FREE; limits are set. What R378 forbids answers STATE_MISMATCH and changes nothing.
The model's choices in it: logs 12, 17, 28, 81. -/
def Obligations.InstanceCommandsAct : Prop :=
  (∀ (c : Cmd) (s : State) (r : InstRec), Accepted 0x8601 c s → Alone s →
    let m := submitted 0x8601 c s
    let i := m.cmd.unit
    i ≠ 0 → s.recordOf m = .ok r → s.frondsOk r.fronds = true → s.instLive i = false →
    (s.totalsOk i r = true →
      let a := s.modInst i (fun x => Inst.fill { d := { inc := x.d.inc, abandoned := x.d.abandoned, lim := r } })
      let b := a.moveInst i (fun d => { d with st := .created, inc := d.inc + 1 })
      Leads (.instanceCreate c) s ((b.when b.rngOk (State.instantiate (16 + i))).finish m .ok)) ∧
    (s.totalsOk i r = false → Leads (.instanceCreate c) s (s.finish m .quotaExceeded))) ∧
  (∀ (c : Cmd) (s : State), Accepted 0x8602 c s → Alone s →
    let m := submitted 0x8602 c s
    let i := m.cmd.unit
    i ≠ 0 → (s.instOf i).d.st = .created ∨ (s.instOf i).d.st = .disabled →
    (s.quiet i = true → s.last.cur ≠ none → Leads (.instanceEnable c) s ((s.moveInst i (fun d => { d with st := .enabled })).finish m .ok)) ∧
    (s.quiet i = false → Leads (.instanceEnable c) s (s.finish m .busy))) ∧
  (∀ (c : Cmd) (s : State), Accepted 0x8603 c s → Alone s →
    let m := submitted 0x8603 c s
    let i := m.cmd.unit
    let abort := bit (byteAt m.cmd.desc 32) 0
    i ≠ 0 →
    ((s.instOf i).d.st = .enabled →
      let a := (s.moveInst i (fun d => { d with st := if abort then .disabled else .quiescing })).modInst i (fun x => { x with quietWas := false })
      Leads (.instanceDisable c) s ((a.stopItems i abort (if abort then .instanceDisabled else .instanceQuiescing)).finish m .ok)) ∧
    ((s.instOf i).d.st = .disabled → Leads (.instanceDisable c) s (s.finish m .stateMismatch))) ∧
  (∀ (c : Cmd) (s : State), Accepted 0x8604 c s → Alone s →
    let m := submitted 0x8604 c s
    let i := m.cmd.unit
    let d := (s.instOf i).d
    i ≠ 0 →
    (d.st = .created ∨ d.st = .enabled ∨ d.st = .quiescing ∨ d.st = .disabled →
      let a := (s.moveInst i (fun d => { d with st := .resetting, error := false, cause := 0 })).stopItems i true .instanceReset
      let a := ((a.dropFlows i true).expireKeys (fun k => k == i)).dropCeremony i
      let a := (a.liveSessions i).foldl (fun (s : State) n => s.closeSess n .instanceReset false) a
      let a := (a.emptyMailbox i).modInst i (fun x => Inst.fill { x with quietWas := false, erring := none })
      let a : State := { a with disp := { a.disp with deficits := a.disp.deficits.filterT (fun k _ => k % 4096 != i) } }
      Leads (.instanceReset c) s ((a.dropDrbg (16 + i)).finish m .ok)) ∧
    (d.st = .free ∨ d.st = .resetting ∨ d.st = .moving → Leads (.instanceReset c) s (s.finish m .stateMismatch))) ∧
  (∀ (i : Nat) (s : State),
    (s.works = true → (s.instOf i).d.st = .resetting → s.ks.journal = [] →
      let a := s.moveInst i (fun d => { d with st := .disabled })
      let b := a.when a.rngOk (State.instantiate (16 + i))
      Goes (.instanceResetDone i) s (b.when (a.quiet i) (State.becameQuiet i))) ∧
    ((s.instOf i).d.st ≠ .resetting → Goes (.instanceResetDone i) s s) ∧
    (s.works = true → s.quiet i = true → (s.instOf i).d.st = .quiescing →
      Goes (.instanceQuiet i) s ((s.moveInst i (fun d => { d with st := .disabled })).becameQuiet i)) ∧
    (s.quiet i = false → Goes (.instanceQuiet i) s s)) ∧
  (∀ (c : Cmd) (s : State), Accepted 0x8605 c s → Alone s →
    let m := submitted 0x8605 c s
    let i := m.cmd.unit
    i ≠ 0 → (s.instOf i).d.st = .created ∨ (s.instOf i).d.st = .disabled →
    (s.queuesOf i = [] → Leads (.instanceDestroy c) s
      (((((s.stopItems i true .instanceDisabled).eraseInst i)).moveInst i (fun d => { d with st := .free })).finish m .ok)) ∧
    (s.queuesOf i ≠ [] → Leads (.instanceDestroy c) s (s.finish m .busy))) ∧
  (∀ (c : Cmd) (s : State) (r : InstRec), Accepted 0x8606 c s → Alone s →
    let m := submitted 0x8606 c s
    let i := m.cmd.unit
    readInstRec m.cmd.data = .ok r → s.instLive i = true → m.cmd.u 32 8 % 8 = 0 → s.frondsOk r.fronds = true → s.totalsOk i r = true →
    s.useFits i r = true → s.pinOutside i r.fronds = false →
    Leads (.instanceSetLimits c) s (((s.moveInst i (fun d => { d with lim := r })).modInst i (fun x =>
      { x with cipher := min x.cipher (4 * (r.cipher : Int)), field := min x.field (4 * (r.field : Int)),
               pk := min x.pk (4 * (r.pk : Int)) })).finish m .ok))

/-- Moves of an instance without a twin (R397-R402): MOVE_PREPARE reserves a free number for a source and writes an offer; MOVE_OUT writes the
package and leaves the source MOVING; MOVE_IN brings the instance in DISABLED with a higher incarnation; MOVE_FINISH erases the source's
copy, MOVE_CANCEL makes it DISABLED again, MOVE_ABANDON frees the target's number for good of that move; each leaves its ledger record. A
membership record that verifies is kept.
The model's choices in it: logs 9, 26. -/
def Obligations.MovesCarryInstances : Prop :=
  (∀ (c : Cmd) (s : State) (r : InstRec), Accepted 0x8607 c s → Alone s →
    let m := submitted 0x8607 c s
    let i := m.cmd.unit
    let b := m.cmd.u 40 4
    let p := m.cmd.u 44 4
    i ≠ 0 → b + p ≤ 4194304 → s.instLive i = false → m.cmd.u 56 8 % 4096 = 0 → s.memberOk s.drec.member mySerial identityHash = true →
    s.rngOk = true → s.recordOf m = .ok r → s.frondsOk r.fronds = true → s.totalsOk i r = true → s.pagesFree i b (b + p) = true →
    let id := ofLe (s.drawn 8)
    let ec := Config.pkGenerate algEc 2 (freeBytes (s.free + 8) 48)
    let kem := Config.pkGenerate algKem 3 (freeBytes (s.free + 56) 64)
    let a := s.drewStatement 120
    let offer := a.offerBlob id (m.cmd.u 48 8) i ec kem
    let a := (a.drewStatement 80).modInst i (fun x => Inst.fill { d := { inc := x.d.inc, abandoned := x.d.abandoned, lim := r } })
    let a := a.moveInst i (fun d => { d with st := .moving, base := b, p := p, moveId := id, moveEc := ec,
                                             moveKem := kem, movePeer := m.cmd.u 48 8, offer := offer })
    Leads (.movePrepare c) s ((a.hostWrite 0 (m.cmd.u 56 8) offer).finish m .ok)) ∧
  (∀ (c : Cmd) (s : State) (b : Bytes), Accepted 0x8608 c s → Alone s → s.ledgerOk = true →
    let m := submitted 0x8608 c s
    let i := m.cmd.unit
    let offer := m.cmd.data
    s.moveOut m = .ok b →
    (b.length ≤ m.cmd.u 56 8 →
      let a := (s.drewStatement 160).moveInst i (fun d => { d with
        st := .moving, moveId := blobId offer, moveSource := true, movePeer := blobDst offer, movePeerId := sha3 32 (slice offer 6492 2689) })
      Leads (.moveOut c) s
        ((((a.moveRecord i 1 (blobId offer)).hostWrite 0 (m.cmd.u 48 8) b).overwrite m 56 (le 8 b.length)).finish m .ok)) ∧
    (m.cmd.u 56 8 < b.length → Leads (.moveOut c) s ((s.overwrite m 56 (le 8 b.length)).finish m .badLength))) ∧
  (∀ (c : Cmd) (s : State) (b : Arrival), Accepted 0x8609 c s → Alone s → s.ledgerOk = true →
    let m := submitted 0x8609 c s
    let i := m.cmd.unit
    (s.instOf i).d.st = .moving → s.moveIn m = .ok b →
    let a := s.moveInst i (fun d => { d with st := .disabled, inc := max d.inc b.inc + 1, counter := b.counter, roster := b.roster, k := b.k,
                                             arrived := sha384 (m.cmd.data.take (m.cmd.u 40 8)) })
    let keys := b.keys.map KeyRec.arrive
    let a := keys.foldl (fun (s : State) r =>
      let s := s.journal (.key (hSlot r.handle) (some r))
      if hStore r.handle == 2 || (bit r.flags fPinned && !r.deleted)
      then ((s.setKey (hSlot r.handle) { r with bank := s.pickBank (hStore r.handle == 1) }).spend 8).touch 6 r.handle else s) a
    let a := (List.range b.k).foldl (fun (s : State) j => s.arrivePage i keys j) a
    let a := a.when a.rngOk (State.instantiate (16 + i))
    Leads (.moveIn c) s (((a.moveRecord i 2 (a.instOf i).d.moveId).acknowledge m).finish m .ok)) ∧
  (∀ (c : Cmd) (s : State) (st : Status), Accepted 0x8609 c s → (s.instOf (submitted 0x8609 c s).cmd.unit).d.arrived = [] →
    s.moveIn (submitted 0x8609 c s) = .error st → Leads (.moveIn c) s (s.finish (submitted 0x8609 c s) st)) ∧
  (∀ (c : Cmd) (s : State), Accepted 0x860A c s → Alone s → s.ledgerOk = true →
    let m := submitted 0x860A c s
    let i := m.cmd.unit
    let d := (s.instOf i).d
    i ≠ 0 → d.st = .moving → d.moveSource = true → m.cmd.u 32 8 % 8 = 0 →
    (endBlobOk 3 d i (m.cmd.data.take (m.cmd.u 40 4)) = true → Leads (.moveFinish c) s
      ((((s.eraseInst i).moveInst i (fun d => { d with st := .free })).moveRecord i 3 d.moveId).finish m .ok)) ∧
    (endBlobOk 3 d i (m.cmd.data.take (m.cmd.u 40 4)) = false → Leads (.moveFinish c) s (s.finish m .moveAbandoned))) ∧
  (∀ (c : Cmd) (s : State), Accepted 0x860C c s → Alone s → s.ledgerOk = true →
    let m := submitted 0x860C c s
    let i := m.cmd.unit
    let d := (s.instOf i).d
    i ≠ 0 → d.st = .moving → d.moveSource = true → m.cmd.u 32 8 % 8 = 0 → endBlobOk 4 d i (m.cmd.data.take (m.cmd.u 40 4)) = true →
    Leads (.moveCancel c) s
      (((s.moveInst i (fun d => { d with st := .disabled, moveSource := false, moveId := 0 })).moveRecord i 4 d.moveId).finish m .ok)) ∧
  (∀ (c : Cmd) (s : State), Accepted 0x860B c s → Alone s → s.ledgerOk = true → s.rngOk = true →
    let m := submitted 0x860B c s
    let i := m.cmd.unit
    let d := (s.instOf i).d
    i ≠ 0 → d.st = .moving → d.moveSource = false → m.cmd.u 32 8 % 4096 = 0 →
    let a := (s.drewStatement 80).hostWrite 0 (m.cmd.u 32 8) (s.signedBlob 4 d.moveId d.movePeer mySerial i [])
    Leads (.moveAbandon c) s (((((a.eraseInst i).moveInst i (fun x =>
      { x with st := .free, abandoned := d.moveId :: x.abandoned })).moveRecord i 5 d.moveId)).finish m .ok)) ∧
  (∀ (c : Cmd) (s : State), Accepted 0x860D c s →
    let m := submitted 0x860D c s
    let r := m.cmd.data.take 4763
    m.cmd.u 32 8 % 8 = 0 →
    (s.memberOk r mySerial identityHash = true →
      Leads (.moveMembership c) s (State.finish m .ok (State.saveDev { s with drec := { s.drec with member := r } }))) ∧
    (s.memberOk r mySerial identityHash = false → Leads (.moveMembership c) s (s.finish m .moveNotPermitted)))

/-! ### Twin operation (chapter 15) -/

/-- Pairing (R408, R409, R411, R412, R417): a link to the partner that the TWIN section names and whose membership verifies comes up and another is
rejected; a link that goes down, or whose frames stop, discards a partial copy; a heartbeat is noted with the partner's tick and claim; eight
ticks without one make the device ALONE, an ACTIVE one leaves ACTIVE and is fenced; a complete copy makes the pair PAIRED.
The model's choices in it: logs 36, 83. -/
def Obligations.TwinsPairAndPart : Prop :=
  (∀ (w : WeltUp) (s : State), s.ready = true → s.cfg.enables.welt = true → 2 ≤ w.lanes → s.hasTwin = true →
    let lanes := if 8 ≤ w.lanes then 8 else if 4 ≤ w.lanes then 4 else 2
    ((w.serial ≠ s.twinSec.partner ∨ w.names ≠ mySerial ∨ s.memberOk w.record w.serial w.ident = false) →
      Leads (.weltLinkUp w) s { s with twin := { s.twin with lanes := lanes, linkUp := false, rejected := true } }) ∧
    (w.serial = s.twinSec.partner → w.names = mySerial → (w.role = 1 ∨ w.role = 2) → w.role ≠ s.twinSec.role →
      s.memberOk w.record w.serial w.ident = true → s.twin.pair ≠ 0 →
      let a : State := { s with twin := { s.twin with lanes := lanes, linkUp := true, rejected := false } }
      Leads (.weltLinkUp w) s (State.learnClaim w.claim
        { a with twin := { a.twin with partnerTick := w.tick, lastHeard := s.tick.count } }))) ∧
  (∀ (i : Instr) (s : State), (i = .weltLinkDown ∨ i = .weltFrameTimeout) →
    Leads i s { s with twin := { s.twin with lanes := 0, linkUp := false, resyncDone := false, queued := [] } }) ∧
  (∀ (h : Heartbeat) (s : State), s.ready = true → s.hasTwin = true →
    (s.twin.linkUp = false → Leads (.heartbeatRx h) s s) ∧
    (s.twin.linkUp = true → s.twin.pair = 2 → s.tick.aligned = true →
      let a := State.learnClaim h.claim { s with twin := { s.twin with partnerTick := h.tick, lastHeard := s.tick.count } }
      Leads (.heartbeatRx h) s { a with tick := { a.tick with offset := h.offsetNs } })) ∧
  (∀ s : State, s.ready = true → s.hasTwin = true → s.twin.pair ≠ 0 →
    (s.tick.count < s.twin.lastHeard + 9 → Leads .heartbeatLoss s s) ∧
    (s.twin.lastHeard + 9 ≤ s.tick.count → s.twin.active = true →
      let a := State.setPair 0 { s with twin := { s.twin with aloneSince := s.tick.count } }
      Leads .heartbeatLoss s (State.leaveActive .notActive
        { a with twin := { a.twin with fenced := true, fenceAt := some (a.tick.count + 16) } }))) ∧
  (∀ s : State, s.ready = true → s.twin.pair = 1 → s.twin.linkUp = true →
    (s.twin.active = false → Leads .resyncComplete s { s with twin := { s.twin with resyncDone := true } }) ∧
    (s.twin.active = true → s.twin.queued = [] → Leads .resyncComplete s (State.setPair 2 s)))

/-- Claims (R413-R416, R422): a CAS on the claim cell that returns its compare value promotes the device, or lets what waited go on; a greater
value fails it with CLAIM_SUPERSEDED and is learnt; no answer for 4 ticks fails it with CLAIM_UNREACHABLE. The fence, the start wait and a
forced failover each attempt one promotion; a return of the primary pauses the secondary, which resumes at tick E + 8.
The model's choices in it: log 82. -/
def Obligations.ClaimsDecideWhoIsActive : Prop :=
  (∀ (id v : Nat) (o : CasOp) (s : State), s.twin.cas.get? id = some o →
    let d : State := { s with twin := { s.twin with cas := s.twin.cas.erase id } }
    (∀ c how, o.purpose = .promote c how none → v = o.cmp → Leads (.claimCasResult id v) s (d.promoted c none)) ∧
    (∀ c how, o.purpose = .promote c how none → v ≠ o.cmp → Leads (.claimCasResult id v) s
      { d with twin := { d.twin with promoteFailed := true, partnerClaim := max d.twin.partnerClaim v } }) ∧
    (∀ m, o.purpose = .takeRead m → Leads (.claimCasResult id v) s (d.tryPromote v 4 (some m))) ∧
    (∀ p, o.purpose = .page p → v = o.cmp → Leads (.claimCasResult id v) s (d.pass (.page p) none)) ∧
    (∀ code m, o.purpose = .command code m → v ≠ o.cmp → o.swap < v → Leads (.claimCasResult id v) s
      ((d.learnClaim v).claimFailed (.command code m) .claimSuperseded)) ∧
    (s.tick.count < o.since + 4 → Leads (.claimCasTimeout id) s s) ∧
    (∀ code m, o.purpose = .command code m → o.since + 4 ≤ s.tick.count →
      Leads (.claimCasTimeout id) s (d.claimFailed (.command code m) .claimUnreachable))) ∧
  (∀ (t : Nat) (s : State), s.ready = true → s.twin.fenceAt = some t →
    (t ≤ s.tick.count → Leads .fencePromotionAttempt s
      (State.tryPromote s.drec.claim 2 none { s with twin := { s.twin with fenceAt := none } })) ∧
    (s.tick.count < t → Leads .fencePromotionAttempt s s)) ∧
  (∀ s : State, s.ready = true → s.hasTwin = true → s.twin.active = false → s.twin.pair = 0 →
    (s.twin.startTried = false → s.twin.aloneSince + s.twinSec.startWait ≤ s.tick.count → Leads .startWaitExpiry s
      (State.tryPromote s.topClaim 1 none { s with twin := { s.twin with startTried := true } })) ∧
    (s.twin.startTried = true → Leads .startWaitExpiry s s)) ∧
  (∀ s : State, s.works = true → s.hasTwin = true → s.twin.pair = 2 → s.tick.count % 1000000 = 0 → s.tick.due = false →
    (s.twin.active = true → s.twinSec.role = 2 → s.twin.paused = none →
      Leads .returnOfPrimary s { s with twin := { s.twin with paused := some s.tick.count } }) ∧
    (∀ p, s.twin.active = false → s.twin.pairedSince = some p → s.twinSec.role = 1 → s.twinSec.autoReturn = true → s.twin.returnHeld = false →
      s.twin.returning = none → (p + 999999) / 1000000 + s.twinSec.holdOff ≤ s.tick.count / 1000000 →
      Leads .returnOfPrimary s (State.emit (.returnNotice s.tick.count) { s with twin := { s.twin with returning := some s.tick.count } }))) ∧
  (∀ (e : Nat) (s : State), s.twin.paused = some e → s.twin.active = true → s.twin.leaving = false →
    (e + 8 ≤ s.tick.count → Leads .returnResumeTimeout s { s with twin := { s.twin with paused := none } }) ∧
    (s.tick.count < e + 8 → Leads .returnResumeTimeout s s)) ∧
  (∀ (c : Cmd) (s : State), Accepted 0x8701 c s →
    let m := submitted 0x8701 c s
    let take := bit (byteAt m.cmd.desc 32) 0
    (s.hasTwin = false → Leads (.forcedFailover c) s (s.finish m .badFieldValue)) ∧
    (s.hasTwin = true → take = s.twin.active → Leads (.forcedFailover c) s (s.finish m .ok)) ∧
    (s.hasTwin = true → take = true → s.twin.active = false → s.casPossible = true →
      Leads (.forcedFailover c) s (s.issueCas 0 0 false (.takeRead m))) ∧
    (s.hasTwin = true → take = true → s.twin.active = false → s.casPossible = false →
      Leads (.forcedFailover c) s (s.finish m .claimUnreachable)) ∧
    (s.hasTwin = true → take = false → s.twin.active = true →
      Leads (.forcedFailover c) s (State.finish m .ok { s with twin := { s.twin with leaving := true } }))) ∧
  (∀ (c : Cmd) (s : State), Accepted 0x8702 c s →
    let m := submitted 0x8702 c s
    (s.hasTwin = true → Leads (.twinReturnHold c) s
      (State.finish m .ok (State.touchDev { s with twin := { s.twin with returnHeld := bit (byteAt m.cmd.desc 32) 0 } }))) ∧
    (s.hasTwin = false → Leads (.twinReturnHold c) s (s.finish m .badFieldValue)))

/-- Mirroring (R410): an ACTIVE device of a pair sends a change and its effect waits for the partner's acknowledgement; a STANDBY device holds a
change from a claim that is not below the highest it knows, a privileged one until its claim check has passed.
The model's choices in it: logs 39, 83. -/
def Obligations.MirroredChangesWaitForThePartner : Prop :=
  (∀ (p : Purpose) (s : State), s.hasTwin = true → s.twin.active = true → s.twin.pair = 2 →
    s.mirror p = State.emit (.mirror s.twin.nextId s.drec.claim p)
      { s with twin := { s.twin with nextId := s.twin.nextId + 1, acks := s.twin.acks.set s.twin.nextId p } }) ∧
  (∀ (id : Nat) (p : Purpose) (s : State), s.twin.acks.get? id = some p →
    Leads (.mirrorAck id) s (State.pass p none { s with twin := { s.twin with acks := s.twin.acks.erase id } })) ∧
  (∀ (id : Nat) (s : State), s.twin.acks.get? id = none → Leads (.mirrorAck id) s s) ∧
  (∀ (m : MirrorRx) (s : State), s.ready = true → s.hasTwin = true → s.twin.active = false → s.twin.pair ≠ 0 →
    let a := State.learnClaim m.claim { s with twin := { s.twin with mirrored := s.twin.mirrored.set m.id m } }
    (m.claim < s.topClaim → Leads (.mirroredChangeRx m) s s) ∧
    (s.topClaim ≤ m.claim → m.priv = false → Leads (.mirroredChangeRx m) s (a.pass (.mirrored m.id) none)) ∧
    (s.topClaim ≤ m.claim → m.priv = true → Leads (.mirroredChangeRx m) s (a.claimThen m.claim (.mirrored m.id))))

/-! ### Protection, randomness and the life-cycle (chapter 16) -/

/-- Monitor sources (R428-R432): one that asserts afresh while it is watched and the rails are up sets its sticky flag, counts, writes its TAMPER
record and raises PROT_IRQ's source 0; a response of ZEROISE then erases the battery domain's secret and resets the device with cause 4, a
response of HALT is pending until the tick boundary. A source that is asserted already, or disabled by its fuse, does nothing.
The model's choices in it: logs 48, 53. -/
def Obligations.MonitorSourcesActOnce : Prop :=
  (∀ (k : Nat) (s : State), k < 16 → bit s.prot.live k = true → Leads (.monitorAssert k) s s) ∧
  (∀ (k : Nat) (s : State), k < 16 → bit s.prot.live k = false →
    let l : State := { s with prot := { s.prot with live := setBit s.prot.live k } }
    (l.watched k = false → Leads (.monitorAssert k) s l) ∧
    (l.watched k = true → s.dev.rails = true →
      let b : State := { l with bat := { l.bat with sticky := setBit l.bat.sticky k } }
      let e := ((b.bump oProtEvents).localRec 0x03 (le 2 (setBit 0 k) ++ [BitVec.ofNat 8 (b.responseOf k)] ++ zeros 5)).raise 14 oProtIrq 0
      (b.responseOf k = 3 → Leads (.monitorAssert k) s (e.zeroiseNow 2 k)) ∧
      (b.responseOf k = 2 → e.prot.halted = false → Leads (.monitorAssert k) s
        { e with prot := { e.prot with haltPending := some (setBit (e.prot.haltPending.getD 0) k) } }) ∧
      (b.responseOf k = 1 → Leads (.monitorAssert k) s e))) ∧
  (∀ (k : Nat) (s : State), Goes (.monitorDeassert k) s { s with prot := { s.prot with live := clearBit s.prot.live k } }) ∧
  (∀ (cause k : Nat) (s : State), s.dev.rails = true → (s.zeroiseNow cause k).ks.keys = [] ∧ (s.zeroiseNow cause k).ks.storeKey = [] ∧
    (s.zeroiseNow cause k).sess = [] ∧ (s.zeroiseNow cause k).disp.items = [])

/-- Randomness (R440-R444): a window that keeps within the thresholds is counted with its figures; one that does not while random output runs
stops it, keeps the source and the first cause, and leaves a record; a DRBG is reseeded after 2^24 generate requests, not before.
The model's choices in it: logs 1, 13, 49. -/
def Obligations.NoiseWindowsAndDrbgs : Prop :=
  (∀ (k : Nat) (w : Bytes) (s : State), s.ready = true → k < 8 → w.length = 512 → s.rng.state ≠ 0 → s.rng.test = 0 →
    let ones := windowOnes w
    let pairs := windowPairs w
    let f := windowFail s.thresholds ones pairs
    let a := (s.setReg (oRngSource + 8 * k) (pairs * 65536 + ones)).bump64 oRngWindows 1
    let b : State := { a with rng := { a.rng with state := 2, failed := setBit a.rng.failed k, cause := if a.rng.cause = 0 then f else a.rng.cause } }
    (f = 0 → Leads (.noiseWindow k w) s a) ∧
    (f ≠ 0 → a.rngOk = true →
      Leads (.noiseWindow k w) s ((b.raise 15 oRngIrq 0).localRec 0x08 ([BitVec.ofNat 8 (setBit 0 k), BitVec.ofNat 8 f] ++ zeros 6))) ∧
    (f ≠ 0 → a.rngOk = false → Leads (.noiseWindow k w) s b)) ∧
  (∀ (kind n : Nat) (s : State), (kind = 1 ∧ n < 16 ∨ kind = 2) → s.rngOk = true →
    let d := if kind = 1 then n else 16 + n
    (2 ^ 24 ≤ s.rng.drbgs.getD d 0 → s.rng.drbgs.has d = true → Goes (.drbgReseedCount kind n) s
      (State.bump64 oRngReseeds 1 { s with rng := { s.rng with drbgs := s.rng.drbgs.set d 0 } })) ∧
    (s.rng.drbgs.getD d 0 < 2 ^ 24 → Goes (.drbgReseedCount kind n) s s))

/-- The life-cycle (R448-R452, R456): a step waits for its receipt's acknowledgement at most 1,000 ticks, then wipes; the wipe erases keys, sessions
and, towards RETURNED, the user area; each burn adds one row of the new stage word, and the last resets the device with cause 5. The fuse
options burn in all three copies in MAKER and INTEGRATOR alone; ZEROISE completes before it erases.
The model's choices in it: logs 3, 51. -/
def Obligations.LifeCycleStepsBurnRows : Prop :=
  (∀ (t : LifeStep) (s : State), s.prot.step = some t → t.stage = 1 →
    (t.since + 1000 ≤ s.tick.count → Leads .lifecycleReceiptTimeout s (s.startWipe t)) ∧
    (s.tick.count < t.since + 1000 → Leads .lifecycleReceiptTimeout s s)) ∧
  (∀ (t : LifeStep) (s : State), s.prot.step = some t → t.stage = 2 →
    let a := s.stompAll
    Leads .wipeDone s { a with
      flash := if t.target = 3 then { a.flash with store := {} } else a.flash
      ks := { a.ks with keys := [], storeKey := [], slotKey := [] }
      sess := [], disp := { stopAdmit := true }, eng := {}
      prot := { a.prot with step := some { t with stage := 3, row := 0 } } }) ∧
  (∀ (t : LifeStep) (s : State), s.prot.step = some t → t.stage = 3 → t.target = 1 ∨ t.target = 3 →
    let f : Fuses := { s.fuses with stages := (List.range 12).map (fun j =>
      if j = 3 * (if t.target = 1 then 0 else 2) + t.row then s.fuses.stages.getD j 0 ||| stageWord (if t.target = 1 then 0 else 2)
      else s.fuses.stages.getD j 0) }
    (t.row < 2 → Goes .fuseBurnDone s { s with fuses := f, prot := { s.prot with step := some { t with row := t.row + 1 } } }) ∧
    (2 ≤ t.row → s.prot.zeroising = false → Goes .fuseBurnDone s (State.deviceReset 5 { s with fuses := f }))) ∧
  (∀ s : State, s.prot.step = none → Goes .fuseBurnDone s s ∧ Leads .wipeDone s s ∧ Leads .lifecycleReceiptTimeout s s) ∧
  (∀ (c : Cmd) (s : State), Accepted 0x8802 c s →
    let m := submitted 0x8802 c s
    let opts := leAt m.cmd.desc 32 2 + b2n (bit (byteAt m.cmd.desc 34) 0) * 65536
    (s.prot.life ≤ 1 → Leads (.protFuseOptions c) s (State.finish m .ok ((State.touchDev
      { s with fuses := { s.fuses with options := (List.range 3).map (fun k => s.fuses.options.getD k 0 ||| opts) } }).decisions 1))) ∧
    (1 < s.prot.life → Leads (.protFuseOptions c) s ((s.decisions 1).finish m .lifecycleForbidden))) ∧
  (∀ (c : Cmd) (s : State), Accepted 0x8801 c s →
    Leads (.zeroise c) s ((s.finish (submitted 0x8801 c s) .ok).zeroiseNow 1 0)) ∧
  (∀ (c : Cmd) (s : State), Accepted 0x8803 c s →
    let m := submitted 0x8803 c s
    let d := s.decisions 2
    let t := if m.cmd.u 40 4 = 4800 then padTo 4800 m.cmd.data else []
    (s.prot.life = 2 → Leads (.debugUnlock c) s (d.finish m .lifecycleForbidden)) ∧
    (s.prot.life ≠ 2 → ∀ st, d.tokenFail debugAllowed t = some st → Leads (.debugUnlock c) s (d.spendNonce.finish m st)) ∧
    (s.prot.life ≠ 2 → d.tokenFail debugAllowed t = none → d.ledgerOk = true →
      Leads (.debugUnlock c) s ((d.spendNonce.enableDebug (byteAt t 6) (slice t 16 32)).finish m .ok)))

/-! ### The ledger and the card (chapter 17) -/

/-- Ledger work (R463-R475): a record takes the next sequence number, the previous record's first MAC bytes and a MAC over itself; a
record whose mark reads back is committed, one that does not is voided and written again, a program error retires its sector; a key
update message takes effect with its record. Seals follow 65,536 records or 3,600 epochs; sectors are erased ahead and retired at their
endurance or at an error; verification ends with its finding.
The model's choices in it: logs 3, 77, 79. -/
def Obligations.LedgerKeepsRecords : Prop :=
  (∀ (typ flags : Nat) (body : Bytes) (s : State),
    let r := s.makeRec typ flags body
    let t := s.placeRec { r with mark := 0xA5 }
    r.seq = s.ledger.nextSeq ∧ r.mac = cmac ledgerKey r.signed ∧ r.link = (match s.lastRec with | none => zeros 8 | some p => p.mac.take 8) ∧
      t.flash.records = s.flash.records ++ [{ r with mark := 0xA5 }] ∧ t.ledger.nextSeq = s.ledger.nextSeq + 1 ∧
      t.ledger.unsealed = s.ledger.unsealed + 1) ∧
  (∀ (p : LedgerPend) (rest : List LedgerPend) (s : State), s.ledger.opened = true → s.ledger.pending = p :: rest →
    let d : State := { s with ledger := { s.ledger with pending := rest } }
    let r := s.makeRec p.typ p.flags p.body
    (p.kum = none → Leads (.ledgerRecordCommit 0) s (d.commitRec p.typ p.flags p.body)) ∧
    (∀ n, p.kum = some n → s.ledgerOk = true → Leads (.ledgerRecordCommit 0) s (d.acceptKum n)) ∧
    (∀ n, p.kum = some n → s.ledgerOk = false → Leads (.ledgerRecordCommit 0) s (d.failKum n 0xFF .ledgerUnavailable)) ∧
    Leads (.ledgerRecordCommit 1) s (s.voidRec p) ∧
    Leads (.ledgerRecordCommit 2) s ((s.voidRec p).retireSector (areaOf r.firstArea) r.sector 2)) ∧
  (∀ s : State, s.ready = true → s.ledger.opened = true → s.rngOk = true →
    (65536 ≤ s.ledger.unsealed → Leads .ledgerSealCount s s.writeSeal) ∧
    (s.ledger.unsealed < 65536 → Leads .ledgerSealCount s s) ∧
    (0 < s.ledger.unsealed → s.ledger.sealAt / 1000000 + 3600 ≤ s.tick.count / 1000000 → Leads .ledgerSealTimer s s.writeSeal)) ∧
  (∀ s : State, s.ledger.opened = true → s.flash.ahead = false →
    let k := if s.flash.head.sector + 1 < s.flash.inService then s.flash.head.sector + 1 else 0
    let e := s.eraseAhead
    (e.flash.erases.getD k 0 < e.flash.enduranceOf → Leads (.sectorEraseAhead true) s e) ∧
    (e.flash.enduranceOf ≤ e.flash.erases.getD k 0 → Leads (.sectorEraseAhead true) s (e.retireSector 2 k 1)) ∧
    Leads (.sectorEraseAhead false) s (e.retireSector 2 k 2)) ∧
  (∀ (damaged : Nat) (brk : Bool) (s : State), s.ledger.opened = true →
    (s.ledger.verified = false → Goes (.ledgerVerifyDone damaged brk) s
      (State.raise 16 oLdgIrq 2 { s with ledger := { s.ledger with verified := true, damaged := damaged % 2 ^ 32, brk := brk } })) ∧
    (s.ledger.verified = true → Goes (.ledgerVerifyDone damaged brk) s s))

/-- The ceremony card (R476-R482): LEDGER_EXPORT writes a segment (header, records, two signatures) to host memory and the sequence
numbers back, or block by block to a card, block 0 first marked INCOMPLETE and at last whole; CARD_READ delivers blocks, except a component file; a card block that ends its busy state well lets the export go on, one
that cannot be confirmed ends it; detection identifies a card, a removal of more than 1 ms ends its session.
The model's choices in it: logs 46, 78. -/
def Obligations.CardCarriesSegments : Prop :=
  (∀ (c : Cmd) (s : State) (r : LedgerRec) (rs : List LedgerRec), Accepted 0x8901 c s →
    let m := submitted 0x8901 c s
    let limit := m.cmd.u 40 4
    let a := m.cmd.u 48 8
    let room := m.cmd.u 56 4
    let all := (s.flash.records.filter (fun r => r.mark == 0xA5 && decide (m.cmd.u 32 8 ≤ r.seq))).take limit
    let last := ((r :: rs).getLast (List.cons_ne_nil r rs)).seq
    let body := (r :: rs).flatMap LedgerRec.bytes
    let head := segmentHeader 0 r.seq last body.length
    let sigs := padTo 96 (signEc (head ++ body) s.free) ++ padTo 4627 (signDsa (head ++ body) (ascii "LV5120-LEDGER") (s.free + 48))
    let d := (s.generate s.mgmtDrbg 80).spend 80
    1 ≤ limit → limit ≤ 1048576 → byteAt m.cmd.desc 44 = 0 → a % 4096 = 0 → 5235 ≤ room → s.ledger.opened = true → s.rngOk = true →
    fitRecords ((room - 512 - 4723) / 512 * 512) all 0 = r :: rs →
    (c.pass = true → Leads (.ledgerExport c) s
      (State.finish m .ok ((d.hostWrite 0 a (padTo 512 head ++ padTo (roundUp body.length 512) body ++ sigs)).overwrite m 32
        (le 8 r.seq ++ le 8 last)))) ∧
    (c.pass = false → Leads (.ledgerExport c) s ((d.releaseFail d.mgmtDrbg 0 false).finish m .hwFault))) ∧
  (∀ (c : Cmd) (s : State) (r : LedgerRec) (rs : List LedgerRec), Accepted 0x8901 c s →
    let m := submitted 0x8901 c s
    let limit := m.cmd.u 40 4
    let a := m.cmd.u 48 8
    let all := (s.flash.records.filter (fun r => r.mark == 0xA5 && decide (m.cmd.u 32 8 ≤ r.seq))).take limit
    let last := ((r :: rs).getLast (List.cons_ne_nil r rs)).seq
    let body := (r :: rs).flatMap LedgerRec.bytes
    let recs := padTo (roundUp body.length 512) body
    let head (f : Nat) := padTo 512 (segmentHeader f r.seq last body.length)
    let signed := segmentHeader 0 r.seq last body.length ++ body
    let sigs := padTo 96 (signEc signed s.free) ++ padTo 4627 (signDsa signed (ascii "LV5120-LEDGER") (s.free + 48))
    let bs := head 1 :: chunks 512 recs ++ chunks 512 (padTo 5120 sigs) ++ [head 0]
    let left := (List.range bs.length).map (fun k => (if k + 1 = bs.length then a else a + k, bs.getD k []))
    let d := (s.generate s.mgmtDrbg 80).spend 80
    1 ≤ limit → limit ≤ 1048576 → byteAt m.cmd.desc 44 = 1 → 11 ≤ m.cmd.u 56 4 → s.ledger.opened = true → s.rngOk = true → c.pass = true →
    s.cardFail a 0 = none → a + 11 + recs.length / 512 ≤ s.card.blocks → fitRecords ((m.cmd.u 56 4 - 11) * 512) all 0 = r :: rs →
    Leads (.ledgerExport c) s
      (State.cardBlock { d with card := { d.card with job := some { m := m, left := left, first := r.seq, last := last } } })) ∧
  (∀ (c : Cmd) (s : State), Accepted 0x8902 c s →
    let m := submitted 0x8902 c s
    let n := m.cmd.u 36 4
    let b := padTo (512 * n) c.data
    1 ≤ n → n ≤ 65536 → m.cmd.u 40 8 % 4096 = 0 → s.cardFail (m.cmd.u 32 4) n = none →
    (c.pass = true → (chunks 512 b).any (fun x => leAt x 0 4 == 0x434F4D50) = false →
      Leads (.cardRead c) s (State.finish m .ok (s.hostWrite 0 (m.cmd.u 40 8) b))) ∧
    (c.pass = true → (chunks 512 b).any (fun x => leAt x 0 4 == 0x434F4D50) = true →
      Leads (.cardRead c) s (s.finish m .exportNotPermitted)) ∧
    (c.pass = false → Leads (.cardRead c) s (s.readFails.finish m .cardReadFailed))) ∧
  (∀ (j : CardJob) (x : CardBusy) (s : State), s.card.job = some j → s.ready = true →
    let good := x.present && !s.card.blink && x.answered && x.tran && x.errors == 0
    (good = true → Leads (.cardBusyEnd x) s
      (State.cardBlock { s with card := { s.card with job := some { j with left := j.left.drop 1 } } })) ∧
    (good = false → Leads (.cardBusyEnd x) s s.uncertain) ∧
    (j.since + s.msTicks 500 ≤ s.tick.count → Leads .cardBusyTimeout s s.uncertain) ∧
    (s.tick.count < j.since + s.msTicks 500 → Leads .cardBusyTimeout s s)) ∧
  (∀ (x : CardSeen) (s : State), s.ready = true → s.cfg.enables.card = true → s.card.detect = false →
    (x.voltage = true → x.sdio = false → x.ready = true → Goes (.cardDetect x) s (State.raise 17 oCardIrq 1
      { s with card := { state := 2, typ := x.typ, blocks := x.blocks % 2 ^ 32, wide := x.wide, fast := x.fast, wp := x.wpSwitch,
                         csd := x.wpCsd, cid := padTo 16 x.cid, detect := true, since := s.tick.count } })) ∧
    (x.voltage = true → x.sdio = false → x.ready = false → Goes (.cardDetect x) s (State.raise 17 oCardIrq 1
      { s with card := { state := 1, fast := x.fast, wp := x.wpSwitch, csd := x.wpCsd, detect := true, since := s.tick.count } })) ∧
    (x.voltage = false ∨ x.sdio = true → Goes (.cardDetect x) s (State.raise 17 oCardIrq 1
      { s with card := { state := 4, fast := x.fast, wp := x.wpSwitch, csd := x.wpCsd, detect := true, since := s.tick.count } }))) ∧
  (∀ (us : Nat) (s : State), s.ready = true → s.card.detect = true →
    (us ≤ 1000 → Leads (.cardRemoval us) s { s with card := { s.card with blink := true } }) ∧
    (1000 < us → s.card.job = none → Leads (.cardRemoval us) s (State.raise 17 oCardIrq 1 { s with card := {} }))) ∧
  (∀ s : State, s.card.state = 1 →
    (s.card.since + s.msTicks 1000 ≤ s.tick.count → Goes .cardIdentifyTimeout s { s with card := { s.card with state := 4 } }) ∧
    (s.tick.count < s.card.since + s.msTicks 1000 → Goes .cardIdentifyTimeout s s))

/-! ### Memory, engines and public-key jobs (chapters 12 and 18) -/

/-- Banks and engines (R490, R491, R495, R500-R505): a bank takes the power state asked for; self-tests and un-retirements start a test and
complete with its end; an error is counted, its bank or engine tested and what it hit stopped, or run once more where that is safe; an
engine that fails its test is retired, a bank replaced by the lowest free spare; retention and arbitration events are noted.
The model's choices in it: logs 1, 23, 24, 80. -/
def Obligations.UnitsAreTestedAndRetired : Prop :=
  (∀ (c : Cmd) (s : State), Accepted 0x8A01 c s →
    let m := submitted 0x8A01 c s
    let b := fabUnit m % 4096
    let r := byteAt m.cmd.desc 34
    let low := s.fab.low.filter (fun x => x != b)
    fabUnit m / 4096 = 7 → b < 3392 →
    (r = 0 → Leads (.fabBankPower c) s
      (State.finish m .ok (State.touchDev { s with fab := { s.fab with rest := s.fab.rest.erase b, low := low } }))) ∧
    (r = 1 → Leads (.fabBankPower c) s
      (State.finish m .ok (State.touchDev { s with fab := { s.fab with rest := s.fab.rest.set b 1, low := low } }))) ∧
    (r = 2 → s.offAllowed b = true → s.bankEmpty b = true →
      State.quotasFit { s with fab := { s.fab with rest := s.fab.rest.set b 2, low := low } } = true →
      Leads (.fabBankPower c) s
        (State.finish m .ok (State.touchDev { s with fab := { s.fab with rest := s.fab.rest.set b 2, low := low } })))) ∧
  (∀ (c : Cmd) (s : State), Accepted 0x8A02 c s →
    let m := submitted 0x8A02 c s
    let u := fabUnit m
    let q := bankQuadrant (u % 4096)
    let d : State := { s with fab := { s.fab with cmds := s.fab.cmds ++ [(u, m)] } }
    testable u = true → s.retired u = true →
    (u / 4096 ≠ 7 → Leads (.fabUnretire c) s (d.testEngine u)) ∧
    (u / 4096 = 7 → s.fab.tests.get? q = none → s.fab.waiting = [] → Leads (.fabUnretire c) s
      { d with fab := { d.fab with tests := s.fab.tests.set q { bank := u % 4096, stage := 1, bad := true } } })) ∧
  (∀ (c : Cmd) (s : State), Accepted 0x8A03 c s →
    let m := submitted 0x8A03 c s
    let u := fabUnit m
    let q := bankQuadrant (u % 4096)
    let d : State := { s with fab := { s.fab with cmds := s.fab.cmds ++ [(u, m)] } }
    testable u = true → s.inService u = true →
    (u / 4096 ≠ 7 → Leads (.fabSelftest c) s (d.testEngine u)) ∧
    (u / 4096 = 7 → s.fab.tests.get? q = none → s.fab.waiting = [] → s.sparesFree q ≠ 0 → Leads (.fabSelftest c) s
      { d with fab := { d.fab with tests := s.fab.tests.set q { bank := u % 4096, stage := 0, bad := false } } })) ∧
  (∀ (e : EccEvent) (s : State), s.ready = true → e.bank < 3392 →
    let d : State := { s with fab := { s.fab with low := s.fab.low.filter (fun b => b != e.bank) } }
    (e.corrected = true → Leads (.eccError e) s ((d.bumpF oFabEcc 31 0 1).testBank e.bank)) ∧
    (e.corrected = false → Leads (.eccError e) s ((d.bumpHi oFabEcc).uncorrected e))) ∧
  (∀ (u n : Nat) (x : Item) (s : State), s.ready = true → testable u = true → u / 4096 ≠ 7 →
    let d := s.testEngine u
    (d.item? n = none → Leads (.engineError u n) s d) ∧
    (d.item? n = some x → x.admitted = true → 4 ≤ u / 4096 → idempotent x = true → d.fab.engErrs.contains n = false →
      Leads (.engineError u n) s { d with
        fab := { d.fab with engErrs := d.fab.engErrs ++ [n] },
        eng := { d.eng with jobs := d.eng.jobs.mapT (fun _ j => if j.serves n then { j with running := false } else j) } }) ∧
    (d.item? n = some x → x.admitted = true → 4 ≤ u / 4096 → idempotent x = false ∨ d.fab.engErrs.contains n = true →
      Leads (.engineError u n) s ((d.dropJobs n).stopItem n .hwFault))) ∧
  (∀ (u : Nat) (s : State), s.ready = true → s.fab.engTests.contains u = true →
    let d : State := { s with fab := { s.fab with engTests := s.fab.engTests.filter (fun x => x != u) } }
    (s.drec.engines.contains u = false → Leads (.engineKatDone u true) s ((d.bumpF oFabSelftest 31 0 1).testEnded u true false)) ∧
    (s.drec.engines.contains u = false → Leads (.engineKatDone u false) s
      ((State.noteRetired { d with drec := { d.drec with engines := d.drec.engines ++ [u] } }).testEnded u false true)) ∧
    (s.drec.engines.contains u = true → Leads (.engineKatDone u false) s (d.testEnded u false true))) ∧
  (∀ (q : Nat) (t : BankTest) (s : State), s.fab.tests.get? q = some t → s.ready = true →
    let u := unitId 7 t.bank
    (t.stage = 0 → Leads (.bankCopyDone q) s { s with fab := { s.fab with tests := s.fab.tests.set q { t with stage := 1 } } }) ∧
    (t.stage = 1 → t.bad = false →
      Leads (.bankMarchTestDone q true) s { s with fab := { s.fab with tests := s.fab.tests.set q { t with stage := 2 } } }) ∧
    (∀ b, t.stage = 1 → t.bad = false → s.freeSpare q = some b → Leads (.bankMarchTestDone q false) s
      (((State.noteRetired { s with drec := { s.drec with banks := s.drec.banks.set t.bank b } }).testEnded u false true).nextBankTest q)) ∧
    (t.stage = 1 → t.bad = true → Leads (.bankMarchTestDone q false) s ((s.testEnded u false true).nextBankTest q)) ∧
    (t.stage = 2 → Leads (.bankCopyBackDone q) s (((s.bumpF oFabSelftest 31 0 1).testEnded u true false).nextBankTest q))) ∧
  (∀ (b : Nat) (s : State), s.fab.rest.getD b 0 = 1 → s.fab.low.contains b = false →
    Goes (.bankRetentionTimeout b) s { s with fab := { s.fab with low := s.fab.low ++ [b] } }) ∧
  (∀ (r u : Nat) (xbar : Bool) (s : State), s.ready = true → r ≤ 71 →
    let d := (s.setFld oFabStarved 31 0 (b2n xbar * 2 ^ 24 + r * 2 ^ 16 + u % 2 ^ 16)).bumpHi oFabStarved
    (d.fab.starvedAt = some d.tick.count → Goes (.arbiterStarvation r u xbar) s d) ∧
    (d.fab.starvedAt ≠ some d.tick.count → Goes (.arbiterStarvation r u xbar) s
      (State.raise 18 oFabIrq 0 { d with fab := { d.fab with starvedAt := some d.tick.count } })))

/-- Public-key jobs (R349-R354): the first job of a frond's queue is admitted when its places, frames and credit are there: its keys are
checked, its result computed and its segments begin; otherwise it waits. A segment that ends is counted and charged; after the last one the
job's outputs are released if they pass their check, and nothing is released otherwise.
The model's choices in it: logs 9, 60. -/
def Obligations.PublicKeyJobsRunInSegments : Prop :=
  (∀ (f k : Nat) (j : PkJob) (s : State), s.works = true → s.firstQueued f = some (k, j) →
    (s.mayPlace j = false → Leads (.pkJobAdmit f) s (s.noteWait k j)) ∧
    (∀ (n : Nat) (x : Item) (o : FnOut) (t : State), s.mayPlace j = true → j.purpose = .item n → s.item? n = some x → x.waitSt = none →
      let v := x.invoked.getD x.inv
      s.signLimit v = false → s.runKeys n x.inst v x.unver x.transit = (some o, t) → o.st = .ok ∨ o.st.isOutcome = true →
      Leads (.pkJobAdmit f) s
        (State.placeJob k v ((t.modItem n (fun y => { y with invoked := some v })).modItem n (fun y => { y with result := some o })))) ∧
    (∀ (n : Nat) (x : Item) (o : FnOut) (t : State), s.mayPlace j = true → j.purpose = .item n → s.item? n = some x → x.waitSt = none →
      x.transit = false →
      let v := x.invoked.getD x.inv
      s.signLimit v = false → s.runKeys n x.inst v x.unver x.transit = (some o, t) → o.st ≠ .ok → o.st.isOutcome = false →
      Leads (.pkJobAdmit f) s (((t.modItem n (fun y => { y with invoked := some v })).dropJob k).finishService n o none))) ∧
  (∀ (f : Nat) (lattice ok : Bool) (k : Nat) (j : PkJob) (s : State), s.works = true → s.runningJob f lattice = some (k, j) →
    let d := (s.bump64 oPkSegments 1).charge j.inst 0 0 1
    let left := j.left - 1
    let g : PkJob := { j with left := left, running := false, lastRun := d.tick.count,
                              lattice := j.lattice || (left != 0 && decide (left ≤ j.split)) }
    let e : State := { d with eng := { d.eng with jobs := d.eng.jobs.set k g } }
    let next (t : State) := (t.startSegments f lattice 8).startSegments f (!lattice) 8
    (j.abandoned = false → left ≠ 0 → Leads (.segmentEnd f lattice ok) s (next e)) ∧
    (j.abandoned = true → Leads (.segmentEnd f lattice ok) s (next ((e.dropJob k).bump oPkAbandoned))) ∧
    (j.abandoned = false → left = 0 → Leads (.segmentEnd f lattice ok) s (next (e.jobEnd k { g with lattice := lattice } ok)))) ∧
  (∀ (k n : Nat) (j : PkJob) (x : Item) (o : FnOut) (s : State), j.purpose = .item n → x.transit = false → x.result = some o →
    let fn := s.jobFn j
    let d := ((s.dropJob k).bump64 oPkJobsDone 1).decisions (if releases fn then 1 else 0)
    d.item? n = some x → s.jobEnd k j true = d.finishService n o none ∧
      (releases fn = true → ∀ y, (State.releaseFail j.frond fn j.lattice d).item? n = some y → y.transit = false →
        s.jobEnd k j false = (State.releaseFail j.frond fn j.lattice d).finishService n { st := .hwFault } none))

/-! ### Key update messages (chapter 13) -/

/-- KEY_UPDATE_MESSAGE (R363, R370): the ring's next message is taken; one of a wrong form, binding, quorum or counter is rejected; an op that
fails rejects it whole; one that passes waits for its ledger record, and with that record its counter is stored and its effect set for the
next tick boundary.
The model's choices in it: logs 12, 75. -/
def Obligations.KeyUpdatesAreCheckedAndRecorded : Prop :=
  (∀ (entry msg : Bytes) (s : State), s.works = true → bit (s.reg oKumControl) 0 = true → s.mayDma 0 = true → s.kum.sqHead ≠ s.kum.sqTail →
    s.kum.msgs.length < 256 →
    let b := padTo 32 entry
    let d : State := { s with kum := { s.kum with sqHead := (s.kum.sqHead + 1) % s.ringSize oKumSqSize } }
    (∀ st, kumForm b msg = .error st → Leads (.keyUpdateMessage entry msg) s (d.rejectKum b msg 0xFF st false)) ∧
    (∀ v st, kumForm b msg = .ok v → d.kumChecks v = some st → Leads (.keyUpdateMessage entry msg) s (d.rejectKum b msg 0xFF st false)) ∧
    (∀ v, kumForm b msg = .ok v → d.kumChecks v = none →
      let n := d.kum.next
      let segs := (v.sigs.map (fun g => if g.kind = 1 then publicSegs algEc 2 else publicSegs algDsa 2)).foldl (· + ·) 0
      let e := ((d.decisions v.sigs.length).bump64 oPkSegments segs).charge v.inst 0 0 segs
      let f : State := { e with kum := { e.kum with next := n + 1, msgs := e.kum.msgs.set n { entry := b, msg := msg } } }
      (∀ t ix st, f.runOps v = .fail t ix st → Leads (.keyUpdateMessage entry msg) s (t.failKum n ix st)) ∧
      (∀ t rs, f.runOps v = .done t rs → f.ledgerOk = false →
        Leads (.keyUpdateMessage entry msg) s (f.failKum n 0xFF .ledgerUnavailable)) ∧
      (∀ t rs, f.runOps v = .done t rs → f.ledgerOk = true → f.hasTwin = false → f.twin.passed = [] →
        let g := f.modKum n (fun x => { x with stage := 1 })
        Leads (.keyUpdateMessage entry msg) s { g with ledger := { g.ledger with
          pending := g.ledger.pending ++ [{ typ := 0x10, body := kumRecord v.target v.counter .ok v.signed, kum := some n }] } }))) ∧
  (∀ (n : Nat) (x : KumMsg) (v : KumView) (s t : State) (rs : List Nat), s.kum.msgs.get? n = some x → readKum x.msg = some v →
    s.kumBinding v = none → s.kumFresh v = none → s.runOps v = .done t rs →
    let u := t.setCounter v
    let ds := u.ks.journal.drop s.ks.journal.length ++ v.instances.map (fun i => Delta.inst i (u.instOf i).d) ++
      (if v.device then [Delta.dev u.drec] else [])
    let w := (((s.opRecords v).commitNow ds).commitRec 0x10 0 (kumRecord v.target v.counter .ok v.signed)).setCounter v
    s.acceptKum n = (w.bump64 oKumAccepted 1).modKum n (fun x =>
      { x with stage := 2, results := rs, effect := w.tick.count + 1, counter := v.counter }))

/-- The ops of key update messages on an instance's keys (R61, R74, R79, R92, R362): WRITE_KEY opens its block under a key-encryption key and
puts the key at its index with the next generation; DELETE, REPLENISH and SET_ATTRIBUTES change one key and its version; MARK_PERSISTENT
moves an ephemeral key to an index; SET_ROSTER sets the instance's roster. The instance's version rises with each.
The model's choices in it: log 59. -/
def Obligations.KeyOpsChangeStoredKeys : Prop :=
  (∀ (h : Nat) (n : NewKey) (prior : Option KeyRec) (s : State),
    let gen := match prior with | none => 1 | some r => hGen r.handle + 1
    let live := match prior with | none => false | some r => !r.deleted
    gen ≤ 0xFFFFF → (algSym n.alg = true → (s.page (s.keyPage h)).frozen = false) →
    (live = true ∨ (if algSym n.alg then s.symRoom (hInst h) else s.asymRoom (hInst h)) = true) →
    ∃ t r, s.putPersistent h n prior = .done t r.handle ∧ t.key? (hSlot h) = some r ∧ r.handle = hSlot h * 2 ^ 20 + gen ∧ r.mat = n.mat ∧
      r.alg = n.alg ∧ r.len = n.len ∧ r.cls = n.cls ∧ r.usage = n.usage ∧ r.flags = n.flags ∧ r.uses = n.uses ∧ r.cap = n.cap ∧
      r.deleted = false ∧ t.ks.journal.getLast? = some (.key (hSlot h) (some r))) ∧
  (∀ (op : KeyOp) (k : KeyRec) (n : NewKey) (prior : Option KeyRec) (h : Nat) (s t : State), s.works = true →
    let b := op.body
    let fmt := byteAt b 8
    let kek := leAt b 0 8
    let d := s.decisions 2
    targetFail op.handle op.target = none → persistentFlagsFail (leAt b 20 4) = none → 1 ≤ fmt → fmt ≤ 5 →
    (fmt ≤ 2 → allZero (slice b 12 3) = true ∧ allZero (slice b 16 4) = true) →
    d.checkKey kek op.target false true (some uUnwrap) (wrapKeyOk fmt 0x10) = .key k → hEphemeral kek = false →
    openBlock fmt k b = .ok n → writtenFail op.handle n k = none → d.indexOk op.handle = true → d.locate op.handle = .ok prior →
    (d.when k.counted (fun s => (s.hold (hSlot kek)).release (hSlot kek) true)).putPersistent op.handle n prior = .done t h →
    Leads (.writeKey op) s (t.touchInst op.target)) ∧
  (∀ (op : KeyOp) (r : KeyRec) (s : State), s.works = true →
    let d := s.decisions 2
    let slot := hSlot r.handle
    d.checkKey op.handle op.target false false none (fun _ => true) = .key r →
    (hEphemeral r.handle = true →
      Leads (.delete op) s (((((d.forgetUses slot).touch 6 r.handle).eraseKey slot)).touchInst op.target)) ∧
    (hEphemeral r.handle = false → (d.forgetUses slot).frozenKey r = false →
      let x : KeyRec := { r with deleted := true, flags := clearBit r.flags fPinned, holds := 0, dirty := r.dirty || hStore r.handle == 1 }
      let t := ((d.forgetUses slot).setKey slot x).touchKey slot
      Leads (.delete op) s ((t.journal (.key slot (t.key? slot))).touchInst op.target)) ∧
    (hEphemeral r.handle = false → d.frozenKey r = false → leAt op.body 0 4 ≠ 0 →
      let n := leAt op.body 0 4
      let y : KeyRec := { r with uses := n, nextFigure := none, dirty := r.dirty || hStore r.handle == 1 }
      let x : KeyRec := if hasFigure y then { y with durable := some (n - reservation r.cap n), resv := reservation r.cap n }
        else { y with durable := none, resv := 0 }
      let t := (d.setKey slot x).touchKey slot
      Leads (.replenish op) s ((t.journal (.key slot (t.key? slot))).touchInst op.target)) ∧
    (hEphemeral r.handle = true → leAt op.body 0 4 ≠ 0 → hasFigure { r with uses := leAt op.body 0 4, nextFigure := none } = false →
      Leads (.replenish op) s
        (((d.setKey slot { r with uses := leAt op.body 0 4, nextFigure := none, durable := none, resv := 0 }).touchKey slot).touchInst
          op.target)) ∧
    (hEphemeral r.handle = false → d.frozenKey r = false →
      let usage := leAt op.body 0 4
      let fl := leAt op.body 4 4
      let cap := byteAt op.body 8
      within usage (2 ^ 21 - 1) = true → within fl 0x3F = true → bit fl fPersistent = true → bit fl fPinned = false → cap ≤ 13 →
      usageAllowed r.cls usage = true →
      let x : KeyRec := { r with usage := usage, cap := cap, flags := fl ||| (r.flags &&& (2 ^ fPinned + 2 ^ fBad)),
                                 dirty := r.dirty || hStore r.handle == 1 }
      let t := (d.setKey slot x).touchKey slot
      Leads (.setAttributes op) s ((t.journal (.key slot (t.key? slot))).touchInst op.target)) ∧
    (∀ (prior : Option KeyRec) (h : Nat) (t : State),
      let dest := leAt op.body 0 8
      let fl := leAt op.body 8 4
      hEphemeral r.handle = true → targetFail dest op.target = none → persistentFlagsFail fl = none → hStore dest = hStore r.handle →
      d.indexOk dest = true → d.locate dest = .ok prior →
      (((d.touch 6 r.handle).forgetUses slot).eraseKey slot).putPersistent dest
        { alg := r.alg, len := r.len, cls := r.cls, cap := r.cap, usage := r.usage, flags := fl, uses := r.uses, mat := r.mat } prior =
        .done t h → Leads (.markPersistent op) s (t.touchInst op.target))) ∧
  (∀ (op : KeyOp) (s : State), s.works = true → rosterOk s.prot.life op.body = true →
    Leads (.setRoster op) s ((s.modInst op.target (fun x => { x with d := { x.d with roster := op.body } })).touchInst op.target))

/-- The ops of messages for the device (R358, R359, R362, R436, R450, R453): rosters, authorities, the life-cycle step, debug access and the
sticky tamper flags. Each raises the device's version and is saved.
The model's choices in it: logs 47, 51, 75. -/
def Obligations.DeviceOpsActOnTheDevice : Prop :=
  ∀ (op : KeyOp) (s : State), s.works = true → s.prot.step = none →
    let done (t : State) : State := t.touchDev.saveDev
    let e := Authority.of (op.body.take 97) (op.body.drop 97)
    (rosterOk s.prot.life op.body = true → Leads (.setRosterDevice op) s (done { s with drec := { s.drec with roster := op.body } })) ∧
    Leads (.enrolImageAuthority op) s (done { s with drec := { s.drec with image := some e } }) ∧
    Leads (.enrolDomainAuthority op) s (done { s with drec := { s.drec with domain := some e } }) ∧
    (let i := leAt op.body 0 2
     let r := op.body.drop 8
     let d := (s.instOf i).d
     i < 4096 → d.st ≠ .free → d.st ≠ .resetting → d.st ≠ .moving → rosterN d.roster = 0 → rosterOk s.prot.life r = true →
     leAt op.body 4 4 = d.inc → Leads (.establishRoster op) s
       (done ((s.modInst i (fun x => { x with d := { x.d with roster := r } })).touchInst i))) ∧
    (let dest := byteAt op.body 0
     let d := s.decisions 1
     dest ≤ 4 → s.stepOk dest = true → s.disp.stopAdmit = false → s.disp.items = [] →
     let x : LifeStep := { target := dest, stage := 1, since := s.tick.count, kum := none }
     let t := done { d with prot := { d.prot with step := some x } }
     Leads (.lifecycleStep op) s { t with prot := { t.prot with step := some x }, disp := { t.disp with stopAdmit := true } }) ∧
    (let d := s.decisions 2
     (d.tokenFail debugAllowed op.body = none →
       let u := d.spendNonce
       Leads (.debugEnable op) s (done (State.raise 14 oProtIrq 1 { u with prot := { u.prot with debug := byteAt op.body 6 } }))) ∧
     (∀ st, d.tokenFail debugAllowed op.body = some st → st ≠ .badLength → Leads (.debugEnable op) s d.spendNonce)) ∧
    (let m := leAt op.body 0 2
     let keep (k : Nat) : Bool := !bit m k || bit s.prot.live k || s.fuses.option k
     let sticky := (List.range 16).foldl (fun x k => if keep k then x else clearBit x k) s.bat.sticky
     Leads (.clearTamper op) s (done { s with bat := { s.bat with sticky := sticky } }))

/-! ### Service requests (chapters 4, 10, 11) -/

/-- Service requests (R302-R313, R322-R324): the next descriptor of a queue pair is fetched, completes at once if a check fails or its instance
takes no traffic, and becomes an item of its flow otherwise; an input element that faults stops its request; each quantum that ends writes
the next output and the last completes the request; a response that cannot be sent for 65,536 ticks is undeliverable.
The model's choices in it: logs 65, 73. -/
def Obligations.ServiceRequestsBecomeItems : Prop :=
  (∀ (f : ServiceFetch) (x : Qp) (s : State), s.queues.get? f.qp = some x → s.mayFetch f.qp x = true →
    let raise := bit (byteAt f.desc 2) 1
    let tag := leAt f.desc 4 4
    let d := State.bump64 oHqDescriptors 1 { s with queues := s.queues.set f.qp { x with sqHead := (x.sqHead + 1) % 2 ^ x.sqLog } }
    (s.mayDma x.fn = false → Leads (.serviceDescriptorFetch f) s
      (State.instFault x.fn 1 { s with queues := s.queues.set f.qp { x with faulted := true } })) ∧
    (s.mayDma x.fn = true → d.standby = true →
      Leads (.serviceDescriptorFetch f) s (d.completeQp f.qp .notActive 0 false tag 0 0 raise)) ∧
    (∀ e, s.mayDma x.fn = true → d.standby = false → fetchCheck f.qp x f = .error e →
      Leads (.serviceDescriptorFetch f) s
        ((if e.st = .gatherFault then (d.bump oHqGatherFaults).noteFault else d.bump oHqFormatRejects).completeQp f.qp e.st e.operand false
          tag 0 e.element raise)) ∧
    (∀ sp par v es, s.mayDma x.fn = true → d.standby = false → fetchCheck f.qp x f = .ok ((sp, par, v), es) →
      (∀ st, (d.instOf x.fn).d.st.refusal = some st →
        Leads (.serviceDescriptorFetch f) s (d.completeQp f.qp st 0 false tag 0 0 raise)) ∧
      ((d.instOf x.fn).d.st.refusal = none →
        let j := d.joinFlow x.fn par sp v
        Leads (.serviceDescriptorFetch f) s (j.2.addItem
          { inst := x.fn, qp := some f.qp, tag := tag, raise := raise, unver := bit (byteAt f.desc 2) 2, flow := j.1,
            cls := if x.cls = 0xFF then j.2.cfg.disp.qpCls else x.cls, quad := Config.functionQuadrant x.fn % 4,
            inv := descInvoc f.desc (f.table.getD []) f.ins, bufs := es })))) ∧
  (∀ (n operand element : Nat) (x : Item) (s : State), s.item? n = some x → x.qp.isSome = true → x.admitted = true → operand < 6 →
    Leads (.gatherFault n operand element) s (s.stopRequest n .gatherFault (some (operand, element)))) ∧
  (∀ (q : QuantumEnd) (x : Item) (o : FnOut) (s : State), s.works = true → s.item? q.item = some x →
    let c := s.bump64 oCiphQuanta 1
    let d := if q.errors = 0 then c else c.bump oCiphQuantumRetries
    (x.transit = true → Leads (.quantumEnd q) s (s.deferredQuantum q.item q.errors)) ∧
    (x.transit = false → x.result = some o → x.job = true → x.stage = .running →
      (∀ st, x.stopped = some st → Leads (.quantumEnd q) s (d.stopRequest q.item st none)) ∧
      (x.stopped = none → 2 ≤ q.errors → Leads (.quantumEnd q) s ((d.bumpHi oCiphQuantumRetries).stopRequest q.item .hwFault none)) ∧
      (∀ f, x.stopped = none → q.errors < 2 → q.scatter = some f →
        Leads (.quantumEnd q) s (d.stopRequest q.item .scatterFault (some f))) ∧
      (x.stopped = none → q.errors < 2 → q.scatter = none → Leads (.quantumEnd q) s (d.quantumOutput q.item x o)))) ∧
  (∀ (n : Nat) (x : Item) (o : FnOut) (s : State), x.total ≤ x.done + 1 → x.qp = none →
    s.quantumOutput n x o = (s.modItem n (fun y => { y with done := y.done + 1 })).finishService n o none) ∧
  (∀ (n t k : Nat) (b : Bytes) (x : Item) (s : State), s.item? n = some x → x.lateResponse = some (t, b) → x.sess = some k → s.works = true →
    (t + 65536 ≤ s.tick.count → Leads (.serviceResponseTimeout n) s ((s.bump (portReg oPortUndeliverable (s.sessOf k).port)).endItem n)) ∧
    (s.tick.count < t + 65536 → Leads (.serviceResponseTimeout n) s s))

/-- Every function of Table 4.4 runs by the steps of R105 in a service request: a failed format check answers its status; a function on the
public-key engines asks for its job; a missing page makes the item wait; a failure of its keys, policy or random source answers its
status; its outcome completes the request, or is written as quanta end. Pieces with CONTINUE keep a context (R325-R331).
The model's choices in it: logs 29, 58. -/
def Obligations.FunctionsRunInTheStepsOfR105 : Prop :=
  ∀ (i : Instr) (code n : Nat) (x : Item) (s : State), fnRowOf i = some (code, n) → s.works = true → s.item? n = some x → x.admitted = true →
    x.stage = .running → x.transit = false → x.job = false → x.inv.fn = code →
    (∀ st, x.waitSt = some st → Leads i s (s.failService n st)) ∧
    (∀ st, x.waitSt = none → s.formStep x.inv x.unver = some st → Leads i s (s.failService n st)) ∧
    (x.waitSt = none → s.formStep x.inv x.unver = none →
      (isPkFn x.inv = true → Leads i s (s.requestJob n x.inst x.frond x.inv false)) ∧
      (∀ t, isPkFn x.inv = false → s.runKeys n x.inst x.inv x.unver false = (none, t) → Leads i s t) ∧
      (∀ o t, isPkFn x.inv = false → s.runKeys n x.inst x.inv x.unver false = (some o, t) →
        let u := t.modItem n (fun y => { y with invoked := some x.inv })
        (bulkFns.contains code = false ∨ o.st ≠ .ok ∧ o.st.isOutcome = false → Leads i s (u.finishService n o none)) ∧
        (bulkFns.contains code = true → o.st = .ok ∨ o.st.isOutcome = true → Leads i s
          (u.modItem n (fun y => { y with result := some o, job := true, done := 0, total := quantaOf (u.cfg.timing.period == 0) x.inv }))))) ∧
    (∀ f k1 k2 t, Served code n x none k1 k2 s t → isResume x.inv = false → isContinue x.inv = true →
      [0x0601, 0x0602, 0x0603, 0x0604].contains code = true → fnSpec code = some f →
      let o := f.compute (t.fnCtx x none k1 k2)
      o.st = .ok → o.ctx ≠ none → ∀ id u, (t.computed x o).newCtx x.inst { fn := code, holder := some n } = some (id, u) →
        Leads i s ((u.modItem n (fun y => { y with ctxSlot := some (id % 2 ^ 20) })).runsOn n x { o with o1 := o.o1 ++ be 4 id })) ∧
    (∀ f e c k1 k2 t, Served code n x (some (e, c)) k1 k2 s t → [0x0601, 0x0602, 0x0603, 0x0604].contains code = true → fnSpec code = some f →
      let o := f.compute (t.fnCtx x (some c) k1 k2)
      o.st = .ok →
      (isContinue x.inv = true → isResume x.inv = true →
        Leads i s ((t.computed x o).runsOn n x { o with o1 := be 4 (x.inv.p1 % 2 ^ 32) })) ∧
      (isContinue x.inv = false → Leads i s ((t.computed x o).runsOn n x o)))

/-! ### PINs, MACs and cards (chapter 4, R113-R127) -/

/-- What the PIN, MAC, card and DUKPT functions answer (R113-R127). A PIN block that is not valid under its key, format and PAN answers
PIN_BLOCK_INVALID; a translated PIN is the same PIN in the destination format; offsets, PVVs, MACs, cryptograms and card values are those of
the named methods, and a verification answers whether they agree. Under DUKPT_K1 the working key of the KSN takes K1's place (R108).
The model's choices in it: logs 10, 59. -/
def Obligations.CardFunctionsAnswer : Prop :=
  ∀ (n : Nat) (x : Item) (k1 k2 : KeyRec) (s t : State),
    let c := t.fnCtx x none k1 k2
    let v := c.inv
    let f := v.opts % 16
    let d := v.opts / 16 % 16
    let pan := panOf (v.inp 1)
    let pinIn := pinDecode f (effK1 c .pin (f != 4)).mat pan (v.inp 0)
    (Served 0x0101 n x none k1 k2 s t →
      (pinIn = none → Leads (.pinTranslate n) s (t.answers n x { st := .pinBlockInvalid })) ∧
      (∀ pin, pinIn = some pin →
        Leads (.pinTranslate n) s (t.answers n x { o0 := pinEncode d t.free k2.mat pan pin, drawn := pinDrawn d }))) ∧
    (Served 0x0102 n x none k1 k2 s t →
      (pinIn = none → Leads (.pinVerifyOffset n) s (t.answers n x { st := .pinBlockInvalid })) ∧
      (∀ pin, pinIn = some pin →
        let sum := List.zipWith (fun a b => (a + b) % 10) (naturalPin k2.mat (v.inp 2) v.p1 d) (panOf (v.inp 3))
        Leads (.pinVerifyOffset n) s (t.answers n x { st := if d ≤ pin.length ∧ sum = pin.take d then .ok else .pinMismatch }))) ∧
    (Served 0x0103 n x none k1 k2 s t →
      (pinIn = none → Leads (.pinVerifyPvv n) s (t.answers n x { st := .pinBlockInvalid })) ∧
      (∀ pin, pinIn = some pin →
        let ds := pan.dropLast
        let tsp := ds.drop (ds.length - 11) ++ [d] ++ pin.take 4
        let pvv := decimaliseScan 4 (nibbles (tdesEnc k2.mat (packNibbles tsp)))
        Leads (.pinVerifyPvv n) s (t.answers n x { st := if pvv = panOf (v.inp 2) then .ok else .pinMismatch }))) ∧
    (Served 0x0104 n x none k1 k2 s t →
      (pinIn = none → Leads (.pinGenerateOffset n) s (t.answers n x { st := .pinBlockInvalid })) ∧
      (∀ pin, pinIn = some pin →
        (pin.length < d → Leads (.pinGenerateOffset n) s (t.answers n x { st := .pinBlockInvalid })) ∧
        (d ≤ pin.length → Leads (.pinGenerateOffset n) s (t.answers n x
          { o0 := digitBytes (List.zipWith (fun p a => (p + 10 - a) % 10) (pin.take d) (naturalPin k2.mat (v.inp 2) v.p1 d)) })))) ∧
    (Served 0x0201 n x none k1 k2 s t → Leads (.macGenerate n) s
      (t.runsOn n x { o0 := macOf v.p1 (effK1 c .macResponse (v.p1 % 16 != 3)).mat (v.inp 0) })) ∧
    (Served 0x0202 n x none k1 k2 s t → Leads (.macVerify n) s
      (t.runsOn n x { st := if macOf v.p1 (effK1 c .macRequest (v.p1 % 16 != 3)).mat (v.inp 0) = v.inp 1 then .ok else .macMismatch })) ∧
    (Served 0x0203 n x none k1 k2 s t →
      let a := v.p1 % 65536
      let m := macOf a (effK1 c .macRequest (a % 16 != 3)).mat (v.inp 0)
      (m = v.inp 1 → Leads (.macTranslate n) s
        (t.runsOn n x { o0 := macOf (v.p1 / 65536) k2.mat (if bit v.opts 0 then v.inp 2 else v.inp 0) })) ∧
      (m ≠ v.inp 1 → Leads (.macTranslate n) s (t.runsOn n x { st := .macMismatch, usedK2 := false }))) ∧
    (let sk := emvSession k1 (v.inp 0) (v.inp 1) (v.inp 2)
     (Served 0x0301 n x none k1 k2 s t → Leads (.arqcVerify n) s
       (t.answers n x { st := if emvMac k1 sk (v.inp 3) = v.inp 4 then .ok else .cryptogramMismatch })) ∧
     (Served 0x0302 n x none k1 k2 s t → Leads (.arpcGenerate n) s
       (t.answers n x { o0 := if v.opts % 4 = 1 then tdesEnc sk (xorB (v.inp 3) (v.inp 4 ++ zeros 6))
                              else (emvMac k1 sk (v.inp 3 ++ v.inp 4 ++ v.inp 5)).take 4 }))) ∧
    (let cv := cardValue k1.mat f (v.inp 0) (v.inp 1) (v.inp 2)
     (Served 0x0303 n x none k1 k2 s t → Leads (.cardValueVerify n) s
       (t.answers n x { st := if cv = panOf (v.inp 3) then .ok else .cryptogramMismatch })) ∧
     (Served 0x0304 n x none k1 k2 s t → Leads (.cardValueGenerate n) s (t.answers n x { o0 := digitBytes cv }))) ∧
    (Served 0x0401 n x none k1 k2 s t → Leads (.dukptDerive n) s (t.answers n x { newKey := some (dukptNewKey c) }))

/-! ### Data, tokens, digests and keys (chapter 4, R128-R146) -/

/-- What the data functions answer (R128-R134, R142-R146): derived, generated, imported and exported keys and their check values, tokens,
digests, HMACs, enciphered data with its chaining state, sealed data, random bytes, and saved contexts sealed and opened.
The model's choices in it: logs 1, 10, 58. -/
def Obligations.DataFunctionsAnswer : Prop :=
  (∀ (n : Nat) (x : Item) (k1 k2 : KeyRec) (s t : State),
    let c := t.fnCtx x none k1 k2
    let v := c.inv
    let ds := (digitsOf (v.inp 0)).getD []
    let piece := isContinue x.inv
    let nk := newKeyParams v
    (Served 0x0402 n x none k1 k2 s t → Leads (.keyDerive n) s
      (t.answers n x { newKey := some { nk with mat := parityIf nk (kdf108 k1.mat (v.inp 0) (v.inp 1) nk.len) } })) ∧
    (Served 0x0501 n x none k1 k2 s t → Leads (.tokenise n) s
      (t.answers n x { o0 := digitBytes (tokenApply (ff1Enc k1.mat (v.inp 1)) v.opts ds) })) ∧
    (Served 0x0502 n x none k1 k2 s t → Leads (.detokenise n) s
      (t.answers n x { o0 := digitBytes (tokenApply (ff1Dec k1.mat (v.inp 1)) v.opts ds) })) ∧
    (let m := v.opts % 16
     let st0 (k : Bytes) : CipherCtx :=
       { fn := v.fn, opts := v.opts % 0x4000, k1 := v.k1, k2 := v.k2, chain := if m = 4 then aesEnc k (v.inp 1) else v.inp 1 }
     (Served 0x0601 n x none k1 k2 s t → piece = false →
       let r := bulkRun false m k1.mat (st0 k2.mat) (v.inp 0)
       Leads (.encrypt n) s (t.runsOn n x { o0 := r.1, ctx := some r.2 })) ∧
     (Served 0x0602 n x none k1 k2 s t → piece = false →
       let r := bulkRun true m (effK1 c .dataRequest (modeBlock m == 8)).mat (st0 k2.mat) (v.inp 0)
       Leads (.decrypt n) s (t.runsOn n x { o0 := r.1, ctx := some r.2 }))) ∧
    (Served 0x0603 n x none k1 k2 s t → piece = false →
      let o := aeadCompute true c
      o.st = .ok ∧ Leads (.aeadSeal n) s ((t.computed x o).runsOn n x o)) ∧
    (Served 0x0604 n x none k1 k2 s t → piece = false →
      let o := aeadCompute false c
      (o.st = .ok ∨ o.st = .tagMismatch) ∧ Leads (.aeadOpen n) s (t.runsOn n x o)) ∧
    (Served 0x0701 n x none k1 k2 s t → Leads (.hash n) s (t.runsOn n x { o0 := hashOf (v.opts % 16) (v.p1 % 65536) (v.inp 0) })) ∧
    (let h := (hmacOf (v.opts % 16) k1.mat (v.inp 0)).take (hmacLen v)
     (Served 0x0702 n x none k1 k2 s t → Leads (.hmacGenerate n) s (t.runsOn n x { o0 := h })) ∧
     (Served 0x0703 n x none k1 k2 s t → Leads (.hmacVerify n) s (t.runsOn n x { st := if h = v.inp 1 then .ok else .macMismatch }))) ∧
    (Served 0x0A01 n x none k1 k2 s t → Leads (.keyGenerate n) s
      (t.answers n x { newKey := some { nk with mat := freeBytes t.free nk.len }, drawn := nk.len })) ∧
    (∀ k, Served 0x0A02 n x none k1 k2 s t → unwrapKey (v.opts % 16) k1 (v.inp 0) v.p2 v.p3 = .ok k → newKeyFail k none c.symRoom = none →
      wrapStrength (k.alg, k.len) k1 .usageNotPermitted = none → Leads (.keyImportBlock n) s (t.answers n x { newKey := some k })) ∧
    (∀ st, Served 0x0A02 n x none k1 k2 s t → unwrapKey (v.opts % 16) k1 (v.inp 0) v.p2 v.p3 = .error st →
      Leads (.keyImportBlock n) s (t.answers n x { st := st })) ∧
    (Served 0x0A03 n x none k1 k2 s t → Leads (.keyExportBlock n) s
      (t.answers n x { o0 := wrapKey (v.opts % 16) t.free k1 k2, drawn := 32 })) ∧
    (Served 0x0A04 n x none k1 k2 s t → Leads (.keyCheckValue n) s (t.answers n x { o0 := checkValue k1 })) ∧
    (Served 0x0B01 n x none k1 k2 s t → Leads (.random n) s (t.answers n x { o0 := freeBytes t.free v.p1, drawn := v.p1 })) ∧
    (Served 0x0B02 n x none k1 k2 s t → Leads (.drbgReseed n) s (t.answers n x {}))) ∧
  (∀ (n e : Nat) (x : Item) (y : CipherCtx) (s : State), Runs 0x0605 n x s → x.unver = false →
    s.ctxOf x.inst (x.inv.p1 % 2 ^ 32) = some (e, y) → y.holder = none → y.fn ≠ 0x0603 → y.fn = 0x0604 ∨ y.opts % 16 ≠ 3 → s.rngOk = true →
    let o : FnOut := { o0 := ctxSeal (s.contextKey x.inst) y x.inst (s.drawn 12), drawn := 12 }
    let u := ((s.computed x o).freeCtx e).modItem n (fun y => { y with invoked := some x.inv })
    Leads (.contextExport n) s (u.finishService n o none)) ∧
  (∀ (n : Nat) (x : Item) (s : State), Runs 0x0606 n x s →
    let inv (t : State) := t.modItem n (fun y => { y with invoked := some x.inv })
    (ctxOpen (s.contextKey x.inst) x.inst (x.inv.inp 0) = none →
      Leads (.contextImport n) s ((inv s).finishService n { st := .tagMismatch } none)) ∧
    (∀ y id u, ctxOpen (s.contextKey x.inst) x.inst (x.inv.inp 0) = some y → s.newCtx x.inst y = some (id, u) →
      Leads (.contextImport n) s ((inv u).finishService n { o0 := be 4 id } none)))

/-! ### Public-key functions (chapter 4, R135-R141, R147) -/

/-- The public-key functions ask for a job of their frond's engines (R342, R349), and what the job answers is the opaque primitive's (log 9): a
signature that verifies, or HW_FAULT or SIGN_RETRY_LIMIT (R345); whether a signature verifies; the key of an agreed secret; a
ciphertext and its key; an attestation statement.
The model's choices in it: logs 9, 60. -/
def Obligations.PublicKeyFunctionsAnswer : Prop :=
  ∀ (n : Nat) (x : Item) (k1 k2 : KeyRec) (s t : State),
    let c := t.fnCtx x none k1 k2
    let v := c.inv
    let asks (s : State) : State :=
      let j : PkJob := { purpose := .item n, inst := x.inst, frond := x.frond, lattice := latticeAlg (s.jobKey x.inv).1 && x.inv.fn != 0x0C01,
                         bounded := false, order := s.eng.nextJob }
      State.park n (setBit 0 evSegment)
        { s with eng := { s.eng with jobs := s.eng.jobs.set s.eng.nextJob j, nextJob := s.eng.nextJob + 1 } }
    let gives (o : FnOut) : Prop := s.runKeys n x.inst x.inv x.unver false = (some o, (t.computed x o).charge x.inst 0 0 0)
    (Runs 0x0801 n x s → Leads (.sign n) s (asks s)) ∧
    (Runs 0x0802 n x s → Leads (.verify n) s (asks s)) ∧
    (Runs 0x0901 n x s → Leads (.keyAgree n) s (asks s)) ∧
    (Runs 0x0902 n x s → Leads (.kemEncaps n) s (asks s)) ∧
    (Runs 0x0903 n x s → Leads (.kemDecaps n) s (asks s)) ∧
    (Runs 0x0C01 n x s → Leads (.attest n) s (asks s)) ∧
    (Runs 0x0A01 n x s → isPkFn x.inv = true → Leads (.keyGenerate n) s (asks s)) ∧
    (Runs 0x0A02 n x s → isPkFn x.inv = true → Leads (.keyImportBlock n) s (asks s)) ∧
    (Runs 0x0A03 n x s → isPkFn x.inv = true → Leads (.keyExportBlock n) s (asks s)) ∧
    (Supplied 0x0801 n x none k1 k2 s t → Config.signIterations k1.alg k1.len k1.mat (v.inp 0) (freeBytes t.free 96) ≤ 256 →
      let sig := Config.pkSign k1.alg k1.len v.opts k1.mat (v.inp 0) (v.inp 1) (freeBytes t.free 96)
      gives (if Config.pkVerify k1.alg k1.len v.opts (Config.pkPublic k1.alg k1.len k1.mat) (v.inp 0) (v.inp 1) sig
        then { o0 := sig, drawn := 96 } else { st := .hwFault, drawn := 96 })) ∧
    (Supplied 0x0801 n x none k1 k2 s t → 256 < Config.signIterations k1.alg k1.len k1.mat (v.inp 0) (freeBytes t.free 96) →
      gives { st := .signRetryLimit, drawn := 96 }) ∧
    (Supplied 0x0802 n x none k1 k2 s t →
      gives { st := if Config.pkVerify k1.alg k1.len v.opts (if k1.cls == 0x12 then v.inp 3 else k1.mat) (v.inp 0) (v.inp 1) (v.inp 2)
                    then .ok else .signatureInvalid }) ∧
    (Supplied 0x0901 n x none k1 k2 s t →
      (∀ z, Config.ecdh k1.alg k1.len k1.mat (v.inp 0) = some z → gives { newKey := some (agreedKey v z) }) ∧
      (Config.ecdh k1.alg k1.len k1.mat (v.inp 0) = none → gives { st := .badFieldValue })) ∧
    (Supplied 0x0902 n x none k1 k2 s t →
      let r := Config.kemEncaps (kemSet v k1) (v.inp 0) (freeBytes t.free 32)
      gives { newKey := some (agreedKey v r.2), handleTo := 1, o0 := r.1, drawn := 32 }) ∧
    (Supplied 0x0903 n x none k1 k2 s t →
      gives { newKey := some (agreedKey v (Config.kemDecaps k1.len k1.mat (v.inp 0))) }) ∧
    (Supplied 0x0C01 n x none k1 k2 s t →
      gives { o0 := t.statement (bit x.inv.opts 0) x.inst (x.inv.inp 0) t.free, drawn := 96 })

/-! ### Stitches (chapter 6) -/

/-- Stitches that read and write (R183-R191, R196-R199): each runs for the message at it, is charged, and moves on; one that fails sets the
message's status and takes its seam's disposition (discard, discard with a notice, or the handler), unless its flag continues.
The model's choices in it: logs 3, 62. -/
def Obligations.StitchesReadAndWrite : Prop :=
  (∀ (n cost : Nat) (t : Stitch) (x : Item) (st : Status) (s : State), s.item? n = some x →
    let d := (s.fieldOps n (1 + cost)).modItem n (fun x => { x with st := st.code })
    (st = .ok ∨ bit t.flags 7 = true → s.endStitch n t st cost = d.modItem n (fun x => { x with ix := x.ix + 1 })) ∧
    (st ≠ .ok → bit t.flags 7 = false → s.endStitch n t st cost = d.takeFailure n x.ix)) ∧
  (∀ (n ix : Nat) (x : Item) (s : State), s.item? n = some x →
    let d := s.itemSeam x
    (d.disp = 2 → ix < d.handler → s.takeFailure n ix = (s.seamStat x 4).modItem n (fun x => { x with ix := d.handler })) ∧
    (d.disp ≠ 2 ∨ d.handler ≤ ix → s.takeFailure n ix = s.discard n (if d.disp = 0 then none else some x.st))) ∧
  (∀ (n : Nat) (x : Item) (t : Stitch) (s : State), Stitching opExtract n x t s →
    let r := s.readOf x t.a
    let var := selNum t.b
    ((r.1 = none ∨ ∃ b, r.1 = some b ∧ extractRange b t.imm = none) → bit t.flags 0 = false →
      Leads (.extract n) s ((s.modItem n (fun x => { x with vars := x.vars.erase var })).endStitch n t .ok (r.2 + 1))) ∧
    (∀ b w, r.1 = some b → extractRange b t.imm = some w → extractConv (bits t.imm 35 32) w = none →
      Leads (.extract n) s (s.endStitch n t .badFieldValue r.2)) ∧
    (∀ b w y d, r.1 = some b → extractRange b t.imm = some w → extractConv (bits t.imm 35 32) w = some y →
      s.writeOf n t.b (if bit t.flags 0 then x.vars.getD var [] ++ y else y) = .ok d →
      Leads (.extract n) s (d.endStitch n t .ok (r.2 + 1)))) ∧
  (∀ (n : Nat) (x : Item) (t : Stitch) (s : State), Stitching opSelectKey n x t s →
    let a := s.readOf x t.a
    let b := s.readOf x t.b
    let cost := a.2 + b.2 + 1
    ((s.tableOf x t.ix).lookup (a.1.getD [] ++ b.1.getD []) = none → Leads (.selectKey n) s (s.endStitch n t .keyNotFound cost)) ∧
    (∀ h, (s.tableOf x t.ix).lookup (a.1.getD [] ++ b.1.getD []) = some h →
      Leads (.selectKey n) s ((s.modItem n (fun x => { x with kreg := x.kreg.set (t.imm % 8) h })).endStitch n t .ok cost))) ∧
  (∀ (n : Nat) (x : Item) (t : Stitch) (m : Msg) (s : State), Stitching opRewrite n x t s → x.msg = some m →
    (bit t.flags 0 = true → selKind t.b = 8 →
      Leads (.rewrite n) s ((s.modItem n (fun x => { x with vars := x.vars.erase (selNum t.b) })).endStitch n t .ok 1)) ∧
    (∀ m', bit t.flags 0 = true → selKind t.b ≠ 8 → selRemove (s.itemCfg x).pats.ebcdic (s.itemPat x) m t.b = .ok m' →
      Leads (.rewrite n) s ((s.modItem n (fun x => { x with msg := some m' })).endStitch n t .ok 1)) ∧
    (let r := if t.a = 0 then (some (constBytes t.imm), 0) else s.readOf x t.a
     let b := r.1.getD []
     bit t.flags 0 = false →
     (∀ d, s.writeOf n t.b b = .ok d → Leads (.rewrite n) s (d.endStitch n t .ok (r.2 + selCost t.b b.length))) ∧
     (∀ e, s.writeOf n t.b b = .error e → Leads (.rewrite n) s (s.endStitch n t e (r.2 + selCost t.b b.length))))) ∧
  (∀ (n : Nat) (x : Item) (t : Stitch) (s : State),
    (Stitching opTest n x t s → let r := s.testHolds x t
      Leads (.test n) s ((s.modItem n (fun x => { x with c := r.1 })).nextStitch n r.2)) ∧
    (Stitching opSkipIf n x t s → (x.c = bit t.flags 0 → Leads (.skipIf n) s ((s.nextStitch n 0).modItem n (fun x => x))) ∧
      (x.c ≠ bit t.flags 0 → Leads (.skipIf n) s ((s.nextStitch n 0).modItem n (fun x => { x with ix := x.ix + t.imm % 64 })))) ∧
    (Stitching opRoute n x t s →
      (bit t.flags 0 = false → Leads (.route n) s ((s.modItem n (fun x => { x with dest := some (t.imm % 4096) })).endStitch n t .ok 0)) ∧
      (let r := s.readOf x t.a
       bit t.flags 0 = true →
       ((s.tableOf x t.ix).lookup (r.1.getD []) = none → Leads (.route n) s (s.endStitch n t .noRoute (r.2 + 1))) ∧
       (∀ d, (s.tableOf x t.ix).lookup (r.1.getD []) = some d →
         Leads (.route n) s ((s.modItem n (fun x => { x with dest := some (d % 4096) })).endStitch n t .ok (r.2 + 1))))) ∧
    (Stitching opCount n x t s →
      let d : State := { s with last := { s.last with
        counters := s.last.counters.set t.ix ((s.last.counters.getD t.ix 0 + t.imm % 2 ^ 32) % 2 ^ 64) } }
      Leads (.count n) s ((d.fieldOps n (1 + 0)).modItem n (fun x => { x with ix := x.ix + 1 }))) ∧
    (Stitching opHold n x t s →
      let k := t.imm % 256
      Leads (.hold n) s (((s.nextStitch n 0).modItem n (fun x =>
        { x with stage := .held, due := s.tick.count + k, terms := x.terms + k, order := s.nextOrder })).takeOrder)) ∧
    (Stitching opSetFlow n x t s →
      let r := s.readOf x t.a
      let j := s.joinFlow x.inst (bit t.flags 0) (t.imm % 65536) ((r.1.getD []).take 32)
      j.1 = x.flow → Leads (.setFlow n) s (j.2.nextStitch n r.2)) ∧
    (Stitching opSetFlow n x t s →
      let r := s.readOf x t.a
      let j := s.joinFlow x.inst (bit t.flags 0) (t.imm % 65536) ((r.1.getD []).take 32)
      let d := j.2.nextStitch n r.2
      let u := d.modItem n (fun x => { x with flow := j.1 })
      let e : State := if (u.inFlow x.flow).isEmpty then
        { u with disp := { u.disp with flows := u.disp.flows.modify x.flow (fun y => { y with emptyAt := u.tick.count }) } } else u
      let busy := !(d.flowOf j.1).parallel && (d.inFlow j.1).any (fun e => e.2.admitted)
      j.1 ≠ x.flow →
      (busy = false → Leads (.setFlow n) s e) ∧
      (busy = true → Leads (.setFlow n) s
        (((e.modItem n (fun x => { x with moved := true, order := e.nextOrder })).takeOrder).park n (setBit 0 evTurn)))))

/-- APPLY runs an invocation (R186-R188, R205): a public-key function waits for its job, a missing page for its fetch; the outputs are written
through their selectors and the stitch ends with the status; a deferred one goes on at once and keeps its status.
The model's choices in it: log 62. -/
def Obligations.ApplyRunsAnInvocation : Prop :=
  ∀ (n : Nat) (x : Item) (t : Stitch) (s : State), Stitching opApply n x t s →
    let i := s.applyInvoc x t
    let late := bit t.flags 6
    let ends (o : FnOut) (s : State) : State := if late then s.deferApply n x i.1 o i.2 else s.finishApply n x t i.1 o i.2
    (∀ o, x.result = some o → Leads (.apply n) s
      ((s.modItem n (fun y => { y with result := none, invoked := none })).finishApply n x t (x.invoked.getD i.1) o i.2)) ∧
    (∀ st, x.result = none → x.waitSt = some st → Leads (.apply n) s (ends { st := st } (s.modItem n (fun y => { y with waitSt := none })))) ∧
    (∀ st, x.result = none → x.waitSt = none → s.formStep i.1 false = some st → Leads (.apply n) s (ends { st := st } s)) ∧
    (x.result = none → x.waitSt = none → s.formStep i.1 false = none →
      (isPkFn i.1 = true → late = false → Leads (.apply n) s
        ((s.modItem n (fun y => { y with invoked := some i.1 })).requestJob n x.inst x.frond i.1 true)) ∧
      (isPkFn i.1 = false ∨ late = true →
        (∀ u, s.runKeys n x.inst i.1 false true = (none, u) →
          Leads (.apply n) s (u.modItem n (fun y => { y with terms := y.terms + (u.itemCfg x).timing.fetch }))) ∧
        (∀ o u, s.runKeys n x.inst i.1 false true = (some o, u) → Leads (.apply n) s (ends o u)))) ∧
    (∀ (v : Invoc) (o p : FnOut) (cost : Nat) (k : Option Nat) (u : State),
      let e := (s.itemCfg x).seams.entries.getD t.ix {}
      let out0 := if t.b ≠ 0 then t.b else e.out0
      let c0 := if out0 = 0 then 0 else selCost out0 p.o0.length
      let c1 := if e.out1 = 0 then 0 else selCost e.out1 p.o1.length
      s.closeInvoc n x.inst v true o = (p, k, u) →
      (p.st ≠ .ok → s.finishApply n x t v o cost = u.endStitch n t p.st cost) ∧
      (p.st = .ok → out0 = 0 → e.out1 = 0 → s.finishApply n x t v o cost = u.endStitch n t .ok (cost + c0 + c1)) ∧
      (∀ w, p.st = .ok → out0 ≠ 0 → e.out1 = 0 → u.writeOf n out0 p.o0 = .ok w →
        s.finishApply n x t v o cost = w.endStitch n t .ok (cost + c0 + c1)))

/-- Terminal stitches and the deadline (R40, R192-R195, R206-R209, R247): RESPOND and REJECT send back through the session the message came
by, DROP discards, each once every deferred stitch has ended; EMIT sends to its destination, waits for credit, or fails without a
route; a held message goes on when it is due, and one past its deadline ends with a notice.
The model's choices in it (not of the cited rule): logs 19, 62, 63, 64. -/
def Obligations.MessagesEndByTheirTerminalStitch : Prop :=
  (∀ (n : Nat) (x : Item) (t : Stitch) (m : Msg) (s : State), x.msg = some m →
    let p := s.itemPat x
    let d := s.modItem n (fun x => { x with ending := false })
    (∀ op, op = opRespond ∨ op = opReject ∨ op = opDrop → Stitching op n x t s → x.deferred.any (fun d => !d.ended) = true →
      let waits := s.modItem n (fun x => { x with ending := true })
      (op = opRespond → Leads (.respond n) s waits) ∧ (op = opReject → Leads (.reject n) s waits) ∧ (op = opDrop → Leads (.drop n) s waits)) ∧
    (Stitching opRespond n x t s → x.deferred = [] → ∀ k, x.sess = some k → (d.sessOf k).st = .opened →
      (d.canSend k = true → Leads (.respond n) s
        ((((d.fieldOps n (1 + msgNodes p m)).sendData k 2 (rebuild p m)).seamStat x 2).endItem n)) ∧
      (d.canSend k = false → Leads (.respond n) s (d.park n (setBit 0 evCredit)))) ∧
    (Stitching opRespond n x t s → x.deferred = [] → ∀ k, x.sess = some k → (d.sessOf k).st ≠ .opened →
      Leads (.respond n) s (((d.fieldOps n 1).seamStat x 5).endItem n)) ∧
    (Stitching opReject n x t s → x.deferred = [] →
      (∀ m', d.rejectMsg x t m = .ok m' → Leads (.reject n) s (d.sendBack n x m')) ∧
      (∀ st, d.rejectMsg x t m = .error st →
        Leads (.reject n) s (((d.fieldOps n 1).modItem n (fun x => { x with st := st.code })).takeFailure n x.ix))) ∧
    (Stitching opDrop n x t s → x.deferred = [] →
      let code := t.imm % 65536
      Leads (.drop n) s ((d.fieldOps n 1).discard n (if bit t.flags 0 then some (if code = 0 then x.st else code) else none))) ∧
    (Stitching opEmit n x t s →
      let fails (s : State) := ((s.fieldOps n 1).modItem n (fun x => { x with st := Status.noRoute.code })).takeFailure n x.ix
      (destOf x = none → Leads (.emit n) s (fails s)) ∧
      (∀ k, destOf x = some k → (s.sessOf k).st = .opened → s.canSend k = true → Leads (.emit n) s (s.startEmission n k x m)) ∧
      (∀ k, destOf x = some k → (s.sessOf k).st = .opened → s.canSend k = false → Leads (.emit n) s (s.park n (setBit 0 evCredit))) ∧
      (∀ k, destOf x = some k → (s.sessOf k).st ≠ .opened →
        Leads (.emit n) s (fails (if (s.sessOf k).st == .parked && (s.sessOf k).initiator then s.startSetup k else s)))) ∧
    (∀ k, x.deferred.all (fun d => d.ended && d.status == .ok) = true → s.startEmission n k x m =
      (((s.fieldOps n (1 + msgNodes p m)).sendData k 0 (rebuild p m)).seamStat x 1).endItem n)) ∧
  (∀ (n : Nat) (x : Item) (s : State), s.item? n = some x → s.works = true →
    (x.stage = .held → x.due ≤ s.tick.count → Leads (.holdDue n) s (s.resume n)) ∧
    (x.stage ≠ .held ∨ s.tick.count < x.due → Leads (.holdDue n) s s) ∧
    (x.transit = true → x.admitted = true → s.deadline x ≤ s.tick.count → Leads (.deadlineExpiry n) s
      ((((s.stomp n true).bump oTickDeadlineMissed).sourceNotice x Status.deadlineMissed.code).endItem n)) ∧
    (s.tick.count < s.deadline x → Leads (.deadlineExpiry n) s s))


/-! ### Ports, sessions and discovery (chapter 9) -/

/-- Received frames (R262, R264-R267, R272, R336): an up sub-port counts every frame, discards with the counter of the first check that fails,
the last of them a full share of the message buffer (its size is the model's Config value, log 86); it hands what is left to what its
kind is for; a sub-port that is down receives nothing.
The model's choices in it: logs 20, 68, 86. -/
def Obligations.FramesAreCheckedAndHandedOn : Prop :=
  (∀ (f : RxFrame) (s : State), s.subDef f.port f.sub = none ∨ s.subUp f.port f.sub = false → Leads (.ethernetFrameRx f) s s) ∧
  (∀ (f : RxFrame) (d : SubDef) (s : State), s.subDef f.port f.sub = some d → s.subUp f.port f.sub = true →
    let r := s.bump64 (portReg oPortRxFrames f.port) 1
    let n := f.bytes.length + 4
    (9216 < n → Leads (.ethernetFrameRx f) s (r.bump (portReg oPortRxOversize f.port))) ∧
    (n ≤ 9216 → f.fcsOk = false → Leads (.ethernetFrameRx f) s (r.bump (portReg oPortRxBadFcs f.port))) ∧
    (n ≤ 9216 → f.fcsOk = true → n < 64 → Leads (.ethernetFrameRx f) s (r.bump (portReg oPortRxNotHtt f.port))) ∧
    (64 ≤ n → n ≤ 9216 → f.fcsOk = true → d.macsec = true →
      (etherType f.bytes 12 ≠ 0x88E5 → plainKind f.bytes = false →
        Leads (.ethernetFrameRx f) s (r.bump (oMacsecRxUntagged + 32 * f.port))) ∧
      (∀ c, etherType f.bytes 12 = 0x88E5 → (r.subOf f.port f.sub).openMacsec f.bytes = .drop c →
        Leads (.ethernetFrameRx f) s (r.bump (c + 32 * f.port)))) ∧
    (64 ≤ n → n ≤ 9216 → f.fcsOk = true → d.macsec = false → etherType f.bytes 12 ≠ 0x8100 →
      let k := takeFrame r.cfg.htt d (decide (f.bytes.length ≤ 60)) f.bytes
      k.needsRoom = true → bit d.pfc d.prio = false → r.bufferFull f.port d.prio = true →
        Leads (.ethernetFrameRx f) s (r.bump (portReg oPortBufferDrops f.port)))) ∧
  (∀ (f : RxFrame) (d : SubDef) (k : Taken) (s t : State), Hears f d k s t →
    let any := Instr.ethernetFrameRx f
    (k = .other → Leads any s t) ∧
    (∀ b, k = .pfc b → ∀ i, i = any ∨ i = .pfcFrame f → Leads i s (t.pfcRx f.port f.sub d b)) ∧
    (∀ m b, k = .arp m b → ∀ i, i = any ∨ i = .arpRequest f → Leads i s (t.arpRx f.port f.sub d m b)) ∧
    (∀ m a, k = .neighbour m a → ∀ i, i = any ∨ i = .neighbourSolicitation f → Leads i s (t.neighbourRx f.port f.sub d m a)) ∧
    (∀ m b, k = .lldp m b → ∀ i, i = any ∨ i = .lldpdu f → Leads i s (t.lldpRx f.port f.sub m b)) ∧
    (∀ h i, k = .htt h → httValid h = false → i ∈ [any, .dataFrame f, .noticeFrame f, .creditFrame f, .closeFrame f, .hello f, .offer f,
      .accept f, .presenceFrame f] → Leads i s (t.bump (portReg oPortHttFormat f.port))) ∧
    (∀ h, k = .htt h → httValid h = true →
      let typ := (Hdr.read h.bytes).typ
      (∀ i n, (i, n) ∈ [(Instr.dataFrame f, 1), (.noticeFrame f, 2), (.creditFrame f, 3), (.closeFrame f, 4), (any, typ)] → typ = n →
        1 ≤ typ → typ ≤ 4 → Leads i s (t.sessionRx f.port f.sub h.bytes)) ∧
      (typ = 0x10 → ∀ i, i = any ∨ i = .hello f → Leads i s (t.helloRx f.port f.sub h)) ∧
      (typ = 0x11 → ∀ i, i = any ∨ i = .offer f → Leads i s (t.setupRx f.port f.sub h)) ∧
      (typ = 0x12 → ∀ i, i = any ∨ i = .accept f → Leads i s (t.setupRx f.port f.sub h)) ∧
      (typ = 0x20 → ∀ i, i = any ∨ i = .presenceFrame f → Leads i s (t.presenceRx f.port f.sub d h))))

/-- Session frames (R272-R278): the session of the receiver ID, the replay window, the credit and the tag are checked in order, each with its
counter; a frame that passes ends SOLITARY, grants credit and acts by its type: DATA is a request or a message, CREDIT says what the
peer has sent, CLOSE parks, a notice does no more.
The model's choices in it: log 64. -/
def Obligations.SessionFramesActAfterTheirChecks : Prop :=
  ∀ (f : RxFrame) (d : SubDef) (h : Heard) (s t : State), Hears f d (.htt h) s t → httValid h = true →
    let hd := Hdr.read h.bytes
    let n := hd.rid % 2 ^ 20
    let x := t.sessOf n
    let counts (i : Instr) (off : Nat) := Leads i s (t.bump (portReg off f.port))
    ∀ i typ, (i, typ) ∈ [(Instr.dataFrame f, 1), (.noticeFrame f, 2), (.creditFrame f, 3), (.closeFrame f, 4)] → hd.typ = typ →
    (x.port ≠ f.port ∨ x.sub ≠ f.sub ∨ x.st = .free ∨ x.st = .parked ∧ x.setup = none → counts i oPortSessionUnknown) ∧
    (x.port = f.port → x.sub = f.sub → x.st = .opened → x.myId = hd.rid →
      let fresh := x.newer hd.phase
      let nonce := be 4 hd.phase ++ [0#8, 0#8] ++ be 6 hd.seq
      let opened := gcmOpen x.keyRx nonce (h.bytes.take 32) (slice h.bytes 32 (hd.len + 16)) 16
      let big := typ = 1 ∧ x.maxMsg < hd.len
      let beyond := typ = 1 ∧ (if fresh then 0 else x.granted) < (if fresh then 0 else x.rxData) + 1
      (t.standby = true → Leads i s (t.bump64 oTwinStandbyDiscards 1)) ∧
      (t.standby = false →
        (big → counts i oPortHttFormat) ∧
        (¬big → x.replayed hd.phase hd.seq = true → counts i oPortSessionReplay) ∧
        (¬big → x.replayed hd.phase hd.seq = false → beyond → counts i oPortCreditViolation) ∧
        (¬big → x.replayed hd.phase hd.seq = false → ¬beyond → opened = none → counts i oPortTagFail) ∧
        (∀ m, ¬big → x.replayed hd.phase hd.seq = false → ¬beyond → opened = some m →
          let y := ((x.openPhase hd.phase).record hd.seq).takeLimit t.phase hd
          let u := (t.modSess n (fun _ => y)).leaveSolitary f.port f.sub
          let v := u.modSess n (fun x => { x with rxData := x.rxData + 1, held := x.held + 1, lastData := u.tick.count })
          (controlOk typ m = false → Leads i s ((u.bump (portReg oPortHttFormat (u.sessOf n).port)).wakeCredit n)) ∧
          (controlOk typ m = true →
            (typ = 1 → bit hd.flags 0 = true → Leads i s ((v.requestRx n hd.phase hd.seq m).wakeCredit n)) ∧
            (typ = 1 → bit hd.flags 0 = false → Leads i s ((v.transitRx n hd.phase hd.seq m).wakeCredit n)) ∧
            (typ = 2 → Leads i s (u.wakeCredit n)) ∧
            (typ = 3 → Leads i s ((u.modSess n (fun x => { x with rxSent := beAt m 0 6 })).wakeCredit n)) ∧
            (typ = 4 → Leads i s ((u.parkSess n (beAt m 0 2)).wakeCredit n))))))

/-- Setup frames (R280-R283): a standby device discards them; a HELLO that is whole and names a responder draws an OFFER, one that
names none is counted; an OFFER and an ACCEPT go to the setup of their receiver ID, which fails or goes on by its checks; ACCEPT
again after the session has opened draws CREDIT.
The model's choices in it: logs 18, 69. -/
def Obligations.SetupFramesOpenSessions : Prop :=
  ∀ (f : RxFrame) (d : SubDef) (h : Heard) (s t : State), Hears f d (.htt h) s t → httValid h = true →
    let hd := Hdr.read h.bytes
    let n := hd.rid % 2 ^ 20
    let x := t.sessOf n
    (hd.typ = 0x10 →
      (t.standby = true → Leads (.hello f) s (t.bump64 oTwinStandbyDiscards 1)) ∧
      (∀ u, t.standby = false → t.gatherHello f.port f.sub h = (none, u) → Leads (.hello f) s u) ∧
      (∀ b u, t.standby = false → t.gatherHello f.port f.sub h = (some b, u) → 12 ≤ b.length →
        (u.responderOf f.port f.sub h (beAt b 4 8) = none → Leads (.hello f) s (u.bump (portReg oPortSessionUnknown f.port))) ∧
        (∀ k, u.responderOf f.port f.sub h (beAt b 4 8) = some k →
          let v := u.leaveSolitary f.port f.sub
          (∀ y, (u.sessOf k).setup = some y → y.hello = b → Leads (.hello f) s (v.sendSetup k 0x11 y.peerId y.offer)) ∧
          ((u.sessOf k).setup = none → 4096 ≤ v.setups → Leads (.hello f) s (v.bumpHi (portReg oPortHandshakes f.port))) ∧
          ((u.sessOf k).setup = none → v.setups < 4096 →
            (∀ st, helloFail b = some st → Leads (.hello f) s (v.failSetup k st)) ∧
            (helloFail b = none → v.rngOk = false → Leads (.hello f) s (v.failSetup k .rngFailed)) ∧
            (helloFail b = none → v.rngOk = true → Leads (.hello f) s (v.answerHello k h b)))))) ∧
    (x.port = f.port → x.sub = f.sub → x.st ≠ .free →
      (t.standby = true → (hd.typ = 0x11 → Leads (.offer f) s (t.bump64 oTwinStandbyDiscards 1)) ∧
        (hd.typ = 0x12 → Leads (.accept f) s (t.bump64 oTwinStandbyDiscards 1))) ∧
      (∀ y, t.standby = false → x.setup = some y → y.myId = hd.rid →
        let g := (t.leaveSolitary f.port f.sub).gatherSetup n y h
        (hd.typ = 0x11 → y.initiator = true → y.stage ≠ 0 → Leads (.offer f) s t) ∧
        (hd.typ = 0x11 → y.initiator = true → y.stage = 0 →
          (g.1 = none → Leads (.offer f) s g.2) ∧ (∀ b, g.1 = some b → Leads (.offer f) s (g.2.takeOffer n y b))) ∧
        (hd.typ = 0x12 → y.initiator = false →
          (g.1 = none → Leads (.accept f) s g.2) ∧ (∀ b, g.1 = some b → Leads (.accept f) s (g.2.takeAccept n y b)))) ∧
      (t.standby = false → x.setup = none → hd.typ = 0x12 → x.initiator = false → x.st = .opened → x.myId = hd.rid →
        Leads (.accept f) s (t.sendCredit n))) ∧
    (x.port ≠ f.port ∨ x.sub ≠ f.sub ∨ x.st = .free →
      (hd.typ = 0x11 → Leads (.offer f) s (t.bump (portReg oPortSessionUnknown f.port))) ∧
      (hd.typ = 0x12 → Leads (.accept f) s (t.bump (portReg oPortSessionUnknown f.port)))) ∧
    (∀ (n : Nat) (y : Setup) (b : Bytes) (ec dsa : KeyRec) (s : State), s.peerKeys (s.sessOf n) = .ok (ec, dsa) →
      let u := s.usePeerKeys ec dsa
      let th := thI y.hello y.offer
      (∀ st, proofFail ec dsa "HTT-I" th b = some st → s.takeAccept n y b = u.failSetup n st) ∧
      (proofFail ec dsa "HTT-I" th b = none →
        let ks := sessionKeys y.z th y.peerId y.myId
        s.takeAccept n y b = (u.openSess n { y with keyTx := ks.drop 32, keyRx := ks.take 32, z := [] }).sendCredit n))

/-- Timers and links (R265, R267, R274, R283, R285, R286, R290-R293): each acts once its time has passed in the state it is for, and not
before; a link that changes raises its port's version and its interrupt and ends SOLITARY.
The model's choices in it: logs 18, 68, 72. -/
def Obligations.SessionTimersAndLinksAct : Prop :=
  (∀ (n : Nat) (y : Setup) (s : State), (s.sessOf n).setup = some y → s.works = true →
    let now := s.tick.count
    let sent (y : Setup) (s : State) := s.modSess n (fun x => { x with setup := some { y with lastSend := s.tick.count } })
    (y.since + s.cfg.htt.setup ≤ now → Leads (.setupTimeout n) s (s.failSetup n .handshakeFailed)) ∧
    (now < y.since + s.cfg.htt.setup → Leads (.setupTimeout n) s s) ∧
    (y.initiator = true → y.stage = 0 →
      (y.lastSend + s.cfg.htt.setup / 4 ≤ now → Leads (.helloResend n) s ((sent y s).sendSetup n 0x10 0 y.hello)) ∧
      (now < y.lastSend + s.cfg.htt.setup / 4 → Leads (.helloResend n) s s)) ∧
    (y.initiator = true → y.stage = 1 →
      (y.lastSend + 64 ≤ now → Leads (.acceptResend n) s ((sent y s).sendSetup n 0x12 y.peerId y.accept)) ∧
      (now < y.lastSend + 64 → Leads (.acceptResend n) s s))) ∧
  (∀ (n : Nat) (s : State), s.works = true → s.standby = false →
    let x := s.sessOf n
    let now := s.tick.count
    (x.st = .opened →
      (s.canSend n = false → s.creditWaiters n ≠ [] →
        (x.creditAt + 8 ≤ now → Leads (.creditResend n) s (s.sendCredit n)) ∧ (now < x.creditAt + 8 → Leads (.creditResend n) s s)) ∧
      (∀ p, x.rxPhase = some p →
        (x.grantSent < s.grant n x → x.grantAt + 1 ≤ now → Leads (.creditGrantSend n) s (s.sendCredit n)) ∧
        (s.grant n x ≤ x.grantSent ∨ now < x.grantAt + 1 → Leads (.creditGrantSend n) s s)) ∧
      (x.park ≠ 0 → x.lastData + x.park ≤ now → Leads (.parkTimeExpiry n) s (s.closeSess n .ok false)) ∧
      (x.park = 0 ∨ now < x.lastData + x.park → Leads (.parkTimeExpiry n) s s)) ∧
    (x.st = .parked →
      (x.reclaim ≠ 0 → x.parkedAt + x.reclaim ≤ now → Leads (.reclaimTimeExpiry n) s (s.freeSess n)) ∧
      (x.reclaim = 0 ∨ now < x.parkedAt + x.reclaim → Leads (.reclaimTimeExpiry n) s s))) ∧
  (∀ (p k : Nat) (d : SubDef) (s : State), s.subDef p k = some d → s.subUp p k = true →
    let x := s.subOf p k
    let now := s.tick.count
    (now < x.presenceAt + s.announceEvery p k → Goes (.presenceAnnounce p k) s s) ∧
    (x.presenceAt + s.announceEvery p k ≤ now →
      (d.presence = false → Goes (.presenceAnnounce p k) s s) ∧
      (d.presence = true → Goes (.presenceAnnounce p k) s
        ((s.sendPresence p k 0).modSub p k (fun x => { x with presenceAt := s.tick.count })))) ∧
    (now < x.lldpAt + s.announceEvery p k → Goes (.lldpAnnounce p k) s s) ∧
    (x.lldpAt + s.announceEvery p k ≤ now →
      (d.lldp = false → Goes (.lldpAnnounce p k) s s) ∧
      (d.lldp = true → Goes (.lldpAnnounce p k) s ((s.sendLldp p k (s.lldpTtl p k)).modSub p k (fun x => { x with lldpAt := s.tick.count })))) ∧
    (d.presence = true → 3 ≤ x.silent → Goes (.solitaryEntry p k) s (s.modSub p k (fun x => { x with solitary := true }))) ∧
    (d.presence = false ∨ x.silent < 3 → Goes (.solitaryEntry p k) s s)) ∧
  (∀ (p ix : Nat) (e : Peer) (s : State), (s.portOf p).peers[ix]? = some e →
    (e.expiry ≤ s.tick.count → Goes (.peerEntryAgeing p ix) s
      { s with ports := s.ports.set p { s.portOf p with peers := (s.portOf p).peers.eraseIdx ix } }) ∧
    (s.tick.count < e.expiry → Goes (.peerEntryAgeing p ix) s s)) ∧
  (∀ (p k : Nat) (d : SubDef) (up : Bool) (s : State), s.subDef p k = some d → s.ready = true →
    ((s.subOf p k).link = up → Leads (.linkChange p k up) s s) ∧
    ((s.subOf p k).link ≠ up → Leads (.linkChange p k up) s
      (((s.modSub p k (fun x =>
        { x with link := up, training := !up && x.admin, solitary := false, silent := 0, heard := true })).touchPort p).raise 8
          (portReg oPortIrq p) 0)))
end

