-- ==== Sys2Proof/Laws/State.lean ====
section
/-! SUPPORT. What each update of the state changes, and that it leaves every other field alone: one lemma for each update and field, true by
definition, so that no proof unfolds a record update. -/

namespace Sys2Proof.Machine

/-! `emit` changes `out`. -/

@[simp] theorem State.emit_out (o : Out) (s : State) : (s.emit o).out = s.out ++ [o] := rfl
@[simp] theorem State.emit_pending (o : Out) (s : State) : (s.emit o).pending = s.pending := rfl
@[simp] theorem State.emit_free (o : Out) (s : State) : (s.emit o).free = s.free := rfl
@[simp] theorem State.emit_fuses (o : Out) (s : State) : (s.emit o).fuses = s.fuses := rfl
@[simp] theorem State.emit_bat (o : Out) (s : State) : (s.emit o).bat = s.bat := rfl
@[simp] theorem State.emit_flash (o : Out) (s : State) : (s.emit o).flash = s.flash := rfl
@[simp] theorem State.emit_ledger (o : Out) (s : State) : (s.emit o).ledger = s.ledger := rfl
@[simp] theorem State.emit_dev (o : Out) (s : State) : (s.emit o).dev = s.dev := rfl
@[simp] theorem State.emit_pcie (o : Out) (s : State) : (s.emit o).pcie = s.pcie := rfl
@[simp] theorem State.emit_tick (o : Out) (s : State) : (s.emit o).tick = s.tick := rfl
@[simp] theorem State.emit_mgmt (o : Out) (s : State) : (s.emit o).mgmt = s.mgmt := rfl
@[simp] theorem State.emit_regs (o : Out) (s : State) : (s.emit o).regs = s.regs := rfl
@[simp] theorem State.emit_errPending (o : Out) (s : State) : (s.emit o).errPending = s.errPending := rfl
@[simp] theorem State.emit_errCode (o : Out) (s : State) : (s.emit o).errCode = s.errCode := rfl
@[simp] theorem State.emit_errNew (o : Out) (s : State) : (s.emit o).errNew = s.errNew := rfl
@[simp] theorem State.emit_drec (o : Out) (s : State) : (s.emit o).drec = s.drec := rfl
@[simp] theorem State.emit_ks (o : Out) (s : State) : (s.emit o).ks = s.ks := rfl
@[simp] theorem State.emit_last (o : Out) (s : State) : (s.emit o).last = s.last := rfl
@[simp] theorem State.emit_disp (o : Out) (s : State) : (s.emit o).disp = s.disp := rfl
@[simp] theorem State.emit_ports (o : Out) (s : State) : (s.emit o).ports = s.ports := rfl
@[simp] theorem State.emit_sess (o : Out) (s : State) : (s.emit o).sess = s.sess := rfl
@[simp] theorem State.emit_queues (o : Out) (s : State) : (s.emit o).queues = s.queues := rfl
@[simp] theorem State.emit_eng (o : Out) (s : State) : (s.emit o).eng = s.eng := rfl
@[simp] theorem State.emit_kum (o : Out) (s : State) : (s.emit o).kum = s.kum := rfl
@[simp] theorem State.emit_inst (o : Out) (s : State) : (s.emit o).inst = s.inst := rfl
@[simp] theorem State.emit_twin (o : Out) (s : State) : (s.emit o).twin = s.twin := rfl
@[simp] theorem State.emit_prot (o : Out) (s : State) : (s.emit o).prot = s.prot := rfl
@[simp] theorem State.emit_rng (o : Out) (s : State) : (s.emit o).rng = s.rng := rfl
@[simp] theorem State.emit_card (o : Out) (s : State) : (s.emit o).card = s.card := rfl
@[simp] theorem State.emit_fab (o : Out) (s : State) : (s.emit o).fab = s.fab := rfl

/-! `spend` changes `free`. -/

@[simp] theorem State.spend_free (n : Nat) (s : State) : (s.spend n).free = s.free + n := rfl
@[simp] theorem State.spend_pending (n : Nat) (s : State) : (s.spend n).pending = s.pending := rfl
@[simp] theorem State.spend_out (n : Nat) (s : State) : (s.spend n).out = s.out := rfl
@[simp] theorem State.spend_fuses (n : Nat) (s : State) : (s.spend n).fuses = s.fuses := rfl
@[simp] theorem State.spend_bat (n : Nat) (s : State) : (s.spend n).bat = s.bat := rfl
@[simp] theorem State.spend_flash (n : Nat) (s : State) : (s.spend n).flash = s.flash := rfl
@[simp] theorem State.spend_ledger (n : Nat) (s : State) : (s.spend n).ledger = s.ledger := rfl
@[simp] theorem State.spend_dev (n : Nat) (s : State) : (s.spend n).dev = s.dev := rfl
@[simp] theorem State.spend_pcie (n : Nat) (s : State) : (s.spend n).pcie = s.pcie := rfl
@[simp] theorem State.spend_tick (n : Nat) (s : State) : (s.spend n).tick = s.tick := rfl
@[simp] theorem State.spend_mgmt (n : Nat) (s : State) : (s.spend n).mgmt = s.mgmt := rfl
@[simp] theorem State.spend_regs (n : Nat) (s : State) : (s.spend n).regs = s.regs := rfl
@[simp] theorem State.spend_errPending (n : Nat) (s : State) : (s.spend n).errPending = s.errPending := rfl
@[simp] theorem State.spend_errCode (n : Nat) (s : State) : (s.spend n).errCode = s.errCode := rfl
@[simp] theorem State.spend_errNew (n : Nat) (s : State) : (s.spend n).errNew = s.errNew := rfl
@[simp] theorem State.spend_drec (n : Nat) (s : State) : (s.spend n).drec = s.drec := rfl
@[simp] theorem State.spend_ks (n : Nat) (s : State) : (s.spend n).ks = s.ks := rfl
@[simp] theorem State.spend_last (n : Nat) (s : State) : (s.spend n).last = s.last := rfl
@[simp] theorem State.spend_disp (n : Nat) (s : State) : (s.spend n).disp = s.disp := rfl
@[simp] theorem State.spend_ports (n : Nat) (s : State) : (s.spend n).ports = s.ports := rfl
@[simp] theorem State.spend_sess (n : Nat) (s : State) : (s.spend n).sess = s.sess := rfl
@[simp] theorem State.spend_queues (n : Nat) (s : State) : (s.spend n).queues = s.queues := rfl
@[simp] theorem State.spend_eng (n : Nat) (s : State) : (s.spend n).eng = s.eng := rfl
@[simp] theorem State.spend_kum (n : Nat) (s : State) : (s.spend n).kum = s.kum := rfl
@[simp] theorem State.spend_inst (n : Nat) (s : State) : (s.spend n).inst = s.inst := rfl
@[simp] theorem State.spend_twin (n : Nat) (s : State) : (s.spend n).twin = s.twin := rfl
@[simp] theorem State.spend_prot (n : Nat) (s : State) : (s.spend n).prot = s.prot := rfl
@[simp] theorem State.spend_rng (n : Nat) (s : State) : (s.spend n).rng = s.rng := rfl
@[simp] theorem State.spend_card (n : Nat) (s : State) : (s.spend n).card = s.card := rfl
@[simp] theorem State.spend_fab (n : Nat) (s : State) : (s.spend n).fab = s.fab := rfl

/-! `setReg` changes `regs`. -/

@[simp] theorem State.setReg_pending (off v : Nat) (s : State) : (s.setReg off v).pending = s.pending := rfl
@[simp] theorem State.setReg_free (off v : Nat) (s : State) : (s.setReg off v).free = s.free := rfl
@[simp] theorem State.setReg_out (off v : Nat) (s : State) : (s.setReg off v).out = s.out := rfl
@[simp] theorem State.setReg_fuses (off v : Nat) (s : State) : (s.setReg off v).fuses = s.fuses := rfl
@[simp] theorem State.setReg_bat (off v : Nat) (s : State) : (s.setReg off v).bat = s.bat := rfl
@[simp] theorem State.setReg_flash (off v : Nat) (s : State) : (s.setReg off v).flash = s.flash := rfl
@[simp] theorem State.setReg_ledger (off v : Nat) (s : State) : (s.setReg off v).ledger = s.ledger := rfl
@[simp] theorem State.setReg_dev (off v : Nat) (s : State) : (s.setReg off v).dev = s.dev := rfl
@[simp] theorem State.setReg_pcie (off v : Nat) (s : State) : (s.setReg off v).pcie = s.pcie := rfl
@[simp] theorem State.setReg_tick (off v : Nat) (s : State) : (s.setReg off v).tick = s.tick := rfl
@[simp] theorem State.setReg_mgmt (off v : Nat) (s : State) : (s.setReg off v).mgmt = s.mgmt := rfl
@[simp] theorem State.setReg_errPending (off v : Nat) (s : State) : (s.setReg off v).errPending = s.errPending := rfl
@[simp] theorem State.setReg_errCode (off v : Nat) (s : State) : (s.setReg off v).errCode = s.errCode := rfl
@[simp] theorem State.setReg_errNew (off v : Nat) (s : State) : (s.setReg off v).errNew = s.errNew := rfl
@[simp] theorem State.setReg_drec (off v : Nat) (s : State) : (s.setReg off v).drec = s.drec := rfl
@[simp] theorem State.setReg_ks (off v : Nat) (s : State) : (s.setReg off v).ks = s.ks := rfl
@[simp] theorem State.setReg_last (off v : Nat) (s : State) : (s.setReg off v).last = s.last := rfl
@[simp] theorem State.setReg_disp (off v : Nat) (s : State) : (s.setReg off v).disp = s.disp := rfl
@[simp] theorem State.setReg_ports (off v : Nat) (s : State) : (s.setReg off v).ports = s.ports := rfl
@[simp] theorem State.setReg_sess (off v : Nat) (s : State) : (s.setReg off v).sess = s.sess := rfl
@[simp] theorem State.setReg_queues (off v : Nat) (s : State) : (s.setReg off v).queues = s.queues := rfl
@[simp] theorem State.setReg_eng (off v : Nat) (s : State) : (s.setReg off v).eng = s.eng := rfl
@[simp] theorem State.setReg_kum (off v : Nat) (s : State) : (s.setReg off v).kum = s.kum := rfl
@[simp] theorem State.setReg_inst (off v : Nat) (s : State) : (s.setReg off v).inst = s.inst := rfl
@[simp] theorem State.setReg_twin (off v : Nat) (s : State) : (s.setReg off v).twin = s.twin := rfl
@[simp] theorem State.setReg_prot (off v : Nat) (s : State) : (s.setReg off v).prot = s.prot := rfl
@[simp] theorem State.setReg_rng (off v : Nat) (s : State) : (s.setReg off v).rng = s.rng := rfl
@[simp] theorem State.setReg_card (off v : Nat) (s : State) : (s.setReg off v).card = s.card := rfl
@[simp] theorem State.setReg_fab (off v : Nat) (s : State) : (s.setReg off v).fab = s.fab := rfl

/-! `setFld` changes `regs`. -/

@[simp] theorem State.setFld_pending (off hi lo x : Nat) (s : State) : (s.setFld off hi lo x).pending = s.pending := by rw [State.setFld]; exact State.setReg_pending ..
@[simp] theorem State.setFld_free (off hi lo x : Nat) (s : State) : (s.setFld off hi lo x).free = s.free := by rw [State.setFld]; exact State.setReg_free ..
@[simp] theorem State.setFld_out (off hi lo x : Nat) (s : State) : (s.setFld off hi lo x).out = s.out := by rw [State.setFld]; exact State.setReg_out ..
@[simp] theorem State.setFld_fuses (off hi lo x : Nat) (s : State) : (s.setFld off hi lo x).fuses = s.fuses := by rw [State.setFld]; exact State.setReg_fuses ..
@[simp] theorem State.setFld_bat (off hi lo x : Nat) (s : State) : (s.setFld off hi lo x).bat = s.bat := by rw [State.setFld]; exact State.setReg_bat ..
@[simp] theorem State.setFld_flash (off hi lo x : Nat) (s : State) : (s.setFld off hi lo x).flash = s.flash := by rw [State.setFld]; exact State.setReg_flash ..
@[simp] theorem State.setFld_ledger (off hi lo x : Nat) (s : State) : (s.setFld off hi lo x).ledger = s.ledger := by rw [State.setFld]; exact State.setReg_ledger ..
@[simp] theorem State.setFld_dev (off hi lo x : Nat) (s : State) : (s.setFld off hi lo x).dev = s.dev := by rw [State.setFld]; exact State.setReg_dev ..
@[simp] theorem State.setFld_pcie (off hi lo x : Nat) (s : State) : (s.setFld off hi lo x).pcie = s.pcie := by rw [State.setFld]; exact State.setReg_pcie ..
@[simp] theorem State.setFld_tick (off hi lo x : Nat) (s : State) : (s.setFld off hi lo x).tick = s.tick := by rw [State.setFld]; exact State.setReg_tick ..
@[simp] theorem State.setFld_mgmt (off hi lo x : Nat) (s : State) : (s.setFld off hi lo x).mgmt = s.mgmt := by rw [State.setFld]; exact State.setReg_mgmt ..
@[simp] theorem State.setFld_errPending (off hi lo x : Nat) (s : State) : (s.setFld off hi lo x).errPending = s.errPending := by rw [State.setFld]; exact State.setReg_errPending ..
@[simp] theorem State.setFld_errCode (off hi lo x : Nat) (s : State) : (s.setFld off hi lo x).errCode = s.errCode := by rw [State.setFld]; exact State.setReg_errCode ..
@[simp] theorem State.setFld_errNew (off hi lo x : Nat) (s : State) : (s.setFld off hi lo x).errNew = s.errNew := by rw [State.setFld]; exact State.setReg_errNew ..
@[simp] theorem State.setFld_drec (off hi lo x : Nat) (s : State) : (s.setFld off hi lo x).drec = s.drec := by rw [State.setFld]; exact State.setReg_drec ..
@[simp] theorem State.setFld_ks (off hi lo x : Nat) (s : State) : (s.setFld off hi lo x).ks = s.ks := by rw [State.setFld]; exact State.setReg_ks ..
@[simp] theorem State.setFld_last (off hi lo x : Nat) (s : State) : (s.setFld off hi lo x).last = s.last := by rw [State.setFld]; exact State.setReg_last ..
@[simp] theorem State.setFld_disp (off hi lo x : Nat) (s : State) : (s.setFld off hi lo x).disp = s.disp := by rw [State.setFld]; exact State.setReg_disp ..
@[simp] theorem State.setFld_ports (off hi lo x : Nat) (s : State) : (s.setFld off hi lo x).ports = s.ports := by rw [State.setFld]; exact State.setReg_ports ..
@[simp] theorem State.setFld_sess (off hi lo x : Nat) (s : State) : (s.setFld off hi lo x).sess = s.sess := by rw [State.setFld]; exact State.setReg_sess ..
@[simp] theorem State.setFld_queues (off hi lo x : Nat) (s : State) : (s.setFld off hi lo x).queues = s.queues := by rw [State.setFld]; exact State.setReg_queues ..
@[simp] theorem State.setFld_eng (off hi lo x : Nat) (s : State) : (s.setFld off hi lo x).eng = s.eng := by rw [State.setFld]; exact State.setReg_eng ..
@[simp] theorem State.setFld_kum (off hi lo x : Nat) (s : State) : (s.setFld off hi lo x).kum = s.kum := by rw [State.setFld]; exact State.setReg_kum ..
@[simp] theorem State.setFld_inst (off hi lo x : Nat) (s : State) : (s.setFld off hi lo x).inst = s.inst := by rw [State.setFld]; exact State.setReg_inst ..
@[simp] theorem State.setFld_twin (off hi lo x : Nat) (s : State) : (s.setFld off hi lo x).twin = s.twin := by rw [State.setFld]; exact State.setReg_twin ..
@[simp] theorem State.setFld_prot (off hi lo x : Nat) (s : State) : (s.setFld off hi lo x).prot = s.prot := by rw [State.setFld]; exact State.setReg_prot ..
@[simp] theorem State.setFld_rng (off hi lo x : Nat) (s : State) : (s.setFld off hi lo x).rng = s.rng := by rw [State.setFld]; exact State.setReg_rng ..
@[simp] theorem State.setFld_card (off hi lo x : Nat) (s : State) : (s.setFld off hi lo x).card = s.card := by rw [State.setFld]; exact State.setReg_card ..
@[simp] theorem State.setFld_fab (off hi lo x : Nat) (s : State) : (s.setFld off hi lo x).fab = s.fab := by rw [State.setFld]; exact State.setReg_fab ..

/-! `bumpF` changes `regs`. -/

@[simp] theorem State.bumpF_pending (off hi lo n : Nat) (s : State) : (s.bumpF off hi lo n).pending = s.pending := by rw [State.bumpF]; exact State.setFld_pending ..
@[simp] theorem State.bumpF_free (off hi lo n : Nat) (s : State) : (s.bumpF off hi lo n).free = s.free := by rw [State.bumpF]; exact State.setFld_free ..
@[simp] theorem State.bumpF_out (off hi lo n : Nat) (s : State) : (s.bumpF off hi lo n).out = s.out := by rw [State.bumpF]; exact State.setFld_out ..
@[simp] theorem State.bumpF_fuses (off hi lo n : Nat) (s : State) : (s.bumpF off hi lo n).fuses = s.fuses := by rw [State.bumpF]; exact State.setFld_fuses ..
@[simp] theorem State.bumpF_bat (off hi lo n : Nat) (s : State) : (s.bumpF off hi lo n).bat = s.bat := by rw [State.bumpF]; exact State.setFld_bat ..
@[simp] theorem State.bumpF_flash (off hi lo n : Nat) (s : State) : (s.bumpF off hi lo n).flash = s.flash := by rw [State.bumpF]; exact State.setFld_flash ..
@[simp] theorem State.bumpF_ledger (off hi lo n : Nat) (s : State) : (s.bumpF off hi lo n).ledger = s.ledger := by rw [State.bumpF]; exact State.setFld_ledger ..
@[simp] theorem State.bumpF_dev (off hi lo n : Nat) (s : State) : (s.bumpF off hi lo n).dev = s.dev := by rw [State.bumpF]; exact State.setFld_dev ..
@[simp] theorem State.bumpF_pcie (off hi lo n : Nat) (s : State) : (s.bumpF off hi lo n).pcie = s.pcie := by rw [State.bumpF]; exact State.setFld_pcie ..
@[simp] theorem State.bumpF_tick (off hi lo n : Nat) (s : State) : (s.bumpF off hi lo n).tick = s.tick := by rw [State.bumpF]; exact State.setFld_tick ..
@[simp] theorem State.bumpF_mgmt (off hi lo n : Nat) (s : State) : (s.bumpF off hi lo n).mgmt = s.mgmt := by rw [State.bumpF]; exact State.setFld_mgmt ..
@[simp] theorem State.bumpF_errPending (off hi lo n : Nat) (s : State) : (s.bumpF off hi lo n).errPending = s.errPending := by rw [State.bumpF]; exact State.setFld_errPending ..
@[simp] theorem State.bumpF_errCode (off hi lo n : Nat) (s : State) : (s.bumpF off hi lo n).errCode = s.errCode := by rw [State.bumpF]; exact State.setFld_errCode ..
@[simp] theorem State.bumpF_errNew (off hi lo n : Nat) (s : State) : (s.bumpF off hi lo n).errNew = s.errNew := by rw [State.bumpF]; exact State.setFld_errNew ..
@[simp] theorem State.bumpF_drec (off hi lo n : Nat) (s : State) : (s.bumpF off hi lo n).drec = s.drec := by rw [State.bumpF]; exact State.setFld_drec ..
@[simp] theorem State.bumpF_ks (off hi lo n : Nat) (s : State) : (s.bumpF off hi lo n).ks = s.ks := by rw [State.bumpF]; exact State.setFld_ks ..
@[simp] theorem State.bumpF_last (off hi lo n : Nat) (s : State) : (s.bumpF off hi lo n).last = s.last := by rw [State.bumpF]; exact State.setFld_last ..
@[simp] theorem State.bumpF_disp (off hi lo n : Nat) (s : State) : (s.bumpF off hi lo n).disp = s.disp := by rw [State.bumpF]; exact State.setFld_disp ..
@[simp] theorem State.bumpF_ports (off hi lo n : Nat) (s : State) : (s.bumpF off hi lo n).ports = s.ports := by rw [State.bumpF]; exact State.setFld_ports ..
@[simp] theorem State.bumpF_sess (off hi lo n : Nat) (s : State) : (s.bumpF off hi lo n).sess = s.sess := by rw [State.bumpF]; exact State.setFld_sess ..
@[simp] theorem State.bumpF_queues (off hi lo n : Nat) (s : State) : (s.bumpF off hi lo n).queues = s.queues := by rw [State.bumpF]; exact State.setFld_queues ..
@[simp] theorem State.bumpF_eng (off hi lo n : Nat) (s : State) : (s.bumpF off hi lo n).eng = s.eng := by rw [State.bumpF]; exact State.setFld_eng ..
@[simp] theorem State.bumpF_kum (off hi lo n : Nat) (s : State) : (s.bumpF off hi lo n).kum = s.kum := by rw [State.bumpF]; exact State.setFld_kum ..
@[simp] theorem State.bumpF_inst (off hi lo n : Nat) (s : State) : (s.bumpF off hi lo n).inst = s.inst := by rw [State.bumpF]; exact State.setFld_inst ..
@[simp] theorem State.bumpF_twin (off hi lo n : Nat) (s : State) : (s.bumpF off hi lo n).twin = s.twin := by rw [State.bumpF]; exact State.setFld_twin ..
@[simp] theorem State.bumpF_prot (off hi lo n : Nat) (s : State) : (s.bumpF off hi lo n).prot = s.prot := by rw [State.bumpF]; exact State.setFld_prot ..
@[simp] theorem State.bumpF_rng (off hi lo n : Nat) (s : State) : (s.bumpF off hi lo n).rng = s.rng := by rw [State.bumpF]; exact State.setFld_rng ..
@[simp] theorem State.bumpF_card (off hi lo n : Nat) (s : State) : (s.bumpF off hi lo n).card = s.card := by rw [State.bumpF]; exact State.setFld_card ..
@[simp] theorem State.bumpF_fab (off hi lo n : Nat) (s : State) : (s.bumpF off hi lo n).fab = s.fab := by rw [State.bumpF]; exact State.setFld_fab ..

/-! `bump` changes `regs`. -/

@[simp] theorem State.bump_pending (off : Nat) (s : State) : (s.bump off).pending = s.pending := by rw [State.bump]; exact State.bumpF_pending ..
@[simp] theorem State.bump_free (off : Nat) (s : State) : (s.bump off).free = s.free := by rw [State.bump]; exact State.bumpF_free ..
@[simp] theorem State.bump_out (off : Nat) (s : State) : (s.bump off).out = s.out := by rw [State.bump]; exact State.bumpF_out ..
@[simp] theorem State.bump_fuses (off : Nat) (s : State) : (s.bump off).fuses = s.fuses := by rw [State.bump]; exact State.bumpF_fuses ..
@[simp] theorem State.bump_bat (off : Nat) (s : State) : (s.bump off).bat = s.bat := by rw [State.bump]; exact State.bumpF_bat ..
@[simp] theorem State.bump_flash (off : Nat) (s : State) : (s.bump off).flash = s.flash := by rw [State.bump]; exact State.bumpF_flash ..
@[simp] theorem State.bump_ledger (off : Nat) (s : State) : (s.bump off).ledger = s.ledger := by rw [State.bump]; exact State.bumpF_ledger ..
@[simp] theorem State.bump_dev (off : Nat) (s : State) : (s.bump off).dev = s.dev := by rw [State.bump]; exact State.bumpF_dev ..
@[simp] theorem State.bump_pcie (off : Nat) (s : State) : (s.bump off).pcie = s.pcie := by rw [State.bump]; exact State.bumpF_pcie ..
@[simp] theorem State.bump_tick (off : Nat) (s : State) : (s.bump off).tick = s.tick := by rw [State.bump]; exact State.bumpF_tick ..
@[simp] theorem State.bump_mgmt (off : Nat) (s : State) : (s.bump off).mgmt = s.mgmt := by rw [State.bump]; exact State.bumpF_mgmt ..
@[simp] theorem State.bump_errPending (off : Nat) (s : State) : (s.bump off).errPending = s.errPending := by rw [State.bump]; exact State.bumpF_errPending ..
@[simp] theorem State.bump_errCode (off : Nat) (s : State) : (s.bump off).errCode = s.errCode := by rw [State.bump]; exact State.bumpF_errCode ..
@[simp] theorem State.bump_errNew (off : Nat) (s : State) : (s.bump off).errNew = s.errNew := by rw [State.bump]; exact State.bumpF_errNew ..
@[simp] theorem State.bump_drec (off : Nat) (s : State) : (s.bump off).drec = s.drec := by rw [State.bump]; exact State.bumpF_drec ..
@[simp] theorem State.bump_ks (off : Nat) (s : State) : (s.bump off).ks = s.ks := by rw [State.bump]; exact State.bumpF_ks ..
@[simp] theorem State.bump_last (off : Nat) (s : State) : (s.bump off).last = s.last := by rw [State.bump]; exact State.bumpF_last ..
@[simp] theorem State.bump_disp (off : Nat) (s : State) : (s.bump off).disp = s.disp := by rw [State.bump]; exact State.bumpF_disp ..
@[simp] theorem State.bump_ports (off : Nat) (s : State) : (s.bump off).ports = s.ports := by rw [State.bump]; exact State.bumpF_ports ..
@[simp] theorem State.bump_sess (off : Nat) (s : State) : (s.bump off).sess = s.sess := by rw [State.bump]; exact State.bumpF_sess ..
@[simp] theorem State.bump_queues (off : Nat) (s : State) : (s.bump off).queues = s.queues := by rw [State.bump]; exact State.bumpF_queues ..
@[simp] theorem State.bump_eng (off : Nat) (s : State) : (s.bump off).eng = s.eng := by rw [State.bump]; exact State.bumpF_eng ..
@[simp] theorem State.bump_kum (off : Nat) (s : State) : (s.bump off).kum = s.kum := by rw [State.bump]; exact State.bumpF_kum ..
@[simp] theorem State.bump_inst (off : Nat) (s : State) : (s.bump off).inst = s.inst := by rw [State.bump]; exact State.bumpF_inst ..
@[simp] theorem State.bump_twin (off : Nat) (s : State) : (s.bump off).twin = s.twin := by rw [State.bump]; exact State.bumpF_twin ..
@[simp] theorem State.bump_prot (off : Nat) (s : State) : (s.bump off).prot = s.prot := by rw [State.bump]; exact State.bumpF_prot ..
@[simp] theorem State.bump_rng (off : Nat) (s : State) : (s.bump off).rng = s.rng := by rw [State.bump]; exact State.bumpF_rng ..
@[simp] theorem State.bump_card (off : Nat) (s : State) : (s.bump off).card = s.card := by rw [State.bump]; exact State.bumpF_card ..
@[simp] theorem State.bump_fab (off : Nat) (s : State) : (s.bump off).fab = s.fab := by rw [State.bump]; exact State.bumpF_fab ..

/-! `bump64` changes `regs`. -/

@[simp] theorem State.bump64_pending (off n : Nat) (s : State) : (s.bump64 off n).pending = s.pending := by rw [State.bump64]; exact State.bumpF_pending ..
@[simp] theorem State.bump64_free (off n : Nat) (s : State) : (s.bump64 off n).free = s.free := by rw [State.bump64]; exact State.bumpF_free ..
@[simp] theorem State.bump64_out (off n : Nat) (s : State) : (s.bump64 off n).out = s.out := by rw [State.bump64]; exact State.bumpF_out ..
@[simp] theorem State.bump64_fuses (off n : Nat) (s : State) : (s.bump64 off n).fuses = s.fuses := by rw [State.bump64]; exact State.bumpF_fuses ..
@[simp] theorem State.bump64_bat (off n : Nat) (s : State) : (s.bump64 off n).bat = s.bat := by rw [State.bump64]; exact State.bumpF_bat ..
@[simp] theorem State.bump64_flash (off n : Nat) (s : State) : (s.bump64 off n).flash = s.flash := by rw [State.bump64]; exact State.bumpF_flash ..
@[simp] theorem State.bump64_ledger (off n : Nat) (s : State) : (s.bump64 off n).ledger = s.ledger := by rw [State.bump64]; exact State.bumpF_ledger ..
@[simp] theorem State.bump64_dev (off n : Nat) (s : State) : (s.bump64 off n).dev = s.dev := by rw [State.bump64]; exact State.bumpF_dev ..
@[simp] theorem State.bump64_pcie (off n : Nat) (s : State) : (s.bump64 off n).pcie = s.pcie := by rw [State.bump64]; exact State.bumpF_pcie ..
@[simp] theorem State.bump64_tick (off n : Nat) (s : State) : (s.bump64 off n).tick = s.tick := by rw [State.bump64]; exact State.bumpF_tick ..
@[simp] theorem State.bump64_mgmt (off n : Nat) (s : State) : (s.bump64 off n).mgmt = s.mgmt := by rw [State.bump64]; exact State.bumpF_mgmt ..
@[simp] theorem State.bump64_errPending (off n : Nat) (s : State) : (s.bump64 off n).errPending = s.errPending := by rw [State.bump64]; exact State.bumpF_errPending ..
@[simp] theorem State.bump64_errCode (off n : Nat) (s : State) : (s.bump64 off n).errCode = s.errCode := by rw [State.bump64]; exact State.bumpF_errCode ..
@[simp] theorem State.bump64_errNew (off n : Nat) (s : State) : (s.bump64 off n).errNew = s.errNew := by rw [State.bump64]; exact State.bumpF_errNew ..
@[simp] theorem State.bump64_drec (off n : Nat) (s : State) : (s.bump64 off n).drec = s.drec := by rw [State.bump64]; exact State.bumpF_drec ..
@[simp] theorem State.bump64_ks (off n : Nat) (s : State) : (s.bump64 off n).ks = s.ks := by rw [State.bump64]; exact State.bumpF_ks ..
@[simp] theorem State.bump64_last (off n : Nat) (s : State) : (s.bump64 off n).last = s.last := by rw [State.bump64]; exact State.bumpF_last ..
@[simp] theorem State.bump64_disp (off n : Nat) (s : State) : (s.bump64 off n).disp = s.disp := by rw [State.bump64]; exact State.bumpF_disp ..
@[simp] theorem State.bump64_ports (off n : Nat) (s : State) : (s.bump64 off n).ports = s.ports := by rw [State.bump64]; exact State.bumpF_ports ..
@[simp] theorem State.bump64_sess (off n : Nat) (s : State) : (s.bump64 off n).sess = s.sess := by rw [State.bump64]; exact State.bumpF_sess ..
@[simp] theorem State.bump64_queues (off n : Nat) (s : State) : (s.bump64 off n).queues = s.queues := by rw [State.bump64]; exact State.bumpF_queues ..
@[simp] theorem State.bump64_eng (off n : Nat) (s : State) : (s.bump64 off n).eng = s.eng := by rw [State.bump64]; exact State.bumpF_eng ..
@[simp] theorem State.bump64_kum (off n : Nat) (s : State) : (s.bump64 off n).kum = s.kum := by rw [State.bump64]; exact State.bumpF_kum ..
@[simp] theorem State.bump64_inst (off n : Nat) (s : State) : (s.bump64 off n).inst = s.inst := by rw [State.bump64]; exact State.bumpF_inst ..
@[simp] theorem State.bump64_twin (off n : Nat) (s : State) : (s.bump64 off n).twin = s.twin := by rw [State.bump64]; exact State.bumpF_twin ..
@[simp] theorem State.bump64_prot (off n : Nat) (s : State) : (s.bump64 off n).prot = s.prot := by rw [State.bump64]; exact State.bumpF_prot ..
@[simp] theorem State.bump64_rng (off n : Nat) (s : State) : (s.bump64 off n).rng = s.rng := by rw [State.bump64]; exact State.bumpF_rng ..
@[simp] theorem State.bump64_card (off n : Nat) (s : State) : (s.bump64 off n).card = s.card := by rw [State.bump64]; exact State.bumpF_card ..
@[simp] theorem State.bump64_fab (off n : Nat) (s : State) : (s.bump64 off n).fab = s.fab := by rw [State.bump64]; exact State.bumpF_fab ..

/-! `bumpHi` changes `regs`. -/

@[simp] theorem State.bumpHi_pending (off : Nat) (s : State) : (s.bumpHi off).pending = s.pending := by rw [State.bumpHi]; exact State.bumpF_pending ..
@[simp] theorem State.bumpHi_free (off : Nat) (s : State) : (s.bumpHi off).free = s.free := by rw [State.bumpHi]; exact State.bumpF_free ..
@[simp] theorem State.bumpHi_out (off : Nat) (s : State) : (s.bumpHi off).out = s.out := by rw [State.bumpHi]; exact State.bumpF_out ..
@[simp] theorem State.bumpHi_fuses (off : Nat) (s : State) : (s.bumpHi off).fuses = s.fuses := by rw [State.bumpHi]; exact State.bumpF_fuses ..
@[simp] theorem State.bumpHi_bat (off : Nat) (s : State) : (s.bumpHi off).bat = s.bat := by rw [State.bumpHi]; exact State.bumpF_bat ..
@[simp] theorem State.bumpHi_flash (off : Nat) (s : State) : (s.bumpHi off).flash = s.flash := by rw [State.bumpHi]; exact State.bumpF_flash ..
@[simp] theorem State.bumpHi_ledger (off : Nat) (s : State) : (s.bumpHi off).ledger = s.ledger := by rw [State.bumpHi]; exact State.bumpF_ledger ..
@[simp] theorem State.bumpHi_dev (off : Nat) (s : State) : (s.bumpHi off).dev = s.dev := by rw [State.bumpHi]; exact State.bumpF_dev ..
@[simp] theorem State.bumpHi_pcie (off : Nat) (s : State) : (s.bumpHi off).pcie = s.pcie := by rw [State.bumpHi]; exact State.bumpF_pcie ..
@[simp] theorem State.bumpHi_tick (off : Nat) (s : State) : (s.bumpHi off).tick = s.tick := by rw [State.bumpHi]; exact State.bumpF_tick ..
@[simp] theorem State.bumpHi_mgmt (off : Nat) (s : State) : (s.bumpHi off).mgmt = s.mgmt := by rw [State.bumpHi]; exact State.bumpF_mgmt ..
@[simp] theorem State.bumpHi_errPending (off : Nat) (s : State) : (s.bumpHi off).errPending = s.errPending := by rw [State.bumpHi]; exact State.bumpF_errPending ..
@[simp] theorem State.bumpHi_errCode (off : Nat) (s : State) : (s.bumpHi off).errCode = s.errCode := by rw [State.bumpHi]; exact State.bumpF_errCode ..
@[simp] theorem State.bumpHi_errNew (off : Nat) (s : State) : (s.bumpHi off).errNew = s.errNew := by rw [State.bumpHi]; exact State.bumpF_errNew ..
@[simp] theorem State.bumpHi_drec (off : Nat) (s : State) : (s.bumpHi off).drec = s.drec := by rw [State.bumpHi]; exact State.bumpF_drec ..
@[simp] theorem State.bumpHi_ks (off : Nat) (s : State) : (s.bumpHi off).ks = s.ks := by rw [State.bumpHi]; exact State.bumpF_ks ..
@[simp] theorem State.bumpHi_last (off : Nat) (s : State) : (s.bumpHi off).last = s.last := by rw [State.bumpHi]; exact State.bumpF_last ..
@[simp] theorem State.bumpHi_disp (off : Nat) (s : State) : (s.bumpHi off).disp = s.disp := by rw [State.bumpHi]; exact State.bumpF_disp ..
@[simp] theorem State.bumpHi_ports (off : Nat) (s : State) : (s.bumpHi off).ports = s.ports := by rw [State.bumpHi]; exact State.bumpF_ports ..
@[simp] theorem State.bumpHi_sess (off : Nat) (s : State) : (s.bumpHi off).sess = s.sess := by rw [State.bumpHi]; exact State.bumpF_sess ..
@[simp] theorem State.bumpHi_queues (off : Nat) (s : State) : (s.bumpHi off).queues = s.queues := by rw [State.bumpHi]; exact State.bumpF_queues ..
@[simp] theorem State.bumpHi_eng (off : Nat) (s : State) : (s.bumpHi off).eng = s.eng := by rw [State.bumpHi]; exact State.bumpF_eng ..
@[simp] theorem State.bumpHi_kum (off : Nat) (s : State) : (s.bumpHi off).kum = s.kum := by rw [State.bumpHi]; exact State.bumpF_kum ..
@[simp] theorem State.bumpHi_inst (off : Nat) (s : State) : (s.bumpHi off).inst = s.inst := by rw [State.bumpHi]; exact State.bumpF_inst ..
@[simp] theorem State.bumpHi_twin (off : Nat) (s : State) : (s.bumpHi off).twin = s.twin := by rw [State.bumpHi]; exact State.bumpF_twin ..
@[simp] theorem State.bumpHi_prot (off : Nat) (s : State) : (s.bumpHi off).prot = s.prot := by rw [State.bumpHi]; exact State.bumpF_prot ..
@[simp] theorem State.bumpHi_rng (off : Nat) (s : State) : (s.bumpHi off).rng = s.rng := by rw [State.bumpHi]; exact State.bumpF_rng ..
@[simp] theorem State.bumpHi_card (off : Nat) (s : State) : (s.bumpHi off).card = s.card := by rw [State.bumpHi]; exact State.bumpF_card ..
@[simp] theorem State.bumpHi_fab (off : Nat) (s : State) : (s.bumpHi off).fab = s.fab := by rw [State.bumpHi]; exact State.bumpF_fab ..

/-! `touch` changes `mgmt`. -/

@[simp] theorem State.touch_pending (typ id : Nat) (s : State) : (s.touch typ id).pending = s.pending := rfl
@[simp] theorem State.touch_free (typ id : Nat) (s : State) : (s.touch typ id).free = s.free := rfl
@[simp] theorem State.touch_out (typ id : Nat) (s : State) : (s.touch typ id).out = s.out := rfl
@[simp] theorem State.touch_fuses (typ id : Nat) (s : State) : (s.touch typ id).fuses = s.fuses := rfl
@[simp] theorem State.touch_bat (typ id : Nat) (s : State) : (s.touch typ id).bat = s.bat := rfl
@[simp] theorem State.touch_flash (typ id : Nat) (s : State) : (s.touch typ id).flash = s.flash := rfl
@[simp] theorem State.touch_ledger (typ id : Nat) (s : State) : (s.touch typ id).ledger = s.ledger := rfl
@[simp] theorem State.touch_dev (typ id : Nat) (s : State) : (s.touch typ id).dev = s.dev := rfl
@[simp] theorem State.touch_pcie (typ id : Nat) (s : State) : (s.touch typ id).pcie = s.pcie := rfl
@[simp] theorem State.touch_tick (typ id : Nat) (s : State) : (s.touch typ id).tick = s.tick := rfl
@[simp] theorem State.touch_regs (typ id : Nat) (s : State) : (s.touch typ id).regs = s.regs := rfl
@[simp] theorem State.touch_errPending (typ id : Nat) (s : State) : (s.touch typ id).errPending = s.errPending := rfl
@[simp] theorem State.touch_errCode (typ id : Nat) (s : State) : (s.touch typ id).errCode = s.errCode := rfl
@[simp] theorem State.touch_errNew (typ id : Nat) (s : State) : (s.touch typ id).errNew = s.errNew := rfl
@[simp] theorem State.touch_drec (typ id : Nat) (s : State) : (s.touch typ id).drec = s.drec := rfl
@[simp] theorem State.touch_ks (typ id : Nat) (s : State) : (s.touch typ id).ks = s.ks := rfl
@[simp] theorem State.touch_last (typ id : Nat) (s : State) : (s.touch typ id).last = s.last := rfl
@[simp] theorem State.touch_disp (typ id : Nat) (s : State) : (s.touch typ id).disp = s.disp := rfl
@[simp] theorem State.touch_ports (typ id : Nat) (s : State) : (s.touch typ id).ports = s.ports := rfl
@[simp] theorem State.touch_sess (typ id : Nat) (s : State) : (s.touch typ id).sess = s.sess := rfl
@[simp] theorem State.touch_queues (typ id : Nat) (s : State) : (s.touch typ id).queues = s.queues := rfl
@[simp] theorem State.touch_eng (typ id : Nat) (s : State) : (s.touch typ id).eng = s.eng := rfl
@[simp] theorem State.touch_kum (typ id : Nat) (s : State) : (s.touch typ id).kum = s.kum := rfl
@[simp] theorem State.touch_inst (typ id : Nat) (s : State) : (s.touch typ id).inst = s.inst := rfl
@[simp] theorem State.touch_twin (typ id : Nat) (s : State) : (s.touch typ id).twin = s.twin := rfl
@[simp] theorem State.touch_prot (typ id : Nat) (s : State) : (s.touch typ id).prot = s.prot := rfl
@[simp] theorem State.touch_rng (typ id : Nat) (s : State) : (s.touch typ id).rng = s.rng := rfl
@[simp] theorem State.touch_card (typ id : Nat) (s : State) : (s.touch typ id).card = s.card := rfl
@[simp] theorem State.touch_fab (typ id : Nat) (s : State) : (s.touch typ id).fab = s.fab := rfl

/-! `touchDev` changes `mgmt`. -/

@[simp] theorem State.touchDev_pending (s : State) : s.touchDev.pending = s.pending := by rw [State.touchDev]; exact State.touch_pending ..
@[simp] theorem State.touchDev_free (s : State) : s.touchDev.free = s.free := by rw [State.touchDev]; exact State.touch_free ..
@[simp] theorem State.touchDev_out (s : State) : s.touchDev.out = s.out := by rw [State.touchDev]; exact State.touch_out ..
@[simp] theorem State.touchDev_fuses (s : State) : s.touchDev.fuses = s.fuses := by rw [State.touchDev]; exact State.touch_fuses ..
@[simp] theorem State.touchDev_bat (s : State) : s.touchDev.bat = s.bat := by rw [State.touchDev]; exact State.touch_bat ..
@[simp] theorem State.touchDev_flash (s : State) : s.touchDev.flash = s.flash := by rw [State.touchDev]; exact State.touch_flash ..
@[simp] theorem State.touchDev_ledger (s : State) : s.touchDev.ledger = s.ledger := by rw [State.touchDev]; exact State.touch_ledger ..
@[simp] theorem State.touchDev_dev (s : State) : s.touchDev.dev = s.dev := by rw [State.touchDev]; exact State.touch_dev ..
@[simp] theorem State.touchDev_pcie (s : State) : s.touchDev.pcie = s.pcie := by rw [State.touchDev]; exact State.touch_pcie ..
@[simp] theorem State.touchDev_tick (s : State) : s.touchDev.tick = s.tick := by rw [State.touchDev]; exact State.touch_tick ..
@[simp] theorem State.touchDev_regs (s : State) : s.touchDev.regs = s.regs := by rw [State.touchDev]; exact State.touch_regs ..
@[simp] theorem State.touchDev_errPending (s : State) : s.touchDev.errPending = s.errPending := by rw [State.touchDev]; exact State.touch_errPending ..
@[simp] theorem State.touchDev_errCode (s : State) : s.touchDev.errCode = s.errCode := by rw [State.touchDev]; exact State.touch_errCode ..
@[simp] theorem State.touchDev_errNew (s : State) : s.touchDev.errNew = s.errNew := by rw [State.touchDev]; exact State.touch_errNew ..
@[simp] theorem State.touchDev_drec (s : State) : s.touchDev.drec = s.drec := by rw [State.touchDev]; exact State.touch_drec ..
@[simp] theorem State.touchDev_ks (s : State) : s.touchDev.ks = s.ks := by rw [State.touchDev]; exact State.touch_ks ..
@[simp] theorem State.touchDev_last (s : State) : s.touchDev.last = s.last := by rw [State.touchDev]; exact State.touch_last ..
@[simp] theorem State.touchDev_disp (s : State) : s.touchDev.disp = s.disp := by rw [State.touchDev]; exact State.touch_disp ..
@[simp] theorem State.touchDev_ports (s : State) : s.touchDev.ports = s.ports := by rw [State.touchDev]; exact State.touch_ports ..
@[simp] theorem State.touchDev_sess (s : State) : s.touchDev.sess = s.sess := by rw [State.touchDev]; exact State.touch_sess ..
@[simp] theorem State.touchDev_queues (s : State) : s.touchDev.queues = s.queues := by rw [State.touchDev]; exact State.touch_queues ..
@[simp] theorem State.touchDev_eng (s : State) : s.touchDev.eng = s.eng := by rw [State.touchDev]; exact State.touch_eng ..
@[simp] theorem State.touchDev_kum (s : State) : s.touchDev.kum = s.kum := by rw [State.touchDev]; exact State.touch_kum ..
@[simp] theorem State.touchDev_inst (s : State) : s.touchDev.inst = s.inst := by rw [State.touchDev]; exact State.touch_inst ..
@[simp] theorem State.touchDev_twin (s : State) : s.touchDev.twin = s.twin := by rw [State.touchDev]; exact State.touch_twin ..
@[simp] theorem State.touchDev_prot (s : State) : s.touchDev.prot = s.prot := by rw [State.touchDev]; exact State.touch_prot ..
@[simp] theorem State.touchDev_rng (s : State) : s.touchDev.rng = s.rng := by rw [State.touchDev]; exact State.touch_rng ..
@[simp] theorem State.touchDev_card (s : State) : s.touchDev.card = s.card := by rw [State.touchDev]; exact State.touch_card ..
@[simp] theorem State.touchDev_fab (s : State) : s.touchDev.fab = s.fab := by rw [State.touchDev]; exact State.touch_fab ..

/-! `modInst` changes `inst`. -/

@[simp] theorem State.modInst_inst (i : Nat) (f : Inst → Inst) (s : State) : (s.modInst i f).inst = s.inst.set i (f (s.inst.getD i {})) := rfl
@[simp] theorem State.modInst_pending (i : Nat) (f : Inst → Inst) (s : State) : (s.modInst i f).pending = s.pending := rfl
@[simp] theorem State.modInst_free (i : Nat) (f : Inst → Inst) (s : State) : (s.modInst i f).free = s.free := rfl
@[simp] theorem State.modInst_out (i : Nat) (f : Inst → Inst) (s : State) : (s.modInst i f).out = s.out := rfl
@[simp] theorem State.modInst_fuses (i : Nat) (f : Inst → Inst) (s : State) : (s.modInst i f).fuses = s.fuses := rfl
@[simp] theorem State.modInst_bat (i : Nat) (f : Inst → Inst) (s : State) : (s.modInst i f).bat = s.bat := rfl
@[simp] theorem State.modInst_flash (i : Nat) (f : Inst → Inst) (s : State) : (s.modInst i f).flash = s.flash := rfl
@[simp] theorem State.modInst_ledger (i : Nat) (f : Inst → Inst) (s : State) : (s.modInst i f).ledger = s.ledger := rfl
@[simp] theorem State.modInst_dev (i : Nat) (f : Inst → Inst) (s : State) : (s.modInst i f).dev = s.dev := rfl
@[simp] theorem State.modInst_pcie (i : Nat) (f : Inst → Inst) (s : State) : (s.modInst i f).pcie = s.pcie := rfl
@[simp] theorem State.modInst_tick (i : Nat) (f : Inst → Inst) (s : State) : (s.modInst i f).tick = s.tick := rfl
@[simp] theorem State.modInst_mgmt (i : Nat) (f : Inst → Inst) (s : State) : (s.modInst i f).mgmt = s.mgmt := rfl
@[simp] theorem State.modInst_regs (i : Nat) (f : Inst → Inst) (s : State) : (s.modInst i f).regs = s.regs := rfl
@[simp] theorem State.modInst_errPending (i : Nat) (f : Inst → Inst) (s : State) : (s.modInst i f).errPending = s.errPending := rfl
@[simp] theorem State.modInst_errCode (i : Nat) (f : Inst → Inst) (s : State) : (s.modInst i f).errCode = s.errCode := rfl
@[simp] theorem State.modInst_errNew (i : Nat) (f : Inst → Inst) (s : State) : (s.modInst i f).errNew = s.errNew := rfl
@[simp] theorem State.modInst_drec (i : Nat) (f : Inst → Inst) (s : State) : (s.modInst i f).drec = s.drec := rfl
@[simp] theorem State.modInst_ks (i : Nat) (f : Inst → Inst) (s : State) : (s.modInst i f).ks = s.ks := rfl
@[simp] theorem State.modInst_last (i : Nat) (f : Inst → Inst) (s : State) : (s.modInst i f).last = s.last := rfl
@[simp] theorem State.modInst_disp (i : Nat) (f : Inst → Inst) (s : State) : (s.modInst i f).disp = s.disp := rfl
@[simp] theorem State.modInst_ports (i : Nat) (f : Inst → Inst) (s : State) : (s.modInst i f).ports = s.ports := rfl
@[simp] theorem State.modInst_sess (i : Nat) (f : Inst → Inst) (s : State) : (s.modInst i f).sess = s.sess := rfl
@[simp] theorem State.modInst_queues (i : Nat) (f : Inst → Inst) (s : State) : (s.modInst i f).queues = s.queues := rfl
@[simp] theorem State.modInst_eng (i : Nat) (f : Inst → Inst) (s : State) : (s.modInst i f).eng = s.eng := rfl
@[simp] theorem State.modInst_kum (i : Nat) (f : Inst → Inst) (s : State) : (s.modInst i f).kum = s.kum := rfl
@[simp] theorem State.modInst_twin (i : Nat) (f : Inst → Inst) (s : State) : (s.modInst i f).twin = s.twin := rfl
@[simp] theorem State.modInst_prot (i : Nat) (f : Inst → Inst) (s : State) : (s.modInst i f).prot = s.prot := rfl
@[simp] theorem State.modInst_rng (i : Nat) (f : Inst → Inst) (s : State) : (s.modInst i f).rng = s.rng := rfl
@[simp] theorem State.modInst_card (i : Nat) (f : Inst → Inst) (s : State) : (s.modInst i f).card = s.card := rfl
@[simp] theorem State.modInst_fab (i : Nat) (f : Inst → Inst) (s : State) : (s.modInst i f).fab = s.fab := rfl

/-! `journal` changes `ks`. -/

@[simp] theorem State.journal_ks (d : Delta) (s : State) : (s.journal d).ks = { s.ks with journal := s.ks.journal ++ [d], fill := min (s.ks.fill + 1) 100 } := rfl
@[simp] theorem State.journal_pending (d : Delta) (s : State) : (s.journal d).pending = s.pending := rfl
@[simp] theorem State.journal_free (d : Delta) (s : State) : (s.journal d).free = s.free := rfl
@[simp] theorem State.journal_out (d : Delta) (s : State) : (s.journal d).out = s.out := rfl
@[simp] theorem State.journal_fuses (d : Delta) (s : State) : (s.journal d).fuses = s.fuses := rfl
@[simp] theorem State.journal_bat (d : Delta) (s : State) : (s.journal d).bat = s.bat := rfl
@[simp] theorem State.journal_flash (d : Delta) (s : State) : (s.journal d).flash = s.flash := rfl
@[simp] theorem State.journal_ledger (d : Delta) (s : State) : (s.journal d).ledger = s.ledger := rfl
@[simp] theorem State.journal_dev (d : Delta) (s : State) : (s.journal d).dev = s.dev := rfl
@[simp] theorem State.journal_pcie (d : Delta) (s : State) : (s.journal d).pcie = s.pcie := rfl
@[simp] theorem State.journal_tick (d : Delta) (s : State) : (s.journal d).tick = s.tick := rfl
@[simp] theorem State.journal_mgmt (d : Delta) (s : State) : (s.journal d).mgmt = s.mgmt := rfl
@[simp] theorem State.journal_regs (d : Delta) (s : State) : (s.journal d).regs = s.regs := rfl
@[simp] theorem State.journal_errPending (d : Delta) (s : State) : (s.journal d).errPending = s.errPending := rfl
@[simp] theorem State.journal_errCode (d : Delta) (s : State) : (s.journal d).errCode = s.errCode := rfl
@[simp] theorem State.journal_errNew (d : Delta) (s : State) : (s.journal d).errNew = s.errNew := rfl
@[simp] theorem State.journal_drec (d : Delta) (s : State) : (s.journal d).drec = s.drec := rfl
@[simp] theorem State.journal_last (d : Delta) (s : State) : (s.journal d).last = s.last := rfl
@[simp] theorem State.journal_disp (d : Delta) (s : State) : (s.journal d).disp = s.disp := rfl
@[simp] theorem State.journal_ports (d : Delta) (s : State) : (s.journal d).ports = s.ports := rfl
@[simp] theorem State.journal_sess (d : Delta) (s : State) : (s.journal d).sess = s.sess := rfl
@[simp] theorem State.journal_queues (d : Delta) (s : State) : (s.journal d).queues = s.queues := rfl
@[simp] theorem State.journal_eng (d : Delta) (s : State) : (s.journal d).eng = s.eng := rfl
@[simp] theorem State.journal_kum (d : Delta) (s : State) : (s.journal d).kum = s.kum := rfl
@[simp] theorem State.journal_inst (d : Delta) (s : State) : (s.journal d).inst = s.inst := rfl
@[simp] theorem State.journal_twin (d : Delta) (s : State) : (s.journal d).twin = s.twin := rfl
@[simp] theorem State.journal_prot (d : Delta) (s : State) : (s.journal d).prot = s.prot := rfl
@[simp] theorem State.journal_rng (d : Delta) (s : State) : (s.journal d).rng = s.rng := rfl
@[simp] theorem State.journal_card (d : Delta) (s : State) : (s.journal d).card = s.card := rfl
@[simp] theorem State.journal_fab (d : Delta) (s : State) : (s.journal d).fab = s.fab := rfl

/-! `saveInst` changes `ks`. -/

@[simp] theorem State.saveInst_pending (i : Nat) (s : State) : (s.saveInst i).pending = s.pending := by rw [State.saveInst]; exact State.journal_pending ..
@[simp] theorem State.saveInst_free (i : Nat) (s : State) : (s.saveInst i).free = s.free := by rw [State.saveInst]; exact State.journal_free ..
@[simp] theorem State.saveInst_out (i : Nat) (s : State) : (s.saveInst i).out = s.out := by rw [State.saveInst]; exact State.journal_out ..
@[simp] theorem State.saveInst_fuses (i : Nat) (s : State) : (s.saveInst i).fuses = s.fuses := by rw [State.saveInst]; exact State.journal_fuses ..
@[simp] theorem State.saveInst_bat (i : Nat) (s : State) : (s.saveInst i).bat = s.bat := by rw [State.saveInst]; exact State.journal_bat ..
@[simp] theorem State.saveInst_flash (i : Nat) (s : State) : (s.saveInst i).flash = s.flash := by rw [State.saveInst]; exact State.journal_flash ..
@[simp] theorem State.saveInst_ledger (i : Nat) (s : State) : (s.saveInst i).ledger = s.ledger := by rw [State.saveInst]; exact State.journal_ledger ..
@[simp] theorem State.saveInst_dev (i : Nat) (s : State) : (s.saveInst i).dev = s.dev := by rw [State.saveInst]; exact State.journal_dev ..
@[simp] theorem State.saveInst_pcie (i : Nat) (s : State) : (s.saveInst i).pcie = s.pcie := by rw [State.saveInst]; exact State.journal_pcie ..
@[simp] theorem State.saveInst_tick (i : Nat) (s : State) : (s.saveInst i).tick = s.tick := by rw [State.saveInst]; exact State.journal_tick ..
@[simp] theorem State.saveInst_mgmt (i : Nat) (s : State) : (s.saveInst i).mgmt = s.mgmt := by rw [State.saveInst]; exact State.journal_mgmt ..
@[simp] theorem State.saveInst_regs (i : Nat) (s : State) : (s.saveInst i).regs = s.regs := by rw [State.saveInst]; exact State.journal_regs ..
@[simp] theorem State.saveInst_errPending (i : Nat) (s : State) : (s.saveInst i).errPending = s.errPending := by rw [State.saveInst]; exact State.journal_errPending ..
@[simp] theorem State.saveInst_errCode (i : Nat) (s : State) : (s.saveInst i).errCode = s.errCode := by rw [State.saveInst]; exact State.journal_errCode ..
@[simp] theorem State.saveInst_errNew (i : Nat) (s : State) : (s.saveInst i).errNew = s.errNew := by rw [State.saveInst]; exact State.journal_errNew ..
@[simp] theorem State.saveInst_drec (i : Nat) (s : State) : (s.saveInst i).drec = s.drec := by rw [State.saveInst]; exact State.journal_drec ..
@[simp] theorem State.saveInst_last (i : Nat) (s : State) : (s.saveInst i).last = s.last := by rw [State.saveInst]; exact State.journal_last ..
@[simp] theorem State.saveInst_disp (i : Nat) (s : State) : (s.saveInst i).disp = s.disp := by rw [State.saveInst]; exact State.journal_disp ..
@[simp] theorem State.saveInst_ports (i : Nat) (s : State) : (s.saveInst i).ports = s.ports := by rw [State.saveInst]; exact State.journal_ports ..
@[simp] theorem State.saveInst_sess (i : Nat) (s : State) : (s.saveInst i).sess = s.sess := by rw [State.saveInst]; exact State.journal_sess ..
@[simp] theorem State.saveInst_queues (i : Nat) (s : State) : (s.saveInst i).queues = s.queues := by rw [State.saveInst]; exact State.journal_queues ..
@[simp] theorem State.saveInst_eng (i : Nat) (s : State) : (s.saveInst i).eng = s.eng := by rw [State.saveInst]; exact State.journal_eng ..
@[simp] theorem State.saveInst_kum (i : Nat) (s : State) : (s.saveInst i).kum = s.kum := by rw [State.saveInst]; exact State.journal_kum ..
@[simp] theorem State.saveInst_inst (i : Nat) (s : State) : (s.saveInst i).inst = s.inst := by rw [State.saveInst]; exact State.journal_inst ..
@[simp] theorem State.saveInst_twin (i : Nat) (s : State) : (s.saveInst i).twin = s.twin := by rw [State.saveInst]; exact State.journal_twin ..
@[simp] theorem State.saveInst_prot (i : Nat) (s : State) : (s.saveInst i).prot = s.prot := by rw [State.saveInst]; exact State.journal_prot ..
@[simp] theorem State.saveInst_rng (i : Nat) (s : State) : (s.saveInst i).rng = s.rng := by rw [State.saveInst]; exact State.journal_rng ..
@[simp] theorem State.saveInst_card (i : Nat) (s : State) : (s.saveInst i).card = s.card := by rw [State.saveInst]; exact State.journal_card ..
@[simp] theorem State.saveInst_fab (i : Nat) (s : State) : (s.saveInst i).fab = s.fab := by rw [State.saveInst]; exact State.journal_fab ..

/-! `saveDev` changes `ks`. -/

@[simp] theorem State.saveDev_pending (s : State) : s.saveDev.pending = s.pending := by rw [State.saveDev]; exact State.journal_pending ..
@[simp] theorem State.saveDev_free (s : State) : s.saveDev.free = s.free := by rw [State.saveDev]; exact State.journal_free ..
@[simp] theorem State.saveDev_out (s : State) : s.saveDev.out = s.out := by rw [State.saveDev]; exact State.journal_out ..
@[simp] theorem State.saveDev_fuses (s : State) : s.saveDev.fuses = s.fuses := by rw [State.saveDev]; exact State.journal_fuses ..
@[simp] theorem State.saveDev_bat (s : State) : s.saveDev.bat = s.bat := by rw [State.saveDev]; exact State.journal_bat ..
@[simp] theorem State.saveDev_flash (s : State) : s.saveDev.flash = s.flash := by rw [State.saveDev]; exact State.journal_flash ..
@[simp] theorem State.saveDev_ledger (s : State) : s.saveDev.ledger = s.ledger := by rw [State.saveDev]; exact State.journal_ledger ..
@[simp] theorem State.saveDev_dev (s : State) : s.saveDev.dev = s.dev := by rw [State.saveDev]; exact State.journal_dev ..
@[simp] theorem State.saveDev_pcie (s : State) : s.saveDev.pcie = s.pcie := by rw [State.saveDev]; exact State.journal_pcie ..
@[simp] theorem State.saveDev_tick (s : State) : s.saveDev.tick = s.tick := by rw [State.saveDev]; exact State.journal_tick ..
@[simp] theorem State.saveDev_mgmt (s : State) : s.saveDev.mgmt = s.mgmt := by rw [State.saveDev]; exact State.journal_mgmt ..
@[simp] theorem State.saveDev_regs (s : State) : s.saveDev.regs = s.regs := by rw [State.saveDev]; exact State.journal_regs ..
@[simp] theorem State.saveDev_errPending (s : State) : s.saveDev.errPending = s.errPending := by rw [State.saveDev]; exact State.journal_errPending ..
@[simp] theorem State.saveDev_errCode (s : State) : s.saveDev.errCode = s.errCode := by rw [State.saveDev]; exact State.journal_errCode ..
@[simp] theorem State.saveDev_errNew (s : State) : s.saveDev.errNew = s.errNew := by rw [State.saveDev]; exact State.journal_errNew ..
@[simp] theorem State.saveDev_drec (s : State) : s.saveDev.drec = s.drec := by rw [State.saveDev]; exact State.journal_drec ..
@[simp] theorem State.saveDev_last (s : State) : s.saveDev.last = s.last := by rw [State.saveDev]; exact State.journal_last ..
@[simp] theorem State.saveDev_disp (s : State) : s.saveDev.disp = s.disp := by rw [State.saveDev]; exact State.journal_disp ..
@[simp] theorem State.saveDev_ports (s : State) : s.saveDev.ports = s.ports := by rw [State.saveDev]; exact State.journal_ports ..
@[simp] theorem State.saveDev_sess (s : State) : s.saveDev.sess = s.sess := by rw [State.saveDev]; exact State.journal_sess ..
@[simp] theorem State.saveDev_queues (s : State) : s.saveDev.queues = s.queues := by rw [State.saveDev]; exact State.journal_queues ..
@[simp] theorem State.saveDev_eng (s : State) : s.saveDev.eng = s.eng := by rw [State.saveDev]; exact State.journal_eng ..
@[simp] theorem State.saveDev_kum (s : State) : s.saveDev.kum = s.kum := by rw [State.saveDev]; exact State.journal_kum ..
@[simp] theorem State.saveDev_inst (s : State) : s.saveDev.inst = s.inst := by rw [State.saveDev]; exact State.journal_inst ..
@[simp] theorem State.saveDev_twin (s : State) : s.saveDev.twin = s.twin := by rw [State.saveDev]; exact State.journal_twin ..
@[simp] theorem State.saveDev_prot (s : State) : s.saveDev.prot = s.prot := by rw [State.saveDev]; exact State.journal_prot ..
@[simp] theorem State.saveDev_rng (s : State) : s.saveDev.rng = s.rng := by rw [State.saveDev]; exact State.journal_rng ..
@[simp] theorem State.saveDev_card (s : State) : s.saveDev.card = s.card := by rw [State.saveDev]; exact State.journal_card ..
@[simp] theorem State.saveDev_fab (s : State) : s.saveDev.fab = s.fab := by rw [State.saveDev]; exact State.journal_fab ..

/-! `setCopy` changes `flash`. -/

@[simp] theorem State.setCopy_pending (c : Copy) (s : State) : (s.setCopy c).pending = s.pending := rfl
@[simp] theorem State.setCopy_free (c : Copy) (s : State) : (s.setCopy c).free = s.free := rfl
@[simp] theorem State.setCopy_out (c : Copy) (s : State) : (s.setCopy c).out = s.out := rfl
@[simp] theorem State.setCopy_fuses (c : Copy) (s : State) : (s.setCopy c).fuses = s.fuses := rfl
@[simp] theorem State.setCopy_bat (c : Copy) (s : State) : (s.setCopy c).bat = s.bat := rfl
@[simp] theorem State.setCopy_ledger (c : Copy) (s : State) : (s.setCopy c).ledger = s.ledger := rfl
@[simp] theorem State.setCopy_dev (c : Copy) (s : State) : (s.setCopy c).dev = s.dev := rfl
@[simp] theorem State.setCopy_pcie (c : Copy) (s : State) : (s.setCopy c).pcie = s.pcie := rfl
@[simp] theorem State.setCopy_tick (c : Copy) (s : State) : (s.setCopy c).tick = s.tick := rfl
@[simp] theorem State.setCopy_mgmt (c : Copy) (s : State) : (s.setCopy c).mgmt = s.mgmt := rfl
@[simp] theorem State.setCopy_regs (c : Copy) (s : State) : (s.setCopy c).regs = s.regs := rfl
@[simp] theorem State.setCopy_errPending (c : Copy) (s : State) : (s.setCopy c).errPending = s.errPending := rfl
@[simp] theorem State.setCopy_errCode (c : Copy) (s : State) : (s.setCopy c).errCode = s.errCode := rfl
@[simp] theorem State.setCopy_errNew (c : Copy) (s : State) : (s.setCopy c).errNew = s.errNew := rfl
@[simp] theorem State.setCopy_drec (c : Copy) (s : State) : (s.setCopy c).drec = s.drec := rfl
@[simp] theorem State.setCopy_ks (c : Copy) (s : State) : (s.setCopy c).ks = s.ks := rfl
@[simp] theorem State.setCopy_last (c : Copy) (s : State) : (s.setCopy c).last = s.last := rfl
@[simp] theorem State.setCopy_disp (c : Copy) (s : State) : (s.setCopy c).disp = s.disp := rfl
@[simp] theorem State.setCopy_ports (c : Copy) (s : State) : (s.setCopy c).ports = s.ports := rfl
@[simp] theorem State.setCopy_sess (c : Copy) (s : State) : (s.setCopy c).sess = s.sess := rfl
@[simp] theorem State.setCopy_queues (c : Copy) (s : State) : (s.setCopy c).queues = s.queues := rfl
@[simp] theorem State.setCopy_eng (c : Copy) (s : State) : (s.setCopy c).eng = s.eng := rfl
@[simp] theorem State.setCopy_kum (c : Copy) (s : State) : (s.setCopy c).kum = s.kum := rfl
@[simp] theorem State.setCopy_inst (c : Copy) (s : State) : (s.setCopy c).inst = s.inst := rfl
@[simp] theorem State.setCopy_twin (c : Copy) (s : State) : (s.setCopy c).twin = s.twin := rfl
@[simp] theorem State.setCopy_prot (c : Copy) (s : State) : (s.setCopy c).prot = s.prot := rfl
@[simp] theorem State.setCopy_rng (c : Copy) (s : State) : (s.setCopy c).rng = s.rng := rfl
@[simp] theorem State.setCopy_card (c : Copy) (s : State) : (s.setCopy c).card = s.card := rfl
@[simp] theorem State.setCopy_fab (c : Copy) (s : State) : (s.setCopy c).fab = s.fab := rfl

/-! `commitNow` changes `flash`. -/

@[simp] theorem State.commitNow_pending (ds : List Delta) (s : State) : (s.commitNow ds).pending = s.pending := by rw [State.commitNow]; exact State.setCopy_pending ..
@[simp] theorem State.commitNow_free (ds : List Delta) (s : State) : (s.commitNow ds).free = s.free := by rw [State.commitNow]; exact State.setCopy_free ..
@[simp] theorem State.commitNow_out (ds : List Delta) (s : State) : (s.commitNow ds).out = s.out := by rw [State.commitNow]; exact State.setCopy_out ..
@[simp] theorem State.commitNow_fuses (ds : List Delta) (s : State) : (s.commitNow ds).fuses = s.fuses := by rw [State.commitNow]; exact State.setCopy_fuses ..
@[simp] theorem State.commitNow_bat (ds : List Delta) (s : State) : (s.commitNow ds).bat = s.bat := by rw [State.commitNow]; exact State.setCopy_bat ..
@[simp] theorem State.commitNow_ledger (ds : List Delta) (s : State) : (s.commitNow ds).ledger = s.ledger := by rw [State.commitNow]; exact State.setCopy_ledger ..
@[simp] theorem State.commitNow_dev (ds : List Delta) (s : State) : (s.commitNow ds).dev = s.dev := by rw [State.commitNow]; exact State.setCopy_dev ..
@[simp] theorem State.commitNow_pcie (ds : List Delta) (s : State) : (s.commitNow ds).pcie = s.pcie := by rw [State.commitNow]; exact State.setCopy_pcie ..
@[simp] theorem State.commitNow_tick (ds : List Delta) (s : State) : (s.commitNow ds).tick = s.tick := by rw [State.commitNow]; exact State.setCopy_tick ..
@[simp] theorem State.commitNow_mgmt (ds : List Delta) (s : State) : (s.commitNow ds).mgmt = s.mgmt := by rw [State.commitNow]; exact State.setCopy_mgmt ..
@[simp] theorem State.commitNow_regs (ds : List Delta) (s : State) : (s.commitNow ds).regs = s.regs := by rw [State.commitNow]; exact State.setCopy_regs ..
@[simp] theorem State.commitNow_errPending (ds : List Delta) (s : State) : (s.commitNow ds).errPending = s.errPending := by rw [State.commitNow]; exact State.setCopy_errPending ..
@[simp] theorem State.commitNow_errCode (ds : List Delta) (s : State) : (s.commitNow ds).errCode = s.errCode := by rw [State.commitNow]; exact State.setCopy_errCode ..
@[simp] theorem State.commitNow_errNew (ds : List Delta) (s : State) : (s.commitNow ds).errNew = s.errNew := by rw [State.commitNow]; exact State.setCopy_errNew ..
@[simp] theorem State.commitNow_drec (ds : List Delta) (s : State) : (s.commitNow ds).drec = s.drec := by rw [State.commitNow]; exact State.setCopy_drec ..
@[simp] theorem State.commitNow_ks (ds : List Delta) (s : State) : (s.commitNow ds).ks = s.ks := by rw [State.commitNow]; exact State.setCopy_ks ..
@[simp] theorem State.commitNow_last (ds : List Delta) (s : State) : (s.commitNow ds).last = s.last := by rw [State.commitNow]; exact State.setCopy_last ..
@[simp] theorem State.commitNow_disp (ds : List Delta) (s : State) : (s.commitNow ds).disp = s.disp := by rw [State.commitNow]; exact State.setCopy_disp ..
@[simp] theorem State.commitNow_ports (ds : List Delta) (s : State) : (s.commitNow ds).ports = s.ports := by rw [State.commitNow]; exact State.setCopy_ports ..
@[simp] theorem State.commitNow_sess (ds : List Delta) (s : State) : (s.commitNow ds).sess = s.sess := by rw [State.commitNow]; exact State.setCopy_sess ..
@[simp] theorem State.commitNow_queues (ds : List Delta) (s : State) : (s.commitNow ds).queues = s.queues := by rw [State.commitNow]; exact State.setCopy_queues ..
@[simp] theorem State.commitNow_eng (ds : List Delta) (s : State) : (s.commitNow ds).eng = s.eng := by rw [State.commitNow]; exact State.setCopy_eng ..
@[simp] theorem State.commitNow_kum (ds : List Delta) (s : State) : (s.commitNow ds).kum = s.kum := by rw [State.commitNow]; exact State.setCopy_kum ..
@[simp] theorem State.commitNow_inst (ds : List Delta) (s : State) : (s.commitNow ds).inst = s.inst := by rw [State.commitNow]; exact State.setCopy_inst ..
@[simp] theorem State.commitNow_twin (ds : List Delta) (s : State) : (s.commitNow ds).twin = s.twin := by rw [State.commitNow]; exact State.setCopy_twin ..
@[simp] theorem State.commitNow_prot (ds : List Delta) (s : State) : (s.commitNow ds).prot = s.prot := by rw [State.commitNow]; exact State.setCopy_prot ..
@[simp] theorem State.commitNow_rng (ds : List Delta) (s : State) : (s.commitNow ds).rng = s.rng := by rw [State.commitNow]; exact State.setCopy_rng ..
@[simp] theorem State.commitNow_card (ds : List Delta) (s : State) : (s.commitNow ds).card = s.card := by rw [State.commitNow]; exact State.setCopy_card ..
@[simp] theorem State.commitNow_fab (ds : List Delta) (s : State) : (s.commitNow ds).fab = s.fab := by rw [State.commitNow]; exact State.setCopy_fab ..

/-! `charge` changes `inst`. -/

@[simp] theorem State.charge_pending (i cipher field pk : Nat) (s : State) : (s.charge i cipher field pk).pending = s.pending := by rw [State.charge]; exact State.modInst_pending ..
@[simp] theorem State.charge_free (i cipher field pk : Nat) (s : State) : (s.charge i cipher field pk).free = s.free := by rw [State.charge]; exact State.modInst_free ..
@[simp] theorem State.charge_out (i cipher field pk : Nat) (s : State) : (s.charge i cipher field pk).out = s.out := by rw [State.charge]; exact State.modInst_out ..
@[simp] theorem State.charge_fuses (i cipher field pk : Nat) (s : State) : (s.charge i cipher field pk).fuses = s.fuses := by rw [State.charge]; exact State.modInst_fuses ..
@[simp] theorem State.charge_bat (i cipher field pk : Nat) (s : State) : (s.charge i cipher field pk).bat = s.bat := by rw [State.charge]; exact State.modInst_bat ..
@[simp] theorem State.charge_flash (i cipher field pk : Nat) (s : State) : (s.charge i cipher field pk).flash = s.flash := by rw [State.charge]; exact State.modInst_flash ..
@[simp] theorem State.charge_ledger (i cipher field pk : Nat) (s : State) : (s.charge i cipher field pk).ledger = s.ledger := by rw [State.charge]; exact State.modInst_ledger ..
@[simp] theorem State.charge_dev (i cipher field pk : Nat) (s : State) : (s.charge i cipher field pk).dev = s.dev := by rw [State.charge]; exact State.modInst_dev ..
@[simp] theorem State.charge_pcie (i cipher field pk : Nat) (s : State) : (s.charge i cipher field pk).pcie = s.pcie := by rw [State.charge]; exact State.modInst_pcie ..
@[simp] theorem State.charge_tick (i cipher field pk : Nat) (s : State) : (s.charge i cipher field pk).tick = s.tick := by rw [State.charge]; exact State.modInst_tick ..
@[simp] theorem State.charge_mgmt (i cipher field pk : Nat) (s : State) : (s.charge i cipher field pk).mgmt = s.mgmt := by rw [State.charge]; exact State.modInst_mgmt ..
@[simp] theorem State.charge_regs (i cipher field pk : Nat) (s : State) : (s.charge i cipher field pk).regs = s.regs := by rw [State.charge]; exact State.modInst_regs ..
@[simp] theorem State.charge_errPending (i cipher field pk : Nat) (s : State) : (s.charge i cipher field pk).errPending = s.errPending := by rw [State.charge]; exact State.modInst_errPending ..
@[simp] theorem State.charge_errCode (i cipher field pk : Nat) (s : State) : (s.charge i cipher field pk).errCode = s.errCode := by rw [State.charge]; exact State.modInst_errCode ..
@[simp] theorem State.charge_errNew (i cipher field pk : Nat) (s : State) : (s.charge i cipher field pk).errNew = s.errNew := by rw [State.charge]; exact State.modInst_errNew ..
@[simp] theorem State.charge_drec (i cipher field pk : Nat) (s : State) : (s.charge i cipher field pk).drec = s.drec := by rw [State.charge]; exact State.modInst_drec ..
@[simp] theorem State.charge_ks (i cipher field pk : Nat) (s : State) : (s.charge i cipher field pk).ks = s.ks := by rw [State.charge]; exact State.modInst_ks ..
@[simp] theorem State.charge_last (i cipher field pk : Nat) (s : State) : (s.charge i cipher field pk).last = s.last := by rw [State.charge]; exact State.modInst_last ..
@[simp] theorem State.charge_disp (i cipher field pk : Nat) (s : State) : (s.charge i cipher field pk).disp = s.disp := by rw [State.charge]; exact State.modInst_disp ..
@[simp] theorem State.charge_ports (i cipher field pk : Nat) (s : State) : (s.charge i cipher field pk).ports = s.ports := by rw [State.charge]; exact State.modInst_ports ..
@[simp] theorem State.charge_sess (i cipher field pk : Nat) (s : State) : (s.charge i cipher field pk).sess = s.sess := by rw [State.charge]; exact State.modInst_sess ..
@[simp] theorem State.charge_queues (i cipher field pk : Nat) (s : State) : (s.charge i cipher field pk).queues = s.queues := by rw [State.charge]; exact State.modInst_queues ..
@[simp] theorem State.charge_eng (i cipher field pk : Nat) (s : State) : (s.charge i cipher field pk).eng = s.eng := by rw [State.charge]; exact State.modInst_eng ..
@[simp] theorem State.charge_kum (i cipher field pk : Nat) (s : State) : (s.charge i cipher field pk).kum = s.kum := by rw [State.charge]; exact State.modInst_kum ..
@[simp] theorem State.charge_twin (i cipher field pk : Nat) (s : State) : (s.charge i cipher field pk).twin = s.twin := by rw [State.charge]; exact State.modInst_twin ..
@[simp] theorem State.charge_prot (i cipher field pk : Nat) (s : State) : (s.charge i cipher field pk).prot = s.prot := by rw [State.charge]; exact State.modInst_prot ..
@[simp] theorem State.charge_rng (i cipher field pk : Nat) (s : State) : (s.charge i cipher field pk).rng = s.rng := by rw [State.charge]; exact State.modInst_rng ..
@[simp] theorem State.charge_card (i cipher field pk : Nat) (s : State) : (s.charge i cipher field pk).card = s.card := by rw [State.charge]; exact State.modInst_card ..
@[simp] theorem State.charge_fab (i cipher field pk : Nat) (s : State) : (s.charge i cipher field pk).fab = s.fab := by rw [State.charge]; exact State.modInst_fab ..

/-! `modItem` changes `disp`. -/

@[simp] theorem State.modItem_disp (n : Nat) (f : Item → Item) (s : State) : (s.modItem n f).disp = { s.disp with items := s.disp.items.modify n f } := rfl
@[simp] theorem State.modItem_pending (n : Nat) (f : Item → Item) (s : State) : (s.modItem n f).pending = s.pending := rfl
@[simp] theorem State.modItem_free (n : Nat) (f : Item → Item) (s : State) : (s.modItem n f).free = s.free := rfl
@[simp] theorem State.modItem_out (n : Nat) (f : Item → Item) (s : State) : (s.modItem n f).out = s.out := rfl
@[simp] theorem State.modItem_fuses (n : Nat) (f : Item → Item) (s : State) : (s.modItem n f).fuses = s.fuses := rfl
@[simp] theorem State.modItem_bat (n : Nat) (f : Item → Item) (s : State) : (s.modItem n f).bat = s.bat := rfl
@[simp] theorem State.modItem_flash (n : Nat) (f : Item → Item) (s : State) : (s.modItem n f).flash = s.flash := rfl
@[simp] theorem State.modItem_ledger (n : Nat) (f : Item → Item) (s : State) : (s.modItem n f).ledger = s.ledger := rfl
@[simp] theorem State.modItem_dev (n : Nat) (f : Item → Item) (s : State) : (s.modItem n f).dev = s.dev := rfl
@[simp] theorem State.modItem_pcie (n : Nat) (f : Item → Item) (s : State) : (s.modItem n f).pcie = s.pcie := rfl
@[simp] theorem State.modItem_tick (n : Nat) (f : Item → Item) (s : State) : (s.modItem n f).tick = s.tick := rfl
@[simp] theorem State.modItem_mgmt (n : Nat) (f : Item → Item) (s : State) : (s.modItem n f).mgmt = s.mgmt := rfl
@[simp] theorem State.modItem_regs (n : Nat) (f : Item → Item) (s : State) : (s.modItem n f).regs = s.regs := rfl
@[simp] theorem State.modItem_errPending (n : Nat) (f : Item → Item) (s : State) : (s.modItem n f).errPending = s.errPending := rfl
@[simp] theorem State.modItem_errCode (n : Nat) (f : Item → Item) (s : State) : (s.modItem n f).errCode = s.errCode := rfl
@[simp] theorem State.modItem_errNew (n : Nat) (f : Item → Item) (s : State) : (s.modItem n f).errNew = s.errNew := rfl
@[simp] theorem State.modItem_drec (n : Nat) (f : Item → Item) (s : State) : (s.modItem n f).drec = s.drec := rfl
@[simp] theorem State.modItem_ks (n : Nat) (f : Item → Item) (s : State) : (s.modItem n f).ks = s.ks := rfl
@[simp] theorem State.modItem_last (n : Nat) (f : Item → Item) (s : State) : (s.modItem n f).last = s.last := rfl
@[simp] theorem State.modItem_ports (n : Nat) (f : Item → Item) (s : State) : (s.modItem n f).ports = s.ports := rfl
@[simp] theorem State.modItem_sess (n : Nat) (f : Item → Item) (s : State) : (s.modItem n f).sess = s.sess := rfl
@[simp] theorem State.modItem_queues (n : Nat) (f : Item → Item) (s : State) : (s.modItem n f).queues = s.queues := rfl
@[simp] theorem State.modItem_eng (n : Nat) (f : Item → Item) (s : State) : (s.modItem n f).eng = s.eng := rfl
@[simp] theorem State.modItem_kum (n : Nat) (f : Item → Item) (s : State) : (s.modItem n f).kum = s.kum := rfl
@[simp] theorem State.modItem_inst (n : Nat) (f : Item → Item) (s : State) : (s.modItem n f).inst = s.inst := rfl
@[simp] theorem State.modItem_twin (n : Nat) (f : Item → Item) (s : State) : (s.modItem n f).twin = s.twin := rfl
@[simp] theorem State.modItem_prot (n : Nat) (f : Item → Item) (s : State) : (s.modItem n f).prot = s.prot := rfl
@[simp] theorem State.modItem_rng (n : Nat) (f : Item → Item) (s : State) : (s.modItem n f).rng = s.rng := rfl
@[simp] theorem State.modItem_card (n : Nat) (f : Item → Item) (s : State) : (s.modItem n f).card = s.card := rfl
@[simp] theorem State.modItem_fab (n : Nat) (f : Item → Item) (s : State) : (s.modItem n f).fab = s.fab := rfl

/-! `takeOrder` changes `disp`. -/

@[simp] theorem State.takeOrder_disp (s : State) : s.takeOrder.disp = { s.disp with order := s.disp.order + 1 } := rfl
@[simp] theorem State.takeOrder_pending (s : State) : s.takeOrder.pending = s.pending := rfl
@[simp] theorem State.takeOrder_free (s : State) : s.takeOrder.free = s.free := rfl
@[simp] theorem State.takeOrder_out (s : State) : s.takeOrder.out = s.out := rfl
@[simp] theorem State.takeOrder_fuses (s : State) : s.takeOrder.fuses = s.fuses := rfl
@[simp] theorem State.takeOrder_bat (s : State) : s.takeOrder.bat = s.bat := rfl
@[simp] theorem State.takeOrder_flash (s : State) : s.takeOrder.flash = s.flash := rfl
@[simp] theorem State.takeOrder_ledger (s : State) : s.takeOrder.ledger = s.ledger := rfl
@[simp] theorem State.takeOrder_dev (s : State) : s.takeOrder.dev = s.dev := rfl
@[simp] theorem State.takeOrder_pcie (s : State) : s.takeOrder.pcie = s.pcie := rfl
@[simp] theorem State.takeOrder_tick (s : State) : s.takeOrder.tick = s.tick := rfl
@[simp] theorem State.takeOrder_mgmt (s : State) : s.takeOrder.mgmt = s.mgmt := rfl
@[simp] theorem State.takeOrder_regs (s : State) : s.takeOrder.regs = s.regs := rfl
@[simp] theorem State.takeOrder_errPending (s : State) : s.takeOrder.errPending = s.errPending := rfl
@[simp] theorem State.takeOrder_errCode (s : State) : s.takeOrder.errCode = s.errCode := rfl
@[simp] theorem State.takeOrder_errNew (s : State) : s.takeOrder.errNew = s.errNew := rfl
@[simp] theorem State.takeOrder_drec (s : State) : s.takeOrder.drec = s.drec := rfl
@[simp] theorem State.takeOrder_ks (s : State) : s.takeOrder.ks = s.ks := rfl
@[simp] theorem State.takeOrder_last (s : State) : s.takeOrder.last = s.last := rfl
@[simp] theorem State.takeOrder_ports (s : State) : s.takeOrder.ports = s.ports := rfl
@[simp] theorem State.takeOrder_sess (s : State) : s.takeOrder.sess = s.sess := rfl
@[simp] theorem State.takeOrder_queues (s : State) : s.takeOrder.queues = s.queues := rfl
@[simp] theorem State.takeOrder_eng (s : State) : s.takeOrder.eng = s.eng := rfl
@[simp] theorem State.takeOrder_kum (s : State) : s.takeOrder.kum = s.kum := rfl
@[simp] theorem State.takeOrder_inst (s : State) : s.takeOrder.inst = s.inst := rfl
@[simp] theorem State.takeOrder_twin (s : State) : s.takeOrder.twin = s.twin := rfl
@[simp] theorem State.takeOrder_prot (s : State) : s.takeOrder.prot = s.prot := rfl
@[simp] theorem State.takeOrder_rng (s : State) : s.takeOrder.rng = s.rng := rfl
@[simp] theorem State.takeOrder_card (s : State) : s.takeOrder.card = s.card := rfl
@[simp] theorem State.takeOrder_fab (s : State) : s.takeOrder.fab = s.fab := rfl

/-! `modFlow` changes `disp`. -/

@[simp] theorem State.modFlow_disp (f : Nat) (g : Flow → Flow) (s : State) : (s.modFlow f g).disp = { s.disp with flows := s.disp.flows.set f (g (s.flowOf f)) } := rfl
@[simp] theorem State.modFlow_pending (f : Nat) (g : Flow → Flow) (s : State) : (s.modFlow f g).pending = s.pending := rfl
@[simp] theorem State.modFlow_free (f : Nat) (g : Flow → Flow) (s : State) : (s.modFlow f g).free = s.free := rfl
@[simp] theorem State.modFlow_out (f : Nat) (g : Flow → Flow) (s : State) : (s.modFlow f g).out = s.out := rfl
@[simp] theorem State.modFlow_fuses (f : Nat) (g : Flow → Flow) (s : State) : (s.modFlow f g).fuses = s.fuses := rfl
@[simp] theorem State.modFlow_bat (f : Nat) (g : Flow → Flow) (s : State) : (s.modFlow f g).bat = s.bat := rfl
@[simp] theorem State.modFlow_flash (f : Nat) (g : Flow → Flow) (s : State) : (s.modFlow f g).flash = s.flash := rfl
@[simp] theorem State.modFlow_ledger (f : Nat) (g : Flow → Flow) (s : State) : (s.modFlow f g).ledger = s.ledger := rfl
@[simp] theorem State.modFlow_dev (f : Nat) (g : Flow → Flow) (s : State) : (s.modFlow f g).dev = s.dev := rfl
@[simp] theorem State.modFlow_pcie (f : Nat) (g : Flow → Flow) (s : State) : (s.modFlow f g).pcie = s.pcie := rfl
@[simp] theorem State.modFlow_tick (f : Nat) (g : Flow → Flow) (s : State) : (s.modFlow f g).tick = s.tick := rfl
@[simp] theorem State.modFlow_mgmt (f : Nat) (g : Flow → Flow) (s : State) : (s.modFlow f g).mgmt = s.mgmt := rfl
@[simp] theorem State.modFlow_regs (f : Nat) (g : Flow → Flow) (s : State) : (s.modFlow f g).regs = s.regs := rfl
@[simp] theorem State.modFlow_errPending (f : Nat) (g : Flow → Flow) (s : State) : (s.modFlow f g).errPending = s.errPending := rfl
@[simp] theorem State.modFlow_errCode (f : Nat) (g : Flow → Flow) (s : State) : (s.modFlow f g).errCode = s.errCode := rfl
@[simp] theorem State.modFlow_errNew (f : Nat) (g : Flow → Flow) (s : State) : (s.modFlow f g).errNew = s.errNew := rfl
@[simp] theorem State.modFlow_drec (f : Nat) (g : Flow → Flow) (s : State) : (s.modFlow f g).drec = s.drec := rfl
@[simp] theorem State.modFlow_ks (f : Nat) (g : Flow → Flow) (s : State) : (s.modFlow f g).ks = s.ks := rfl
@[simp] theorem State.modFlow_last (f : Nat) (g : Flow → Flow) (s : State) : (s.modFlow f g).last = s.last := rfl
@[simp] theorem State.modFlow_ports (f : Nat) (g : Flow → Flow) (s : State) : (s.modFlow f g).ports = s.ports := rfl
@[simp] theorem State.modFlow_sess (f : Nat) (g : Flow → Flow) (s : State) : (s.modFlow f g).sess = s.sess := rfl
@[simp] theorem State.modFlow_queues (f : Nat) (g : Flow → Flow) (s : State) : (s.modFlow f g).queues = s.queues := rfl
@[simp] theorem State.modFlow_eng (f : Nat) (g : Flow → Flow) (s : State) : (s.modFlow f g).eng = s.eng := rfl
@[simp] theorem State.modFlow_kum (f : Nat) (g : Flow → Flow) (s : State) : (s.modFlow f g).kum = s.kum := rfl
@[simp] theorem State.modFlow_inst (f : Nat) (g : Flow → Flow) (s : State) : (s.modFlow f g).inst = s.inst := rfl
@[simp] theorem State.modFlow_twin (f : Nat) (g : Flow → Flow) (s : State) : (s.modFlow f g).twin = s.twin := rfl
@[simp] theorem State.modFlow_prot (f : Nat) (g : Flow → Flow) (s : State) : (s.modFlow f g).prot = s.prot := rfl
@[simp] theorem State.modFlow_rng (f : Nat) (g : Flow → Flow) (s : State) : (s.modFlow f g).rng = s.rng := rfl
@[simp] theorem State.modFlow_card (f : Nat) (g : Flow → Flow) (s : State) : (s.modFlow f g).card = s.card := rfl
@[simp] theorem State.modFlow_fab (f : Nat) (g : Flow → Flow) (s : State) : (s.modFlow f g).fab = s.fab := rfl

/-! `park` changes `disp`. -/

@[simp] theorem State.park_pending (n mask : Nat) (s : State) : (s.park n mask).pending = s.pending := by rw [State.park]; exact State.modItem_pending ..
@[simp] theorem State.park_free (n mask : Nat) (s : State) : (s.park n mask).free = s.free := by rw [State.park]; exact State.modItem_free ..
@[simp] theorem State.park_out (n mask : Nat) (s : State) : (s.park n mask).out = s.out := by rw [State.park]; exact State.modItem_out ..
@[simp] theorem State.park_fuses (n mask : Nat) (s : State) : (s.park n mask).fuses = s.fuses := by rw [State.park]; exact State.modItem_fuses ..
@[simp] theorem State.park_bat (n mask : Nat) (s : State) : (s.park n mask).bat = s.bat := by rw [State.park]; exact State.modItem_bat ..
@[simp] theorem State.park_flash (n mask : Nat) (s : State) : (s.park n mask).flash = s.flash := by rw [State.park]; exact State.modItem_flash ..
@[simp] theorem State.park_ledger (n mask : Nat) (s : State) : (s.park n mask).ledger = s.ledger := by rw [State.park]; exact State.modItem_ledger ..
@[simp] theorem State.park_dev (n mask : Nat) (s : State) : (s.park n mask).dev = s.dev := by rw [State.park]; exact State.modItem_dev ..
@[simp] theorem State.park_pcie (n mask : Nat) (s : State) : (s.park n mask).pcie = s.pcie := by rw [State.park]; exact State.modItem_pcie ..
@[simp] theorem State.park_tick (n mask : Nat) (s : State) : (s.park n mask).tick = s.tick := by rw [State.park]; exact State.modItem_tick ..
@[simp] theorem State.park_mgmt (n mask : Nat) (s : State) : (s.park n mask).mgmt = s.mgmt := by rw [State.park]; exact State.modItem_mgmt ..
@[simp] theorem State.park_regs (n mask : Nat) (s : State) : (s.park n mask).regs = s.regs := by rw [State.park]; exact State.modItem_regs ..
@[simp] theorem State.park_errPending (n mask : Nat) (s : State) : (s.park n mask).errPending = s.errPending := by rw [State.park]; exact State.modItem_errPending ..
@[simp] theorem State.park_errCode (n mask : Nat) (s : State) : (s.park n mask).errCode = s.errCode := by rw [State.park]; exact State.modItem_errCode ..
@[simp] theorem State.park_errNew (n mask : Nat) (s : State) : (s.park n mask).errNew = s.errNew := by rw [State.park]; exact State.modItem_errNew ..
@[simp] theorem State.park_drec (n mask : Nat) (s : State) : (s.park n mask).drec = s.drec := by rw [State.park]; exact State.modItem_drec ..
@[simp] theorem State.park_ks (n mask : Nat) (s : State) : (s.park n mask).ks = s.ks := by rw [State.park]; exact State.modItem_ks ..
@[simp] theorem State.park_last (n mask : Nat) (s : State) : (s.park n mask).last = s.last := by rw [State.park]; exact State.modItem_last ..
@[simp] theorem State.park_ports (n mask : Nat) (s : State) : (s.park n mask).ports = s.ports := by rw [State.park]; exact State.modItem_ports ..
@[simp] theorem State.park_sess (n mask : Nat) (s : State) : (s.park n mask).sess = s.sess := by rw [State.park]; exact State.modItem_sess ..
@[simp] theorem State.park_queues (n mask : Nat) (s : State) : (s.park n mask).queues = s.queues := by rw [State.park]; exact State.modItem_queues ..
@[simp] theorem State.park_eng (n mask : Nat) (s : State) : (s.park n mask).eng = s.eng := by rw [State.park]; exact State.modItem_eng ..
@[simp] theorem State.park_kum (n mask : Nat) (s : State) : (s.park n mask).kum = s.kum := by rw [State.park]; exact State.modItem_kum ..
@[simp] theorem State.park_inst (n mask : Nat) (s : State) : (s.park n mask).inst = s.inst := by rw [State.park]; exact State.modItem_inst ..
@[simp] theorem State.park_twin (n mask : Nat) (s : State) : (s.park n mask).twin = s.twin := by rw [State.park]; exact State.modItem_twin ..
@[simp] theorem State.park_prot (n mask : Nat) (s : State) : (s.park n mask).prot = s.prot := by rw [State.park]; exact State.modItem_prot ..
@[simp] theorem State.park_rng (n mask : Nat) (s : State) : (s.park n mask).rng = s.rng := by rw [State.park]; exact State.modItem_rng ..
@[simp] theorem State.park_card (n mask : Nat) (s : State) : (s.park n mask).card = s.card := by rw [State.park]; exact State.modItem_card ..
@[simp] theorem State.park_fab (n mask : Nat) (s : State) : (s.park n mask).fab = s.fab := by rw [State.park]; exact State.modItem_fab ..

/-! `resume` changes `disp`. -/

@[simp] theorem State.resume_pending (n : Nat) (s : State) : (s.resume n).pending = s.pending := rfl
@[simp] theorem State.resume_free (n : Nat) (s : State) : (s.resume n).free = s.free := rfl
@[simp] theorem State.resume_out (n : Nat) (s : State) : (s.resume n).out = s.out := rfl
@[simp] theorem State.resume_fuses (n : Nat) (s : State) : (s.resume n).fuses = s.fuses := rfl
@[simp] theorem State.resume_bat (n : Nat) (s : State) : (s.resume n).bat = s.bat := rfl
@[simp] theorem State.resume_flash (n : Nat) (s : State) : (s.resume n).flash = s.flash := rfl
@[simp] theorem State.resume_ledger (n : Nat) (s : State) : (s.resume n).ledger = s.ledger := rfl
@[simp] theorem State.resume_dev (n : Nat) (s : State) : (s.resume n).dev = s.dev := rfl
@[simp] theorem State.resume_pcie (n : Nat) (s : State) : (s.resume n).pcie = s.pcie := rfl
@[simp] theorem State.resume_tick (n : Nat) (s : State) : (s.resume n).tick = s.tick := rfl
@[simp] theorem State.resume_mgmt (n : Nat) (s : State) : (s.resume n).mgmt = s.mgmt := rfl
@[simp] theorem State.resume_regs (n : Nat) (s : State) : (s.resume n).regs = s.regs := rfl
@[simp] theorem State.resume_errPending (n : Nat) (s : State) : (s.resume n).errPending = s.errPending := rfl
@[simp] theorem State.resume_errCode (n : Nat) (s : State) : (s.resume n).errCode = s.errCode := rfl
@[simp] theorem State.resume_errNew (n : Nat) (s : State) : (s.resume n).errNew = s.errNew := rfl
@[simp] theorem State.resume_drec (n : Nat) (s : State) : (s.resume n).drec = s.drec := rfl
@[simp] theorem State.resume_ks (n : Nat) (s : State) : (s.resume n).ks = s.ks := rfl
@[simp] theorem State.resume_last (n : Nat) (s : State) : (s.resume n).last = s.last := rfl
@[simp] theorem State.resume_ports (n : Nat) (s : State) : (s.resume n).ports = s.ports := rfl
@[simp] theorem State.resume_sess (n : Nat) (s : State) : (s.resume n).sess = s.sess := rfl
@[simp] theorem State.resume_queues (n : Nat) (s : State) : (s.resume n).queues = s.queues := rfl
@[simp] theorem State.resume_eng (n : Nat) (s : State) : (s.resume n).eng = s.eng := rfl
@[simp] theorem State.resume_kum (n : Nat) (s : State) : (s.resume n).kum = s.kum := rfl
@[simp] theorem State.resume_inst (n : Nat) (s : State) : (s.resume n).inst = s.inst := rfl
@[simp] theorem State.resume_twin (n : Nat) (s : State) : (s.resume n).twin = s.twin := rfl
@[simp] theorem State.resume_prot (n : Nat) (s : State) : (s.resume n).prot = s.prot := rfl
@[simp] theorem State.resume_rng (n : Nat) (s : State) : (s.resume n).rng = s.rng := rfl
@[simp] theorem State.resume_card (n : Nat) (s : State) : (s.resume n).card = s.card := rfl
@[simp] theorem State.resume_fab (n : Nat) (s : State) : (s.resume n).fab = s.fab := rfl

/-! `modSess` changes `sess`. -/

@[simp] theorem State.modSess_sess (n : Nat) (f : Sess → Sess) (s : State) : (s.modSess n f).sess = s.sess.set n (f (s.sessOf n)) := rfl
@[simp] theorem State.modSess_pending (n : Nat) (f : Sess → Sess) (s : State) : (s.modSess n f).pending = s.pending := rfl
@[simp] theorem State.modSess_free (n : Nat) (f : Sess → Sess) (s : State) : (s.modSess n f).free = s.free := rfl
@[simp] theorem State.modSess_out (n : Nat) (f : Sess → Sess) (s : State) : (s.modSess n f).out = s.out := rfl
@[simp] theorem State.modSess_fuses (n : Nat) (f : Sess → Sess) (s : State) : (s.modSess n f).fuses = s.fuses := rfl
@[simp] theorem State.modSess_bat (n : Nat) (f : Sess → Sess) (s : State) : (s.modSess n f).bat = s.bat := rfl
@[simp] theorem State.modSess_flash (n : Nat) (f : Sess → Sess) (s : State) : (s.modSess n f).flash = s.flash := rfl
@[simp] theorem State.modSess_ledger (n : Nat) (f : Sess → Sess) (s : State) : (s.modSess n f).ledger = s.ledger := rfl
@[simp] theorem State.modSess_dev (n : Nat) (f : Sess → Sess) (s : State) : (s.modSess n f).dev = s.dev := rfl
@[simp] theorem State.modSess_pcie (n : Nat) (f : Sess → Sess) (s : State) : (s.modSess n f).pcie = s.pcie := rfl
@[simp] theorem State.modSess_tick (n : Nat) (f : Sess → Sess) (s : State) : (s.modSess n f).tick = s.tick := rfl
@[simp] theorem State.modSess_mgmt (n : Nat) (f : Sess → Sess) (s : State) : (s.modSess n f).mgmt = s.mgmt := rfl
@[simp] theorem State.modSess_regs (n : Nat) (f : Sess → Sess) (s : State) : (s.modSess n f).regs = s.regs := rfl
@[simp] theorem State.modSess_errPending (n : Nat) (f : Sess → Sess) (s : State) : (s.modSess n f).errPending = s.errPending := rfl
@[simp] theorem State.modSess_errCode (n : Nat) (f : Sess → Sess) (s : State) : (s.modSess n f).errCode = s.errCode := rfl
@[simp] theorem State.modSess_errNew (n : Nat) (f : Sess → Sess) (s : State) : (s.modSess n f).errNew = s.errNew := rfl
@[simp] theorem State.modSess_drec (n : Nat) (f : Sess → Sess) (s : State) : (s.modSess n f).drec = s.drec := rfl
@[simp] theorem State.modSess_ks (n : Nat) (f : Sess → Sess) (s : State) : (s.modSess n f).ks = s.ks := rfl
@[simp] theorem State.modSess_last (n : Nat) (f : Sess → Sess) (s : State) : (s.modSess n f).last = s.last := rfl
@[simp] theorem State.modSess_disp (n : Nat) (f : Sess → Sess) (s : State) : (s.modSess n f).disp = s.disp := rfl
@[simp] theorem State.modSess_ports (n : Nat) (f : Sess → Sess) (s : State) : (s.modSess n f).ports = s.ports := rfl
@[simp] theorem State.modSess_queues (n : Nat) (f : Sess → Sess) (s : State) : (s.modSess n f).queues = s.queues := rfl
@[simp] theorem State.modSess_eng (n : Nat) (f : Sess → Sess) (s : State) : (s.modSess n f).eng = s.eng := rfl
@[simp] theorem State.modSess_kum (n : Nat) (f : Sess → Sess) (s : State) : (s.modSess n f).kum = s.kum := rfl
@[simp] theorem State.modSess_inst (n : Nat) (f : Sess → Sess) (s : State) : (s.modSess n f).inst = s.inst := rfl
@[simp] theorem State.modSess_twin (n : Nat) (f : Sess → Sess) (s : State) : (s.modSess n f).twin = s.twin := rfl
@[simp] theorem State.modSess_prot (n : Nat) (f : Sess → Sess) (s : State) : (s.modSess n f).prot = s.prot := rfl
@[simp] theorem State.modSess_rng (n : Nat) (f : Sess → Sess) (s : State) : (s.modSess n f).rng = s.rng := rfl
@[simp] theorem State.modSess_card (n : Nat) (f : Sess → Sess) (s : State) : (s.modSess n f).card = s.card := rfl
@[simp] theorem State.modSess_fab (n : Nat) (f : Sess → Sess) (s : State) : (s.modSess n f).fab = s.fab := rfl

/-! `modSub` changes `ports`. -/

@[simp] theorem State.modSub_pending (p k : Nat) (f : SubPort → SubPort) (s : State) : (s.modSub p k f).pending = s.pending := rfl
@[simp] theorem State.modSub_free (p k : Nat) (f : SubPort → SubPort) (s : State) : (s.modSub p k f).free = s.free := rfl
@[simp] theorem State.modSub_out (p k : Nat) (f : SubPort → SubPort) (s : State) : (s.modSub p k f).out = s.out := rfl
@[simp] theorem State.modSub_fuses (p k : Nat) (f : SubPort → SubPort) (s : State) : (s.modSub p k f).fuses = s.fuses := rfl
@[simp] theorem State.modSub_bat (p k : Nat) (f : SubPort → SubPort) (s : State) : (s.modSub p k f).bat = s.bat := rfl
@[simp] theorem State.modSub_flash (p k : Nat) (f : SubPort → SubPort) (s : State) : (s.modSub p k f).flash = s.flash := rfl
@[simp] theorem State.modSub_ledger (p k : Nat) (f : SubPort → SubPort) (s : State) : (s.modSub p k f).ledger = s.ledger := rfl
@[simp] theorem State.modSub_dev (p k : Nat) (f : SubPort → SubPort) (s : State) : (s.modSub p k f).dev = s.dev := rfl
@[simp] theorem State.modSub_pcie (p k : Nat) (f : SubPort → SubPort) (s : State) : (s.modSub p k f).pcie = s.pcie := rfl
@[simp] theorem State.modSub_tick (p k : Nat) (f : SubPort → SubPort) (s : State) : (s.modSub p k f).tick = s.tick := rfl
@[simp] theorem State.modSub_mgmt (p k : Nat) (f : SubPort → SubPort) (s : State) : (s.modSub p k f).mgmt = s.mgmt := rfl
@[simp] theorem State.modSub_regs (p k : Nat) (f : SubPort → SubPort) (s : State) : (s.modSub p k f).regs = s.regs := rfl
@[simp] theorem State.modSub_errPending (p k : Nat) (f : SubPort → SubPort) (s : State) : (s.modSub p k f).errPending = s.errPending := rfl
@[simp] theorem State.modSub_errCode (p k : Nat) (f : SubPort → SubPort) (s : State) : (s.modSub p k f).errCode = s.errCode := rfl
@[simp] theorem State.modSub_errNew (p k : Nat) (f : SubPort → SubPort) (s : State) : (s.modSub p k f).errNew = s.errNew := rfl
@[simp] theorem State.modSub_drec (p k : Nat) (f : SubPort → SubPort) (s : State) : (s.modSub p k f).drec = s.drec := rfl
@[simp] theorem State.modSub_ks (p k : Nat) (f : SubPort → SubPort) (s : State) : (s.modSub p k f).ks = s.ks := rfl
@[simp] theorem State.modSub_last (p k : Nat) (f : SubPort → SubPort) (s : State) : (s.modSub p k f).last = s.last := rfl
@[simp] theorem State.modSub_disp (p k : Nat) (f : SubPort → SubPort) (s : State) : (s.modSub p k f).disp = s.disp := rfl
@[simp] theorem State.modSub_sess (p k : Nat) (f : SubPort → SubPort) (s : State) : (s.modSub p k f).sess = s.sess := rfl
@[simp] theorem State.modSub_queues (p k : Nat) (f : SubPort → SubPort) (s : State) : (s.modSub p k f).queues = s.queues := rfl
@[simp] theorem State.modSub_eng (p k : Nat) (f : SubPort → SubPort) (s : State) : (s.modSub p k f).eng = s.eng := rfl
@[simp] theorem State.modSub_kum (p k : Nat) (f : SubPort → SubPort) (s : State) : (s.modSub p k f).kum = s.kum := rfl
@[simp] theorem State.modSub_inst (p k : Nat) (f : SubPort → SubPort) (s : State) : (s.modSub p k f).inst = s.inst := rfl
@[simp] theorem State.modSub_twin (p k : Nat) (f : SubPort → SubPort) (s : State) : (s.modSub p k f).twin = s.twin := rfl
@[simp] theorem State.modSub_prot (p k : Nat) (f : SubPort → SubPort) (s : State) : (s.modSub p k f).prot = s.prot := rfl
@[simp] theorem State.modSub_rng (p k : Nat) (f : SubPort → SubPort) (s : State) : (s.modSub p k f).rng = s.rng := rfl
@[simp] theorem State.modSub_card (p k : Nat) (f : SubPort → SubPort) (s : State) : (s.modSub p k f).card = s.card := rfl
@[simp] theorem State.modSub_fab (p k : Nat) (f : SubPort → SubPort) (s : State) : (s.modSub p k f).fab = s.fab := rfl

/-! `modKey` changes `ks`. -/

@[simp] theorem State.modKey_ks (slot : Nat) (f : KeyRec → KeyRec) (s : State) : (s.modKey slot f).ks = { s.ks with keys := s.ks.keys.modify slot f } := rfl
@[simp] theorem State.modKey_pending (slot : Nat) (f : KeyRec → KeyRec) (s : State) : (s.modKey slot f).pending = s.pending := rfl
@[simp] theorem State.modKey_free (slot : Nat) (f : KeyRec → KeyRec) (s : State) : (s.modKey slot f).free = s.free := rfl
@[simp] theorem State.modKey_out (slot : Nat) (f : KeyRec → KeyRec) (s : State) : (s.modKey slot f).out = s.out := rfl
@[simp] theorem State.modKey_fuses (slot : Nat) (f : KeyRec → KeyRec) (s : State) : (s.modKey slot f).fuses = s.fuses := rfl
@[simp] theorem State.modKey_bat (slot : Nat) (f : KeyRec → KeyRec) (s : State) : (s.modKey slot f).bat = s.bat := rfl
@[simp] theorem State.modKey_flash (slot : Nat) (f : KeyRec → KeyRec) (s : State) : (s.modKey slot f).flash = s.flash := rfl
@[simp] theorem State.modKey_ledger (slot : Nat) (f : KeyRec → KeyRec) (s : State) : (s.modKey slot f).ledger = s.ledger := rfl
@[simp] theorem State.modKey_dev (slot : Nat) (f : KeyRec → KeyRec) (s : State) : (s.modKey slot f).dev = s.dev := rfl
@[simp] theorem State.modKey_pcie (slot : Nat) (f : KeyRec → KeyRec) (s : State) : (s.modKey slot f).pcie = s.pcie := rfl
@[simp] theorem State.modKey_tick (slot : Nat) (f : KeyRec → KeyRec) (s : State) : (s.modKey slot f).tick = s.tick := rfl
@[simp] theorem State.modKey_mgmt (slot : Nat) (f : KeyRec → KeyRec) (s : State) : (s.modKey slot f).mgmt = s.mgmt := rfl
@[simp] theorem State.modKey_regs (slot : Nat) (f : KeyRec → KeyRec) (s : State) : (s.modKey slot f).regs = s.regs := rfl
@[simp] theorem State.modKey_errPending (slot : Nat) (f : KeyRec → KeyRec) (s : State) : (s.modKey slot f).errPending = s.errPending := rfl
@[simp] theorem State.modKey_errCode (slot : Nat) (f : KeyRec → KeyRec) (s : State) : (s.modKey slot f).errCode = s.errCode := rfl
@[simp] theorem State.modKey_errNew (slot : Nat) (f : KeyRec → KeyRec) (s : State) : (s.modKey slot f).errNew = s.errNew := rfl
@[simp] theorem State.modKey_drec (slot : Nat) (f : KeyRec → KeyRec) (s : State) : (s.modKey slot f).drec = s.drec := rfl
@[simp] theorem State.modKey_last (slot : Nat) (f : KeyRec → KeyRec) (s : State) : (s.modKey slot f).last = s.last := rfl
@[simp] theorem State.modKey_disp (slot : Nat) (f : KeyRec → KeyRec) (s : State) : (s.modKey slot f).disp = s.disp := rfl
@[simp] theorem State.modKey_ports (slot : Nat) (f : KeyRec → KeyRec) (s : State) : (s.modKey slot f).ports = s.ports := rfl
@[simp] theorem State.modKey_sess (slot : Nat) (f : KeyRec → KeyRec) (s : State) : (s.modKey slot f).sess = s.sess := rfl
@[simp] theorem State.modKey_queues (slot : Nat) (f : KeyRec → KeyRec) (s : State) : (s.modKey slot f).queues = s.queues := rfl
@[simp] theorem State.modKey_eng (slot : Nat) (f : KeyRec → KeyRec) (s : State) : (s.modKey slot f).eng = s.eng := rfl
@[simp] theorem State.modKey_kum (slot : Nat) (f : KeyRec → KeyRec) (s : State) : (s.modKey slot f).kum = s.kum := rfl
@[simp] theorem State.modKey_inst (slot : Nat) (f : KeyRec → KeyRec) (s : State) : (s.modKey slot f).inst = s.inst := rfl
@[simp] theorem State.modKey_twin (slot : Nat) (f : KeyRec → KeyRec) (s : State) : (s.modKey slot f).twin = s.twin := rfl
@[simp] theorem State.modKey_prot (slot : Nat) (f : KeyRec → KeyRec) (s : State) : (s.modKey slot f).prot = s.prot := rfl
@[simp] theorem State.modKey_rng (slot : Nat) (f : KeyRec → KeyRec) (s : State) : (s.modKey slot f).rng = s.rng := rfl
@[simp] theorem State.modKey_card (slot : Nat) (f : KeyRec → KeyRec) (s : State) : (s.modKey slot f).card = s.card := rfl
@[simp] theorem State.modKey_fab (slot : Nat) (f : KeyRec → KeyRec) (s : State) : (s.modKey slot f).fab = s.fab := rfl

/-! `setKey` changes `ks`. -/

@[simp] theorem State.setKey_ks (slot : Nat) (r : KeyRec) (s : State) : (s.setKey slot r).ks = { s.ks with keys := s.ks.keys.set slot r } := rfl
@[simp] theorem State.setKey_pending (slot : Nat) (r : KeyRec) (s : State) : (s.setKey slot r).pending = s.pending := rfl
@[simp] theorem State.setKey_free (slot : Nat) (r : KeyRec) (s : State) : (s.setKey slot r).free = s.free := rfl
@[simp] theorem State.setKey_out (slot : Nat) (r : KeyRec) (s : State) : (s.setKey slot r).out = s.out := rfl
@[simp] theorem State.setKey_fuses (slot : Nat) (r : KeyRec) (s : State) : (s.setKey slot r).fuses = s.fuses := rfl
@[simp] theorem State.setKey_bat (slot : Nat) (r : KeyRec) (s : State) : (s.setKey slot r).bat = s.bat := rfl
@[simp] theorem State.setKey_flash (slot : Nat) (r : KeyRec) (s : State) : (s.setKey slot r).flash = s.flash := rfl
@[simp] theorem State.setKey_ledger (slot : Nat) (r : KeyRec) (s : State) : (s.setKey slot r).ledger = s.ledger := rfl
@[simp] theorem State.setKey_dev (slot : Nat) (r : KeyRec) (s : State) : (s.setKey slot r).dev = s.dev := rfl
@[simp] theorem State.setKey_pcie (slot : Nat) (r : KeyRec) (s : State) : (s.setKey slot r).pcie = s.pcie := rfl
@[simp] theorem State.setKey_tick (slot : Nat) (r : KeyRec) (s : State) : (s.setKey slot r).tick = s.tick := rfl
@[simp] theorem State.setKey_mgmt (slot : Nat) (r : KeyRec) (s : State) : (s.setKey slot r).mgmt = s.mgmt := rfl
@[simp] theorem State.setKey_regs (slot : Nat) (r : KeyRec) (s : State) : (s.setKey slot r).regs = s.regs := rfl
@[simp] theorem State.setKey_errPending (slot : Nat) (r : KeyRec) (s : State) : (s.setKey slot r).errPending = s.errPending := rfl
@[simp] theorem State.setKey_errCode (slot : Nat) (r : KeyRec) (s : State) : (s.setKey slot r).errCode = s.errCode := rfl
@[simp] theorem State.setKey_errNew (slot : Nat) (r : KeyRec) (s : State) : (s.setKey slot r).errNew = s.errNew := rfl
@[simp] theorem State.setKey_drec (slot : Nat) (r : KeyRec) (s : State) : (s.setKey slot r).drec = s.drec := rfl
@[simp] theorem State.setKey_last (slot : Nat) (r : KeyRec) (s : State) : (s.setKey slot r).last = s.last := rfl
@[simp] theorem State.setKey_disp (slot : Nat) (r : KeyRec) (s : State) : (s.setKey slot r).disp = s.disp := rfl
@[simp] theorem State.setKey_ports (slot : Nat) (r : KeyRec) (s : State) : (s.setKey slot r).ports = s.ports := rfl
@[simp] theorem State.setKey_sess (slot : Nat) (r : KeyRec) (s : State) : (s.setKey slot r).sess = s.sess := rfl
@[simp] theorem State.setKey_queues (slot : Nat) (r : KeyRec) (s : State) : (s.setKey slot r).queues = s.queues := rfl
@[simp] theorem State.setKey_eng (slot : Nat) (r : KeyRec) (s : State) : (s.setKey slot r).eng = s.eng := rfl
@[simp] theorem State.setKey_kum (slot : Nat) (r : KeyRec) (s : State) : (s.setKey slot r).kum = s.kum := rfl
@[simp] theorem State.setKey_inst (slot : Nat) (r : KeyRec) (s : State) : (s.setKey slot r).inst = s.inst := rfl
@[simp] theorem State.setKey_twin (slot : Nat) (r : KeyRec) (s : State) : (s.setKey slot r).twin = s.twin := rfl
@[simp] theorem State.setKey_prot (slot : Nat) (r : KeyRec) (s : State) : (s.setKey slot r).prot = s.prot := rfl
@[simp] theorem State.setKey_rng (slot : Nat) (r : KeyRec) (s : State) : (s.setKey slot r).rng = s.rng := rfl
@[simp] theorem State.setKey_card (slot : Nat) (r : KeyRec) (s : State) : (s.setKey slot r).card = s.card := rfl
@[simp] theorem State.setKey_fab (slot : Nat) (r : KeyRec) (s : State) : (s.setKey slot r).fab = s.fab := rfl

/-! `modPage` changes `ks`. -/

@[simp] theorem State.modPage_pending (p : Nat) (f : PageEnt → PageEnt) (s : State) : (s.modPage p f).pending = s.pending := rfl
@[simp] theorem State.modPage_free (p : Nat) (f : PageEnt → PageEnt) (s : State) : (s.modPage p f).free = s.free := rfl
@[simp] theorem State.modPage_out (p : Nat) (f : PageEnt → PageEnt) (s : State) : (s.modPage p f).out = s.out := rfl
@[simp] theorem State.modPage_fuses (p : Nat) (f : PageEnt → PageEnt) (s : State) : (s.modPage p f).fuses = s.fuses := rfl
@[simp] theorem State.modPage_bat (p : Nat) (f : PageEnt → PageEnt) (s : State) : (s.modPage p f).bat = s.bat := rfl
@[simp] theorem State.modPage_flash (p : Nat) (f : PageEnt → PageEnt) (s : State) : (s.modPage p f).flash = s.flash := rfl
@[simp] theorem State.modPage_ledger (p : Nat) (f : PageEnt → PageEnt) (s : State) : (s.modPage p f).ledger = s.ledger := rfl
@[simp] theorem State.modPage_dev (p : Nat) (f : PageEnt → PageEnt) (s : State) : (s.modPage p f).dev = s.dev := rfl
@[simp] theorem State.modPage_pcie (p : Nat) (f : PageEnt → PageEnt) (s : State) : (s.modPage p f).pcie = s.pcie := rfl
@[simp] theorem State.modPage_tick (p : Nat) (f : PageEnt → PageEnt) (s : State) : (s.modPage p f).tick = s.tick := rfl
@[simp] theorem State.modPage_mgmt (p : Nat) (f : PageEnt → PageEnt) (s : State) : (s.modPage p f).mgmt = s.mgmt := rfl
@[simp] theorem State.modPage_regs (p : Nat) (f : PageEnt → PageEnt) (s : State) : (s.modPage p f).regs = s.regs := rfl
@[simp] theorem State.modPage_errPending (p : Nat) (f : PageEnt → PageEnt) (s : State) : (s.modPage p f).errPending = s.errPending := rfl
@[simp] theorem State.modPage_errCode (p : Nat) (f : PageEnt → PageEnt) (s : State) : (s.modPage p f).errCode = s.errCode := rfl
@[simp] theorem State.modPage_errNew (p : Nat) (f : PageEnt → PageEnt) (s : State) : (s.modPage p f).errNew = s.errNew := rfl
@[simp] theorem State.modPage_drec (p : Nat) (f : PageEnt → PageEnt) (s : State) : (s.modPage p f).drec = s.drec := rfl
@[simp] theorem State.modPage_last (p : Nat) (f : PageEnt → PageEnt) (s : State) : (s.modPage p f).last = s.last := rfl
@[simp] theorem State.modPage_disp (p : Nat) (f : PageEnt → PageEnt) (s : State) : (s.modPage p f).disp = s.disp := rfl
@[simp] theorem State.modPage_ports (p : Nat) (f : PageEnt → PageEnt) (s : State) : (s.modPage p f).ports = s.ports := rfl
@[simp] theorem State.modPage_sess (p : Nat) (f : PageEnt → PageEnt) (s : State) : (s.modPage p f).sess = s.sess := rfl
@[simp] theorem State.modPage_queues (p : Nat) (f : PageEnt → PageEnt) (s : State) : (s.modPage p f).queues = s.queues := rfl
@[simp] theorem State.modPage_eng (p : Nat) (f : PageEnt → PageEnt) (s : State) : (s.modPage p f).eng = s.eng := rfl
@[simp] theorem State.modPage_kum (p : Nat) (f : PageEnt → PageEnt) (s : State) : (s.modPage p f).kum = s.kum := rfl
@[simp] theorem State.modPage_inst (p : Nat) (f : PageEnt → PageEnt) (s : State) : (s.modPage p f).inst = s.inst := rfl
@[simp] theorem State.modPage_twin (p : Nat) (f : PageEnt → PageEnt) (s : State) : (s.modPage p f).twin = s.twin := rfl
@[simp] theorem State.modPage_prot (p : Nat) (f : PageEnt → PageEnt) (s : State) : (s.modPage p f).prot = s.prot := rfl
@[simp] theorem State.modPage_rng (p : Nat) (f : PageEnt → PageEnt) (s : State) : (s.modPage p f).rng = s.rng := rfl
@[simp] theorem State.modPage_card (p : Nat) (f : PageEnt → PageEnt) (s : State) : (s.modPage p f).card = s.card := rfl
@[simp] theorem State.modPage_fab (p : Nat) (f : PageEnt → PageEnt) (s : State) : (s.modPage p f).fab = s.fab := rfl

/-! `pass` changes `twin`. -/

@[simp] theorem State.pass_twin (p : Purpose) (st : Option Status) (s : State) : (s.pass p st).twin = { s.twin with passed := s.twin.passed ++ [(p, st)] } := rfl
@[simp] theorem State.pass_pending (p : Purpose) (st : Option Status) (s : State) : (s.pass p st).pending = s.pending := rfl
@[simp] theorem State.pass_free (p : Purpose) (st : Option Status) (s : State) : (s.pass p st).free = s.free := rfl
@[simp] theorem State.pass_out (p : Purpose) (st : Option Status) (s : State) : (s.pass p st).out = s.out := rfl
@[simp] theorem State.pass_fuses (p : Purpose) (st : Option Status) (s : State) : (s.pass p st).fuses = s.fuses := rfl
@[simp] theorem State.pass_bat (p : Purpose) (st : Option Status) (s : State) : (s.pass p st).bat = s.bat := rfl
@[simp] theorem State.pass_flash (p : Purpose) (st : Option Status) (s : State) : (s.pass p st).flash = s.flash := rfl
@[simp] theorem State.pass_ledger (p : Purpose) (st : Option Status) (s : State) : (s.pass p st).ledger = s.ledger := rfl
@[simp] theorem State.pass_dev (p : Purpose) (st : Option Status) (s : State) : (s.pass p st).dev = s.dev := rfl
@[simp] theorem State.pass_pcie (p : Purpose) (st : Option Status) (s : State) : (s.pass p st).pcie = s.pcie := rfl
@[simp] theorem State.pass_tick (p : Purpose) (st : Option Status) (s : State) : (s.pass p st).tick = s.tick := rfl
@[simp] theorem State.pass_mgmt (p : Purpose) (st : Option Status) (s : State) : (s.pass p st).mgmt = s.mgmt := rfl
@[simp] theorem State.pass_regs (p : Purpose) (st : Option Status) (s : State) : (s.pass p st).regs = s.regs := rfl
@[simp] theorem State.pass_errPending (p : Purpose) (st : Option Status) (s : State) : (s.pass p st).errPending = s.errPending := rfl
@[simp] theorem State.pass_errCode (p : Purpose) (st : Option Status) (s : State) : (s.pass p st).errCode = s.errCode := rfl
@[simp] theorem State.pass_errNew (p : Purpose) (st : Option Status) (s : State) : (s.pass p st).errNew = s.errNew := rfl
@[simp] theorem State.pass_drec (p : Purpose) (st : Option Status) (s : State) : (s.pass p st).drec = s.drec := rfl
@[simp] theorem State.pass_ks (p : Purpose) (st : Option Status) (s : State) : (s.pass p st).ks = s.ks := rfl
@[simp] theorem State.pass_last (p : Purpose) (st : Option Status) (s : State) : (s.pass p st).last = s.last := rfl
@[simp] theorem State.pass_disp (p : Purpose) (st : Option Status) (s : State) : (s.pass p st).disp = s.disp := rfl
@[simp] theorem State.pass_ports (p : Purpose) (st : Option Status) (s : State) : (s.pass p st).ports = s.ports := rfl
@[simp] theorem State.pass_sess (p : Purpose) (st : Option Status) (s : State) : (s.pass p st).sess = s.sess := rfl
@[simp] theorem State.pass_queues (p : Purpose) (st : Option Status) (s : State) : (s.pass p st).queues = s.queues := rfl
@[simp] theorem State.pass_eng (p : Purpose) (st : Option Status) (s : State) : (s.pass p st).eng = s.eng := rfl
@[simp] theorem State.pass_kum (p : Purpose) (st : Option Status) (s : State) : (s.pass p st).kum = s.kum := rfl
@[simp] theorem State.pass_inst (p : Purpose) (st : Option Status) (s : State) : (s.pass p st).inst = s.inst := rfl
@[simp] theorem State.pass_prot (p : Purpose) (st : Option Status) (s : State) : (s.pass p st).prot = s.prot := rfl
@[simp] theorem State.pass_rng (p : Purpose) (st : Option Status) (s : State) : (s.pass p st).rng = s.rng := rfl
@[simp] theorem State.pass_card (p : Purpose) (st : Option Status) (s : State) : (s.pass p st).card = s.card := rfl
@[simp] theorem State.pass_fab (p : Purpose) (st : Option Status) (s : State) : (s.pass p st).fab = s.fab := rfl

/-! `seamStat` changes `last`. -/

@[simp] theorem State.seamStat_pending (x : Item) (k : Nat) (s : State) : (s.seamStat x k).pending = s.pending := rfl
@[simp] theorem State.seamStat_free (x : Item) (k : Nat) (s : State) : (s.seamStat x k).free = s.free := rfl
@[simp] theorem State.seamStat_out (x : Item) (k : Nat) (s : State) : (s.seamStat x k).out = s.out := rfl
@[simp] theorem State.seamStat_fuses (x : Item) (k : Nat) (s : State) : (s.seamStat x k).fuses = s.fuses := rfl
@[simp] theorem State.seamStat_bat (x : Item) (k : Nat) (s : State) : (s.seamStat x k).bat = s.bat := rfl
@[simp] theorem State.seamStat_flash (x : Item) (k : Nat) (s : State) : (s.seamStat x k).flash = s.flash := rfl
@[simp] theorem State.seamStat_ledger (x : Item) (k : Nat) (s : State) : (s.seamStat x k).ledger = s.ledger := rfl
@[simp] theorem State.seamStat_dev (x : Item) (k : Nat) (s : State) : (s.seamStat x k).dev = s.dev := rfl
@[simp] theorem State.seamStat_pcie (x : Item) (k : Nat) (s : State) : (s.seamStat x k).pcie = s.pcie := rfl
@[simp] theorem State.seamStat_tick (x : Item) (k : Nat) (s : State) : (s.seamStat x k).tick = s.tick := rfl
@[simp] theorem State.seamStat_mgmt (x : Item) (k : Nat) (s : State) : (s.seamStat x k).mgmt = s.mgmt := rfl
@[simp] theorem State.seamStat_regs (x : Item) (k : Nat) (s : State) : (s.seamStat x k).regs = s.regs := rfl
@[simp] theorem State.seamStat_errPending (x : Item) (k : Nat) (s : State) : (s.seamStat x k).errPending = s.errPending := rfl
@[simp] theorem State.seamStat_errCode (x : Item) (k : Nat) (s : State) : (s.seamStat x k).errCode = s.errCode := rfl
@[simp] theorem State.seamStat_errNew (x : Item) (k : Nat) (s : State) : (s.seamStat x k).errNew = s.errNew := rfl
@[simp] theorem State.seamStat_drec (x : Item) (k : Nat) (s : State) : (s.seamStat x k).drec = s.drec := rfl
@[simp] theorem State.seamStat_ks (x : Item) (k : Nat) (s : State) : (s.seamStat x k).ks = s.ks := rfl
@[simp] theorem State.seamStat_disp (x : Item) (k : Nat) (s : State) : (s.seamStat x k).disp = s.disp := rfl
@[simp] theorem State.seamStat_ports (x : Item) (k : Nat) (s : State) : (s.seamStat x k).ports = s.ports := rfl
@[simp] theorem State.seamStat_sess (x : Item) (k : Nat) (s : State) : (s.seamStat x k).sess = s.sess := rfl
@[simp] theorem State.seamStat_queues (x : Item) (k : Nat) (s : State) : (s.seamStat x k).queues = s.queues := rfl
@[simp] theorem State.seamStat_eng (x : Item) (k : Nat) (s : State) : (s.seamStat x k).eng = s.eng := rfl
@[simp] theorem State.seamStat_kum (x : Item) (k : Nat) (s : State) : (s.seamStat x k).kum = s.kum := rfl
@[simp] theorem State.seamStat_inst (x : Item) (k : Nat) (s : State) : (s.seamStat x k).inst = s.inst := rfl
@[simp] theorem State.seamStat_twin (x : Item) (k : Nat) (s : State) : (s.seamStat x k).twin = s.twin := rfl
@[simp] theorem State.seamStat_prot (x : Item) (k : Nat) (s : State) : (s.seamStat x k).prot = s.prot := rfl
@[simp] theorem State.seamStat_rng (x : Item) (k : Nat) (s : State) : (s.seamStat x k).rng = s.rng := rfl
@[simp] theorem State.seamStat_card (x : Item) (k : Nat) (s : State) : (s.seamStat x k).card = s.card := rfl
@[simp] theorem State.seamStat_fab (x : Item) (k : Nat) (s : State) : (s.seamStat x k).fab = s.fab := rfl

end Sys2Proof.Machine
end

