-- ==== Sys2Proof/Laws/Ops.lean ====
section
/-! SUPPORT. What each shared operation can do, said once: `op_frame` gives the fields it may change (all others stay), and the lemmas beside it
say when it does what. A proof about a meaning cites these and does not unfold the operation. -/

namespace Sys2Proof.Machine

/-! ### Conditions and runs -/

@[simp] theorem State.when_true (f : State → State) (s : State) : s.when true f = f s := rfl
@[simp] theorem State.when_false (f : State → State) (s : State) : s.when false f = s := rfl

/-- A fold of steps that each leave a projection alone leaves it alone. -/
theorem foldl_keeps {α β : Type} (p : State → β) (f : State → α → State) (h : ∀ s a, p (f s a) = p s) (l : List α) (s : State) :
    p (l.foldl f s) = p s := by
  induction l generalizing s with
  | nil => rfl
  | cons a l ih => rw [List.foldl_cons, ih, h]

/-- What a fold of steps may change, where each step changes one field. -/
theorem foldl_frame {α : Type} {f : State → α → State} {r : State → State → Prop} (h0 : ∀ s, r s s) (ht : ∀ a b c, r a b → r b c → r a c)
    (h : ∀ s a, r s (f s a)) (l : List α) (s : State) : r s (l.foldl f s) := by
  induction l generalizing s with
  | nil => exact h0 s
  | cons a l ih => exact ht _ _ _ (h s a) (ih _)

/-! ### Host memory and interrupts (R316, R535, R536) -/

theorem State.hostWrite_frame (f addr : Nat) (b : Bytes) (s : State) : ∃ o, s.hostWrite f addr b = { s with out := o } := by
  unfold State.hostWrite; split
  · exact ⟨_, rfl⟩
  · exact ⟨_, rfl⟩
/-- A function that may master the bus writes. -/
theorem State.hostWrite_sends {f addr : Nat} {b : Bytes} {s : State} (h : s.mayDma f = true) (hb : b ≠ []) :
    s.hostWrite f addr b = s.emit (.write f addr b) := by
  cases b with
  | nil => exact absurd rfl hb
  | cons x b => simp [State.hostWrite, h]
/-- A function that may not master the bus writes nothing. -/
theorem State.hostWrite_silent {f addr : Nat} {b : Bytes} {s : State} (h : s.mayDma f = false) : s.hostWrite f addr b = s := by
  simp [State.hostWrite, h]

theorem State.msix_frame (f v : Nat) (s : State) : ∃ p o, s.msix f v = { s with pcie := p, out := o } := by
  unfold State.msix; split
  · exact ⟨_, _, rfl⟩
  · exact ⟨_, _, rfl⟩
/-- An unmasked vector of a function that may master the bus sends its message. -/
theorem State.msix_sends {f v : Nat} {s : State} (hm : bit (s.reg (msixControl f v)) 32 = false) (hd : s.mayDma f = true) :
    s.msix f v = s.emit (.msix f v) := by
  simp [State.msix, hm, hd]
/-- A masked vector keeps its message pending. -/
theorem State.msix_pends {f v : Nat} {s : State} (hm : bit (s.reg (msixControl f v)) 32 = true) :
    (s.msix f v).out = s.out ∧ (f, v) ∈ (s.msix f v).pcie.msixPend := by
  unfold State.msix; rw [hm]
  refine ⟨rfl, ?_⟩
  simp only [Bool.true_or, if_true]
  split
  · rename_i h; simpa using h
  · simp

theorem State.errBit_frame (b : Nat) (s : State) : ∃ e n, s.errBit b = { s with errPending := e, errNew := n } := by
  unfold State.errBit; split
  · exact ⟨_, _, rfl⟩
  · exact ⟨_, _, rfl⟩

theorem State.raise_frame (b off en : Nat) (s : State) :
    ∃ p o e n, s.raise b off en = { s with pcie := p, out := o, errPending := e, errNew := n } := by
  obtain ⟨e, n, h⟩ := s.errBit_frame b
  unfold State.raise; dsimp only; rw [h]; split
  · obtain ⟨p, o, h2⟩ := State.msix_frame 0 (State.fld { s with errPending := e, errNew := n } off 26 16) { s with errPending := e, errNew := n }
    rw [h2]; exact ⟨_, _, _, _, rfl⟩
  · exact ⟨_, _, _, _, rfl⟩

/-! ### Counting and rejections (R54, R535) -/

theorem State.tally_frame (code : Nat) (s : State) : ∃ c, s.tally code = { s with errCode := c } := by
  unfold State.tally; split
  · exact ⟨_, rfl⟩
  · exact ⟨_, rfl⟩

theorem State.setReg_frame (off v : Nat) (s : State) : ∃ r, s.setReg off v = { s with regs := r } := ⟨_, rfl⟩
/-- A counter changes registers alone. -/
theorem State.bumpF_frame (off hi lo n : Nat) (s : State) : ∃ r, s.bumpF off hi lo n = { s with regs := r } := by
  unfold State.bumpF State.setFld; exact s.setReg_frame ..
theorem State.bump_frame (off : Nat) (s : State) : ∃ r, s.bump off = { s with regs := r } := s.bumpF_frame ..
theorem State.bumpHi_frame (off : Nat) (s : State) : ∃ r, s.bumpHi off = { s with regs := r } := s.bumpF_frame ..

theorem State.latch_frame (lr b off full : Nat) (st : Status) (s : State) :
    ∃ r c, s.latch lr b off full st = { s with regs := r, errCode := c } := by
  unfold State.latch; dsimp only
  obtain ⟨r, h⟩ := s.setReg_frame lr (st.code * 2 ^ 48 + off % 2 ^ 32)
  rw [h]
  obtain ⟨q, h⟩ := State.setReg_frame oErrRejects (setBit (State.reg { s with regs := r } oErrRejects) b) { s with regs := r }
  rw [h]
  split
  · obtain ⟨p, h⟩ := State.setReg_frame oErrFirstReject (st.code * 2 ^ 48 + b * 2 ^ 32 + full % 2 ^ 32) { s with regs := q }
    rw [h]
    obtain ⟨c, h⟩ := State.tally_frame st.code { s with regs := p }
    rw [h]; exact ⟨_, _, rfl⟩
  · obtain ⟨c, h⟩ := State.tally_frame st.code { s with regs := q }
    rw [h]; exact ⟨_, _, rfl⟩

theorem State.reject_frame (off : Nat) (st : Status) (s : State) : ∃ r c, s.reject off st = { s with regs := r, errCode := c } := by
  unfold State.reject
  split
  · exact s.latch_frame ..
  · split
    · exact s.latch_frame ..
    · exact s.latch_frame ..

theorem State.rejectVf_frame (n off : Nat) (st : Status) (s : State) : ∃ r c, s.rejectVf n off st = { s with regs := r, errCode := c } :=
  s.latch_frame ..

/-! ### Versions (R41, R51, R377) -/

/-- A version never becomes 0, which no unit holds. -/
theorem nextVersion_pos (v : Nat) : 0 < nextVersion v := by unfold nextVersion; split <;> omega

theorem State.touchInst_frame (i : Nat) (s : State) :
    ∃ x m p o, s.touchInst i = { s with inst := x, mgmt := m, pcie := p, out := o } := by
  unfold State.touchInst; dsimp only; split
  · obtain ⟨p, o, h⟩ := State.msix_frame i (bits ((State.touch 2 i (s.modInst i (fun x => { x with d := { x.d with version := nextVersion x.d.version } }))).reg
      (vfBase i + 0x100)) 10 8) (State.touch 2 i (s.modInst i (fun x => { x with d := { x.d with version := nextVersion x.d.version } })))
    exact ⟨_, _, p, o, h⟩
  · exact ⟨_, _, _, _, rfl⟩

/-! ### Ledger (R463-R470) -/

theorem State.placeRec_frame (r : LedgerRec) (s : State) : ∃ f l, s.placeRec r = { s with flash := f, ledger := l } := ⟨_, _, rfl⟩

theorem State.eraseAhead_frame (s : State) : ∃ f l, s.eraseAhead = { s with flash := f, ledger := l } := by
  unfold State.eraseAhead; dsimp only
  have h := foldl_frame (r := fun a b => ∃ f l, b = { a with flash := f, ledger := l }) (fun a => ⟨_, _, rfl⟩)
    (fun a b c ⟨f, l, h1⟩ ⟨g, m, h2⟩ => ⟨g, m, by rw [h2, h1]⟩)
    (f := fun (s : State) (r : LedgerRec) => s.placeRec
      { ({ s.makeRec r.typ 1 r.body with hours := r.hours, cycles := r.cycles, tick := r.tick } : LedgerRec) with
        mac := cmac ledgerKey ({ s.makeRec r.typ 1 r.body with hours := r.hours, cycles := r.cycles, tick := r.tick } : LedgerRec).signed, mark := 0xA5 })
    (fun a r => ⟨_, _, rfl⟩)
  obtain ⟨f, l, h⟩ := h _ _
  exact ⟨f, l, h⟩

theorem State.commitRec_frame (typ flags : Nat) (body : Bytes) (s : State) : ∃ f l, s.commitRec typ flags body = { s with flash := f, ledger := l } := by
  unfold State.commitRec; dsimp only; split
  · obtain ⟨f, l, h⟩ := s.eraseAhead_frame
    rw [h]; exact ⟨_, _, rfl⟩
  · exact ⟨_, _, rfl⟩

theorem State.drainLedger_frame (s : State) : ∃ f l, s.drainLedger = { s with flash := f, ledger := l } := by
  unfold State.drainLedger; dsimp only; split
  · exact ⟨_, _, rfl⟩
  · obtain ⟨f, l, h⟩ := foldl_frame (r := fun a b => ∃ f l, b = { a with flash := f, ledger := l }) (fun a => ⟨_, _, rfl⟩)
      (fun a b c ⟨f, l, h1⟩ ⟨g, m, h2⟩ => ⟨g, m, by rw [h2, h1]⟩)
      (f := fun (t : State) p => t.commitRec p.typ p.flags p.body) (fun a p => a.commitRec_frame ..)
      (s.ledger.pending.filter (fun p => p.kum.isNone)) s
    rw [h]; exact ⟨_, _, rfl⟩

theorem State.required_frame (typ : Nat) (body : Bytes) (s : State) : ∃ f l, s.required typ body = { s with flash := f, ledger := l } := by
  unfold State.required
  obtain ⟨f, l, h⟩ := s.drainLedger_frame
  obtain ⟨g, m, h2⟩ := s.drainLedger.commitRec_frame typ 0 body
  rw [h2, h]; exact ⟨_, _, rfl⟩

theorem State.localRec_frame (typ : Nat) (body : Bytes) (s : State) : ∃ l r, s.localRec typ body = { s with ledger := l, regs := r } := by
  unfold State.localRec; split
  · exact ⟨_, _, rfl⟩
  · exact ⟨_, _, rfl⟩

/-! ### Claim checks and mirroring (R407, R410-R416) -/

theorem State.claimFailed_frame (p : Purpose) (st : Status) (s : State) :
    ∃ r q o e n t, s.claimFailed p st = { s with regs := r, pcie := q, out := o, errPending := e, errNew := n, twin := t } := by
  unfold State.claimFailed; dsimp only
  have h : ∃ r, (if st = .claimSuperseded then s.bump oTwinClaimFails else s.bumpHi oTwinClaimFails) = { s with regs := r } := by
    split
    · exact s.bump_frame _
    · exact s.bumpHi_frame _
  obtain ⟨r, h⟩ := h
  rw [h]
  obtain ⟨q, o, e, n, h⟩ := State.raise_frame 13 oTwinIrq 1 { s with regs := r }
  rw [h]; exact ⟨_, _, _, _, _, _, rfl⟩

theorem State.issueCas_frame (cmp swap : Nat) (restore : Bool) (p : Purpose) (s : State) :
    ∃ t o, s.issueCas cmp swap restore p = { s with twin := t, out := o } := ⟨_, _, rfl⟩

theorem State.mirror_frame (p : Purpose) (s : State) : ∃ t o, s.mirror p = { s with twin := t, out := o } := by
  unfold State.mirror; split
  · exact ⟨_, _, rfl⟩
  · split
    · exact ⟨_, _, rfl⟩
    · split <;> exact ⟨_, _, rfl⟩
/-- Without a twin a change passes at once (R407). -/
theorem State.mirror_passes {s : State} (h : s.hasTwin = false) (p : Purpose) : s.mirror p = s.pass p none := by
  unfold State.mirror; rw [h]; rfl

theorem State.privileged_frame (p : Purpose) (s : State) :
    ∃ r q o e n t, s.privileged p = { s with regs := r, pcie := q, out := o, errPending := e, errNew := n, twin := t } := by
  unfold State.privileged State.claimThen; split
  · exact ⟨_, _, _, _, _, _, rfl⟩
  · split
    · exact s.claimFailed_frame ..
    · exact ⟨_, _, _, _, _, _, rfl⟩
theorem State.privileged_passes {s : State} (h : s.hasTwin = false) (p : Purpose) : s.privileged p = s.pass p none := by
  unfold State.privileged State.claimThen; rw [h]; rfl

/-! ### Completions (R43-R57) -/

@[simp] theorem State.cqMsix_out (f v : Nat) (s : State) : (s.cqMsix f v).out = s.out := rfl
theorem State.cqMsix_frame (f v : Nat) (s : State) : ∃ p, s.cqMsix f v = { s with pcie := p } := ⟨_, rfl⟩

theorem State.postMgmt_frame (d : MDone) (s : State) :
    ∃ m p o e n, s.postMgmt d = { s with mgmt := m, pcie := p, out := o, errPending := e, errNew := n } := by
  unfold State.postMgmt; dsimp only; split
  · exact ⟨_, _, _, _, _, rfl⟩
  · obtain ⟨o, h⟩ := s.hostWrite_frame 0 (s.reg oMgmtCqBase + 16 * s.mgmt.cqTail) d.bytes
    rw [h]
    obtain ⟨e, n, h2⟩ := State.errBit_frame 3 { s with out := o }
    rw [h2]; split <;> exact ⟨_, _, _, _, _, rfl⟩

theorem State.completeAs_frame (m : MCmd) (st version point : Nat) (s : State) :
    ∃ g p o e n c, s.completeAs m st version point = { s with mgmt := g, pcie := p, out := o, errPending := e, errNew := n, errCode := c } := by
  unfold State.completeAs; dsimp only; split
  · exact ⟨_, _, _, _, _, _, rfl⟩
  · obtain ⟨c, h⟩ := s.tally_frame st
    rw [h]; split
    · obtain ⟨o, h1⟩ := State.hostWrite_frame 0 (m.addr + 64) (MDone.bytes { status := st, tag := m.cmd.tag, version := version, point := point, raise := m.cmd.raises }) { s with errCode := c }
      rw [h1]
      obtain ⟨e, n, h2⟩ := State.errBit_frame 3 { s with errCode := c, out := o }
      rw [h2]; exact ⟨_, _, _, _, _, _, rfl⟩
    · obtain ⟨g, p, o, e, n, h1⟩ := State.postMgmt_frame { status := st, tag := m.cmd.tag, version := version, point := point, raise := m.cmd.raises } { s with errCode := c }
      rw [h1]; exact ⟨_, _, _, _, _, _, rfl⟩

theorem State.finish_frame (m : MCmd) (st : Status) (s : State) :
    ∃ g p o e n c, s.finish m st = { s with mgmt := g, pcie := p, out := o, errPending := e, errNew := n, errCode := c } := s.completeAs_frame ..

theorem State.overwrite_frame (m : MCmd) (off : Nat) (b : Bytes) (s : State) : ∃ o, s.overwrite m off b = { s with out := o } := by
  unfold State.overwrite; split
  · exact ⟨_, rfl⟩
  · exact s.hostWrite_frame ..

/-! ### Items (R240-R246) -/

theorem State.event_frame (n k : Nat) (st : Option Status) (s : State) : ∃ d, s.event n k st = { s with disp := d } := by
  unfold State.event; dsimp only
  split
  · exact ⟨_, rfl⟩
  · split
    · exact ⟨_, rfl⟩
    · split <;> exact ⟨_, rfl⟩

theorem State.turn_frame (n : Nat) (s : State) : ∃ d, s.turn n = { s with disp := d } := by
  unfold State.turn; split
  · exact ⟨_, rfl⟩
  · split
    · obtain ⟨d, h⟩ := (s.modItem n (fun x => { x with moved := false })).event_frame n evTurn none
      rw [h]; exact ⟨_, rfl⟩
    · exact ⟨_, rfl⟩

theorem State.leaveReady_frame (n : Nat) (s : State) : ∃ d, s.leaveReady n = { s with disp := d } := by
  unfold State.leaveReady; split
  · exact ⟨_, rfl⟩
  · split <;> exact ⟨_, rfl⟩

theorem State.enterReady_frame (n : Nat) (s : State) : ∃ d r, s.enterReady n = { s with disp := d, regs := r } := by
  unfold State.enterReady; dsimp only; split
  · exact ⟨_, _, rfl⟩
  · split
    · exact ⟨_, _, rfl⟩
    · split
      · exact ⟨_, _, rfl⟩
      · rename_i x _ _ _ f fl moved ht
        cases moved with
        | false => exact ⟨_, _, rfl⟩
        | true =>
          obtain ⟨r, h⟩ := (s.modFlow x.flow (fun _ => fl)).bumpF_frame oDispHomeMoves 63 0 1
          have h2 : (s.modFlow x.flow (fun _ => fl)).when true (fun s => s.bump64 oDispHomeMoves 1) = { s.modFlow x.flow (fun _ => fl) with regs := r } := h
          rw [h2]; exact ⟨_, _, rfl⟩

/-- Bringing the flows up to date changes dispatch, and counts moves of homes. -/
theorem State.pump_frame (s : State) : ∃ d r, s.pump = { s with disp := d, regs := r } := by
  have go (f : State → Nat → State) (h : ∀ s n, ∃ d r, f s n = { s with disp := d, regs := r }) (l : List Nat) (s : State) :
      ∃ d r, l.foldl f s = { s with disp := d, regs := r } :=
    foldl_frame (r := fun a b => ∃ d r, b = { a with disp := d, regs := r }) (fun a => ⟨_, _, rfl⟩)
      (fun a b c ⟨f, l, h1⟩ ⟨g, m, h2⟩ => ⟨g, m, by rw [h2, h1]⟩) h l s
  unfold State.pump; dsimp only
  obtain ⟨d1, r1, h1⟩ := go (fun s n => s.turn n) (fun s n => by obtain ⟨d, h⟩ := s.turn_frame n; exact ⟨d, _, h⟩) (s.disp.items.map Prod.fst) s
  rw [h1]
  obtain ⟨d2, r2, h2⟩ := go (fun s n => s.leaveReady n) (fun s n => by obtain ⟨d, h⟩ := s.leaveReady_frame n; exact ⟨d, _, h⟩) (s.disp.items.map Prod.fst) { s with disp := d1, regs := r1 }
  rw [h2]
  obtain ⟨d3, r3, h3⟩ := go (fun s n => s.enterReady n) (fun s n => s.enterReady_frame n) (s.disp.items.map Prod.fst) { s with disp := d2, regs := r2 }
  rw [h3]; exact ⟨_, _, rfl⟩

/-! ### Frames on the wire (R251, R266, R336, R338) -/

theorem State.usePn_frame (p k : Nat) (a : Sa) (s : State) :
    ∃ q c o e n, s.usePn p k a = { s with ports := q, pcie := c, out := o, errPending := e, errNew := n } := by
  have up (t : State) (h : ∃ q c o e n, t = { s with ports := q, pcie := c, out := o, errPending := e, errNew := n }) :
      ∃ q c o e n, (if a.pn < a.maxPn then t.modSub p k (fun x => { x with tx := x.tx.set a.an { a with pn := a.pn + 1 } })
        else match Tbl.set (t.subOf p k).tx a.an { a with pn := a.pn + 1, protecting := false } |>.find? (fun e => decide (e.2.pn ≤ e.2.maxPn)) with
          | some e => t.modSub p k (fun x => { x with tx := (Tbl.set (t.subOf p k).tx a.an { a with pn := a.pn + 1, protecting := false }).set e.1 { e.2 with protecting := true } })
          | none => (t.modSub p k (fun x => { x with tx := Tbl.set (t.subOf p k).tx a.an { a with pn := a.pn + 1, protecting := false }, stalled := true })).raise 10 oCiphIrq 1) =
        { s with ports := q, pcie := c, out := o, errPending := e, errNew := n } := by
    obtain ⟨q, c, o, e, n, rfl⟩ := h
    split
    · exact ⟨_, _, _, _, _, rfl⟩
    · split
      · exact ⟨_, _, _, _, _, rfl⟩
      · obtain ⟨c, o, e, n, h⟩ := State.raise_frame 10 oCiphIrq 1 (State.modSub p k (fun x => { x with
          tx := Tbl.set (State.subOf { s with ports := q, pcie := c, out := o, errPending := e, errNew := n } p k).tx a.an { a with pn := a.pn + 1, protecting := false }, stalled := true })
          { s with ports := q, pcie := c, out := o, errPending := e, errNew := n })
        exact ⟨_, c, o, e, n, h⟩
  unfold State.usePn; dsimp only
  refine up _ ?_
  split
  · obtain ⟨c, o, e, n, h⟩ := State.raise_frame 10 oCiphIrq 0 (s.modSub p k (fun x => { x with pnWarn := true }))
    exact ⟨_, c, o, e, n, h⟩
  · exact ⟨_, _, _, _, _, rfl⟩

end Sys2Proof.Machine
end

