-- ==== Sys2Proof/Laws/Rows.lean ====
section
/-! SUPPORT. One equation for each row: the command runs its own effect, and most rows then settle what waits (Settle). -/

namespace Sys2Proof.Laws.Rows

open Sys2Proof Sys2Proof.Machine

theorem powerLoss (s : State) :
    exec (.powerLoss) s = run (fun s => s.powerLoss) s := rfl

theorem sysRstN (lowNs : Nat) (s : State) :
    exec (.sysRstN lowNs) s = run (fun s => (s.sysReset lowNs).settle) s := rfl

theorem perstN (low : Bool) (s : State) :
    exec (.perstN low) s = run (fun s => (s.perst low).settle) s := rfl

theorem devResetRequest (value : Nat) (s : State) :
    exec (.devResetRequest value) s = run (fun s => s.pfWrite oDevResetRequest value) s := rfl

theorem startUp (env : StartEnv) (s : State) :
    exec (.startUp env) s = run (fun s => (s.startUp env).settle) s := rfl

theorem busMasterEnable (fn : Nat) (on : Bool) (s : State) :
    exec (.busMasterEnable fn on) s = run (fun s => (s.busMaster fn on).settle) s := rfl

theorem flrPf0 (s : State) :
    exec (.flrPf0) s = run (fun s => (s.flrPf0).settle) s := rfl

theorem vfFlr (fn : Nat) (s : State) :
    exec (.vfFlr fn) s = run (fun s => (s.vfFlr fn).settle) s := rfl

theorem tickBoundary (s : State) :
    exec (.tickBoundary) s = run (fun s => (s.tickBoundary).settle) s := rfl

theorem epochBoundary (s : State) :
    exec (.epochBoundary) s = run (fun s => (s.epochBoundary).settle) s := rfl

theorem placementRun (moves : List PlanMove) (s : State) :
    exec (.placementRun moves) s = run (fun s => s.placementRun moves) s := rfl

theorem mgmtSqTail (value : Nat) (s : State) :
    exec (.mgmtSqTail value) s = run (fun s => s.pfWrite oMgmtSqTail value) s := rfl

theorem mgmtCqHead (value : Nat) (s : State) :
    exec (.mgmtCqHead value) s = run (fun s => s.pfWrite oMgmtCqHead value) s := rfl

theorem mgmtDigestAck (value : Nat) (s : State) :
    exec (.mgmtDigestAck value) s = run (fun s => s.pfWrite oMgmtDigestAck value) s := rfl

theorem mgmtUrgent (value : Nat) (s : State) :
    exec (.mgmtUrgent value) s = run (fun s => s.pfWrite oMgmtUrgent value) s := rfl

theorem mgmtDescriptorFetch (urgent : Bool) (c : Cmd) (s : State) :
    exec (.mgmtDescriptorFetch urgent c) s = run (fun s => (s.descriptorFetch urgent c).settle) s := rfl

theorem epochFence (c : Cmd) (s : State) :
    exec (.epochFence c) s = run (fun s => (s.cmdRow 0x8001 effFence c).settle) s := rfl

theorem readState (c : Cmd) (s : State) :
    exec (.readState c) s = run (fun s => (s.cmdRow 0x8002 effReadState c).settle) s := rfl

theorem digestResync (c : Cmd) (s : State) :
    exec (.digestResync c) s = run (fun s => (s.cmdRow 0x8003 effResync c).settle) s := rfl

theorem ksPageRangeSet (c : Cmd) (s : State) :
    exec (.ksPageRangeSet c) s = run (fun s => (s.cmdRow 0x8101 effPageRange c).settle) s := rfl

theorem ksPinResident (c : Cmd) (s : State) :
    exec (.ksPinResident c) s = run (fun s => (s.cmdRow 0x8102 effPin c).settle) s := rfl

theorem ksKeyInfo (c : Cmd) (s : State) :
    exec (.ksKeyInfo c) s = run (fun s => (s.cmdRow 0x8103 effKeyInfo c).settle) s := rfl

theorem ksPageRetry (c : Cmd) (s : State) :
    exec (.ksPageRetry c) s = run (fun s => (s.cmdRow 0x8104 effPageRetry c).settle) s := rfl

theorem ksSnapshotBase (c : Cmd) (s : State) :
    exec (.ksSnapshotBase c) s = run (fun s => (s.cmdRow 0x8105 effSnapshotBase c).settle) s := rfl

theorem ceremonyBegin (c : Cmd) (s : State) :
    exec (.ceremonyBegin c) s = run (fun s => (s.cmdRow 0x8110 effCeremonyBegin c).settle) s := rfl

theorem ceremonyRead (c : Cmd) (s : State) :
    exec (.ceremonyRead c) s = run (fun s => (s.cmdRow 0x8111 effCeremonyRead c).settle) s := rfl

theorem ceremonyCommit (c : Cmd) (s : State) :
    exec (.ceremonyCommit c) s = run (fun s => (s.cmdRow 0x8112 effCeremonyCommit c).settle) s := rfl

theorem ceremonyAbort (c : Cmd) (s : State) :
    exec (.ceremonyAbort c) s = run (fun s => (s.cmdRow 0x8113 effCeremonyAbort c).settle) s := rfl

theorem ceremonyTimeout (s : State) :
    exec (.ceremonyTimeout) s = run (fun s => s.ceremonyTimeout) s := rfl

theorem identityRead (c : Cmd) (s : State) :
    exec (.identityRead c) s = run (fun s => (s.cmdRow 0x8114 effIdentityRead c).settle) s := rfl

theorem lastLoad (c : Cmd) (s : State) :
    exec (.lastLoad c) s = run (fun s => (s.lastRow 0x8201 c).settle) s := rfl

theorem lastAmend (c : Cmd) (s : State) :
    exec (.lastAmend c) s = run (fun s => (s.lastRow 0x8202 c).settle) s := rfl

theorem lastCheck (c : Cmd) (s : State) :
    exec (.lastCheck c) s = run (fun s => (s.lastRow 0x8203 c).settle) s := rfl

theorem lastStats (c : Cmd) (s : State) :
    exec (.lastStats c) s = run (fun s => (s.cmdRow 0x8204 effLastStats c).settle) s := rfl

theorem lastValidationDone (s : State) :
    exec (.lastValidationDone) s = run (fun s => (s.validationDone).settle) s := rfl

theorem lastStorePersisted (s : State) :
    exec (.lastStorePersisted) s = run (fun s => s.storePersisted) s := rfl

theorem dispFlowLookup (c : Cmd) (s : State) :
    exec (.dispFlowLookup c) s = run (fun s => (s.cmdRow 0x8301 effFlowLookup c).settle) s := rfl

theorem dispPinFlow (c : Cmd) (s : State) :
    exec (.dispPinFlow c) s = run (fun s => (s.cmdRow 0x8302 effPinFlow c).settle) s := rfl

theorem dispHintFlow (c : Cmd) (s : State) :
    exec (.dispHintFlow c) s = run (fun s => (s.cmdRow 0x8303 effHintFlow c).settle) s := rfl

theorem dispFronds (c : Cmd) (s : State) :
    exec (.dispFronds c) s = run (fun s => (s.cmdRow 0x8304 effFronds c).settle) s := rfl

theorem dispHintKey (c : Cmd) (s : State) :
    exec (.dispHintKey c) s = run (fun s => (s.cmdRow 0x8305 effHintKey c).settle) s := rfl

theorem dispPlacement (c : Cmd) (s : State) :
    exec (.dispPlacement c) s = run (fun s => (s.cmdRow 0x8306 effPlacement c).settle) s := rfl

theorem portAdmin (c : Cmd) (s : State) :
    exec (.portAdmin c) s = run (fun s => (s.cmdRow 0x8401 effPortAdmin c).settle) s := rfl

theorem portShutdown (c : Cmd) (s : State) :
    exec (.portShutdown c) s = run (fun s => (s.cmdRow 0x8402 effPortShutdown c).settle) s := rfl

theorem sessionCreate (c : Cmd) (s : State) :
    exec (.sessionCreate c) s = run (fun s => (s.cmdRow 0x8403 effSessionCreate c).settle) s := rfl

theorem sessionConnect (c : Cmd) (s : State) :
    exec (.sessionConnect c) s = run (fun s => (s.cmdRow 0x8404 effSessionConnect c).settle) s := rfl

theorem sessionClose (c : Cmd) (s : State) :
    exec (.sessionClose c) s = run (fun s => (s.cmdRow 0x8405 effSessionClose c).settle) s := rfl

theorem sessionDest (c : Cmd) (s : State) :
    exec (.sessionDest c) s = run (fun s => (s.cmdRow 0x8406 effSessionDest c).settle) s := rfl

theorem portPeers (c : Cmd) (s : State) :
    exec (.portPeers c) s = run (fun s => (s.cmdRow 0x8407 effPortPeers c).settle) s := rfl

theorem macsecSaInstall (c : Cmd) (s : State) :
    exec (.macsecSaInstall c) s = run (fun s => (s.cmdRow 0x8408 effSaInstall c).settle) s := rfl

theorem macsecTxUse (c : Cmd) (s : State) :
    exec (.macsecTxUse c) s = run (fun s => (s.cmdRow 0x8409 effTxUse c).settle) s := rfl

theorem macsecSaRemove (c : Cmd) (s : State) :
    exec (.macsecSaRemove c) s = run (fun s => (s.cmdRow 0x840A effSaRemove c).settle) s := rfl

theorem macsecSaStatus (c : Cmd) (s : State) :
    exec (.macsecSaStatus c) s = run (fun s => (s.cmdRow 0x840B effSaStatus c).settle) s := rfl

theorem queueCreate (c : Cmd) (s : State) :
    exec (.queueCreate c) s = run (fun s => (s.cmdRow 0x8501 effQueueCreate c).settle) s := rfl

theorem queueDestroy (c : Cmd) (s : State) :
    exec (.queueDestroy c) s = run (fun s => (s.cmdRow 0x8502 effQueueDestroy c).settle) s := rfl

theorem queueStatus (c : Cmd) (s : State) :
    exec (.queueStatus c) s = run (fun s => (s.cmdRow 0x8503 effQueueStatus c).settle) s := rfl

theorem instanceCreate (c : Cmd) (s : State) :
    exec (.instanceCreate c) s = run (fun s => (s.cmdRow 0x8601 effInstCreate c).settle) s := rfl

theorem instanceEnable (c : Cmd) (s : State) :
    exec (.instanceEnable c) s = run (fun s => (s.cmdRow 0x8602 effInstEnable c).settle) s := rfl

theorem instanceDisable (c : Cmd) (s : State) :
    exec (.instanceDisable c) s = run (fun s => (s.cmdRow 0x8603 effInstDisable c).settle) s := rfl

theorem instanceReset (c : Cmd) (s : State) :
    exec (.instanceReset c) s = run (fun s => (s.cmdRow 0x8604 effInstReset c).settle) s := rfl

theorem instanceResetDone (inst : Nat) (s : State) :
    exec (.instanceResetDone inst) s = run (fun s => s.resetDone inst) s := rfl

theorem instanceQuiet (inst : Nat) (s : State) :
    exec (.instanceQuiet inst) s = run (fun s => s.instQuiet inst) s := rfl

theorem instanceDestroy (c : Cmd) (s : State) :
    exec (.instanceDestroy c) s = run (fun s => (s.cmdRow 0x8605 effInstDestroy c).settle) s := rfl

theorem instanceSetLimits (c : Cmd) (s : State) :
    exec (.instanceSetLimits c) s = run (fun s => (s.cmdRow 0x8606 effInstLimits c).settle) s := rfl

theorem movePrepare (c : Cmd) (s : State) :
    exec (.movePrepare c) s = run (fun s => (s.cmdRow 0x8607 effMovePrepare c).settle) s := rfl

theorem moveOut (c : Cmd) (s : State) :
    exec (.moveOut c) s = run (fun s => (s.cmdRow 0x8608 effMoveOut c).settle) s := rfl

theorem moveIn (c : Cmd) (s : State) :
    exec (.moveIn c) s = run (fun s => (s.cmdRow 0x8609 effMoveIn c).settle) s := rfl

theorem moveFinish (c : Cmd) (s : State) :
    exec (.moveFinish c) s = run (fun s => (s.cmdRow 0x860A effMoveFinish c).settle) s := rfl

theorem moveAbandon (c : Cmd) (s : State) :
    exec (.moveAbandon c) s = run (fun s => (s.cmdRow 0x860B effMoveAbandon c).settle) s := rfl

theorem moveCancel (c : Cmd) (s : State) :
    exec (.moveCancel c) s = run (fun s => (s.cmdRow 0x860C effMoveCancel c).settle) s := rfl

theorem moveMembership (c : Cmd) (s : State) :
    exec (.moveMembership c) s = run (fun s => (s.cmdRow 0x860D effMembership c).settle) s := rfl

theorem forcedFailover (c : Cmd) (s : State) :
    exec (.forcedFailover c) s = run (fun s => (s.cmdRow 0x8701 effFailover c).settle) s := rfl

theorem twinReturnHold (c : Cmd) (s : State) :
    exec (.twinReturnHold c) s = run (fun s => (s.cmdRow 0x8702 effReturnHold c).settle) s := rfl

theorem zeroise (c : Cmd) (s : State) :
    exec (.zeroise c) s = run (fun s => (s.cmdRow 0x8801 effZeroise c).settle) s := rfl

theorem protFuseOptions (c : Cmd) (s : State) :
    exec (.protFuseOptions c) s = run (fun s => (s.cmdRow 0x8802 effFuseOptions c).settle) s := rfl

theorem debugUnlock (c : Cmd) (s : State) :
    exec (.debugUnlock c) s = run (fun s => (s.cmdRow 0x8803 effDebugUnlock c).settle) s := rfl

theorem ledgerExport (c : Cmd) (s : State) :
    exec (.ledgerExport c) s = run (fun s => (s.cmdRow 0x8901 effLedgerExport c).settle) s := rfl

theorem cardRead (c : Cmd) (s : State) :
    exec (.cardRead c) s = run (fun s => (s.cmdRow 0x8902 effCardRead c).settle) s := rfl

theorem firmwareUpdate (c : Cmd) (s : State) :
    exec (.firmwareUpdate c) s = run (fun s => (s.cmdRow 0x8903 effFirmware c).settle) s := rfl

theorem fabBankPower (c : Cmd) (s : State) :
    exec (.fabBankPower c) s = run (fun s => (s.cmdRow 0x8A01 effBankPower c).settle) s := rfl

theorem fabUnretire (c : Cmd) (s : State) :
    exec (.fabUnretire c) s = run (fun s => (s.cmdRow 0x8A02 effUnretire c).settle) s := rfl

theorem fabSelftest (c : Cmd) (s : State) :
    exec (.fabSelftest c) s = run (fun s => (s.cmdRow 0x8A03 effSelftest c).settle) s := rfl

theorem kumSqTail (value : Nat) (s : State) :
    exec (.kumSqTail value) s = run (fun s => s.pfWrite oKumSqTail value) s := rfl

theorem kumCqHead (value : Nat) (s : State) :
    exec (.kumCqHead value) s = run (fun s => s.pfWrite oKumCqHead value) s := rfl

theorem keyUpdateMessage (entry : Bytes) (msg : Bytes) (s : State) :
    exec (.keyUpdateMessage entry msg) s = run (fun s => (s.kumFetch entry msg).settle) s := rfl

theorem writeKey (op : KeyOp) (s : State) :
    exec (.writeKey op) s = run (fun s => (s.opRow 0x01 op).settle) s := rfl

theorem delete (op : KeyOp) (s : State) :
    exec (.delete op) s = run (fun s => (s.opRow 0x02 op).settle) s := rfl

theorem replenish (op : KeyOp) (s : State) :
    exec (.replenish op) s = run (fun s => (s.opRow 0x03 op).settle) s := rfl

theorem setAttributes (op : KeyOp) (s : State) :
    exec (.setAttributes op) s = run (fun s => (s.opRow 0x04 op).settle) s := rfl

theorem markPersistent (op : KeyOp) (s : State) :
    exec (.markPersistent op) s = run (fun s => (s.opRow 0x05 op).settle) s := rfl

theorem setRoster (op : KeyOp) (s : State) :
    exec (.setRoster op) s = run (fun s => (s.opRow 0x06 op).settle) s := rfl

theorem setRosterDevice (op : KeyOp) (s : State) :
    exec (.setRosterDevice op) s = run (fun s => (s.opRow 0x10 op).settle) s := rfl

theorem enrolImageAuthority (op : KeyOp) (s : State) :
    exec (.enrolImageAuthority op) s = run (fun s => (s.opRow 0x11 op).settle) s := rfl

theorem enrolDomainAuthority (op : KeyOp) (s : State) :
    exec (.enrolDomainAuthority op) s = run (fun s => (s.opRow 0x12 op).settle) s := rfl

theorem establishRoster (op : KeyOp) (s : State) :
    exec (.establishRoster op) s = run (fun s => (s.opRow 0x16 op).settle) s := rfl

theorem lifecycleStep (op : KeyOp) (s : State) :
    exec (.lifecycleStep op) s = run (fun s => (s.opRow 0x13 op).settle) s := rfl

theorem lifecycleReceiptTimeout (s : State) :
    exec (.lifecycleReceiptTimeout) s = run (fun s => (s.receiptTimeout).settle) s := rfl

theorem fuseBurnDone (s : State) :
    exec (.fuseBurnDone) s = run (fun s => s.fuseBurnDone) s := rfl

theorem debugEnable (op : KeyOp) (s : State) :
    exec (.debugEnable op) s = run (fun s => (s.opRow 0x14 op).settle) s := rfl

theorem clearTamper (op : KeyOp) (s : State) :
    exec (.clearTamper op) s = run (fun s => (s.opRow 0x15 op).settle) s := rfl

theorem sqTail (fn : Nat) (q : Nat) (value : Nat) (s : State) :
    exec (.sqTail fn q value) s = run (fun s => (s.doorbellRow fn q 0 value).settle) s := rfl

theorem cqHead (fn : Nat) (q : Nat) (value : Nat) (s : State) :
    exec (.cqHead fn q value) s = run (fun s => (s.doorbellRow fn q 1 value).settle) s := rfl

theorem serviceDescriptorFetch (f : ServiceFetch) (s : State) :
    exec (.serviceDescriptorFetch f) s = run (fun s => (s.serviceFetch f).settle) s := rfl

theorem gatherFault (item : Nat) (operand : Nat) (element : Nat) (s : State) :
    exec (.gatherFault item operand element) s = run (fun s => (s.gatherFault item operand element).settle) s := rfl

theorem itemAdmit (frond : Nat) (s : State) :
    exec (.itemAdmit frond) s = run (fun s => (s.itemAdmit frond).settle) s := rfl

theorem waitPoolFullCount (frond : Nat) (s : State) :
    exec (.waitPoolFullCount frond) s = run (fun s => s.waitPoolFullCount frond) s := rfl

theorem extract (item : Nat) (s : State) :
    exec (.extract item) s = run (fun s => (s.stitchRow opExtract State.extractStitch item).settle) s := rfl

theorem selectKey (item : Nat) (s : State) :
    exec (.selectKey item) s = run (fun s => (s.stitchRow opSelectKey State.selectKeyStitch item).settle) s := rfl

theorem apply (item : Nat) (s : State) :
    exec (.apply item) s = run (fun s => (s.stitchRow opApply State.applyStitch item).settle) s := rfl

theorem rewrite (item : Nat) (s : State) :
    exec (.rewrite item) s = run (fun s => (s.stitchRow opRewrite State.rewriteStitch item).settle) s := rfl

theorem test (item : Nat) (s : State) :
    exec (.test item) s = run (fun s => (s.stitchRow opTest State.testStitch item).settle) s := rfl

theorem skipIf (item : Nat) (s : State) :
    exec (.skipIf item) s = run (fun s => (s.stitchRow opSkipIf State.skipStitch item).settle) s := rfl

theorem route (item : Nat) (s : State) :
    exec (.route item) s = run (fun s => (s.stitchRow opRoute State.routeStitch item).settle) s := rfl

theorem respond (item : Nat) (s : State) :
    exec (.respond item) s = run (fun s => (s.stitchRow opRespond State.terminalStitch item).settle) s := rfl

theorem reject (item : Nat) (s : State) :
    exec (.reject item) s = run (fun s => (s.stitchRow opReject State.terminalStitch item).settle) s := rfl

theorem drop (item : Nat) (s : State) :
    exec (.drop item) s = run (fun s => (s.stitchRow opDrop State.terminalStitch item).settle) s := rfl

theorem hold (item : Nat) (s : State) :
    exec (.hold item) s = run (fun s => (s.stitchRow opHold State.holdStitch item).settle) s := rfl

theorem holdDue (item : Nat) (s : State) :
    exec (.holdDue item) s = run (fun s => (s.holdDue item).settle) s := rfl

theorem setFlow (item : Nat) (s : State) :
    exec (.setFlow item) s = run (fun s => (s.stitchRow opSetFlow State.setFlowStitch item).settle) s := rfl

theorem count (item : Nat) (s : State) :
    exec (.count item) s = run (fun s => (s.stitchRow opCount State.countStitch item).settle) s := rfl

theorem emit (item : Nat) (s : State) :
    exec (.emit item) s = run (fun s => (s.stitchRow opEmit State.emitStitch item).settle) s := rfl

theorem deadlineExpiry (item : Nat) (s : State) :
    exec (.deadlineExpiry item) s = run (fun s => (s.deadlineExpiry item).settle) s := rfl

theorem pinTranslate (item : Nat) (s : State) :
    exec (.pinTranslate item) s = run (fun s => (s.fnRow 0x0101 item).settle) s := rfl

theorem pinVerifyOffset (item : Nat) (s : State) :
    exec (.pinVerifyOffset item) s = run (fun s => (s.fnRow 0x0102 item).settle) s := rfl

theorem pinVerifyPvv (item : Nat) (s : State) :
    exec (.pinVerifyPvv item) s = run (fun s => (s.fnRow 0x0103 item).settle) s := rfl

theorem pinGenerateOffset (item : Nat) (s : State) :
    exec (.pinGenerateOffset item) s = run (fun s => (s.fnRow 0x0104 item).settle) s := rfl

theorem macGenerate (item : Nat) (s : State) :
    exec (.macGenerate item) s = run (fun s => (s.fnRow 0x0201 item).settle) s := rfl

theorem macVerify (item : Nat) (s : State) :
    exec (.macVerify item) s = run (fun s => (s.fnRow 0x0202 item).settle) s := rfl

theorem macTranslate (item : Nat) (s : State) :
    exec (.macTranslate item) s = run (fun s => (s.fnRow 0x0203 item).settle) s := rfl

theorem arqcVerify (item : Nat) (s : State) :
    exec (.arqcVerify item) s = run (fun s => (s.fnRow 0x0301 item).settle) s := rfl

theorem arpcGenerate (item : Nat) (s : State) :
    exec (.arpcGenerate item) s = run (fun s => (s.fnRow 0x0302 item).settle) s := rfl

theorem cardValueVerify (item : Nat) (s : State) :
    exec (.cardValueVerify item) s = run (fun s => (s.fnRow 0x0303 item).settle) s := rfl

theorem cardValueGenerate (item : Nat) (s : State) :
    exec (.cardValueGenerate item) s = run (fun s => (s.fnRow 0x0304 item).settle) s := rfl

theorem dukptDerive (item : Nat) (s : State) :
    exec (.dukptDerive item) s = run (fun s => (s.fnRow 0x0401 item).settle) s := rfl

theorem keyDerive (item : Nat) (s : State) :
    exec (.keyDerive item) s = run (fun s => (s.fnRow 0x0402 item).settle) s := rfl

theorem tokenise (item : Nat) (s : State) :
    exec (.tokenise item) s = run (fun s => (s.fnRow 0x0501 item).settle) s := rfl

theorem detokenise (item : Nat) (s : State) :
    exec (.detokenise item) s = run (fun s => (s.fnRow 0x0502 item).settle) s := rfl

theorem encrypt (item : Nat) (s : State) :
    exec (.encrypt item) s = run (fun s => (s.fnRow 0x0601 item).settle) s := rfl

theorem decrypt (item : Nat) (s : State) :
    exec (.decrypt item) s = run (fun s => (s.fnRow 0x0602 item).settle) s := rfl

theorem aeadSeal (item : Nat) (s : State) :
    exec (.aeadSeal item) s = run (fun s => (s.fnRow 0x0603 item).settle) s := rfl

theorem aeadOpen (item : Nat) (s : State) :
    exec (.aeadOpen item) s = run (fun s => (s.fnRow 0x0604 item).settle) s := rfl

theorem contextExport (item : Nat) (s : State) :
    exec (.contextExport item) s = run (fun s => (s.fnRow 0x0605 item).settle) s := rfl

theorem contextImport (item : Nat) (s : State) :
    exec (.contextImport item) s = run (fun s => (s.fnRow 0x0606 item).settle) s := rfl

theorem hash (item : Nat) (s : State) :
    exec (.hash item) s = run (fun s => (s.fnRow 0x0701 item).settle) s := rfl

theorem hmacGenerate (item : Nat) (s : State) :
    exec (.hmacGenerate item) s = run (fun s => (s.fnRow 0x0702 item).settle) s := rfl

theorem hmacVerify (item : Nat) (s : State) :
    exec (.hmacVerify item) s = run (fun s => (s.fnRow 0x0703 item).settle) s := rfl

theorem sign (item : Nat) (s : State) :
    exec (.sign item) s = run (fun s => (s.fnRow 0x0801 item).settle) s := rfl

theorem verify (item : Nat) (s : State) :
    exec (.verify item) s = run (fun s => (s.fnRow 0x0802 item).settle) s := rfl

theorem keyAgree (item : Nat) (s : State) :
    exec (.keyAgree item) s = run (fun s => (s.fnRow 0x0901 item).settle) s := rfl

theorem kemEncaps (item : Nat) (s : State) :
    exec (.kemEncaps item) s = run (fun s => (s.fnRow 0x0902 item).settle) s := rfl

theorem kemDecaps (item : Nat) (s : State) :
    exec (.kemDecaps item) s = run (fun s => (s.fnRow 0x0903 item).settle) s := rfl

theorem keyGenerate (item : Nat) (s : State) :
    exec (.keyGenerate item) s = run (fun s => (s.fnRow 0x0A01 item).settle) s := rfl

theorem keyImportBlock (item : Nat) (s : State) :
    exec (.keyImportBlock item) s = run (fun s => (s.fnRow 0x0A02 item).settle) s := rfl

theorem keyExportBlock (item : Nat) (s : State) :
    exec (.keyExportBlock item) s = run (fun s => (s.fnRow 0x0A03 item).settle) s := rfl

theorem keyCheckValue (item : Nat) (s : State) :
    exec (.keyCheckValue item) s = run (fun s => (s.fnRow 0x0A04 item).settle) s := rfl

theorem random (item : Nat) (s : State) :
    exec (.random item) s = run (fun s => (s.fnRow 0x0B01 item).settle) s := rfl

theorem drbgReseed (item : Nat) (s : State) :
    exec (.drbgReseed item) s = run (fun s => (s.fnRow 0x0B02 item).settle) s := rfl

theorem attest (item : Nat) (s : State) :
    exec (.attest item) s = run (fun s => (s.fnRow 0x0C01 item).settle) s := rfl

theorem quantumEnd (q : QuantumEnd) (s : State) :
    exec (.quantumEnd q) s = run (fun s => (s.quantumRow q).settle) s := rfl

theorem pkJobAdmit (frond : Nat) (s : State) :
    exec (.pkJobAdmit frond) s = run (fun s => (s.pkAdmit frond).settle) s := rfl

theorem segmentEnd (frond : Nat) (lattice : Bool) (releaseOk : Bool) (s : State) :
    exec (.segmentEnd frond lattice releaseOk) s = run (fun s => (s.segmentEnd frond lattice releaseOk).settle) s := rfl

theorem pageFetchDone (page : Nat) (data : Option Bytes) (s : State) :
    exec (.pageFetchDone page data) s = run (fun s => (s.pageFetchDone page data).settle) s := rfl

theorem pageFetchTimeout (page : Nat) (s : State) :
    exec (.pageFetchTimeout page) s = run (fun s => (s.pageFetchTimeout page).settle) s := rfl

theorem pageWriteBack (page : Nat) (data : Option Bytes) (s : State) :
    exec (.pageWriteBack page data) s = run (fun s => (s.pageWriteBack page data).settle) s := rfl

theorem pageWriteConfirm (page : Nat) (header : Option Bytes) (s : State) :
    exec (.pageWriteConfirm page header) s = run (fun s => (s.pageWriteConfirm page header).settle) s := rfl

theorem kpgNoticeHead (value : Nat) (s : State) :
    exec (.kpgNoticeHead value) s = run (fun s => (s.pfWrite oKpgNoticeHead value).settle) s := rfl

theorem journalCommit (s : State) :
    exec (.journalCommit) s = run (fun s => (s.journalCommit).settle) s := rfl

theorem snapshotBaseCommit (s : State) :
    exec (.snapshotBaseCommit) s = run (fun s => (s.baseCommit).settle) s := rfl

theorem ethernetFrameRx (f : RxFrame) (s : State) :
    exec (.ethernetFrameRx f) s = run (fun s => (s.receive .any f).settle) s := rfl

theorem pfcFrame (f : RxFrame) (s : State) :
    exec (.pfcFrame f) s = run (fun s => (s.receive .pfc f).settle) s := rfl

theorem arpRequest (f : RxFrame) (s : State) :
    exec (.arpRequest f) s = run (fun s => (s.receive .arp f).settle) s := rfl

theorem neighbourSolicitation (f : RxFrame) (s : State) :
    exec (.neighbourSolicitation f) s = run (fun s => (s.receive .neighbour f).settle) s := rfl

theorem lldpdu (f : RxFrame) (s : State) :
    exec (.lldpdu f) s = run (fun s => (s.receive .lldp f).settle) s := rfl

theorem dataFrame (f : RxFrame) (s : State) :
    exec (.dataFrame f) s = run (fun s => (s.receive (.htt 0x01) f).settle) s := rfl

theorem noticeFrame (f : RxFrame) (s : State) :
    exec (.noticeFrame f) s = run (fun s => (s.receive (.htt 0x02) f).settle) s := rfl

theorem creditFrame (f : RxFrame) (s : State) :
    exec (.creditFrame f) s = run (fun s => (s.receive (.htt 0x03) f).settle) s := rfl

theorem closeFrame (f : RxFrame) (s : State) :
    exec (.closeFrame f) s = run (fun s => (s.receive (.htt 0x04) f).settle) s := rfl

theorem hello (f : RxFrame) (s : State) :
    exec (.hello f) s = run (fun s => (s.receive (.htt 0x10) f).settle) s := rfl

theorem offer (f : RxFrame) (s : State) :
    exec (.offer f) s = run (fun s => (s.receive (.htt 0x11) f).settle) s := rfl

theorem accept (f : RxFrame) (s : State) :
    exec (.accept f) s = run (fun s => (s.receive (.htt 0x12) f).settle) s := rfl

theorem presenceFrame (f : RxFrame) (s : State) :
    exec (.presenceFrame f) s = run (fun s => (s.receive (.htt 0x20) f).settle) s := rfl

theorem setupTimeout (session : Nat) (s : State) :
    exec (.setupTimeout session) s = run (fun s => (s.setupTimeout session).settle) s := rfl

theorem helloResend (session : Nat) (s : State) :
    exec (.helloResend session) s = run (fun s => (s.helloResend session).settle) s := rfl

theorem acceptResend (session : Nat) (s : State) :
    exec (.acceptResend session) s = run (fun s => (s.acceptResend session).settle) s := rfl

theorem creditResend (session : Nat) (s : State) :
    exec (.creditResend session) s = run (fun s => (s.creditResend session).settle) s := rfl

theorem creditGrantSend (session : Nat) (s : State) :
    exec (.creditGrantSend session) s = run (fun s => (s.creditGrantSend session).settle) s := rfl

theorem serviceResponseTimeout (item : Nat) (s : State) :
    exec (.serviceResponseTimeout item) s = run (fun s => (s.responseTimeout item).settle) s := rfl

theorem parkTimeExpiry (session : Nat) (s : State) :
    exec (.parkTimeExpiry session) s = run (fun s => (s.parkExpiry session).settle) s := rfl

theorem reclaimTimeExpiry (session : Nat) (s : State) :
    exec (.reclaimTimeExpiry session) s = run (fun s => (s.reclaimExpiry session).settle) s := rfl

theorem presenceAnnounce (port : Nat) (sub : Nat) (s : State) :
    exec (.presenceAnnounce port sub) s = run (fun s => s.presenceAnnounce port sub) s := rfl

theorem lldpAnnounce (port : Nat) (sub : Nat) (s : State) :
    exec (.lldpAnnounce port sub) s = run (fun s => s.lldpAnnounce port sub) s := rfl

theorem solitaryEntry (port : Nat) (sub : Nat) (s : State) :
    exec (.solitaryEntry port sub) s = run (fun s => s.solitaryEntry port sub) s := rfl

theorem peerEntryAgeing (port : Nat) (ix : Nat) (s : State) :
    exec (.peerEntryAgeing port ix) s = run (fun s => s.peerAge port ix) s := rfl

theorem linkChange (port : Nat) (sub : Nat) (up : Bool) (s : State) :
    exec (.linkChange port sub up) s = run (fun s => (s.linkChange port sub up).settle) s := rfl

theorem flowLingerExpiry (flow : Nat) (s : State) :
    exec (.flowLingerExpiry flow) s = run (fun s => s.flowLinger flow) s := rfl

theorem contextIdleExpiry (entry : Nat) (s : State) :
    exec (.contextIdleExpiry entry) s = run (fun s => s.contextIdle entry) s := rfl

theorem mbxSend (inst : Nat) (value : Nat) (s : State) :
    exec (.mbxSend inst value) s = run (fun s => s.vfRow inst 0x1008 value) s := rfl

theorem instMbxIn (inst : Nat) (value : Nat) (s : State) :
    exec (.instMbxIn inst value) s = run (fun s => s.instRow inst oInstMbxIn value) s := rfl

theorem instMbxOutPost (inst : Nat) (value : Nat) (msgs : Bytes) (fault : Bool) (s : State) :
    exec (.instMbxOutPost inst value msgs fault) s = run (fun s => s.mbxOutPost inst value msgs fault) s := rfl

theorem mbxRx (inst : Nat) (value : Nat) (s : State) :
    exec (.mbxRx inst value) s = run (fun s => s.vfRow inst 0x1010 value) s := rfl

theorem instLogHead (inst : Nat) (value : Nat) (s : State) :
    exec (.instLogHead inst value) s = run (fun s => s.instRow inst oInstLogHead value) s := rfl

theorem eccError (e : EccEvent) (s : State) :
    exec (.eccError e) s = run (fun s => (s.eccError e).settle) s := rfl

theorem engineError (unit : Nat) (item : Nat) (s : State) :
    exec (.engineError unit item) s = run (fun s => (s.engineError unit item).settle) s := rfl

theorem engineKatDone (unit : Nat) (pass : Bool) (s : State) :
    exec (.engineKatDone unit pass) s = run (fun s => (s.katDone unit pass).settle) s := rfl

theorem bankCopyDone (quadrant : Nat) (s : State) :
    exec (.bankCopyDone quadrant) s = run (fun s => (s.bankCopyDone quadrant).settle) s := rfl

theorem bankMarchTestDone (quadrant : Nat) (pass : Bool) (s : State) :
    exec (.bankMarchTestDone quadrant pass) s = run (fun s => (s.marchDone quadrant pass).settle) s := rfl

theorem bankCopyBackDone (quadrant : Nat) (s : State) :
    exec (.bankCopyBackDone quadrant) s = run (fun s => (s.copyBackDone quadrant).settle) s := rfl

theorem bankRetentionTimeout (bank : Nat) (s : State) :
    exec (.bankRetentionTimeout bank) s = run (fun s => s.retentionTimeout bank) s := rfl

theorem arbiterStarvation (requester : Nat) (unit : Nat) (crossbar : Bool) (s : State) :
    exec (.arbiterStarvation requester unit crossbar) s = run (fun s => s.starvation requester unit crossbar) s := rfl

theorem monitorAssert (source : Nat) (s : State) :
    exec (.monitorAssert source) s = run (fun s => (s.monitorAssert source).settle) s := rfl

theorem tempWarn (temp : Nat) (s : State) :
    exec (.tempWarn temp) s = run (fun s => s.tempWarn temp) s := rfl

theorem noiseWindow (source : Nat) (window : Bytes) (s : State) :
    exec (.noiseWindow source window) s = run (fun s => (s.noiseWindow source window).settle) s := rfl

theorem drbgReseedCount (kind : Nat) (number : Nat) (s : State) :
    exec (.drbgReseedCount kind number) s = run (fun s => s.reseedCount kind number) s := rfl

theorem rngTestControl (value : Nat) (s : State) :
    exec (.rngTestControl value) s = run (fun s => s.pfWrite oRngTestControl value) s := rfl

theorem rngTestData (value : Nat) (s : State) :
    exec (.rngTestData value) s = run (fun s => (s.pfWrite oRngTestData value).settle) s := rfl

theorem protDebugRevoke (s : State) :
    exec (.protDebugRevoke) s = run (fun s => s.pfWrite oProtDebug 0x200) s := rfl

theorem protDebugNewNonce (s : State) :
    exec (.protDebugNewNonce) s = run (fun s => s.pfWrite oProtDebug 0x100) s := rfl

theorem weltLinkUp (w : WeltUp) (s : State) :
    exec (.weltLinkUp w) s = run (fun s => (s.weltUp w).settle) s := rfl

theorem weltFrameTimeout (s : State) :
    exec (.weltFrameTimeout) s = run (fun s => (s.weltDown).settle) s := rfl

theorem heartbeatRx (h : Heartbeat) (s : State) :
    exec (.heartbeatRx h) s = run (fun s => (s.heartbeatRx h).settle) s := rfl

theorem heartbeatLoss (s : State) :
    exec (.heartbeatLoss) s = run (fun s => (s.heartbeatLoss).settle) s := rfl

theorem fencePromotionAttempt (s : State) :
    exec (.fencePromotionAttempt) s = run (fun s => (s.fenceAttempt).settle) s := rfl

theorem startWaitExpiry (s : State) :
    exec (.startWaitExpiry) s = run (fun s => (s.startWait).settle) s := rfl

theorem returnOfPrimary (s : State) :
    exec (.returnOfPrimary) s = run (fun s => (s.returnPrimary).settle) s := rfl

theorem returnResumeTimeout (s : State) :
    exec (.returnResumeTimeout) s = run (fun s => (s.returnResume).settle) s := rfl

theorem mirroredChangeRx (m : MirrorRx) (s : State) :
    exec (.mirroredChangeRx m) s = run (fun s => (s.mirroredRx m).settle) s := rfl

theorem mirrorAck (id : Nat) (s : State) :
    exec (.mirrorAck id) s = run (fun s => (s.mirrorAck id).settle) s := rfl

theorem resyncComplete (s : State) :
    exec (.resyncComplete) s = run (fun s => (s.resyncComplete).settle) s := rfl

theorem claimCasResult (id : Nat) (value : Nat) (s : State) :
    exec (.claimCasResult id value) s = run (fun s => (s.casResult id value).settle) s := rfl

theorem claimCasTimeout (id : Nat) (s : State) :
    exec (.claimCasTimeout id) s = run (fun s => (s.casTimeout id).settle) s := rfl

theorem ledgerRecordCommit (outcome : Nat) (s : State) :
    exec (.ledgerRecordCommit outcome) s = run (fun s => (s.recordCommit outcome).settle) s := rfl

theorem ledgerSealCount (s : State) :
    exec (.ledgerSealCount) s = run (fun s => (s.sealCount).settle) s := rfl

theorem ledgerSealTimer (s : State) :
    exec (.ledgerSealTimer) s = run (fun s => (s.sealTimer).settle) s := rfl

theorem sectorEraseAhead (ok : Bool) (s : State) :
    exec (.sectorEraseAhead ok) s = run (fun s => (s.eraseAheadDone ok).settle) s := rfl

theorem ledgerVerifyDone (damaged : Nat) (brk : Bool) (s : State) :
    exec (.ledgerVerifyDone damaged brk) s = run (fun s => s.verifyDone damaged brk) s := rfl

theorem cardDetect (card : CardSeen) (s : State) :
    exec (.cardDetect card) s = run (fun s => s.cardDetect card) s := rfl

theorem cardRemoval (us : Nat) (s : State) :
    exec (.cardRemoval us) s = run (fun s => (s.cardRemoval us).settle) s := rfl

theorem cardIdentifyTimeout (s : State) :
    exec (.cardIdentifyTimeout) s = run (fun s => s.identifyTimeout) s := rfl

theorem cardBusyEnd (b : CardBusy) (s : State) :
    exec (.cardBusyEnd b) s = run (fun s => (s.cardBusyEnd b).settle) s := rfl

theorem cardBusyTimeout (s : State) :
    exec (.cardBusyTimeout) s = run (fun s => (s.cardBusyTimeout).settle) s := rfl

theorem errCodeSelect (value : Nat) (s : State) :
    exec (.errCodeSelect value) s = run (fun s => s.pfWrite oErrCodeSelect value) s := rfl

theorem rcRegisterRead (r : RegAccess) (s : State) :
    exec (.rcRegisterRead r) s = run (fun s => s.hostReadReg r) s := rfl

theorem registerWrite (r : RegAccess) (s : State) :
    exec (.registerWrite r) s = run (fun s => (s.hostWriteReg r).settle) s := rfl

theorem weltLinkDown (s : State) :
    exec (.weltLinkDown) s = run (fun s => (s.weltDown).settle) s := rfl

theorem monitorDeassert (source : Nat) (s : State) :
    exec (.monitorDeassert source) s = run (fun s => s.monitorDeassert source) s := rfl

theorem batteryDomainLoss (s : State) :
    exec (.batteryDomainLoss) s = run (fun s => s.batteryLoss) s := rfl

theorem registerRead (r : RegAccess) (s : State) :
    exec (.registerRead r) s = run (fun s => s.hostReadReg r) s := rfl

theorem debugAccess (d : DebugAcc) (s : State) :
    exec (.debugAccess d) s = run (fun s => (s.debugAccess d).settle) s := rfl

theorem vfEnable (numVfs : Nat) (s : State) :
    exec (.vfEnable numVfs) s = run (fun s => (s.vfEnable numVfs).settle) s := rfl

theorem pciePowerState (fn : Nat) (d3 : Bool) (s : State) :
    exec (.pciePowerState fn d3) s = run (fun s => (s.powerState fn d3).settle) s := rfl

theorem pcieLinkChange (up : Bool) (rate : Nat) (width : Nat) (flit : Bool) (s : State) :
    exec (.pcieLinkChange up rate width flit) s = run (fun s => s.pcieLink up rate width flit) s := rfl

theorem firmwareWriteDone (ok : Bool) (s : State) :
    exec (.firmwareWriteDone ok) s = run (fun s => (s.firmwareDone ok).settle) s := rfl

theorem wipeDone (s : State) :
    exec (.wipeDone) s = run (fun s => (s.wipeDone).settle) s := rfl

theorem powerOn (inOrder : Bool) (s : State) (h : (!s.dev.rails && !inOrder) = false) :
    exec (.powerOn inOrder) s = run (fun s => s.powerUp) s := by
  show execPowerOn inOrder s = _
  unfold execPowerOn
  rw [h]
  rfl

/-- Every command runs one effect, but for POWER_ON out of order. -/
theorem runs (c : Instr) (s : State) :
    (∃ f : State → State, exec c s = run f s) ∨ (c = .powerOn false ∧ s.dev.rails = false) := by
  cases c
  case powerOn b =>
    by_cases h : (!s.dev.rails && !b) = true
    · right
      simp only [Bool.and_eq_true, Bool.not_eq_true'] at h
      exact ⟨by rw [h.2], h.1⟩
    · exact .inl ⟨_, powerOn b s (by simpa using h)⟩
  case powerLoss => exact .inl ⟨_, powerLoss s⟩
  case sysRstN => exact .inl ⟨_, sysRstN _ s⟩
  case perstN => exact .inl ⟨_, perstN _ s⟩
  case devResetRequest => exact .inl ⟨_, devResetRequest _ s⟩
  case startUp => exact .inl ⟨_, startUp _ s⟩
  case busMasterEnable => exact .inl ⟨_, busMasterEnable _ _ s⟩
  case flrPf0 => exact .inl ⟨_, flrPf0 s⟩
  case vfFlr => exact .inl ⟨_, vfFlr _ s⟩
  case tickBoundary => exact .inl ⟨_, tickBoundary s⟩
  case epochBoundary => exact .inl ⟨_, epochBoundary s⟩
  case placementRun => exact .inl ⟨_, placementRun _ s⟩
  case mgmtSqTail => exact .inl ⟨_, mgmtSqTail _ s⟩
  case mgmtCqHead => exact .inl ⟨_, mgmtCqHead _ s⟩
  case mgmtDigestAck => exact .inl ⟨_, mgmtDigestAck _ s⟩
  case mgmtUrgent => exact .inl ⟨_, mgmtUrgent _ s⟩
  case mgmtDescriptorFetch => exact .inl ⟨_, mgmtDescriptorFetch _ _ s⟩
  case epochFence => exact .inl ⟨_, epochFence _ s⟩
  case readState => exact .inl ⟨_, readState _ s⟩
  case digestResync => exact .inl ⟨_, digestResync _ s⟩
  case ksPageRangeSet => exact .inl ⟨_, ksPageRangeSet _ s⟩
  case ksPinResident => exact .inl ⟨_, ksPinResident _ s⟩
  case ksKeyInfo => exact .inl ⟨_, ksKeyInfo _ s⟩
  case ksPageRetry => exact .inl ⟨_, ksPageRetry _ s⟩
  case ksSnapshotBase => exact .inl ⟨_, ksSnapshotBase _ s⟩
  case ceremonyBegin => exact .inl ⟨_, ceremonyBegin _ s⟩
  case ceremonyRead => exact .inl ⟨_, ceremonyRead _ s⟩
  case ceremonyCommit => exact .inl ⟨_, ceremonyCommit _ s⟩
  case ceremonyAbort => exact .inl ⟨_, ceremonyAbort _ s⟩
  case ceremonyTimeout => exact .inl ⟨_, ceremonyTimeout s⟩
  case identityRead => exact .inl ⟨_, identityRead _ s⟩
  case lastLoad => exact .inl ⟨_, lastLoad _ s⟩
  case lastAmend => exact .inl ⟨_, lastAmend _ s⟩
  case lastCheck => exact .inl ⟨_, lastCheck _ s⟩
  case lastStats => exact .inl ⟨_, lastStats _ s⟩
  case lastValidationDone => exact .inl ⟨_, lastValidationDone s⟩
  case lastStorePersisted => exact .inl ⟨_, lastStorePersisted s⟩
  case dispFlowLookup => exact .inl ⟨_, dispFlowLookup _ s⟩
  case dispPinFlow => exact .inl ⟨_, dispPinFlow _ s⟩
  case dispHintFlow => exact .inl ⟨_, dispHintFlow _ s⟩
  case dispFronds => exact .inl ⟨_, dispFronds _ s⟩
  case dispHintKey => exact .inl ⟨_, dispHintKey _ s⟩
  case dispPlacement => exact .inl ⟨_, dispPlacement _ s⟩
  case portAdmin => exact .inl ⟨_, portAdmin _ s⟩
  case portShutdown => exact .inl ⟨_, portShutdown _ s⟩
  case sessionCreate => exact .inl ⟨_, sessionCreate _ s⟩
  case sessionConnect => exact .inl ⟨_, sessionConnect _ s⟩
  case sessionClose => exact .inl ⟨_, sessionClose _ s⟩
  case sessionDest => exact .inl ⟨_, sessionDest _ s⟩
  case portPeers => exact .inl ⟨_, portPeers _ s⟩
  case macsecSaInstall => exact .inl ⟨_, macsecSaInstall _ s⟩
  case macsecTxUse => exact .inl ⟨_, macsecTxUse _ s⟩
  case macsecSaRemove => exact .inl ⟨_, macsecSaRemove _ s⟩
  case macsecSaStatus => exact .inl ⟨_, macsecSaStatus _ s⟩
  case queueCreate => exact .inl ⟨_, queueCreate _ s⟩
  case queueDestroy => exact .inl ⟨_, queueDestroy _ s⟩
  case queueStatus => exact .inl ⟨_, queueStatus _ s⟩
  case instanceCreate => exact .inl ⟨_, instanceCreate _ s⟩
  case instanceEnable => exact .inl ⟨_, instanceEnable _ s⟩
  case instanceDisable => exact .inl ⟨_, instanceDisable _ s⟩
  case instanceReset => exact .inl ⟨_, instanceReset _ s⟩
  case instanceResetDone => exact .inl ⟨_, instanceResetDone _ s⟩
  case instanceQuiet => exact .inl ⟨_, instanceQuiet _ s⟩
  case instanceDestroy => exact .inl ⟨_, instanceDestroy _ s⟩
  case instanceSetLimits => exact .inl ⟨_, instanceSetLimits _ s⟩
  case movePrepare => exact .inl ⟨_, movePrepare _ s⟩
  case moveOut => exact .inl ⟨_, moveOut _ s⟩
  case moveIn => exact .inl ⟨_, moveIn _ s⟩
  case moveFinish => exact .inl ⟨_, moveFinish _ s⟩
  case moveAbandon => exact .inl ⟨_, moveAbandon _ s⟩
  case moveCancel => exact .inl ⟨_, moveCancel _ s⟩
  case moveMembership => exact .inl ⟨_, moveMembership _ s⟩
  case forcedFailover => exact .inl ⟨_, forcedFailover _ s⟩
  case twinReturnHold => exact .inl ⟨_, twinReturnHold _ s⟩
  case zeroise => exact .inl ⟨_, zeroise _ s⟩
  case protFuseOptions => exact .inl ⟨_, protFuseOptions _ s⟩
  case debugUnlock => exact .inl ⟨_, debugUnlock _ s⟩
  case ledgerExport => exact .inl ⟨_, ledgerExport _ s⟩
  case cardRead => exact .inl ⟨_, cardRead _ s⟩
  case firmwareUpdate => exact .inl ⟨_, firmwareUpdate _ s⟩
  case fabBankPower => exact .inl ⟨_, fabBankPower _ s⟩
  case fabUnretire => exact .inl ⟨_, fabUnretire _ s⟩
  case fabSelftest => exact .inl ⟨_, fabSelftest _ s⟩
  case kumSqTail => exact .inl ⟨_, kumSqTail _ s⟩
  case kumCqHead => exact .inl ⟨_, kumCqHead _ s⟩
  case keyUpdateMessage => exact .inl ⟨_, keyUpdateMessage _ _ s⟩
  case writeKey => exact .inl ⟨_, writeKey _ s⟩
  case delete => exact .inl ⟨_, delete _ s⟩
  case replenish => exact .inl ⟨_, replenish _ s⟩
  case setAttributes => exact .inl ⟨_, setAttributes _ s⟩
  case markPersistent => exact .inl ⟨_, markPersistent _ s⟩
  case setRoster => exact .inl ⟨_, setRoster _ s⟩
  case setRosterDevice => exact .inl ⟨_, setRosterDevice _ s⟩
  case enrolImageAuthority => exact .inl ⟨_, enrolImageAuthority _ s⟩
  case enrolDomainAuthority => exact .inl ⟨_, enrolDomainAuthority _ s⟩
  case establishRoster => exact .inl ⟨_, establishRoster _ s⟩
  case lifecycleStep => exact .inl ⟨_, lifecycleStep _ s⟩
  case lifecycleReceiptTimeout => exact .inl ⟨_, lifecycleReceiptTimeout s⟩
  case fuseBurnDone => exact .inl ⟨_, fuseBurnDone s⟩
  case debugEnable => exact .inl ⟨_, debugEnable _ s⟩
  case clearTamper => exact .inl ⟨_, clearTamper _ s⟩
  case sqTail => exact .inl ⟨_, sqTail _ _ _ s⟩
  case cqHead => exact .inl ⟨_, cqHead _ _ _ s⟩
  case serviceDescriptorFetch => exact .inl ⟨_, serviceDescriptorFetch _ s⟩
  case gatherFault => exact .inl ⟨_, gatherFault _ _ _ s⟩
  case itemAdmit => exact .inl ⟨_, itemAdmit _ s⟩
  case waitPoolFullCount => exact .inl ⟨_, waitPoolFullCount _ s⟩
  case extract => exact .inl ⟨_, extract _ s⟩
  case selectKey => exact .inl ⟨_, selectKey _ s⟩
  case apply => exact .inl ⟨_, apply _ s⟩
  case rewrite => exact .inl ⟨_, rewrite _ s⟩
  case test => exact .inl ⟨_, test _ s⟩
  case skipIf => exact .inl ⟨_, skipIf _ s⟩
  case route => exact .inl ⟨_, route _ s⟩
  case respond => exact .inl ⟨_, respond _ s⟩
  case reject => exact .inl ⟨_, reject _ s⟩
  case drop => exact .inl ⟨_, drop _ s⟩
  case hold => exact .inl ⟨_, hold _ s⟩
  case holdDue => exact .inl ⟨_, holdDue _ s⟩
  case setFlow => exact .inl ⟨_, setFlow _ s⟩
  case count => exact .inl ⟨_, count _ s⟩
  case emit => exact .inl ⟨_, emit _ s⟩
  case deadlineExpiry => exact .inl ⟨_, deadlineExpiry _ s⟩
  case pinTranslate => exact .inl ⟨_, pinTranslate _ s⟩
  case pinVerifyOffset => exact .inl ⟨_, pinVerifyOffset _ s⟩
  case pinVerifyPvv => exact .inl ⟨_, pinVerifyPvv _ s⟩
  case pinGenerateOffset => exact .inl ⟨_, pinGenerateOffset _ s⟩
  case macGenerate => exact .inl ⟨_, macGenerate _ s⟩
  case macVerify => exact .inl ⟨_, macVerify _ s⟩
  case macTranslate => exact .inl ⟨_, macTranslate _ s⟩
  case arqcVerify => exact .inl ⟨_, arqcVerify _ s⟩
  case arpcGenerate => exact .inl ⟨_, arpcGenerate _ s⟩
  case cardValueVerify => exact .inl ⟨_, cardValueVerify _ s⟩
  case cardValueGenerate => exact .inl ⟨_, cardValueGenerate _ s⟩
  case dukptDerive => exact .inl ⟨_, dukptDerive _ s⟩
  case keyDerive => exact .inl ⟨_, keyDerive _ s⟩
  case tokenise => exact .inl ⟨_, tokenise _ s⟩
  case detokenise => exact .inl ⟨_, detokenise _ s⟩
  case encrypt => exact .inl ⟨_, encrypt _ s⟩
  case decrypt => exact .inl ⟨_, decrypt _ s⟩
  case aeadSeal => exact .inl ⟨_, aeadSeal _ s⟩
  case aeadOpen => exact .inl ⟨_, aeadOpen _ s⟩
  case contextExport => exact .inl ⟨_, contextExport _ s⟩
  case contextImport => exact .inl ⟨_, contextImport _ s⟩
  case hash => exact .inl ⟨_, hash _ s⟩
  case hmacGenerate => exact .inl ⟨_, hmacGenerate _ s⟩
  case hmacVerify => exact .inl ⟨_, hmacVerify _ s⟩
  case sign => exact .inl ⟨_, sign _ s⟩
  case verify => exact .inl ⟨_, verify _ s⟩
  case keyAgree => exact .inl ⟨_, keyAgree _ s⟩
  case kemEncaps => exact .inl ⟨_, kemEncaps _ s⟩
  case kemDecaps => exact .inl ⟨_, kemDecaps _ s⟩
  case keyGenerate => exact .inl ⟨_, keyGenerate _ s⟩
  case keyImportBlock => exact .inl ⟨_, keyImportBlock _ s⟩
  case keyExportBlock => exact .inl ⟨_, keyExportBlock _ s⟩
  case keyCheckValue => exact .inl ⟨_, keyCheckValue _ s⟩
  case random => exact .inl ⟨_, random _ s⟩
  case drbgReseed => exact .inl ⟨_, drbgReseed _ s⟩
  case attest => exact .inl ⟨_, attest _ s⟩
  case quantumEnd => exact .inl ⟨_, quantumEnd _ s⟩
  case pkJobAdmit => exact .inl ⟨_, pkJobAdmit _ s⟩
  case segmentEnd => exact .inl ⟨_, segmentEnd _ _ _ s⟩
  case pageFetchDone => exact .inl ⟨_, pageFetchDone _ _ s⟩
  case pageFetchTimeout => exact .inl ⟨_, pageFetchTimeout _ s⟩
  case pageWriteBack => exact .inl ⟨_, pageWriteBack _ _ s⟩
  case pageWriteConfirm => exact .inl ⟨_, pageWriteConfirm _ _ s⟩
  case kpgNoticeHead => exact .inl ⟨_, kpgNoticeHead _ s⟩
  case journalCommit => exact .inl ⟨_, journalCommit s⟩
  case snapshotBaseCommit => exact .inl ⟨_, snapshotBaseCommit s⟩
  case ethernetFrameRx => exact .inl ⟨_, ethernetFrameRx _ s⟩
  case pfcFrame => exact .inl ⟨_, pfcFrame _ s⟩
  case arpRequest => exact .inl ⟨_, arpRequest _ s⟩
  case neighbourSolicitation => exact .inl ⟨_, neighbourSolicitation _ s⟩
  case lldpdu => exact .inl ⟨_, lldpdu _ s⟩
  case dataFrame => exact .inl ⟨_, dataFrame _ s⟩
  case noticeFrame => exact .inl ⟨_, noticeFrame _ s⟩
  case creditFrame => exact .inl ⟨_, creditFrame _ s⟩
  case closeFrame => exact .inl ⟨_, closeFrame _ s⟩
  case hello => exact .inl ⟨_, hello _ s⟩
  case offer => exact .inl ⟨_, offer _ s⟩
  case accept => exact .inl ⟨_, accept _ s⟩
  case presenceFrame => exact .inl ⟨_, presenceFrame _ s⟩
  case setupTimeout => exact .inl ⟨_, setupTimeout _ s⟩
  case helloResend => exact .inl ⟨_, helloResend _ s⟩
  case acceptResend => exact .inl ⟨_, acceptResend _ s⟩
  case creditResend => exact .inl ⟨_, creditResend _ s⟩
  case creditGrantSend => exact .inl ⟨_, creditGrantSend _ s⟩
  case serviceResponseTimeout => exact .inl ⟨_, serviceResponseTimeout _ s⟩
  case parkTimeExpiry => exact .inl ⟨_, parkTimeExpiry _ s⟩
  case reclaimTimeExpiry => exact .inl ⟨_, reclaimTimeExpiry _ s⟩
  case presenceAnnounce => exact .inl ⟨_, presenceAnnounce _ _ s⟩
  case lldpAnnounce => exact .inl ⟨_, lldpAnnounce _ _ s⟩
  case solitaryEntry => exact .inl ⟨_, solitaryEntry _ _ s⟩
  case peerEntryAgeing => exact .inl ⟨_, peerEntryAgeing _ _ s⟩
  case linkChange => exact .inl ⟨_, linkChange _ _ _ s⟩
  case flowLingerExpiry => exact .inl ⟨_, flowLingerExpiry _ s⟩
  case contextIdleExpiry => exact .inl ⟨_, contextIdleExpiry _ s⟩
  case mbxSend => exact .inl ⟨_, mbxSend _ _ s⟩
  case instMbxIn => exact .inl ⟨_, instMbxIn _ _ s⟩
  case instMbxOutPost => exact .inl ⟨_, instMbxOutPost _ _ _ _ s⟩
  case mbxRx => exact .inl ⟨_, mbxRx _ _ s⟩
  case instLogHead => exact .inl ⟨_, instLogHead _ _ s⟩
  case eccError => exact .inl ⟨_, eccError _ s⟩
  case engineError => exact .inl ⟨_, engineError _ _ s⟩
  case engineKatDone => exact .inl ⟨_, engineKatDone _ _ s⟩
  case bankCopyDone => exact .inl ⟨_, bankCopyDone _ s⟩
  case bankMarchTestDone => exact .inl ⟨_, bankMarchTestDone _ _ s⟩
  case bankCopyBackDone => exact .inl ⟨_, bankCopyBackDone _ s⟩
  case bankRetentionTimeout => exact .inl ⟨_, bankRetentionTimeout _ s⟩
  case arbiterStarvation => exact .inl ⟨_, arbiterStarvation _ _ _ s⟩
  case monitorAssert => exact .inl ⟨_, monitorAssert _ s⟩
  case tempWarn => exact .inl ⟨_, tempWarn _ s⟩
  case noiseWindow => exact .inl ⟨_, noiseWindow _ _ s⟩
  case drbgReseedCount => exact .inl ⟨_, drbgReseedCount _ _ s⟩
  case rngTestControl => exact .inl ⟨_, rngTestControl _ s⟩
  case rngTestData => exact .inl ⟨_, rngTestData _ s⟩
  case protDebugRevoke => exact .inl ⟨_, protDebugRevoke s⟩
  case protDebugNewNonce => exact .inl ⟨_, protDebugNewNonce s⟩
  case weltLinkUp => exact .inl ⟨_, weltLinkUp _ s⟩
  case weltFrameTimeout => exact .inl ⟨_, weltFrameTimeout s⟩
  case heartbeatRx => exact .inl ⟨_, heartbeatRx _ s⟩
  case heartbeatLoss => exact .inl ⟨_, heartbeatLoss s⟩
  case fencePromotionAttempt => exact .inl ⟨_, fencePromotionAttempt s⟩
  case startWaitExpiry => exact .inl ⟨_, startWaitExpiry s⟩
  case returnOfPrimary => exact .inl ⟨_, returnOfPrimary s⟩
  case returnResumeTimeout => exact .inl ⟨_, returnResumeTimeout s⟩
  case mirroredChangeRx => exact .inl ⟨_, mirroredChangeRx _ s⟩
  case mirrorAck => exact .inl ⟨_, mirrorAck _ s⟩
  case resyncComplete => exact .inl ⟨_, resyncComplete s⟩
  case claimCasResult => exact .inl ⟨_, claimCasResult _ _ s⟩
  case claimCasTimeout => exact .inl ⟨_, claimCasTimeout _ s⟩
  case ledgerRecordCommit => exact .inl ⟨_, ledgerRecordCommit _ s⟩
  case ledgerSealCount => exact .inl ⟨_, ledgerSealCount s⟩
  case ledgerSealTimer => exact .inl ⟨_, ledgerSealTimer s⟩
  case sectorEraseAhead => exact .inl ⟨_, sectorEraseAhead _ s⟩
  case ledgerVerifyDone => exact .inl ⟨_, ledgerVerifyDone _ _ s⟩
  case cardDetect => exact .inl ⟨_, cardDetect _ s⟩
  case cardRemoval => exact .inl ⟨_, cardRemoval _ s⟩
  case cardIdentifyTimeout => exact .inl ⟨_, cardIdentifyTimeout s⟩
  case cardBusyEnd => exact .inl ⟨_, cardBusyEnd _ s⟩
  case cardBusyTimeout => exact .inl ⟨_, cardBusyTimeout s⟩
  case errCodeSelect => exact .inl ⟨_, errCodeSelect _ s⟩
  case rcRegisterRead => exact .inl ⟨_, rcRegisterRead _ s⟩
  case registerWrite => exact .inl ⟨_, registerWrite _ s⟩
  case weltLinkDown => exact .inl ⟨_, weltLinkDown s⟩
  case monitorDeassert => exact .inl ⟨_, monitorDeassert _ s⟩
  case batteryDomainLoss => exact .inl ⟨_, batteryDomainLoss s⟩
  case registerRead => exact .inl ⟨_, registerRead _ s⟩
  case debugAccess => exact .inl ⟨_, debugAccess _ s⟩
  case vfEnable => exact .inl ⟨_, vfEnable _ s⟩
  case pciePowerState => exact .inl ⟨_, pciePowerState _ _ s⟩
  case pcieLinkChange => exact .inl ⟨_, pcieLinkChange _ _ _ _ s⟩
  case firmwareWriteDone => exact .inl ⟨_, firmwareWriteDone _ s⟩
  case wipeDone => exact .inl ⟨_, wipeDone s⟩

/-- Every row that submits a management command runs `cmdRow` on its code and its effect. -/
theorem mgmt {i : Instr} {code : Nat} {c : Cmd} (s : State) (hi : mgmtRow i = some (code, c)) :
    ∃ eff, exec i s = run (fun s => (s.cmdRow code eff c).settle) s := by
  cases i
  case epochFence => cases hi; exact ⟨_, epochFence _ s⟩
  case readState => cases hi; exact ⟨_, readState _ s⟩
  case digestResync => cases hi; exact ⟨_, digestResync _ s⟩
  case ksPageRangeSet => cases hi; exact ⟨_, ksPageRangeSet _ s⟩
  case ksPinResident => cases hi; exact ⟨_, ksPinResident _ s⟩
  case ksKeyInfo => cases hi; exact ⟨_, ksKeyInfo _ s⟩
  case ksPageRetry => cases hi; exact ⟨_, ksPageRetry _ s⟩
  case ksSnapshotBase => cases hi; exact ⟨_, ksSnapshotBase _ s⟩
  case ceremonyBegin => cases hi; exact ⟨_, ceremonyBegin _ s⟩
  case ceremonyRead => cases hi; exact ⟨_, ceremonyRead _ s⟩
  case ceremonyCommit => cases hi; exact ⟨_, ceremonyCommit _ s⟩
  case ceremonyAbort => cases hi; exact ⟨_, ceremonyAbort _ s⟩
  case identityRead => cases hi; exact ⟨_, identityRead _ s⟩
  case lastStats => cases hi; exact ⟨_, lastStats _ s⟩
  case dispFlowLookup => cases hi; exact ⟨_, dispFlowLookup _ s⟩
  case dispPinFlow => cases hi; exact ⟨_, dispPinFlow _ s⟩
  case dispHintFlow => cases hi; exact ⟨_, dispHintFlow _ s⟩
  case dispFronds => cases hi; exact ⟨_, dispFronds _ s⟩
  case dispHintKey => cases hi; exact ⟨_, dispHintKey _ s⟩
  case dispPlacement => cases hi; exact ⟨_, dispPlacement _ s⟩
  case portAdmin => cases hi; exact ⟨_, portAdmin _ s⟩
  case portShutdown => cases hi; exact ⟨_, portShutdown _ s⟩
  case sessionCreate => cases hi; exact ⟨_, sessionCreate _ s⟩
  case sessionConnect => cases hi; exact ⟨_, sessionConnect _ s⟩
  case sessionClose => cases hi; exact ⟨_, sessionClose _ s⟩
  case sessionDest => cases hi; exact ⟨_, sessionDest _ s⟩
  case portPeers => cases hi; exact ⟨_, portPeers _ s⟩
  case macsecSaInstall => cases hi; exact ⟨_, macsecSaInstall _ s⟩
  case macsecTxUse => cases hi; exact ⟨_, macsecTxUse _ s⟩
  case macsecSaRemove => cases hi; exact ⟨_, macsecSaRemove _ s⟩
  case macsecSaStatus => cases hi; exact ⟨_, macsecSaStatus _ s⟩
  case queueCreate => cases hi; exact ⟨_, queueCreate _ s⟩
  case queueDestroy => cases hi; exact ⟨_, queueDestroy _ s⟩
  case queueStatus => cases hi; exact ⟨_, queueStatus _ s⟩
  case instanceCreate => cases hi; exact ⟨_, instanceCreate _ s⟩
  case instanceEnable => cases hi; exact ⟨_, instanceEnable _ s⟩
  case instanceDisable => cases hi; exact ⟨_, instanceDisable _ s⟩
  case instanceReset => cases hi; exact ⟨_, instanceReset _ s⟩
  case instanceDestroy => cases hi; exact ⟨_, instanceDestroy _ s⟩
  case instanceSetLimits => cases hi; exact ⟨_, instanceSetLimits _ s⟩
  case movePrepare => cases hi; exact ⟨_, movePrepare _ s⟩
  case moveOut => cases hi; exact ⟨_, moveOut _ s⟩
  case moveIn => cases hi; exact ⟨_, moveIn _ s⟩
  case moveFinish => cases hi; exact ⟨_, moveFinish _ s⟩
  case moveAbandon => cases hi; exact ⟨_, moveAbandon _ s⟩
  case moveCancel => cases hi; exact ⟨_, moveCancel _ s⟩
  case moveMembership => cases hi; exact ⟨_, moveMembership _ s⟩
  case forcedFailover => cases hi; exact ⟨_, forcedFailover _ s⟩
  case twinReturnHold => cases hi; exact ⟨_, twinReturnHold _ s⟩
  case zeroise => cases hi; exact ⟨_, zeroise _ s⟩
  case protFuseOptions => cases hi; exact ⟨_, protFuseOptions _ s⟩
  case debugUnlock => cases hi; exact ⟨_, debugUnlock _ s⟩
  case ledgerExport => cases hi; exact ⟨_, ledgerExport _ s⟩
  case cardRead => cases hi; exact ⟨_, cardRead _ s⟩
  case firmwareUpdate => cases hi; exact ⟨_, firmwareUpdate _ s⟩
  case fabBankPower => cases hi; exact ⟨_, fabBankPower _ s⟩
  case fabUnretire => cases hi; exact ⟨_, fabUnretire _ s⟩
  case fabSelftest => cases hi; exact ⟨_, fabSelftest _ s⟩
  all_goals cases hi

end Sys2Proof.Laws.Rows
end

