-- ==== Sys2Proof/Laws/Commands.lean ====
section
/-! SUPPORT. How a command's meaning comes to its outcome: the rows' equations (Laws/Rows) joined with what a step settles (Settle), and what a
management command comes to once its checks have passed. -/

namespace Sys2Proof.Laws

open Sys2Proof Sys2Proof.Machine

/-! ### A step and what it settles -/

/-- A row that runs `f` goes where `f` goes. -/
theorem goes_of {i : Instr} {s t : State} {f : State → State} (hx : exec i s = run f s) (hf : f s = t) : Goes i s t := by
  unfold Goes; rw [hx]; unfold run; rw [hf]

/-- A row that settles leads to what its own effect reaches. -/
theorem leads_of {i : Instr} {s e : State} {g : State → State} (hx : exec i s = run (fun s => (g s).settle) s) (hg : g s = e) : Leads i s e :=
  ⟨e.settle, ⟨settleBound, rfl⟩, goes_of hx (by rw [hg])⟩

/-- A check that has passed is settled in the same step. -/
theorem settle_passed {p : Purpose} {st : Option Status} {s e : State} (h : s.twin.passed = [(p, st)])
    (he : State.settlePass p st { s with twin := { s.twin with passed := [] } } = e) : After e s.settle := by
  refine ⟨4294967295, ?_⟩
  unfold State.settle
  have step : State.settleAll settleBound s = State.settleAll 4294967295 e := by
    show (match s.settleOne with | none => s | some t => State.settleAll 4294967295 t) = _
    unfold State.settleOne
    rw [h]; dsimp only; rw [he]
  rw [step]

/-- A check that passes where none had passed before leaves the state as it was. -/
theorem pass_pop {s : State} (h : s.twin.passed = []) (p : Purpose) (st : Option Status) :
    (s.pass p st).twin.passed = [(p, st)] ∧ { s.pass p st with twin := { (s.pass p st).twin with passed := [] } } = s := by
  have same : { s.twin with passed := [] } = s.twin := by rw [← h]
  refine ⟨?_, ?_⟩
  · simp [h]
  · show { s with twin := { s.twin with passed := [] } } = s
    rw [same]

/-- A row whose effect passes a check at once leads to what that check settles. -/
theorem leads_pass {i : Instr} {s d e : State} {p : Purpose} {st : Option Status} {g : State → State} (hx : exec i s = run (fun s => (g s).settle) s)
    (hd : d.twin.passed = []) (hg : g s = d.pass p st) (hs : State.settlePass p st d = e) : Leads i s e := by
  refine ⟨(g s).settle, ?_, goes_of hx rfl⟩
  rw [hg]; exact settle_passed (pass_pop hd p st).1 (by rw [(pass_pop hd p st).2]; exact hs)

/-- Without a twin, mirroring and claim checks pass at once (R407). -/
theorem mirror_alone {s : State} (h : Alone s) (p : Purpose) : s.mirror p = s.pass p none := State.mirror_passes h.1 p
theorem priv_alone {s : State} (h : Alone s) (p : Purpose) : s.privileged p = s.pass p none := State.privileged_passes h.1 p

/-! ### Management commands (R43-R47) -/

/-- A row that submits a command: halted or not ready, nothing; malformed, its status at once; else it commits. -/
theorem cmdRow_eq (code : Nat) (c : Cmd) (s : State) (eff : MCmd → State → Eff) : State.cmdRow code eff c s = (if !s.works then s else match formatFail (coded code c) with
    | some st => s.completeAs { submitted code c s with point := 0 } st.code 0 0
    | none => s.commitCmd eff { submitted code c s with point := 0 }) := rfl

/-- A commit: the role check of R423, the version check of R41, the effect. -/
theorem commitCmd_eq (eff : MCmd → State → Eff) (m : MCmd) (s : State) : State.commitCmd eff m s =
    (if s.standby && !standbyAccepts m.cmd.code then s.finish { m with point := s.commitPoint m.cmd } .notActive
     else if !versionOk m.cmd s then s.finish { m with point := s.commitPoint m.cmd } .stateMismatch
     else match (eff { m with point := s.commitPoint m.cmd } s).st with
      | none => (eff { m with point := s.commitPoint m.cmd } s).s
      | some st => (eff { m with point := s.commitPoint m.cmd } s).s.finish { m with point := s.commitPoint m.cmd } st) := by
  unfold State.commitCmd versionOk
  simp only [Bool.not_or, Bool.not_not]
  all_goals rfl

/-- An accepted command has its effect, and completes with the status the effect gives. -/
theorem cmdRow_accepted {code : Nat} {c : Cmd} {s : State} {eff : MCmd → State → Eff} (h : Accepted code c s) :
    State.cmdRow code eff c s = (match (eff (submitted code c s) s).st with
      | none => (eff (submitted code c s) s).s
      | some st => (eff (submitted code c s) s).s.finish (submitted code c s) st) := by
  obtain ⟨h1, h2, h3, h4⟩ := h
  rw [cmdRow_eq, h1, h2, commitCmd_eq]
  have hc : ({ submitted code c s with point := 0 } : MCmd).cmd = coded code c := rfl
  rw [hc, h4, if_neg (by simp), if_neg, if_neg (by simp)]
  · rfl
  · rcases h3 with h3 | h3 <;> rw [h3] <;> simp

/-- An accepted command that completes at once. -/
theorem row_done {i : Instr} {code : Nat} {c : Cmd} {s e : State} {eff : MCmd → State → Eff} {st : Status}
    (hx : exec i s = run (fun s => (State.cmdRow code eff c s).settle) s) (h : Accepted code c s)
    (he : eff (submitted code c s) s = { s := e, st := some st }) : Leads i s (e.finish (submitted code c s) st) :=
  leads_of hx (by rw [cmdRow_accepted h, he])

/-- An accepted command that completes later. -/
theorem row_later {i : Instr} {code : Nat} {c : Cmd} {s e : State} {eff : MCmd → State → Eff}
    (hx : exec i s = run (fun s => (State.cmdRow code eff c s).settle) s) (h : Accepted code c s)
    (he : eff (submitted code c s) s = { s := e, st := none }) : Leads i s e :=
  leads_of hx (by rw [cmdRow_accepted h, he])

/-- An accepted command whose check passes at once. -/
theorem row_pass {i : Instr} {code : Nat} {c : Cmd} {s d e : State} {eff : MCmd → State → Eff} {p : Purpose}
    (hx : exec i s = run (fun s => (State.cmdRow code eff c s).settle) s) (h : Accepted code c s) (hd : d.twin.passed = [])
    (he : eff (submitted code c s) s = { s := d.pass p none, st := none }) (hs : State.settlePass p none d = e) : Leads i s e :=
  leads_pass hx hd (by rw [cmdRow_accepted h, he]) hs

/-! ### Checks (R531) -/

theorem lowestFail_one {b : Bool} {st : Status} : lowestFail [(b, st)] = if b then none else some st := by cases b <;> rfl

/-- Where every check passes none fails. -/
theorem lowestFail_ok {cs : List (Bool × Status)} (h : ∀ c ∈ cs, c.1 = true) : lowestFail cs = none := by
  induction cs with
  | nil => rfl
  | cons c cs ih =>
    unfold lowestFail
    rw [h c (by simp), ih (fun d hd => h d (by simp [hd]))]; rfl

theorem effChecks_ok {s : State} {cs : List (Bool × Status)} {k : Eff} (h : ∀ c ∈ cs, c.1 = true) : effChecks s cs k = k := by
  unfold effChecks; rw [lowestFail_ok h]

/-- What a row submits has the row's code. -/
theorem code_coded {code : Nat} (c : Cmd) (h : code < 65536) : (coded code c).code = code := by
  unfold Cmd.code Cmd.u coded leAt slice padTo
  simp [le, ofLe, List.take]
  omega

/-! ### Register writes (R3, R54, R296, R497-R499) -/

/-- A write that reaches its register is decided on once. -/
theorem hostWrite_reaches {fn off v : Nat} {s : State} (h : Reaches fn off s) :
    s.hostWriteReg { fn := fn, off := off, size := 8, value := v } = (decided s).writeReg fn off 8 v := by
  obtain ⟨h1, h2, h3, h4⟩ := h
  have h4' : (s.decisions 1).allowed (levelOf false fn) 1 (regStore fn off) = true := h4
  unfold State.hostWriteReg State.busWrite State.barred
  simp only [h1, h2, h3, if_true, Bool.not_true, Bool.false_eq_true, if_false, h4', State.when, decided]

theorem pfWrite_reaches {off v : Nat} {s : State} (h : Reaches 0 off s) : s.pfWrite off v = (decided s).writeReg 0 off 8 v := by
  unfold State.pfWrite; exact hostWrite_reaches h

/-- A write of a register of the map, outside the MSI-X tables and the doorbells. -/
theorem writeReg_listed {off v : Nat} {s : State} (b : BlockDef) (r : RegDef) (hb : blockOf off = some b) (hr : regAt off = some r)
    (h1 : (inMsixTable 0 off || inMsixPba 0 off) = false) (h2 : isDoorbell off = false) :
    s.writeReg 0 off 8 v = s.writeListed b r off v := by
  unfold State.writeReg
  rw [if_neg (by rw [h1]; simp), if_neg (by simp), if_neg (by rw [h2]; simp), hb, hr]

/-- A value within the writable bits is checked and takes its effect. -/
theorem writeListed_ok {b : BlockDef} {r : RegDef} {off v : Nat} {s : State} (h64 : v < 2 ^ 64) (hr : v &&& r.rsv = 0) (hw : v &&& r.rw = v)
    (h0 : r.rw ≠ 0) : s.writeListed b r off v = (match firstFail (s.writeChecks b off v) with
      | some st => s.reject off st | none => s.writeEffect b r off v) := by
  unfold State.writeListed
  simp only [Nat.mod_eq_of_lt h64, hr, ne_eq, not_true_eq_false, if_false, h0, hw]
  all_goals rfl

/-! ### Stitches (R176-R199) -/

/-- A stitch's row runs its stitch. -/
theorem stitchRow_runs {op n : Nat} {x : Item} {t : Stitch} {s : State} (f : Nat → Item → Stitch → State → State) (h : Stitching op n x t s) :
    s.stitchRow op f n = f n x t s := by
  obtain ⟨⟨h1, h2⟩, h3, h4, h5, h6, h7, h8, h9⟩ := h
  unfold State.stitchRow
  rw [h1]; dsimp only; rw [h2]; dsimp only
  rw [h3, h4, h5, h6, h7, h8, h9]; simp

end Sys2Proof.Laws
end

