-- ==== Sys2Proof/Laws/Frames.lean ====
section
/-! SUPPORT. How a frame comes from its row to what its kind does. -/

namespace Sys2Proof.Laws

open Sys2Proof Sys2Proof.Machine

/-- A frame row leads where receiving the frame leads. -/
theorem rx_row {f : RxFrame} {s : State} {i : Instr} {kd : FrameKind} {e : State} (hx : exec i s = run (fun s => (s.receive kd f).settle) s)
    (he : s.receive kd f = e) : Leads i s e := leads_of hx he

/-- A frame on a sub-port that is absent or down is not heard. -/
theorem receive_none {f : RxFrame} {s : State} (kd : FrameKind) (h : s.subDef f.port f.sub = none ∨ s.subUp f.port f.sub = false) :
    s.receive kd f = s := by
  unfold State.receive
  rcases h with h | h
  · rw [h]
  · split
    · rfl
    · rw [h]; rfl

/-- What each kind of frame does once the sub-port has taken it. -/
def afterTake (kind : FrameKind) (f : RxFrame) (d : SubDef) (t : Taken) (s : State) : State :=
      let is (k : FrameKind) : Bool := kind == .any || kind == k
      match t with
      | .other => s
      | .pfc b => s.when (is .pfc) (fun s => s.pfcRx f.port f.sub d b)
      | .lldp m b => s.when (is .lldp) (fun s => s.lldpRx f.port f.sub m b)
      | .arp m b => s.when (is .arp) (fun s => s.arpRx f.port f.sub d m b)
      | .neighbour m a => s.when (is .neighbour) (fun s => s.neighbourRx f.port f.sub d m a)
      | .htt h =>
        if !httValid h then s.bump (portReg oPortHttFormat f.port)
        else
          let typ := (Hdr.read h.bytes).typ
          s.when (is (.htt typ)) (fun s =>
            if typ = 0x20 then s.presenceRx f.port f.sub d h
            else if typ = 0x10 then s.helloRx f.port f.sub h
            else if typ = 0x11 ∨ typ = 0x12 then s.setupRx f.port f.sub h
            else s.sessionRx f.port f.sub h.bytes)

/-- Receiving is taking, then what the kind of frame does. -/
theorem receive_take {f : RxFrame} {d : SubDef} {s : State} (kd : FrameKind) (h1 : s.subDef f.port f.sub = some d)
    (h2 : s.subUp f.port f.sub = true) : s.receive kd f = afterTake kd f d (s.takeRx f d).1 (s.takeRx f d).2 := by
  unfold State.receive; rw [h1]; dsimp only; rw [h2]; rfl

/-- A frame heard does what its kind does. -/
theorem receive_hears {f : RxFrame} {d : SubDef} {k : Taken} {s t : State} (kd : FrameKind) (h : Hears f d k s t) :
    s.receive kd f = afterTake kd f d k t := by
  obtain ⟨h1, h2, h3⟩ := h
  rw [receive_take kd h1 h2, h3]

/-- A row for any frame acts on every kind. -/
theorem when_any (s : State) (k : FrameKind) (g : State → State) : s.when (FrameKind.any == FrameKind.any || FrameKind.any == k) g = g s := rfl

/-- A row for one kind acts on that kind. -/
theorem when_same (s : State) (k : FrameKind) (g : State → State) : s.when (k == FrameKind.any || k == k) g = g s := by
  rw [show (k == k) = true from beq_self_eq_true k, Bool.or_true]; rfl

/-- A valid HTT frame goes on by its type (R270 to R272). -/
theorem htt_after {f : RxFrame} {d : SubDef} {h : Heard} {t e : State} {kd : FrameKind} (hv : httValid h = true)
    (hk : kd = .any ∨ kd = .htt (Hdr.read h.bytes).typ)
    (he : (if (Hdr.read h.bytes).typ = 0x20 then t.presenceRx f.port f.sub d h
            else if (Hdr.read h.bytes).typ = 0x10 then t.helloRx f.port f.sub h
            else if (Hdr.read h.bytes).typ = 0x11 ∨ (Hdr.read h.bytes).typ = 0x12 then t.setupRx f.port f.sub h
            else t.sessionRx f.port f.sub h.bytes) = e) : afterTake kd f d (.htt h) t = e := by
  unfold afterTake; dsimp only; rw [hv, if_neg (by simp)]
  rcases hk with hk | hk
  · rw [hk, when_any]; exact he
  · rw [hk, when_same]; exact he

/-- A valid HTT frame heard leads where its type leads. -/
theorem arrives {i : Instr} {f : RxFrame} {d : SubDef} {h : Heard} {s t e : State} {kd : FrameKind} (hx : exec i s = run (fun s => (s.receive kd f).settle) s)
    (hh : Hears f d (.htt h) s t) (hv : httValid h = true) (hk : kd = .any ∨ kd = .htt (Hdr.read h.bytes).typ)
    (he : (if (Hdr.read h.bytes).typ = 0x20 then t.presenceRx f.port f.sub d h
            else if (Hdr.read h.bytes).typ = 0x10 then t.helloRx f.port f.sub h
            else if (Hdr.read h.bytes).typ = 0x11 ∨ (Hdr.read h.bytes).typ = 0x12 then t.setupRx f.port f.sub h
            else t.sessionRx f.port f.sub h.bytes) = e) : Leads i s e :=
  rx_row hx (by rw [receive_hears kd hh]; exact htt_after hv hk he)

/-- An HTT frame whose header is not valid is counted (HTT_FORMAT). -/
theorem bad_htt {i : Instr} {f : RxFrame} {d : SubDef} {h : Heard} {s t : State} {kd : FrameKind} (hx : exec i s = run (fun s => (s.receive kd f).settle) s)
    (hh : Hears f d (.htt h) s t) (hv : httValid h = false) : Leads i s (t.bump (portReg oPortHttFormat f.port)) :=
  rx_row hx (by rw [receive_hears kd hh]; unfold afterTake; dsimp only; rw [hv]; rfl)

end Sys2Proof.Laws
end

