-- ==== Sys2Proof/Laws/Functions.lean ====
section
/-! SUPPORT. How a service function comes from its row to its answer: the steps of R105 one after the other. -/

namespace Sys2Proof.Laws

open Sys2Proof Sys2Proof.Machine

/-- The row of a function that runs is its service (R105). -/
theorem fnRow_runs {code n : Nat} {x : Item} {s : State} (h : Runs code n x s) : s.fnRow code n = s.serviceRun n := by
  obtain ⟨h1, h2, h3, h4, h5, h6, h7, h8, h9⟩ := h
  unfold State.fnRow; rw [h2]; dsimp only; rw [h1, h3, h4, h5, h6, h8]
  simp

/-- A service whose function works in the key plane runs over its keys, then holds the engines for its quanta or answers (R103, R105). -/
theorem serviceRun_keys {code n : Nat} {x : Item} {s : State} (h : Runs code n x s) (hp : isPkFn x.inv = false) :
    s.serviceRun n = (match s.runKeys n x.inst x.inv x.unver false with
      | (none, s) => s
      | (some o, s) =>
        let s := s.modItem n (fun y => { y with invoked := some x.inv });
        if (o.st = .ok || o.st.isOutcome) && bulkFns.contains code then
          let q := quantaOf (s.cfg.timing.period == 0) x.inv
          s.modItem n (fun y => { y with result := some o, job := true, done := 0, total := q })
        else s.finishService n o none) := by
  obtain ⟨h1, h2, h3, h4, h5, h6, h7, h8, h9⟩ := h
  unfold State.serviceRun; rw [h2]; dsimp only; rw [h7]; dsimp only; rw [h9]; dsimp only; rw [hp, h8]
  rfl

/-- Policy and generator satisfied, a function computes and its effects follow (R105 steps 5 and 6). -/
theorem computeStep_eq {x : Item} {cx : Option CipherCtx} {k1 k2 : KeyRec} {t : State} {f : FnSpec} (hf : fnSpec x.inv.fn = some f)
    (hpol : f.policy (t.fnCtx x cx k1 k2) = none) (hr : f.random x.inv = true → t.rngOk = true) :
    t.computeStep x.inst x.inv x.unver k1 k2 cx = (f.compute (t.fnCtx x cx k1 k2), t.computed x (f.compute (t.fnCtx x cx k1 k2))) := by
  unfold State.computeStep; rw [hf]; dsimp only
  have hp2 := hpol
  unfold State.fnCtx at hp2
  have hrr : (f.random x.inv && !t.rngOk) = false := by
    cases hh : f.random x.inv with
    | false => rfl
    | true => rw [hr hh]; rfl
  rw [hp2]; dsimp only; rw [hrr]
  unfold State.computed; rw [hf]; rfl

/-- A function whose keys stand computes and is charged (R105). -/
theorem runKeys_supplied {code n : Nat} {x : Item} {cx : Option (Nat × CipherCtx)} {k1 k2 : KeyRec} {s t : State} {f : FnSpec} (h : Supplied code n x cx k1 k2 s t)
    (hf : fnSpec code = some f) (h5 : code ≠ 0x0605) (h6 : code ≠ 0x0606) :
    s.runKeys n x.inst x.inv x.unver false = (let o := f.compute (t.fnCtx x (cx.map Prod.snd) k1 k2)
      let r := if [0x0601, 0x0602, 0x0603, 0x0604].contains code then (t.computed x o).openPiece n x.inst x.inv o else (o, t.computed x o)
      (some r.1, r.2.charge x.inst (cipherCost x.inv) 0 0)) := by
  obtain ⟨e1, e2, f', a, b, u, e3, e4, e5, e6, e7⟩ := h
  have : f' = f := by rw [hf] at e3; cases e3; rfl
  subst this
  unfold State.runKeys
  rw [e2]; dsimp only
  rw [if_neg (by rw [e1]; omega)]
  have hfs : fnSpec x.inv.fn = some f' := by rw [e1]; exact hf
  rw [hfs]; dsimp only; rw [e4]; dsimp only
  have hcs := computeStep_eq (f := f') (by rw [e1]; exact hf) e6 e7
  cases cx with
  | none => dsimp only at e5 ⊢; rw [← e5]; dsimp only [Option.map] at hcs ⊢; rw [hcs, e1]
  | some ex => obtain ⟨e, c⟩ := ex; dsimp only at e5 ⊢; rw [← e5]; dsimp only [Option.map] at hcs ⊢; rw [hcs, e1]

/-- An invocation that is not a piece of a longer input leaves the running digest alone. -/
theorem openPiece_whole {n i : Nat} {v : Invoc} {o : FnOut} {s : State} (h : isContinue v = false) : s.openPiece n i v o = (o, s) := by
  unfold State.openPiece; rw [h]; simp

/-- A function that is served leads to the quanta it runs for, or to its answer (R103, R105). -/
theorem served_row {i : Instr} {code n : Nat} {x : Item} {cx : Option (Nat × CipherCtx)} {k1 k2 : KeyRec} {s t : State} {f : FnSpec} {o : FnOut}
    (hx : exec i s = run (fun s => (s.fnRow code n).settle) s) (h : Served code n x cx k1 k2 s t) (hf : fnSpec code = some f) (h5 : code ≠ 0x0605) (h6 : code ≠ 0x0606)
    (hc : [0x0601, 0x0602, 0x0603, 0x0604].contains code = false ∨ isContinue x.inv = false) (ho : f.compute (t.fnCtx x (cx.map Prod.snd) k1 k2) = o) :
    Leads i s (if (o.st = .ok || o.st.isOutcome) && bulkFns.contains code then (t.computed x o).runsOn n x o else t.answers n x o) := by
  refine leads_of hx ?_
  rw [fnRow_runs h.1, serviceRun_keys h.1 h.2.1, runKeys_supplied h.2.2 hf h5 h6]
  have hr : (if [0x0601, 0x0602, 0x0603, 0x0604].contains code then (t.computed x o).openPiece n x.inst x.inv o else (o, t.computed x o)) = (o, t.computed x o) := by
    rcases hc with hc | hc
    · rw [hc]; rfl
    · rw [openPiece_whole hc]; split <;> rfl
  dsimp only
  rw [ho, hr]
  rfl

/-- A function that is no bulk function answers when it has computed. -/
theorem served_answers {i : Instr} {code n : Nat} {x : Item} {k1 k2 : KeyRec} {s t : State} {f : FnSpec} {o : FnOut}
    (hx : exec i s = run (fun s => (s.fnRow code n).settle) s) (h : Served code n x none k1 k2 s t) (hf : fnSpec code = some f) (h5 : code ≠ 0x0605) (h6 : code ≠ 0x0606)
    (hc : bulkFns.contains code = false) (ho : f.compute (t.fnCtx x none k1 k2) = o) :
    Leads i s (t.answers n x o) := by
  have hn : [0x0601, 0x0602, 0x0603, 0x0604].contains code = false := by
    unfold bulkFns at hc
    simp only [List.contains_eq_mem, List.mem_cons, List.mem_nil_iff, or_false, decide_eq_false_iff_not, not_or] at hc ⊢
    omega
  have := served_row hx h hf h5 h6 (.inl hn) ho
  rw [hc, Bool.and_false] at this
  exact this

/-- A function that draws nothing leaves the generator as it was. -/
theorem computed_free {x : Item} {o : FnOut} {t : State} {f : FnSpec} (hf : fnSpec x.inv.fn = some f) (hr : f.random x.inv = false) (h1 : x.inv.fn ≠ 0x0B01) (h2 : x.inv.fn ≠ 0x0B02) (hd : o.drawn = 0) : t.computed x o = t := by
  unfold State.computed; rw [hf]; dsimp only; rw [hr, hd, decide_eq_false (by omega)]
  rfl

/-- A bulk function that is served holds its engine for its quanta (R103). -/
theorem served_bulk {i : Instr} {code n : Nat} {x : Item} {k1 k2 : KeyRec} {s t : State} {f : FnSpec} {o : FnOut}
    (hx : exec i s = run (fun s => (s.fnRow code n).settle) s) (h : Served code n x none k1 k2 s t) (hf : fnSpec code = some f) (h5 : code ≠ 0x0605) (h6 : code ≠ 0x0606)
    (hb : bulkFns.contains code = true) (hc : [0x0601, 0x0602, 0x0603, 0x0604].contains code = false ∨ isContinue x.inv = false)
    (ho : f.compute (t.fnCtx x none k1 k2) = o) (hok : o.st = .ok ∨ o.st.isOutcome = true) :
    Leads i s ((t.computed x o).runsOn n x o) := by
  have := served_row hx h hf h5 h6 hc ho
  have hh : ((decide (o.st = .ok) || o.st.isOutcome) && bulkFns.contains code) = true := by
    rw [hb]; rcases hok with hk | hk <;> rw [hk] <;> simp
  rw [if_pos hh] at this
  exact this

/-- A bulk function that draws nothing holds its engine for its quanta and leaves the generator as it was. -/
theorem served_bulk0 {i : Instr} {code n : Nat} {x : Item} {k1 k2 : KeyRec} {s t : State} {f : FnSpec} {o : FnOut}
    (hx : exec i s = run (fun s => (s.fnRow code n).settle) s) (h : Served code n x none k1 k2 s t) (hf : fnSpec code = some f) (h5 : code ≠ 0x0605) (h6 : code ≠ 0x0606)
    (hb : bulkFns.contains code = true) (hc : [0x0601, 0x0602, 0x0603, 0x0604].contains code = false ∨ isContinue x.inv = false)
    (ho : f.compute (t.fnCtx x none k1 k2) = o) (hok : o.st = .ok ∨ o.st.isOutcome = true) (hr : f.random x.inv = false) (hd : o.drawn = 0) :
    Leads i s (t.runsOn n x o) := by
  have := served_bulk hx h hf h5 h6 hb hc ho hok
  rwa [computed_free (f := f) (by rw [h.2.2.1]; exact hf) hr (by rw [h.2.2.1]; intro h0; subst h0; revert hb; decide) (by rw [h.2.2.1]; intro h0; subst h0; revert hb; decide) hd] at this

end Sys2Proof.Laws
end

