-- ==== Sys2Proof/Laws/Tbl.lean ====
section
/-! SUPPORT. Tables: what is entered is read back, other keys are left alone, and the canonical form (keys strictly rising) is kept. -/

namespace Sys2Proof.Tbl

variable {α : Type}

/-- What is entered is read back. -/
@[simp] theorem get?_set_self (t : Tbl α) (i : Nat) (v : α) : get? (set t i v) i = some v := by
  induction t with
  | nil => simp [set, get?]
  | cons e t ih =>
    obtain ⟨k, w⟩ := e
    unfold set
    split
    · simp [get?]
    · split
      · simp [get?]
      · rename_i h1 h2; simp [get?, Ne.symm h2, ih]

/-- Entering a key leaves the others alone. -/
theorem get?_set_ne (t : Tbl α) {i j : Nat} (v : α) (h : i ≠ j) : get? (set t i v) j = get? t j := by
  induction t with
  | nil => simp [set, get?, h]
  | cons e t ih =>
    obtain ⟨k, w⟩ := e
    unfold set
    split
    · simp [get?, h]
    · split
      · rename_i h2; subst h2; simp [get?, h]
      · simp [get?, ih]

/-- The value of a key with a default, after an entry. -/
@[simp] theorem getD_set_self (t : Tbl α) (i : Nat) (v d : α) : getD (set t i v) i d = v := by simp [getD]
theorem getD_set_ne (t : Tbl α) {i j : Nat} (v d : α) (h : i ≠ j) : getD (set t i v) j d = getD t j d := by
  simp [getD, get?_set_ne t v h]
@[simp] theorem has_set_self (t : Tbl α) (i : Nat) (v : α) : has (set t i v) i = true := by simp [has]
theorem has_set_ne (t : Tbl α) {i j : Nat} (v : α) (h : i ≠ j) : has (set t i v) j = has t j := by simp [has, get?_set_ne t v h]

/-- Removing a key leaves the others alone. -/
theorem get?_erase_ne (t : Tbl α) {i j : Nat} (h : i ≠ j) : get? (erase t i) j = get? t j := by
  induction t with
  | nil => rfl
  | cons e t ih =>
    obtain ⟨k, w⟩ := e
    unfold erase
    split
    · rename_i h2; subst h2; simp [get?, h]
    · simp [get?, ih]

/-- Every key of a canonical table lies above its first. -/
theorem above_first {k : Nat} {w : α} {t : Tbl α} (h : wf ((k, w) :: t) = true) : ∀ e ∈ t, k < e.1 := by
  induction t generalizing k w with
  | nil => intro e he; cases he
  | cons f t ih =>
    obtain ⟨j, v⟩ := f
    simp only [wf, Bool.and_eq_true, decide_eq_true_eq] at h
    intro e he
    rcases List.mem_cons.mp he with rfl | he
    · exact h.1
    · exact lt_trans h.1 (ih h.2 e he)

/-- The tail of a canonical table is canonical. -/
theorem wf_tail {e : Nat × α} {t : Tbl α} (h : wf (e :: t) = true) : wf t = true := by
  cases t with
  | nil => rfl
  | cons f t => simp only [wf, Bool.and_eq_true] at h; exact h.2

/-- A key below every entry may be put first. -/
theorem wf_cons {k : Nat} {w : α} {t : Tbl α} (h : wf t = true) (ha : ∀ e ∈ t, k < e.1) : wf ((k, w) :: t) = true := by
  cases t with
  | nil => rfl
  | cons f t => obtain ⟨j, v⟩ := f; simp only [wf, Bool.and_eq_true, decide_eq_true_eq]; exact ⟨ha (j, v) (List.mem_cons_self ..), h⟩

/-- A key below every entry is not entered. -/
theorem get?_below {i : Nat} {t : Tbl α} (ha : ∀ e ∈ t, i < e.1) : get? t i = none := by
  induction t with
  | nil => rfl
  | cons e t ih =>
    obtain ⟨k, w⟩ := e
    have hk := ha (k, w) (List.mem_cons_self ..)
    rw [get?, if_neg (by simp only at hk; omega)]
    exact ih (fun e he => ha e (List.mem_cons_of_mem _ he))

/-- What is removed is gone. -/
theorem get?_erase_self {t : Tbl α} {i : Nat} (h : wf t = true) : get? (erase t i) i = none := by
  induction t with
  | nil => rfl
  | cons e t ih =>
    obtain ⟨k, w⟩ := e
    unfold erase
    split
    · rename_i hk; subst hk; exact get?_below (above_first h)
    · rename_i hk; rw [get?, if_neg hk]; exact ih (wf_tail h)

/-- Keys of a table after an entry. -/
theorem mem_set {t : Tbl α} {i : Nat} {v : α} {e : Nat × α} (h : e ∈ set t i v) : e = (i, v) ∨ e ∈ t := by
  induction t with
  | nil => simp only [set, List.mem_singleton] at h; exact .inl h
  | cons f t ih =>
    obtain ⟨k, w⟩ := f
    unfold set at h
    split at h
    · rcases List.mem_cons.mp h with h | h
      · exact .inl h
      · exact .inr h
    · split at h
      · rcases List.mem_cons.mp h with h | h
        · exact .inl h
        · exact .inr (List.mem_cons_of_mem _ h)
      · rcases List.mem_cons.mp h with h | h
        · exact .inr (h ▸ List.mem_cons_self ..)
        · rcases ih h with h | h
          · exact .inl h
          · exact .inr (List.mem_cons_of_mem _ h)

/-- Keys of a table after a removal. -/
theorem mem_erase {t : Tbl α} {i : Nat} {e : Nat × α} (h : e ∈ erase t i) : e ∈ t := by
  induction t with
  | nil => exact h
  | cons f t ih =>
    obtain ⟨k, w⟩ := f
    unfold erase at h
    split at h
    · exact List.mem_cons_of_mem _ h
    · rcases List.mem_cons.mp h with h | h
      · exact h ▸ List.mem_cons_self ..
      · exact List.mem_cons_of_mem _ (ih h)

/-- Entering a key keeps the canonical form. -/
theorem wf_set {t : Tbl α} (i : Nat) (v : α) (h : wf t = true) : wf (set t i v) = true := by
  induction t with
  | nil => rfl
  | cons e t ih =>
    obtain ⟨k, w⟩ := e
    unfold set
    split
    · rename_i hik
      exact wf_cons h (fun e he => by
        rcases List.mem_cons.mp he with rfl | he
        · exact hik
        · exact lt_trans hik (above_first h e he))
    · rename_i h1
      split
      · rename_i h2; subst h2; exact wf_cons (wf_tail h) (above_first h)
      · rename_i h2
        refine wf_cons (ih (wf_tail h)) (fun e he => ?_)
        rcases mem_set he with rfl | he
        · simp only; omega
        · exact above_first h e he

/-- Removing a key keeps the canonical form. -/
theorem wf_erase {t : Tbl α} (i : Nat) (h : wf t = true) : wf (erase t i) = true := by
  induction t with
  | nil => rfl
  | cons e t ih =>
    obtain ⟨k, w⟩ := e
    unfold erase
    split
    · exact wf_tail h
    · exact wf_cons (ih (wf_tail h)) (fun e he => above_first h e (mem_erase he))

/-- Changing an entered value keeps the canonical form. -/
theorem wf_modify {t : Tbl α} (i : Nat) (f : α → α) (h : wf t = true) : wf (modify t i f) = true := by
  unfold modify
  split
  · exact h
  · exact wf_set _ _ h

/-- Keeping entries keeps the canonical form. -/
theorem wf_filter {t : Tbl α} (p : Nat × α → Bool) (h : wf t = true) : wf (t.filter p : Tbl α) = true := by
  induction t with
  | nil => rfl
  | cons e t ih =>
    obtain ⟨k, w⟩ := e
    rw [List.filter_cons]
    split
    · exact wf_cons (ih (wf_tail h)) (fun e he => above_first h e (List.mem_of_mem_filter he))
    · exact ih (wf_tail h)

end Sys2Proof.Tbl
end

