-- ==== Sys2Proof/WellFormed.lean ====
section
/-! DEFINITION. Well-formed commands: the ranges that the spec's unit counts and layouts give the operands of a command. The machine
answers any command; these are the ones an environment of the spec can send. -/

namespace Sys2Proof

open Sys2Proof.Machine

/-- A number below a bound. -/
def below (a n : Nat) : Bool := decide (a < n)

/-- Bytes, where present, of a fixed length. -/
def optLen (n : Nat) (b : Option Bytes) : Bool := match b with | none => true | some x => x.length == n

/-- A descriptor has 64 bytes (Table 2.3). -/
def Cmd.wf (c : Cmd) : Bool := c.desc.length == 64

/-- The target is an instance or 0xFFFF for the device (R360); a handle has 64 bits; a body is at most 65,535 bytes (R361). -/
def KeyOp.wf (o : KeyOp) : Bool := (below o.target 4096 || o.target == 0xFFFF) && below o.handle (2 ^ 64) && below o.body.length 65536

/-- A frame arrives on one of 4 sub-ports of 64 ports (Table 9.1, R262). -/
def RxFrame.wf (f : RxFrame) : Bool := below f.port 64 && below f.sub 4

/-- A service descriptor has 64 bytes, an operand table 128 (R304, R305); there are 65,536 queue pairs (R300). -/
def ServiceFetch.wf (f : ServiceFetch) : Bool := below f.qp 65536 && f.desc.length == 64

/-- Registers are 64 bits (R1); functions are PF0 and VF 1 to 4,095 (R298). -/
def RegAccess.wf (r : RegAccess) : Bool := below r.fn 4096 && below r.off (2 ^ 64) && below r.value (2 ^ 64) && decide (1 ≤ r.size ∧ r.size ≤ 64)

/-- Banks are numbered 0 to 3327, and the spares 3328 to 3391 (R484). -/
def EccEvent.wf (e : EccEvent) : Bool := below e.bank 3392

/-- The welt link has 8 lanes (R409). -/
def WeltUp.wf (w : WeltUp) : Bool := below w.lanes 9

/-- A CID has 16 bytes (R479). -/
def CardSeen.wf (c : CardSeen) : Bool := c.cid.length == 16

/-- An interconnect address has 64 bits (R497). -/
def DebugAcc.wf (d : DebugAcc) : Bool := below d.addr (2 ^ 64)

/-- Four start-test windows of 512 bytes for each of 8 noise sources (R441). -/
def StartEnv.wf (e : StartEnv) : Bool := e.noise.length == 32 && e.noise.all (fun w => w.length == 512) && below e.snaps 4

/-- An engine error hits a quantum at most twice (R324). -/
def QuantumEnd.wf (q : QuantumEnd) : Bool := below q.errors 3

/-- A well-formed command. -/
def Instr.wf : Instr → Bool
  | .powerOn _ => true
  | .powerLoss => true
  | .sysRstN _ => true
  | .perstN _ => true
  | .devResetRequest value => below value (2 ^ 64)
  | .startUp env => env.wf
  | .busMasterEnable fn _ => below fn 4096
  | .flrPf0 => true
  | .vfFlr fn => below fn 4096
  | .tickBoundary => true
  | .epochBoundary => true
  | .placementRun _ => true
  | .mgmtSqTail value => below value (2 ^ 64)
  | .mgmtCqHead value => below value (2 ^ 64)
  | .mgmtDigestAck value => below value (2 ^ 64)
  | .mgmtUrgent value => below value (2 ^ 64)
  | .mgmtDescriptorFetch _ c => c.wf
  | .epochFence c => c.wf
  | .readState c => c.wf
  | .digestResync c => c.wf
  | .ksPageRangeSet c => c.wf
  | .ksPinResident c => c.wf
  | .ksKeyInfo c => c.wf
  | .ksPageRetry c => c.wf
  | .ksSnapshotBase c => c.wf
  | .ceremonyBegin c => c.wf
  | .ceremonyRead c => c.wf
  | .ceremonyCommit c => c.wf
  | .ceremonyAbort c => c.wf
  | .ceremonyTimeout => true
  | .identityRead c => c.wf
  | .lastLoad c => c.wf
  | .lastAmend c => c.wf
  | .lastCheck c => c.wf
  | .lastStats c => c.wf
  | .lastValidationDone => true
  | .lastStorePersisted => true
  | .dispFlowLookup c => c.wf
  | .dispPinFlow c => c.wf
  | .dispHintFlow c => c.wf
  | .dispFronds c => c.wf
  | .dispHintKey c => c.wf
  | .dispPlacement c => c.wf
  | .portAdmin c => c.wf
  | .portShutdown c => c.wf
  | .sessionCreate c => c.wf
  | .sessionConnect c => c.wf
  | .sessionClose c => c.wf
  | .sessionDest c => c.wf
  | .portPeers c => c.wf
  | .macsecSaInstall c => c.wf
  | .macsecTxUse c => c.wf
  | .macsecSaRemove c => c.wf
  | .macsecSaStatus c => c.wf
  | .queueCreate c => c.wf
  | .queueDestroy c => c.wf
  | .queueStatus c => c.wf
  | .instanceCreate c => c.wf
  | .instanceEnable c => c.wf
  | .instanceDisable c => c.wf
  | .instanceReset c => c.wf
  | .instanceResetDone inst => below inst 4096
  | .instanceQuiet inst => below inst 4096
  | .instanceDestroy c => c.wf
  | .instanceSetLimits c => c.wf
  | .movePrepare c => c.wf
  | .moveOut c => c.wf
  | .moveIn c => c.wf
  | .moveFinish c => c.wf
  | .moveAbandon c => c.wf
  | .moveCancel c => c.wf
  | .moveMembership c => c.wf
  | .forcedFailover c => c.wf
  | .twinReturnHold c => c.wf
  | .zeroise c => c.wf
  | .protFuseOptions c => c.wf
  | .debugUnlock c => c.wf
  | .ledgerExport c => c.wf
  | .cardRead c => c.wf
  | .firmwareUpdate c => c.wf
  | .fabBankPower c => c.wf
  | .fabUnretire c => c.wf
  | .fabSelftest c => c.wf
  | .kumSqTail value => below value (2 ^ 64)
  | .kumCqHead value => below value (2 ^ 64)
  | .keyUpdateMessage entry _ => decide (entry.length = 32)
  | .writeKey op => op.wf
  | .delete op => op.wf
  | .replenish op => op.wf
  | .setAttributes op => op.wf
  | .markPersistent op => op.wf
  | .setRoster op => op.wf
  | .setRosterDevice op => op.wf
  | .enrolImageAuthority op => op.wf
  | .enrolDomainAuthority op => op.wf
  | .establishRoster op => op.wf
  | .lifecycleStep op => op.wf
  | .lifecycleReceiptTimeout => true
  | .fuseBurnDone => true
  | .debugEnable op => op.wf
  | .clearTamper op => op.wf
  | .sqTail fn q value => below fn 4096 && below q 256 && below value (2 ^ 64)
  | .cqHead fn q value => below fn 4096 && below q 256 && below value (2 ^ 64)
  | .serviceDescriptorFetch f => f.wf
  | .gatherFault _ _ _ => true
  | .itemAdmit frond => below frond 16
  | .waitPoolFullCount frond => below frond 16
  | .extract _ => true
  | .selectKey _ => true
  | .apply _ => true
  | .rewrite _ => true
  | .test _ => true
  | .skipIf _ => true
  | .route _ => true
  | .respond _ => true
  | .reject _ => true
  | .drop _ => true
  | .hold _ => true
  | .holdDue _ => true
  | .setFlow _ => true
  | .count _ => true
  | .emit _ => true
  | .deadlineExpiry _ => true
  | .pinTranslate _ => true
  | .pinVerifyOffset _ => true
  | .pinVerifyPvv _ => true
  | .pinGenerateOffset _ => true
  | .macGenerate _ => true
  | .macVerify _ => true
  | .macTranslate _ => true
  | .arqcVerify _ => true
  | .arpcGenerate _ => true
  | .cardValueVerify _ => true
  | .cardValueGenerate _ => true
  | .dukptDerive _ => true
  | .keyDerive _ => true
  | .tokenise _ => true
  | .detokenise _ => true
  | .encrypt _ => true
  | .decrypt _ => true
  | .aeadSeal _ => true
  | .aeadOpen _ => true
  | .contextExport _ => true
  | .contextImport _ => true
  | .hash _ => true
  | .hmacGenerate _ => true
  | .hmacVerify _ => true
  | .sign _ => true
  | .verify _ => true
  | .keyAgree _ => true
  | .kemEncaps _ => true
  | .kemDecaps _ => true
  | .keyGenerate _ => true
  | .keyImportBlock _ => true
  | .keyExportBlock _ => true
  | .keyCheckValue _ => true
  | .random _ => true
  | .drbgReseed _ => true
  | .attest _ => true
  | .quantumEnd q => q.wf
  | .pkJobAdmit frond => below frond 16
  | .segmentEnd frond _ _ => below frond 16
  | .pageFetchDone page data => below page (2 ^ 22) && optLen 4096 data
  | .pageFetchTimeout page => below page (2 ^ 22)
  | .pageWriteBack page data => below page (2 ^ 22) && optLen 4096 data
  | .pageWriteConfirm page header => below page (2 ^ 22) && optLen 64 header
  | .kpgNoticeHead value => below value (2 ^ 64)
  | .journalCommit => true
  | .snapshotBaseCommit => true
  | .ethernetFrameRx f => f.wf
  | .pfcFrame f => f.wf
  | .arpRequest f => f.wf
  | .neighbourSolicitation f => f.wf
  | .lldpdu f => f.wf
  | .dataFrame f => f.wf
  | .noticeFrame f => f.wf
  | .creditFrame f => f.wf
  | .closeFrame f => f.wf
  | .hello f => f.wf
  | .offer f => f.wf
  | .accept f => f.wf
  | .presenceFrame f => f.wf
  | .setupTimeout session => below session (2 ^ 20)
  | .helloResend session => below session (2 ^ 20)
  | .acceptResend session => below session (2 ^ 20)
  | .creditResend session => below session (2 ^ 20)
  | .creditGrantSend session => below session (2 ^ 20)
  | .serviceResponseTimeout _ => true
  | .parkTimeExpiry session => below session (2 ^ 20)
  | .reclaimTimeExpiry session => below session (2 ^ 20)
  | .presenceAnnounce port sub => below port 64 && below sub 4
  | .lldpAnnounce port sub => below port 64 && below sub 4
  | .solitaryEntry port sub => below port 64 && below sub 4
  | .peerEntryAgeing port _ => below port 64
  | .linkChange port sub _ => below port 64 && below sub 4
  | .flowLingerExpiry flow => below flow (2 ^ 20)
  | .contextIdleExpiry entry => below entry (2 ^ 20)
  | .mbxSend inst value => below inst 4096 && below value (2 ^ 64)
  | .instMbxIn inst value => below inst 4096 && below value (2 ^ 64)
  | .instMbxOutPost inst value msgs _ => below inst 4096 && below value (2 ^ 64) && decide (msgs.length = 1024)
  | .mbxRx inst value => below inst 4096 && below value (2 ^ 64)
  | .instLogHead inst value => below inst 4096 && below value (2 ^ 64)
  | .eccError e => e.wf
  | .engineError _ _ => true
  | .engineKatDone _ _ => true
  | .bankCopyDone quadrant => below quadrant 4
  | .bankMarchTestDone quadrant _ => below quadrant 4
  | .bankCopyBackDone quadrant => below quadrant 4
  | .bankRetentionTimeout bank => below bank 3392
  | .arbiterStarvation requester _ _ => below requester 72
  | .monitorAssert source => below source 16
  | .tempWarn _ => true
  | .noiseWindow source window => below source 8 && decide (window.length = 512)
  | .drbgReseedCount kind number => (kind == 1 || kind == 2) && below number (if kind = 1 then 16 else 4096)
  | .rngTestControl value => below value (2 ^ 64)
  | .rngTestData value => below value (2 ^ 64)
  | .protDebugRevoke => true
  | .protDebugNewNonce => true
  | .weltLinkUp w => w.wf
  | .weltFrameTimeout => true
  | .heartbeatRx _ => true
  | .heartbeatLoss => true
  | .fencePromotionAttempt => true
  | .startWaitExpiry => true
  | .returnOfPrimary => true
  | .returnResumeTimeout => true
  | .mirroredChangeRx _ => true
  | .mirrorAck _ => true
  | .resyncComplete => true
  | .claimCasResult _ value => below value (2 ^ 64)
  | .claimCasTimeout _ => true
  | .ledgerRecordCommit outcome => below outcome 3
  | .ledgerSealCount => true
  | .ledgerSealTimer => true
  | .sectorEraseAhead _ => true
  | .ledgerVerifyDone _ _ => true
  | .cardDetect card => card.wf
  | .cardRemoval _ => true
  | .cardIdentifyTimeout => true
  | .cardBusyEnd _ => true
  | .cardBusyTimeout => true
  | .errCodeSelect value => below value (2 ^ 64)
  | .rcRegisterRead r => r.wf
  | .registerWrite r => r.wf
  | .weltLinkDown => true
  | .monitorDeassert source => below source 16
  | .batteryDomainLoss => true
  | .registerRead r => r.wf
  | .debugAccess d => d.wf
  | .vfEnable numVfs => below numVfs 4096
  | .pciePowerState fn _ => below fn 4096
  | .pcieLinkChange _ _ width _ => [1, 2, 4, 8, 16].contains width
  | .firmwareWriteDone _ => true
  | .wipeDone => true

end Sys2Proof
end

