-- ==== Sys2Proof/Tests/Slice0.lean ====
section
/-! SUPPORT. Tests: an ill-formed command for each check of WellFormed, and a witness for each statement. A witness applies its statement at
concrete states and operands: the proofs it hands over are those of the statement's hypotheses, so no hypothesis is empty. -/

namespace Sys2Proof.Tests

open Sys2Proof Sys2Proof.Machine

set_option Elab.async false

/-! ### Small states -/

/-- A device that runs alone and takes commands. -/
def up : State :=
  { State.reset with dev := { ready := true, regsUp := true, step := 10 }, twin := { active := true }, fab := { rules := bootRules } }

/-- A command for unit `id` of type `typ`, expecting version `ver`, with parameter bytes. -/
def dsc (typ id ver : Nat) (par : Bytes) : Cmd :=
  { desc := zeros 8 ++ le 1 typ ++ zeros 7 ++ le 8 id ++ le 4 ver ++ zeros 4 ++ padTo 32 par }

/-- An accepted command of an ACTIVE device. -/
theorem accepted {code : Nat} {c : Cmd} {s : State}
    (h : (s.works && (formatFail (coded code c)).isNone && !s.standby && versionOk (coded code c) s) = true) : Accepted code c s := by
  simp only [Bool.and_eq_true, Bool.not_eq_true', Option.isNone_iff_eq_none] at h
  exact ⟨h.1.1.1, h.1.1.2, .inl h.1.2, h.2⟩

/-- `up` with another device part. -/
def dark : State := { up with dev := { up.dev with rails := false } }
/-- A device after a reset, whose start-up may run, with fuses `f` and firmware copies that are valid or not. -/
def fresh (f : Fuses) (a b : Bool) : State :=
  State.deviceReset 1 { State.reset with fuses := f, flash := { fwA := { valid := a }, fwB := { valid := b } } }
/-- VF 1 is enabled. -/
def vf : State := { up with pcie := { vfEnable := true, numVfs := 1 } }

/-- What is there is what it is taken for. -/
theorem found {α : Type} {o : Option α} {d : α} (h : o.isSome = true) : o = some (o.getD d) := by
  cases o with
  | none => cases h
  | some x => rfl

/-- Instance 1 is ENABLED, with VF 1. -/
def two : State := { vf with inst := vf.inst ++ [(1, { d := { managerInst with lim := { managerRec with fronds := 1 } } })] }

/-- `up` with a changed durable record of instance 0. -/
def up0 (f : InstDur → InstDur) : State := { up with inst := [(0, { d := f managerInst })] }
/-- The handle of an ephemeral key of instance 0. -/
def h0 : Nat := mkHandle 0 1 0xF000000 1
/-- An AES-128 data key with every usage its class allows. -/
def aes : KeyRec := { handle := h0, mat := zeros 16, usage := classUsage 1, alg := algAes, len := 16, cls := 1 }
/-- `up` with keys. -/
def keyed (ks : List KeyRec) : State := { up with ks := { up.ks with keys := ks.foldl (fun t k => t.set (hSlot k.handle) k) [] } }

/-- A record with room for everything. -/
def full : InstRec := { managerRec with sym := 1048576, asym := 16384, qps := 256, flows := 65536, sessions := 65536 }

/-- A running configuration in which every unit is enabled, with one port in mode 1 whose sub-port announces. -/
def cfg : LastConfig :=
  { enables := { fronds := 0xFFFF, field := 2 ^ 64 - 1 }
    ports := [{ mode := 1, subs := [{ mac := [2#8, 0#8, 0#8, 0#8, 0#8, 1#8], flags := 0x19, pfc := 0xFF }] }]
    htt := { bindings := [{ seam := 0, flags := 1 }, { flags := 2, maxMsg := 8192 }] } }
/-- A device with that last, instance 0 having room and credit. -/
def live : State :=
  { up with last := { cfgs := [(0, cfg)], cur := some 0 }, rng := { state := 1 }, ledger := { opened := true },
            inst := [(0, { d := { managerInst with lim := full, p := 1, k := 1 }, cipher := 1000, field := 1000, pk := 1000 })] }
/-- Fits what a Bool says of an outcome. -/
theorem some_of {α : Type} {o : Option α} (h : o.isSome = true) : ∃ x, o = some x := Option.isSome_iff_exists.mp h

/-! ### Witnesses -/

theorem witness_step : Obligations.StepRunsTheFrontCommand → step { up with pending := [.tickBoundary] } = exec .tickBoundary { up with pending := [] } :=
  fun h => h .tickBoundary { up with pending := [] }

theorem witness_idle : Obligations.EmptyQueueIdles → step up = .next up := fun h => h up rfl

theorem witness_fuses : Obligations.EveryStepKeepsBurnedFuses → ({} : Fuses).keeps up.fuses :=
  fun h => (h {} up up ⟨fun _ _ h => h, fun _ h => h, fun _ h => h, fun h => h, fun h => h⟩ rfl).1

theorem witness_quiet : Obligations.QuietStatesAreSettled → ∀ c, Leads c up up → Goes c up up :=
  fun h c => h.2 c up up ⟨rfl, rfl, rfl, rfl, rfl⟩

theorem witness_checked : Obligations.CommandsAreCheckedBeforeTheyAct →
    (∃ e, Leads (.epochFence (dsc 2 0 0 [])) up e) ∧ (∃ e, Leads (.ceremonyAbort (dsc 2 0 7 [])) up e) ∧
    (∃ e, Leads (.ksPageRetry (dsc 7 0 0 [])) { up with twin := {} } e) ∧ Leads (.readState (dsc 2 0 0 [])) State.reset State.reset :=
  fun h => ⟨⟨_, h.1 _ 0x8001 (dsc 2 0 0 []) up .badFieldValue rfl (by decide +kernel) (by decide +kernel)⟩,
    ⟨_, h.2.1 _ 0x8113 (dsc 2 0 7 []) up rfl (by decide +kernel) (by decide +kernel) (.inl rfl) (by decide +kernel)⟩,
    ⟨_, h.2.2.1 _ 0x8104 (dsc 7 0 0 []) _ rfl (by decide +kernel) (by decide +kernel) (by decide +kernel) (by decide +kernel)⟩,
    h.2.2.2 _ 0x8002 (dsc 2 0 0 []) _ rfl (by decide +kernel)⟩

theorem witness_rails : Obligations.RailsComeUpAndGoDown →
    Goes (.powerOn true) up up ∧ (∃ e, Goes (.powerOn true) dark e) ∧ exec (.powerOn false) dark = .fault .outsideRatedConditions ∧
    Goes .powerLoss dark dark ∧ (∃ e, Goes .powerLoss up e) ∧ ({ torn := true } : Fuses).decode = 5 := by
  intro h
  refine ⟨h.1.1 _ _ ?_, ⟨_, h.1.2.1 dark ?_⟩, h.1.2.2 _ ?_, h.2.1 _ ?_, ⟨_, h.2.2.1 up ?_⟩, h.2.2.2 _ ?_⟩ <;> decide +kernel

theorem witness_reset_pin : Obligations.ResetPinIsFilteredByWidth →
    Leads (.sysRstN 49) up up ∧ Leads (.sysRstN 50) up (up.assertSource 13) ∧ Leads (.sysRstN 9999) up (up.assertSource 13) ∧
    ∃ e, Leads (.sysRstN 10000) up e ∧ e.mayStart = true := by
  intro h
  refine ⟨(h _ _ ?_).1 ?_, (h _ _ ?_).2.1 ?_ ?_, (h _ _ ?_).2.1 ?_ ?_, _, ((h 10000 up ?_).2.2 ?_).1, ((h 10000 up ?_).2.2 ?_).2 ?_⟩ <;> decide +kernel

theorem witness_reset_request : Obligations.ResetRequestTakesItsKeyAlone →
    (∃ e, Goes (.devResetRequest 0x51205E7E) up e) ∧ (∃ e, Goes (.devResetRequest 0) up e) ∧ (∃ e, Goes (.devResetRequest 0xFFFFFFFF) up e) ∧
    ∃ e, Leads .tickBoundary { up with dev := { up.dev with resetReq := true } } e := by
  intro h
  refine ⟨⟨_, h.1 up ⟨?_, ?_, ?_, ?_⟩⟩, ⟨_, h.2.1 0 up ⟨?_, ?_, ?_, ?_⟩ ?_ ?_⟩, ⟨_, h.2.1 _ up ⟨?_, ?_, ?_, ?_⟩ ?_ ?_⟩, ⟨_, h.2.2 _ ?_ ?_ ?_⟩⟩ <;>
    decide +kernel

/-- Fuses of a SCRAPPED device. -/
def scrapped : Fuses := ((({} : Fuses).burnStage 1).burnStage 2).burnStage 3

/-- A device before start-up that is SCRAPPED, although its protection has not read it yet. -/
def dead : State := { fresh {} true true with fuses := scrapped }

theorem witness_start_stops : Obligations.StartUpStepsStopOrGoOn → ∀ e : StartEnv,
    (∃ t, Leads (.startUp e) dead t) ∧ (e.romOk = false → ∃ t, Leads (.startUp e) (fresh {} true true) t) ∧
      (e.romOk = true → ∃ t, Leads (.startUp e) (fresh {} false false) t) := by
  intro h e
  refine ⟨?_, ?_, ?_⟩
  · exact ⟨_, (h e dead (by decide +kernel) rfl (by decide +kernel)).1 (by decide +kernel)⟩
  · exact fun r => ⟨_, (h e (fresh {} true true) (by decide +kernel) rfl (by decide +kernel)).2.2.1 (by decide +kernel) r⟩
  · exact fun r => ⟨_, (h e (fresh {} false false) (by decide +kernel) rfl (by decide +kernel)).2.2.2.1 (by decide +kernel) r rfl rfl⟩

/-- A device before start-up that reads LOST. -/
def lost : State := { fresh {} true true with fuses := { torn := true } }

theorem witness_start_up : Obligations.StartUpStepsStopOrGoOn → ∀ e : StartEnv,
    (∃ t, Leads (.startUp e) lost t) ∧ (e.romOk = true → e.torn = false → ∃ t, Leads (.startUp e) (fresh {} false true) t) := by
  intro h e
  refine ⟨?_, ?_⟩
  · exact ⟨_, (h e lost (by decide +kernel) rfl (by decide +kernel)).2.1 (by decide +kernel)⟩
  · intro r q
    have g := (h e (fresh {} false true) (by decide +kernel) rfl (by decide +kernel)).2.2.2.2 (by decide +kernel) r (.inr rfl)
    rw [q] at g
    exact ⟨_, g (by decide +kernel)⟩

theorem witness_battery : Obligations.BatteryTemperatureAndFirmware →
    (∃ e, Goes .batteryDomainLoss dark e) ∧ Goes .batteryDomainLoss up up ∧ (∃ e, Goes (.tempWarn 0xFFFF) up e) ∧
    (∀ c : Cmd, c = dsc 1 0 1 (zeros 8 ++ le 4 4852) → firmwareFail 0 4852 (submitted 0x8903 c up).image = none → ∃ e, Leads (.firmwareUpdate c) up e) ∧
    ∀ b, ∃ e, Leads (.firmwareWriteDone b)
      { up with dev := { up.dev with fwJob := some { m := { cmd := dsc 1 0 1 [], addr := 0 }, slot := 0 } } } e := by
  intro h
  refine ⟨⟨_, h.1.1 dark rfl⟩, h.1.2.1 _ rfl, ⟨_, h.1.2.2 0xFFFF up rfl (by decide)⟩, ?_, ?_⟩
  · intro c e f
    subst e
    exact ⟨_, h.2.1 _ up (accepted (by decide +kernel)) rfl (by decide +kernel) f⟩
  · intro b
    cases b
    · exact ⟨_, (h.2.2 _ _ rfl).1⟩
    · exact ⟨_, (h.2.2 _ _ rfl).2⟩

theorem witness_pcie : Obligations.PcieFunctionsAndLink →
    ((∃ e, Leads (.vfEnable 4095) up e) ∧ (∃ e, Leads (.vfFlr 1) vf e) ∧ (∃ e, Leads (.perstN true) up e) ∧
      (∃ e, Leads (.perstN false) { up with dev := { up.dev with perstLow := true } } e) ∧ ∃ e, Leads .flrPf0 up e) ∧
    (∃ e, Leads (.pciePowerState 1 true) vf e) ∧ (∃ e, Leads (.pciePowerState 1 false) { vf with pcie := { vf.pcie with bmeOff := [1], d3 := [1] } } e) ∧
    (∃ e, Leads (.busMasterEnable 0 false) up e) ∧
    (∃ e, Leads (.busMasterEnable 1 true) { vf with pcie := { vf.pcie with bmeOff := [1], msixPend := [(1, 0)] } } e) ∧
    (∃ e, Goes (.pcieLinkChange true 6 16 false) up e) ∧ ∃ e, Goes (.pcieLinkChange false 1 1 false) up e := by
  intro h
  refine ⟨⟨⟨_, h.1.1 _ up ?_ ?_ ?_ ?_⟩, ⟨_, h.1.2.1 1 vf ?_ ?_⟩, ⟨_, h.1.2.2.1 up ?_ ?_⟩, ⟨_, h.1.2.2.2 _ ?_ ?_⟩, ⟨_, (h.2.1 up ?_ ?_ ?_ ?_).1⟩⟩,
    ⟨_, h.2.2.1 1 vf ?_ ?_ ?_⟩, ⟨_, h.2.2.2.1 1 _ ?_ ?_ ?_⟩, ⟨_, h.2.2.2.2.1 0 up ?_ ?_ ?_⟩, ⟨_, h.2.2.2.2.2.1 1 _ ?_ ?_ ?_ ?_⟩,
    ⟨_, h.2.2.2.2.2.2.1 6 16 false up ?_ ?_ ?_ ?_ ?_⟩, ⟨_, h.2.2.2.2.2.2.2 1 1 false up ?_⟩⟩ <;> decide +kernel

theorem witness_ticks : Obligations.TicksEpochsAndPlacement →
    (∃ e, Leads .tickBoundary up e) ∧ (∃ e, Leads .tickBoundary { up with tick := { count := 999999 } } e) ∧
    (∃ e, Leads .epochBoundary { up with tick := { count := 1000000, due := true } } e) ∧
    Goes (.placementRun []) { up with disp := { frozen := true } } { up with disp := { frozen := true } } ∧
    ∃ e, Goes (.placementRun [⟨0, 0, 1⟩]) up e := by
  intro h
  refine ⟨⟨_, (h.1.1 up ?_ ?_ ?_ ?_).1⟩, ⟨_, h.1.2.1 _ ?_ ?_ ?_ ?_ ?_⟩, ⟨_, h.1.2.2.1 _ ?_ ?_ ?_ ?_ ?_⟩, h.2.1 _ _ ?_ ?_,
    (h.2.2 [⟨0, 0, 1⟩] up ?_ ?_).elim fun _ g => ⟨_, g.1⟩⟩ <;> decide +kernel

/-- The block and the register at an offset. -/
def blockAt (o : Nat) : BlockDef := (blockOf o).getD ⟨0, 0, 0, 0, []⟩
/-- The register at an offset. -/
def regOf (o : Nat) : RegDef := (regAt o).getD ⟨0, 0, 0, 0, 0⟩
/-- Access rules that allow nothing. -/
def shut : State := { up with fab := {} }

theorem witness_register_writes : Obligations.RegisterWritesAreCheckedFirst →
    (∃ e, Leads (.registerWrite ⟨0, 0x48, 4, 0⟩) up e) ∧ (∃ e, Leads (.registerWrite ⟨0, 0x48, 8, 0⟩) shut e) ∧
    (∃ e, Leads (.registerWrite ⟨0, 0x48, 8, 2 ^ 32⟩) up e) ∧ (∃ e, Leads (.registerWrite ⟨0, 0, 8, 1⟩) up e) ∧
    (∃ e, Leads (.registerWrite ⟨0, 0x50, 8, 0x7FFF⟩) up e) ∧ ∃ e, Leads (.registerWrite ⟨0, 0x50, 8, 1680⟩) up e := by
  intro h
  refine ⟨⟨_, (h 0x48 4 0 up ?_ ?_).1 ?_⟩, ⟨_, (h 0x48 8 0 shut ?_ ?_).2.1 ?_ ?_⟩,
    ⟨_, ((h 0x48 8 (2 ^ 32) up ?_ ?_).2.2 (blockAt 0x48) (regOf 0x48) ?_ ?_ ?_ ?_ ?_ (found ?_) (found ?_) ?_).1 ?_⟩,
    ⟨_, ((h 0 8 1 up ?_ ?_).2.2 (blockAt 0) (regOf 0) ?_ ?_ ?_ ?_ ?_ (found ?_) (found ?_) ?_).2.1 ?_ ?_⟩,
    ⟨_, ((h 0x50 8 0x7FFF up ?_ ?_).2.2 (blockAt 0x50) (regOf 0x50) ?_ ?_ ?_ ?_ ?_ (found ?_) (found ?_) ?_).2.2.1 ?_ ?_ .badFieldValue ?_⟩,
    ⟨_, ((h 0x50 8 1680 up ?_ ?_).2.2 (blockAt 0x50) (regOf 0x50) ?_ ?_ ?_ ?_ ?_ (found ?_) (found ?_) ?_).2.2.2 ?_ ?_ ?_⟩⟩ <;> decide +kernel

theorem witness_register_reads : Obligations.RegisterReadsAnswerValues →
    (∃ e, Goes (.registerRead ⟨0, 4, 8, 0⟩) up e) ∧ (∃ e, Goes (.registerRead ⟨0, 0, 8, 0⟩) shut e) ∧
    (∃ e, Goes (.registerRead ⟨0, 0x3FFFFF8, 8, 0⟩) up e) ∧ (∃ e, Goes (.registerRead ⟨0, 0xFFF8, 8, 0⟩) up e) ∧
    (∃ e, Goes (.registerRead ⟨0, 0, 8, 0⟩) up e) ∧ ∃ e, Goes (.rcRegisterRead ⟨0, oErrPending, 8, 0⟩) up e := by
  intro h
  refine ⟨⟨_, (h 4 8 0 up ?_ ?_ _ (.inl rfl)).1 ?_⟩, ⟨_, (h 0 8 0 shut ?_ ?_ _ (.inl rfl)).2.1 ?_ ?_⟩,
    ⟨_, ((h 0x3FFFFF8 8 0 up ?_ ?_ _ (.inl rfl)).2.2 ?_ ?_ ?_ ?_ ?_).1 ?_⟩,
    ⟨_, ((h 0xFFF8 8 0 up ?_ ?_ _ (.inl rfl)).2.2 ?_ ?_ ?_ ?_ ?_).2.1 (blockAt 0xFFF8) (found ?_) ?_⟩,
    ⟨_, ((h 0 8 0 up ?_ ?_ _ (.inl rfl)).2.2 ?_ ?_ ?_ ?_ ?_).2.2 (blockAt 0) (regOf 0) (found ?_) (found ?_)⟩,
    ⟨_, ((h oErrPending 8 0 up ?_ ?_ _ (.inr rfl)).2.2 ?_ ?_ ?_ ?_ ?_).2.2 (blockAt oErrPending) (regOf oErrPending) (found ?_) (found ?_)⟩⟩ <;>
    decide +kernel

theorem witness_rings : Obligations.RingAndUrgentRegistersAct →
    ((∃ e, Goes (.mgmtSqTail 63) up e) ∧ (∃ e, Goes (.mgmtSqTail 64) up e) ∧ (∃ e, Goes (.mgmtCqHead 63) up e) ∧ (∃ e, Goes (.mgmtCqHead 64) up e)) ∧
    ((∃ e, Goes (.kumSqTail 63) up e) ∧ (∃ e, Goes (.kumSqTail 64) up e) ∧ (∃ e, Goes (.kumCqHead 63) up e) ∧ (∃ e, Goes (.kumCqHead 64) up e)) ∧
    ((∃ e, Leads (.kpgNoticeHead 4095) up e) ∧ (∃ e, Leads (.kpgNoticeHead 4096) up e) ∧ (∃ e, Goes (.mgmtDigestAck 1) up e)) ∧
    (∃ e, Goes (.mgmtUrgent (128 * 1)) up e) ∧ (∃ e, Goes (.mgmtUrgent (128 * 1)) { up with mgmt := { up.mgmt with busy := true } } e) ∧
    ∃ e, Goes (.mgmtUrgent 0) up e := by
  intro h
  refine ⟨⟨⟨_, ((h.1 63 up ?_).1 ⟨?_, ?_, ?_, ?_⟩).1 ?_⟩, ⟨_, ((h.1 64 up ?_).1 ⟨?_, ?_, ?_, ?_⟩).2 ?_⟩,
      ⟨_, (((h.1 63 up ?_).2.1 ⟨?_, ?_, ?_, ?_⟩).1 ?_).1⟩, ⟨_, ((h.1 64 up ?_).2.1 ⟨?_, ?_, ?_, ?_⟩).2 ?_⟩⟩,
    ⟨⟨_, ((h.1 63 up ?_).2.2.1 ⟨?_, ?_, ?_, ?_⟩).1 ?_⟩, ⟨_, ((h.1 64 up ?_).2.2.1 ⟨?_, ?_, ?_, ?_⟩).2 ?_⟩,
      ⟨_, (((h.1 63 up ?_).2.2.2.1 ⟨?_, ?_, ?_, ?_⟩).1 ?_).1⟩, ⟨_, ((h.1 64 up ?_).2.2.2.1 ⟨?_, ?_, ?_, ?_⟩).2 ?_⟩⟩,
    ⟨⟨_, ((h.1 4095 up ?_).2.2.2.2 ⟨?_, ?_, ?_, ?_⟩).1 ?_⟩, ⟨_, ((h.1 4096 up ?_).2.2.2.2 ⟨?_, ?_, ?_, ?_⟩).2 ?_⟩,
      ⟨_, h.2.1 1 up ?_ ⟨?_, ?_, ?_, ?_⟩⟩⟩,
    ⟨_, (h.2.2 1 up ?_ ⟨?_, ?_, ?_, ?_⟩).1 ?_ ?_⟩, ⟨_, (h.2.2 1 _ ?_ ⟨?_, ?_, ?_, ?_⟩).2.1 ?_ ?_⟩, ⟨_, (h.2.2 0 up ?_ ⟨?_, ?_, ?_, ?_⟩).2.2 ?_⟩⟩ <;>
    decide +kernel

/-- PF0 has an ACTIVE queue pair at local index 255 and a DRAINING one at 1. -/
def paired : State := { up with queues := [(0, { lix := 255 }), (1, { lix := 1, active := false })] }

theorem witness_doorbells : Obligations.DoorbellsMoveTheirRings →
    doorbell 4095 255 1 = 0x2FF8 ∧ (∃ e, Leads (.sqTail 0 255 63) paired e) ∧ (∃ e, Leads (.sqTail 0 255 64) paired e) ∧
    (∃ e, Leads (.sqTail 0 1 0) paired e) ∧ (∃ e, Leads (.sqTail 0 0 0) paired e) ∧
    (∃ e, Leads (.cqHead 0 255 63) paired e) ∧ (∃ e, Leads (.cqHead 0 255 64) paired e) ∧ (∃ e, Leads (.cqHead 0 1 0) paired e) ∧
    ∃ e, Leads (.cqHead 0 0 0) paired e := by
  intro h
  refine ⟨(h.1 4095 255 ?_).2, ⟨_, ((h.2.2 0 255 63 paired ?_ ?_ ?_).1 ⟨?_, ?_, ?_, ?_⟩).1 0 { lix := 255 } ?_ ?_ ?_⟩,
    ⟨_, ((h.2.2 0 255 64 paired ?_ ?_ ?_).1 ⟨?_, ?_, ?_, ?_⟩).2.1 0 { lix := 255 } ?_ (.inr ?_)⟩,
    ⟨_, ((h.2.2 0 1 0 paired ?_ ?_ ?_).1 ⟨?_, ?_, ?_, ?_⟩).2.1 1 { lix := 1, active := false } ?_ (.inl ?_)⟩,
    ⟨_, ((h.2.2 0 0 0 paired ?_ ?_ ?_).1 ⟨?_, ?_, ?_, ?_⟩).2.2 ?_⟩,
    ⟨_, ((h.2.2 0 255 63 paired ?_ ?_ ?_).2 ⟨?_, ?_, ?_, ?_⟩).1 0 { lix := 255 } ?_ ?_ ?_⟩,
    ⟨_, ((h.2.2 0 255 64 paired ?_ ?_ ?_).2 ⟨?_, ?_, ?_, ?_⟩).2.1 0 { lix := 255 } ?_ (.inr ?_)⟩,
    ⟨_, ((h.2.2 0 1 0 paired ?_ ?_ ?_).2 ⟨?_, ?_, ?_, ?_⟩).2.1 1 { lix := 1, active := false } ?_ (.inl ?_)⟩,
    ⟨_, ((h.2.2 0 0 0 paired ?_ ?_ ?_).2 ⟨?_, ?_, ?_, ?_⟩).2.2 ?_⟩⟩ <;> decide +kernel

/-- Instance 1 has a receive buffer and waits for slot 15. -/
def boxed : State :=
  { two with regs := [(vfBase 1 + 0x1000, 0x1000#64)], inst := two.inst.map (fun e => if e.1 = 1 then (1, { e.2 with pendIn := 0x8000 }) else e) }

theorem witness_mailboxes : Obligations.MailboxesHandMessagesOver →
    (∃ e, Goes (.mbxSend 1 0x8000) two e) ∧ (∃ e, Goes (.mbxSend 1 0x8000) boxed e) ∧ (∃ e, Goes (.mbxRx 1 1) two e) ∧
    (∃ e, Goes (.instMbxIn 1 0x8000) boxed e) ∧ (∃ e, Goes (.instMbxOutPost 1 0x8000 [] false) boxed e) ∧ ∃ e, Goes (.instLogHead 1 63) two e := by
  intro h
  refine ⟨⟨_, (h.1 1 0x8000 two ?_ ?_ ?_ ⟨?_, ?_, ?_, ?_⟩ ?_).1 ?_ ?_ ?_⟩, ⟨_, (h.1 1 0x8000 boxed ?_ ?_ ?_ ⟨?_, ?_, ?_, ?_⟩ ?_).2 ?_⟩,
    ⟨_, h.2.1 1 1 two ?_ ?_ ?_ ⟨?_, ?_, ?_, ?_⟩ ?_⟩, ⟨_, h.2.2.1 1 0x8000 boxed ?_ ?_ ⟨?_, ?_, ?_, ?_⟩ ?_⟩,
    ⟨_, (h.2.2.2.1 1 0x8000 [] false boxed ?_ ?_ ⟨?_, ?_, ?_, ?_⟩).2.2 ?_ ?_ ?_ ?_ ?_ ?_ ?_ ?_⟩,
    ⟨_, h.2.2.2.2 1 63 two ?_ ?_ ⟨?_, ?_, ?_, ?_⟩ ?_⟩⟩ <;> decide +kernel

/-- A device in MAKER in noise test mode with 63 words, or serving random bits. -/
def testing (n : Nat) : State :=
  { up with prot := { up.prot with life := 0 }, rng := { state := 1, test := 1, testBits := List.replicate n 0 } }
/-- A device in debug level `n`. -/
def probed (n : Nat) : State := { up with prot := { up.prot with debug := n }, rng := { state := 1 } }

theorem witness_test_and_debug : Obligations.TestAndDebugAccess →
    ((∃ e, Goes (.rngTestControl 1) (testing 0) e) ∧ (∃ e, Goes (.rngTestControl 1) up e) ∧ (∃ e, Leads (.rngTestData (2 ^ 64 - 1)) up e) ∧
      (∃ e, Leads (.rngTestData 0) (testing 62) e) ∧ ∃ e, Leads (.rngTestData 0) (testing 63) e) ∧
    ((∃ e, Goes .protDebugRevoke up e) ∧ (∃ e, Goes .protDebugNewNonce (probed 0) e) ∧ ∃ e, Goes .protDebugNewNonce up e) ∧
    ((∃ e, Leads (.debugAccess ⟨true, 0x48, [0#8]⟩) up e) ∧ (∃ e, Leads (.debugAccess ⟨true, 0x48, [0#8]⟩) (probed 1) e) ∧
      (∃ e, Leads (.debugAccess ⟨true, 0x48, [0#8]⟩) (probed 2) e) ∧ ∃ e, Leads (.debugAccess ⟨false, 0x48, [0#8]⟩) (probed 1) e) ∧
    (∃ e, Goes (.errCodeSelect 0x0D05) up e) ∧ ∃ e, Goes (.errCodeSelect 0xFFFF) up e := by
  intro h
  refine ⟨⟨⟨_, (h.1 (testing 0) ⟨?_, ?_, ?_, ?_⟩).1 ?_⟩, ⟨_, (h.1 up ⟨?_, ?_, ?_, ?_⟩).2 ?_⟩, ⟨_, (h.2.1 _ up ?_ ⟨?_, ?_, ?_, ?_⟩).1 ?_⟩,
      ⟨_, (h.2.1 0 (testing 62) ?_ ⟨?_, ?_, ?_, ?_⟩).2.1 ?_ ?_⟩, ⟨_, (h.2.1 0 (testing 63) ?_ ⟨?_, ?_, ?_, ?_⟩).2.2 ?_ ?_⟩⟩,
    ⟨⟨_, (h.2.2.1 up ⟨?_, ?_, ?_, ?_⟩).1⟩, ⟨_, (h.2.2.1 (probed 0) ⟨?_, ?_, ?_, ?_⟩).2.1 ?_⟩, ⟨_, (h.2.2.1 up ⟨?_, ?_, ?_, ?_⟩).2.2 ?_⟩⟩,
    ⟨⟨_, (h.2.2.2.1 ⟨true, 0x48, [0#8]⟩ up 0 0x48 ?_ ?_ ?_).1 ?_⟩, ⟨_, (h.2.2.2.1 ⟨true, 0x48, [0#8]⟩ (probed 1) 0 0x48 ?_ ?_ ?_).2.1 ?_ ?_⟩,
      ⟨_, (h.2.2.2.1 ⟨true, 0x48, [0#8]⟩ (probed 2) 0 0x48 ?_ ?_ ?_).2.2.1 ?_ ?_⟩,
      ⟨_, (h.2.2.2.1 ⟨false, 0x48, [0#8]⟩ (probed 1) 0 0x48 ?_ ?_ ?_).2.2.2 ?_ ?_⟩⟩,
    ⟨_, (h.2.2.2.2 0x0D05 up ?_ ⟨?_, ?_, ?_, ?_⟩).1 ?_⟩, ⟨_, (h.2.2.2.2 0xFFFF up ?_ ⟨?_, ?_, ?_, ?_⟩).2 ?_⟩⟩ <;> decide +kernel

theorem witness_plane : Obligations.PlaneCommandsReport →
    (∃ e, Leads (.epochFence (dsc 1 0 1 [])) up e) ∧ (∃ e, Leads (.readState (dsc 3 63 0 [])) up e) ∧
    (∃ e, Leads (.digestResync (dsc 1 0 1 [0xFE#8])) up e) ∧ ∃ e, Leads (.digestResync (dsc 1 0 1 [1#8])) up e := by
  intro h
  refine ⟨⟨_, h.1 _ up (accepted ?_)⟩, ⟨_, h.2.1 _ up (accepted ?_)⟩, ⟨_, (h.2.2.1 (dsc 1 0 1 [0xFE#8]) up (accepted ?_)).1 ?_⟩,
    ⟨_, (h.2.2.1 (dsc 1 0 1 [1#8]) up (accepted ?_)).2 ?_⟩⟩ <;> decide +kernel

/-- The ring is enabled and holds a descriptor; the urgent slot holds one. -/
def ringing : State :=
  { up with regs := [(oMgmtControl, 1#64)], mgmt := { up.mgmt with sqTail := 1, busy := true } }
/-- A command with its code and flags. -/
def raw (code flags typ id ver : Nat) : Cmd := { desc := le 2 code ++ le 1 flags ++ (dsc typ id ver []).desc.drop 3 }

theorem witness_descriptors : Obligations.DescriptorsAreFetchedOneByOne →
    ((∃ e, Leads (.mgmtDescriptorFetch false (raw 0x7FFF 0 1 0 1)) ringing e) ∧ (∃ e, Leads (.mgmtDescriptorFetch false (raw 0x8801 1 1 0 1)) ringing e) ∧
      ∃ e, Leads (.mgmtDescriptorFetch false (raw 0x8001 0 1 0 1)) ringing e) ∧
    (∃ e, Leads (.mgmtDescriptorFetch true (raw 0x7FFF 0 1 0 1)) ringing e) ∧ (∃ e, Leads (.mgmtDescriptorFetch true (raw 0x8001 0 1 0 1)) ringing e) ∧
    ∃ e, Leads (.mgmtDescriptorFetch true (raw 0x8801 1 1 0 1)) ringing e := by
  intro h
  refine ⟨⟨⟨_, ((h (raw 0x7FFF 0 1 0 1) ringing ?_ ?_ ?_).1 ?_ ?_ ?_ ?_ ?_).1 .badOpcode ?_⟩,
      ⟨_, ((h (raw 0x8801 1 1 0 1) ringing ?_ ?_ ?_).1 ?_ ?_ ?_ ?_ ?_).2.1 ?_ ?_⟩,
      ⟨_, ((h (raw 0x8001 0 1 0 1) ringing ?_ ?_ ?_).1 ?_ ?_ ?_ ?_ ?_).2.2 ?_ ?_ ?_⟩⟩,
    ⟨_, ((h (raw 0x7FFF 0 1 0 1) ringing ?_ ?_ ?_).2 ?_ ?_).1 .badOpcode ?_⟩, ⟨_, ((h (raw 0x8001 0 1 0 1) ringing ?_ ?_ ?_).2 ?_ ?_).2.1 ?_ ?_⟩,
    ⟨_, ((h (raw 0x8801 1 1 0 1) ringing ?_ ?_ ?_).2 ?_ ?_).2.2 ?_ ?_⟩⟩ <;> decide +kernel

/-- Page 0 belongs to instance 0 and is STALE. -/
def paged : State :=
  { up0 (fun d => { d with p := 1, k := 1 }) with
    regs := [(oKpgControl, 1#64)]
    ks := { pages := [(0, { ver := 1, stale := true })], fetches := [(0, { since := 0, waiters := [] })] } }
/-- A snapshot base is being written. -/
def basing : State := { up with ks := { up.ks with baseBusy := true }, mgmt := { up.mgmt with baseCmd := some { cmd := dsc 1 0 1 [], addr := 0 } } }

theorem witness_key_store : Obligations.KeyStoreCommandsAct →
    (∃ e, Leads (.ksPageRangeSet (dsc 2 0 1 (le 4 0 ++ le 4 4194304 ++ le 4 3994575))) up e) ∧
    (∃ e, Leads (.ksPinResident (dsc 6 h0 1 [1#8])) (keyed [aes]) e) ∧ (∃ e, Leads (.ksKeyInfo (dsc 6 h0 1 [])) (keyed [aes]) e) ∧
    (∃ e, Leads (.ksPageRetry (dsc 7 0 1 [])) paged e) ∧ (∃ e, Leads (.ksPageRetry (dsc 7 0 1 [])) up e) ∧
    (∃ e, Leads (.ksSnapshotBase (dsc 1 0 1 [])) up e) ∧ ∃ e, Leads (.ksSnapshotBase (dsc 1 0 1 [])) basing e := by
  intro h
  refine ⟨⟨_, h.1 (dsc 2 0 1 (le 4 0 ++ le 4 4194304 ++ le 4 3994575)) up (accepted ?_) ⟨?_, ?_⟩ (.inl ?_) ?_ ?_ ?_ ?_ ?_ (fun e he => by cases he) (fun e he => by cases he) ?_ ?_⟩,
    ⟨_, h.2.1 (dsc 6 h0 1 [1#8]) (keyed [aes]) aes (accepted ?_) ⟨?_, ?_⟩ ?_ ?_ ?_⟩, ⟨_, h.2.2.1 (dsc 6 h0 1 []) (keyed [aes]) aes (accepted ?_) ?_⟩,
    ⟨_, (h.2.2.2.1 (dsc 7 0 1 []) paged (accepted ?_)).1 ?_⟩, ⟨_, (h.2.2.2.1 (dsc 7 0 1 []) up (accepted ?_)).2 ?_⟩,
    ⟨_, (h.2.2.2.2 (dsc 1 0 1 []) up (accepted ?_)).1 ?_⟩, ⟨_, (h.2.2.2.2 (dsc 1 0 1 []) basing (accepted ?_)).2 ?_⟩⟩ <;> decide +kernel

/-- A dirty persistent key of page 0 of instance 0, whose write-back may begin. -/
def dirty : State :=
  { up0 (fun d => { d with p := 1, k := 1 }) with
    regs := [(oKpgControl, 1#64)], ks := { keys := [(hSlot (mkHandle 0 1 5 1), { aes with handle := mkHandle 0 1 5 1, dirty := true })] } }
/-- Its write-back waits for the confirming read. -/
def confirming : State := { dirty with ks := { dirty.ks with writes := [(0, { target := 0, ver := 1, bytes := zeros 4096, stage := 2 })] } }

/-- The fetch has taken its ticks. -/
def lateFetch : State := { paged with tick := { count := 1000000 } }

theorem witness_pages : Obligations.PagesTravelSealed →
    (∀ b, ∃ e, Leads (.pageFetchDone 0 (some b)) paged e) ∧ (∃ e, Leads (.pageFetchTimeout 0) lateFetch e) ∧
    (∃ e, Leads (.pageWriteBack 0 none) dirty e) ∧ (∃ e, Leads (.pageWriteConfirm 0 (some (zeros 64))) confirming e) ∧
    (∃ e, Leads (.pageWriteConfirm 0 none) confirming e) ∧ (∃ e, Leads .journalCommit up e) ∧ ∃ e, Leads .snapshotBaseCommit basing e := by
  intro h
  refine ⟨fun b => ?_, ⟨_, h.2.1 0 _ lateFetch rfl ?_⟩, ⟨_, h.2.2.1 0 0 none dirty ?_ ?_ ?_ ?_ ?_ ?_ ?_ ⟨?_, ?_⟩⟩,
    ⟨_, (h.2.2.2.1 0 _ (some (zeros 64)) confirming rfl ?_ ?_).1 ?_⟩, ⟨_, (h.2.2.2.1 0 _ none confirming rfl ?_ ?_).2 ?_⟩,
    ⟨_, h.2.2.2.2.1 up ?_ ?_ ?_ ?_ ?_⟩, ⟨_, h.2.2.2.2.2 _ basing ?_ ?_ rfl⟩⟩
  · cases ho : paged.openPage 0 0 b with
    | none => exact ⟨_, (h.1 0 0 b [] paged (by decide +kernel) (by decide +kernel) (by decide +kernel) (by decide +kernel)).2 ho⟩
    | some r => exact ⟨_, (h.1 0 0 b r paged (by decide +kernel) (by decide +kernel) (by decide +kernel) (by decide +kernel)).1 ho⟩
  all_goals decide +kernel

/-- Instance 0 has a roster of one officer of one. -/
def rostered : State := up0 (fun d => { d with roster := [1#8, 1#8] ++ zeros 62, p := 1, k := 1, lim := full })
/-- A ceremony of it with a component; a card and the ledger are there. -/
def forming : State :=
  { rostered with
    kum := { ceremony := some { inst := 0, parts := [(0, zeros 16)], target := mkHandle 0 1 5 1, alg := algAes, len := 16, counter := 1, began := 0 } }
    ledger := { opened := true }, card := { state := 2, typ := 1, blocks := 2 ^ 20, detect := true } }

/-- The ceremony has lasted an hour of epochs. -/
def lateCeremony : State := { forming with tick := { count := 3600 * 1000000 } }

theorem witness_ceremonies : Obligations.CeremoniesFormKeys →
    ((∃ e, Leads (.ceremonyBegin (dsc 2 0 1 [])) rostered e) ∧ (∃ e, Leads (.ceremonyBegin (dsc 2 0 1 [])) forming e) ∧
      ∃ e, Leads (.ceremonyBegin (dsc 2 0 1 [])) up e) ∧
    ((∃ e, Leads (.ceremonyRead (dsc 2 0 1 [])) forming e) ∧ ∃ e, Leads (.ceremonyRead { dsc 2 0 1 [] with pass := false }) forming e) ∧
    ((∃ e, Leads (.ceremonyCommit (dsc 2 0 1 [])) forming e) ∧ (∃ e, Leads (.ceremonyAbort (dsc 2 0 1 [])) forming e)) ∧
    ((∃ e, Goes .ceremonyTimeout lateCeremony e) ∧ ∃ e, Goes .ceremonyTimeout forming e) ∧
    (∃ e, Leads (.identityRead (dsc 1 0 1 (zeros 8 ++ le 4 (2 ^ 32 - 1)))) up e) := by
  intro h
  have part (o : OpOut) (g : (match o with | .done _ _ => true | _ => false) = true) : ∃ t k, o = .done t k := by
    cases o with
    | done t k => exact ⟨t, k, rfl⟩
    | fail _ _ => cases g
    | page _ _ _ => cases g
  refine ⟨⟨⟨_, (h.1 (dsc 2 0 1 []) rostered (accepted ?_)).1 ?_ ?_ ?_⟩, ⟨_, (h.1 (dsc 2 0 1 []) forming (accepted ?_)).2.1 ?_ ?_ ?_⟩,
      ⟨_, (h.1 (dsc 2 0 1 []) up (accepted ?_)).2.2 ?_ ?_ ?_⟩⟩,
    ⟨?_, ⟨_, (h.2.1 { dsc 2 0 1 [] with pass := false } forming _ (accepted ?_) rfl ?_ ?_).2.2 ?_⟩⟩,
    ⟨?_, ⟨_, h.2.2.2.2.1 (dsc 2 0 1 []) forming _ (accepted ?_) rfl ?_⟩⟩,
    ⟨⟨_, (h.2.2.2.2.2.1 lateCeremony _ rfl).1 ?_⟩, ⟨_, (h.2.2.2.2.2.1 forming _ rfl).2 ?_⟩⟩, ?_⟩
  all_goals try decide +kernel
  · cases ho : (forming.decisions 1).componentFail forming.kum.ceremony.get! (dsc 2 0 1 []).data with
    | none => exact ⟨_, (h.2.1 (dsc 2 0 1 []) forming _ (accepted (by decide +kernel)) rfl (by decide +kernel) (by decide +kernel)).1 rfl ho⟩
    | some st => exact ⟨_, (h.2.1 (dsc 2 0 1 []) forming _ (accepted (by decide +kernel)) rfl (by decide +kernel) (by decide +kernel)).2.1 rfl st ho⟩
  · obtain ⟨t, k, e⟩ := part (forming.ceremonyOut forming.kum.ceremony.get!) (by decide +kernel)
    exact ⟨_, h.2.2.1 (dsc 2 0 1 []) forming t _ k (accepted (by decide +kernel)) ⟨rfl, rfl⟩ rfl (by decide +kernel) e (by decide +kernel)⟩
  · by_cases hb : (Config.certificates.flatMap (fun c => le 4 c.length ++ c)).length ≤ (submitted 0x8114 (dsc 1 0 1 (zeros 8 ++ le 4 (2 ^ 32 - 1))) up).cmd.u 40 4
    · exact ⟨_, (h.2.2.2.2.2.2 _ up (accepted (by decide +kernel))).1 (by decide +kernel) hb⟩
    · exact ⟨_, (h.2.2.2.2.2.2 _ up (accepted (by decide +kernel))).2.2 (by decide +kernel) (Nat.lt_of_not_le hb)⟩

/-- A command with its code, a unit and parameters. -/
def img (data : Bytes) : Cmd := { dsc 1 0 1 (zeros 8 ++ le 4 data.length) with data := data }
/-- A last command of a code is in progress; its validation has ended. -/
def lastJob (code : Nat) (isOver : Bool) (fail : Option ImageFail) (p : Option Parsed) : LastJob :=
  { code := code, m := { cmd := img [], addr := 0 }, isOver := isOver, fail := fail, parsed := p }
/-- `live` with it. -/
def lasting (j : LastJob) : State := { live with last := { live.last with job := some j } }

/-- What validation says of it. -/
def verdict (j : LastJob) : Except ImageFail Parsed :=
  validateImage ((lasting j).imageEnv (lasting j).commandRule) (kindsOfLast j.code) (j.m.cmd.u 40 4) j.m.image

theorem witness_last_fetch : Obligations.LastCommandsAreValidatedFirst →
    (∃ e, Leads (.lastLoad (img [])) live e) ∧ (∃ e, Leads (.lastAmend (img [])) live e) ∧ (∃ e, Leads (.lastCheck (img [])) live e) ∧
    (∃ e, Leads (.lastCheck (img [])) (lasting (lastJob 0x8203 false none none)) e) ∧
    (∃ e, Leads .lastValidationDone (lasting (lastJob 0x8203 false none none)) e) ∧ ∃ e, Leads .lastValidationDone (lasting (lastJob 0x8202 false none none)) e := by
  intro h
  refine ⟨⟨_, (h.1 (.lastLoad (img [])) 0x8201 (img []) live (.inl rfl) ?_ ?_ ?_ ?_).1 ?_⟩,
    ⟨_, (h.1 (.lastAmend (img [])) 0x8202 (img []) live (.inr (.inl rfl)) ?_ ?_ ?_ ?_).1 ?_⟩,
    ⟨_, (h.1 (.lastCheck (img [])) 0x8203 (img []) live (.inr (.inr rfl)) ?_ ?_ ?_ ?_).1 ?_⟩,
    ⟨_, (h.1 (.lastCheck (img [])) 0x8203 (img []) (lasting (lastJob 0x8203 false none none)) (.inr (.inr rfl)) ?_ ?_ ?_ ?_).2 ?_⟩, ?_, ?_⟩
  all_goals try decide +kernel
  · have g := h.2 (lastJob 0x8203 false none none) (lasting (lastJob 0x8203 false none none)) rfl rfl
    cases hv : verdict (lastJob 0x8203 false none none) with
    | error x => exact ⟨_, g.1 x hv⟩
    | ok p => exact ⟨_, g.2.1 p hv rfl⟩
  · have g := h.2 (lastJob 0x8202 false none none) (lasting (lastJob 0x8202 false none none)) rfl rfl
    cases hv : verdict (lastJob 0x8202 false none none) with
    | error x => exact ⟨_, g.1 x hv⟩
    | ok p => exact ⟨_, g.2.2 p hv rfl (by decide +kernel) (by decide +kernel)⟩

/-- An image as validation reads it. -/
def parsed : Parsed := { kind := 1, serial := 1, base := 0, signed := [0#8], cfg := cfg }

theorem witness_last_commit : Obligations.LastCommandsCommitAtBoundaries →
    effLastCheck (lastJob 0x8203 true none (some parsed)).m (lasting (lastJob 0x8203 true none (some parsed))) =
      { s := (lasting (lastJob 0x8203 true none (some parsed))).endLast, st := some .ok } ∧
    (∃ e, effLastAmend (lastJob 0x8202 true (some ⟨.badLength, 0, 0⟩) none).m (lasting (lastJob 0x8202 true (some ⟨.badLength, 0, 0⟩) none)) = e ∧ e.st = some .badLength) ∧
    (effLastLoad (lastJob 0x8201 true none (some parsed)).m (lasting (lastJob 0x8201 true none (some parsed)))).st = none ∧
    (∃ e, live.finishLoad (lastJob 0x8201 true none none).m parsed = e) ∧ (∃ e, Goes .lastStorePersisted live e) ∧
    Goes .lastStorePersisted { live with last := { live.last with persisted := true } } { live with last := { live.last with persisted := true } } ∧
    (∃ e, Leads (.lastStats (dsc 1 0 1 (zeros 8 ++ le 4 401440))) live e) ∧ (∃ e, Leads (.lastStats (dsc 1 0 1 (le 8 8 ++ le 4 401440))) live e) ∧
    ∃ e, Leads (.lastStats (dsc 1 0 1 (zeros 8 ++ le 4 401439))) live e := by
  intro h
  refine ⟨(h.1 _ (lastJob 0x8203 true none (some parsed)) (lasting (lastJob 0x8203 true none (some parsed))) rfl rfl).1 rfl,
    ⟨_, ((h.1 (lastJob 0x8202 true (some ⟨.badLength, 0, 0⟩) none).m _ (lasting (lastJob 0x8202 true (some ⟨.badLength, 0, 0⟩) none)) rfl rfl).2.1 _ rfl).2.2, rfl⟩, ?_,
    ⟨_, h.2.1 (lastJob 0x8201 true none none).m parsed live (by decide +kernel)⟩, ⟨_, (h.2.2.1 live).2 rfl (by decide +kernel)⟩, (h.2.2.1 _).1 rfl,
    ⟨_, (h.2.2.2 (dsc 1 0 1 (zeros 8 ++ le 4 401440)) live (accepted ?_)).1 ?_ ?_⟩, ⟨_, (h.2.2.2 (dsc 1 0 1 (le 8 8 ++ le 4 401440)) live (accepted ?_)).2.1 ?_ ?_⟩,
    ⟨_, (h.2.2.2 (dsc 1 0 1 (zeros 8 ++ le 4 401439)) live (accepted ?_)).2.2 ?_ ?_⟩⟩
  · rw [(h.1 (lastJob 0x8201 true none (some parsed)).m _ (lasting (lastJob 0x8201 true none (some parsed))) rfl rfl).2.2 parsed rfl rfl
      (by decide +kernel) (by decide +kernel) (by decide +kernel)]
  all_goals decide +kernel

/-- A key record of flow space 256 of instance 0. -/
def flowKey : Bytes := zeros 2 ++ le 2 256 ++ zeros 36
/-- A command on flow `f` of that key. -/
def onFlow (f ver : Nat) (par : Bytes) : Cmd := { dsc 5 f ver par with data := flowKey }
/-- A command about that key for instance 0. -/
def ofFlow (par : Bytes) : Cmd := { dsc 2 0 1 par with data := flowKey }
/-- `live` with the flow pinned to frond 15, or not. -/
def flowing (pinned : Bool) : State :=
  { live with disp := { live.disp with flows := [(7, { space := 256, pinned := pinned, home := some 15 })] } }
/-- Instance 0 has no room for a flow, and frond 0 alone. -/
def poor : State := { flowing true with inst := [(0, { d := { managerInst with lim := { managerRec with fronds := 1 } } })], disp := { flows := [(7, { space := 256 })] } }
/-- It has no flow either. -/
def empty : State := { poor with disp := {} }

theorem witness_dispatch : Obligations.DispatchCommandsAct →
    ((∃ e, Leads (.dispFlowLookup (ofFlow [])) (flowing true) e) ∧ (∃ e, Leads (.dispFlowLookup (ofFlow [])) live e) ∧
      (∃ e, Leads (.dispFlowLookup (ofFlow (zeros 8 ++ [1#8]))) live e) ∧ ∃ e, Leads (.dispFlowLookup (ofFlow (zeros 8 ++ [1#8]))) empty e) ∧
    ((∃ e, Leads (.dispPinFlow (onFlow 7 1 (zeros 8 ++ [1#8, 15#8]))) (flowing false) e) ∧
      (∃ e, Leads (.dispPinFlow (onFlow 7 1 (zeros 8 ++ [1#8, 15#8]))) poor e) ∧ ∃ e, Leads (.dispPinFlow (onFlow 7 1 [])) (flowing true) e) ∧
    ((∃ e, Leads (.dispHintFlow (onFlow 7 1 (zeros 8 ++ [0xFF#8]))) (flowing true) e) ∧
      ∃ e, Leads (.dispHintFlow (onFlow 7 1 (zeros 8 ++ [16#8]))) (flowing true) e) ∧
    ((∃ e, Leads (.dispFronds (dsc 2 0 1 (le 2 0x8000))) (flowing true) e) ∧ ∃ e, Leads (.dispFronds (dsc 2 0 1 (le 2 1))) (flowing true) e) ∧
    ((∃ e, Leads (.dispHintKey (dsc 6 h0 1 [3#8])) (keyed [aes]) e) ∧ ∃ e, Leads (.dispHintKey (dsc 6 h0 0 [0xFF#8])) up e) ∧
    ∃ e, Leads (.dispPlacement (dsc 1 0 1 [1#8])) up e := by
  intro h
  refine ⟨⟨⟨_, (h.1 (ofFlow []) (flowing true) 256 false [] (accepted ?_) ?_ ?_ ?_ ?_).1 7 ?_⟩, ⟨_, (h.1 (ofFlow []) live 256 false [] (accepted ?_) ?_ ?_ ?_ ?_).2.1 ?_ ?_⟩,
      ?_, ⟨_, (h.1 (ofFlow (zeros 8 ++ [1#8])) empty 256 false [] (accepted ?_) ?_ ?_ ?_ ?_).2.2.2 ?_ ?_ ?_⟩⟩,
    ⟨⟨_, (h.2.1 (onFlow 7 1 (zeros 8 ++ [1#8, 15#8])) (flowing false) _ (accepted ?_) ?_ rfl ?_ ?_ ?_).1 ?_ ?_⟩,
      ⟨_, (h.2.1 (onFlow 7 1 (zeros 8 ++ [1#8, 15#8])) poor _ (accepted ?_) ?_ rfl ?_ ?_ ?_).2.1 ?_ ?_⟩,
      ⟨_, (h.2.1 (onFlow 7 1 []) (flowing true) _ (accepted ?_) ?_ rfl ?_ ?_ ?_).2.2 ?_⟩⟩,
    ⟨⟨_, (h.2.2.1 (onFlow 7 1 (zeros 8 ++ [0xFF#8])) (flowing true) _ (accepted ?_) ?_ rfl ?_ ?_).1 (.inr ?_)⟩,
      ⟨_, (h.2.2.1 (onFlow 7 1 (zeros 8 ++ [16#8])) (flowing true) _ (accepted ?_) ?_ rfl ?_ ?_).2 ?_ ?_⟩⟩,
    ⟨⟨_, (h.2.2.2.1 (dsc 2 0 1 (le 2 0x8000)) (flowing true) (accepted ?_) ⟨?_, ?_⟩ ?_ ?_).1 ?_⟩,
      ⟨_, (h.2.2.2.1 (dsc 2 0 1 (le 2 1)) (flowing true) (accepted ?_) ⟨?_, ?_⟩ ?_ ?_).2 ?_⟩⟩,
    ⟨⟨_, (h.2.2.2.2.1 (dsc 6 h0 1 [3#8]) (keyed [aes]) (accepted ?_) ?_ (.inl ?_)).1 ?_⟩,
      ⟨_, (h.2.2.2.2.1 (dsc 6 h0 0 [0xFF#8]) up (accepted ?_) ?_ (.inr ?_)).2 ?_⟩⟩, ⟨_, h.2.2.2.2.2 (dsc 1 0 1 [1#8]) up (accepted ?_)⟩⟩
  all_goals try decide +kernel
  · obtain ⟨⟨f, t⟩, e⟩ := some_of (o := live.allocFlow 0 false 256 []) (by decide +kernel)
    exact ⟨_, (h.1 (ofFlow (zeros 8 ++ [1#8])) live 256 false [] (accepted (by decide +kernel)) (by decide +kernel) (by decide +kernel) (by decide +kernel)
      (by decide +kernel)).2.2.1 f t (by decide +kernel) (by decide +kernel) e⟩

/-- An item that frond 0 may take. -/
def readyItem : Item := { stage := .ready, order := 1, inv := { fn := 0x0B01 } }
/-- `live` with items 0, 1, ... of one kind. -/
def holding (xs : List Item) : State :=
  { live with disp := { live.disp with items := xs.zipIdx.map (fun e => (e.2, e.1)), nextItem := xs.length, order := 10 } }
/-- Frond 0 holds 8,192 items and has been full for 64 ticks. -/
def crowded : State :=
  { live with disp := { live.disp with items := (List.range 8192).map (fun k => (k, { admitted := true, stage := .parked })), poolFull := [(0, 64)] } }
/-- An idle saved context. -/
def saved (holder : Option Nat) : State := { live with eng := { ctxs := [(3, { holder := holder })] }, tick := { count := 2 ^ 32 } }

theorem witness_dispatch_takes : Obligations.DispatchTakesAndExpires →
    ((∃ e, Leads (.itemAdmit 0) (holding [{ readyItem with stage := .resumed }]) e) ∧ (∃ e, Leads (.itemAdmit 0) (holding [readyItem]) e) ∧
      Leads (.itemAdmit 15) (holding [readyItem]) (holding [readyItem])) ∧
    ((∃ e, Goes (.waitPoolFullCount 0) crowded e) ∧ Goes (.waitPoolFullCount 0) live live) ∧
    ((∃ e, Goes (.flowLingerExpiry 7) { flowing false with tick := { count := 1000000 } } e) ∧ Goes (.flowLingerExpiry 7) (flowing true) (flowing true)) ∧
    (∃ e, Goes (.contextIdleExpiry 3) (saved none) e) ∧ Goes (.contextIdleExpiry 3) (saved (some 0)) (saved (some 0)) := by
  intro h
  refine ⟨⟨⟨_, h.1 0 0 (holding [{ readyItem with stage := .resumed }]) ?_ ?_⟩, ?_, h.2.2.1 15 (holding [readyItem]) ?_ ?_⟩,
    ⟨⟨_, (h.2.2.2.1 0 crowded).1 ?_ ?_⟩, (h.2.2.2.1 0 live).2 ?_⟩, ⟨⟨_, (h.2.2.2.2.1 7 _ { flowing false with tick := { count := 1000000 } } rfl).1 ?_ ?_ ?_ ?_ ?_ ?_⟩,
      (h.2.2.2.2.1 7 _ (flowing true) rfl).2 (.inl rfl)⟩,
    ⟨_, (h.2.2.2.2.2 3 _ (saved none) rfl).1 ?_ ?_ ?_⟩, (h.2.2.2.2.2 3 _ (saved (some 0)) rfl).2 ?_⟩
  all_goals try decide +kernel
  · obtain ⟨⟨n, t⟩, e⟩ := some_of (o := (holding [readyItem]).serve 0) (by decide +kernel)
    exact ⟨_, h.2.1 0 n (holding [readyItem]) t (by decide +kernel) (by decide +kernel) (by decide +kernel) (by decide +kernel) e⟩

/-- A MACsec association of an empty key (the cipher is then the identity). -/
def sa (an pn : Nat) : Sa := { an := an, aes256 := true, pn := pn, window := 0 }
/-- The sub-port of `cfg` with MACsec. -/
def subM : SubDef := { mac := [2#8, 0#8, 0#8, 0#8, 0#8, 1#8], flags := 0x1B, pfc := 0xFF }
/-- `live` with that sub-port up, and the associations `tx` to send by. -/
def wired (tx : Tbl Sa) : State :=
  { live with last := { cfgs := [(0, { cfg with ports := [{ mode := 1, subs := [subM] }] })], cur := some 0 }
              ports := [(0, { subs := [{ admin := true, link := true, tx := tx }, {}, {}, {}] })] }

theorem witness_ports : Obligations.PortCommandsAct →
    ((∃ e, Leads (.portAdmin (dsc 3 0 1 [1#8])) live e) ∧ ∃ e, Leads (.portAdmin (dsc 3 0 1 [8#8])) live e) ∧
    ((∃ e, Leads (.portShutdown (dsc 3 0 1 [1#8])) live e) ∧ ∃ e, Leads (.portShutdown (dsc 3 0 1 [2#8])) live e) ∧
    (∃ e, State.subDown 1 3 { live with ports := [(1, { subs := [{}, {}, {}, { admin := true }] })] } = e) ∧
    (∃ e, Leads (.portPeers (dsc 3 0 1 (le 8 4096 ++ le 4 64))) live e) ∧ ∃ e, Leads (.portPeers (dsc 3 0 1 (le 8 4095 ++ le 4 64))) live e := by
  intro h
  refine ⟨⟨⟨_, (h.1 (dsc 3 0 1 [1#8]) live (accepted ?_)).1 ?_⟩, ⟨_, (h.1 (dsc 3 0 1 [8#8]) live (accepted ?_)).2 ?_⟩⟩,
    ⟨⟨_, (h.2.1 (dsc 3 0 1 [1#8]) live (accepted ?_)).1 ?_⟩, ⟨_, (h.2.1 (dsc 3 0 1 [2#8]) live (accepted ?_)).2 ?_⟩⟩,
    ⟨_, h.2.2.1 1 3 { live with ports := [(1, { subs := [{}, {}, {}, { admin := true }] })] } ?_ ?_ ?_⟩,
    ⟨_, (h.2.2.2 (dsc 3 0 1 (le 8 4096 ++ le 4 64)) live (accepted ?_)).1 ?_⟩,
    ⟨_, (h.2.2.2 (dsc 3 0 1 (le 8 4095 ++ le 4 64)) live (accepted ?_)).2 ?_⟩⟩ <;> decide +kernel

/-- An AES-256 key for MACsec. -/
def aes32 : KeyRec := { aes with mat := zeros 32, len := 32 }
/-- MACSEC_SA_INSTALL of an SA record: association `an` to send by, from packet number 1. -/
def saInstall (an : Nat) : Cmd := { dsc 3 0 1 [] with data := [0#8, 0#8, BitVec.ofNat 8 an, 1#8] ++ zeros 4 ++ le 8 h0 ++ le 8 1 ++ zeros 40 }
/-- `wired` with keys. -/
def wiredKeys (ks : List KeyRec) : State := { wired [] with ks := { live.ks with keys := ks.map (fun k => (hSlot k.handle, k)) } }

theorem witness_macsec : Obligations.MacsecCommandsAct →
    ((∃ e, Leads (.macsecSaInstall (saInstall 4)) (wired []) e) ∧ (∃ e, Leads (.macsecSaInstall (saInstall 3)) (wiredKeys [aes32]) e) ∧
      ∃ e, Leads (.macsecSaInstall (saInstall 3)) (wired []) e) ∧
    ((∃ e, Leads (.macsecTxUse (dsc 3 0 1 [0#8, 1#8])) (wired []) e) ∧
      (∃ e, Leads (.macsecTxUse (dsc 3 0 1 [0#8, 1#8])) (wired [(1, sa 1 (2 ^ 32 - 1))]) e) ∧
      ∃ e, Leads (.macsecTxUse (dsc 3 0 1 [0#8, 1#8])) (wired [(1, sa 1 (2 ^ 32))]) e) ∧
    (∃ e, Leads (.macsecSaRemove (dsc 3 0 1 [0#8, 1#8, 3#8])) (wired []) e) ∧
    ∃ e, Leads (.macsecSaStatus (dsc 3 0 1 [0#8, 0#8, 1#8])) (wired [(1, sa 1 5)]) e := by
  intro h
  refine ⟨⟨⟨_, (h.1 (saInstall 4) (wired []) aes32 (accepted ?_) ?_ ?_).1 ?_⟩, ⟨_, (h.1 (saInstall 3) (wiredKeys [aes32]) aes32 (accepted ?_) ?_ ?_).2.1 ?_ ?_ ?_⟩,
      ⟨_, (h.1 (saInstall 3) (wired []) aes32 (accepted ?_) ?_ ?_).2.2 ?_ .keyExpired ?_⟩⟩,
    ⟨⟨_, (h.2.1 (dsc 3 0 1 [0#8, 1#8]) (wired []) (accepted ?_)).1 ?_⟩,
      ⟨_, (h.2.1 (dsc 3 0 1 [0#8, 1#8]) (wired [(1, sa 1 (2 ^ 32 - 1))]) (accepted ?_)).2.1 (sa 1 (2 ^ 32 - 1)) ?_ ?_ ?_⟩,
      ⟨_, (h.2.1 (dsc 3 0 1 [0#8, 1#8]) (wired [(1, sa 1 (2 ^ 32))]) (accepted ?_)).2.2 (sa 1 (2 ^ 32)) ?_ ?_⟩⟩,
    ⟨_, h.2.2.1 (dsc 3 0 1 [0#8, 1#8, 3#8]) (wired []) (accepted ?_) ?_ ?_⟩,
    ⟨_, h.2.2.2 (dsc 3 0 1 [0#8, 0#8, 1#8]) (wired [(1, sa 1 5)]) (accepted ?_) ?_ ?_⟩⟩ <;> decide +kernel

/-- The peer's public keys: P-384, and an ML-DSA anchor. -/
def hEc : Nat := mkHandle 0 2 0xF000000 1
def hDsa : Nat := mkHandle 0 2 0xF000001 1
def kEc : KeyRec := { handle := hEc, mat := zeros 97, usage := classUsage 0x11, alg := algEc, len := 2, cls := 0x11 }
def kDsa : KeyRec := { handle := hDsa, mat := zeros 32, usage := classUsage 0x12, alg := algDsa, len := 3, cls := 0x12 }
/-- A session record: this device starts the session (role 1) or answers it, over Ethernet. -/
def sessRec (role : Nat) : Cmd :=
  { dsc 4 9 0 [] with data := le 2 0 ++ [0#8, 0#8, 3#8, BitVec.ofNat 8 role] ++ le 2 0 ++ zeros 8 ++ le 8 hEc ++ le 8 hDsa ++ [2#8, 0#8, 0#8, 0#8, 0#8, 2#8] ++ zeros 18 ++ zeros 8 }
/-- A session of instance 0 over the sub-port of `wired`. -/
def sessIn (st : SessState) : Sess :=
  { st := st, version := 1, encap := 3, initiator := true, keyEc := hEc, keyDsa := hDsa, peerMac := [2#8, 0#8, 0#8, 0#8, 0#8, 2#8], maxMsg := 8192 }
/-- `wired` with a session at 9 and the peer's keys; instance 0 with room `f`. -/
def linked (x : Sess) (f : InstRec) : State :=
  { wiredKeys [kEc, kDsa] with sess := [(9, x)], inst := [(0, { d := { managerInst with lim := f, p := 1, k := 1 }, cipher := 1000, field := 1000, pk := 1000 })] }

/-- What answers a key. -/
theorem ok_of {a : Except Status KeyRec} (h : keyFail a = none) : ∃ k, a = .ok k := by
  cases a with
  | ok k => exact ⟨k, rfl⟩
  | error _ => cases h

theorem witness_sessions : Obligations.SessionCommandsAct →
    ((∃ e, Leads (.sessionCreate { sessRec 1 with desc := (dsc 4 9 1 []).desc }) (linked (sessIn .parked) full) e) ∧
      (∃ e, Leads (.sessionCreate (sessRec 3)) (linked {} full) e) ∧ (∃ e, Leads (.sessionCreate (sessRec 1)) (linked {} full) e) ∧
      ∃ e, Leads (.sessionCreate (sessRec 2)) (linked {} managerRec) e) ∧
    ((∃ e, Leads (.sessionConnect (dsc 4 9 1 [])) (linked { sessIn .parked with initiator := false } full) e) ∧
      (∃ e, Leads (.sessionConnect (dsc 4 9 1 [])) (linked (sessIn .handshake) full) e) ∧
      ∃ e, Leads (.sessionConnect (dsc 4 9 1 [])) (linked (sessIn .parked) full) e) ∧
    ((∃ e, Leads (.sessionClose (dsc 4 9 0 [])) (linked {} full) e) ∧ (∃ e, Leads (.sessionClose (dsc 4 9 1 [1#8])) (linked (sessIn .parked) full) e) ∧
      (∃ e, Leads (.sessionClose (dsc 4 9 1 [])) (linked (sessIn .parked) full) e) ∧
      ∃ e, Leads (.sessionClose (dsc 4 9 1 [])) (linked (sessIn .opened) full) e) ∧
    (∃ e, Leads (.sessionDest (dsc 2 0 1 (le 4 4095 ++ le 4 0xFFFFFFFF))) (linked (sessIn .opened) full) e) ∧
    (∃ e, Leads (.sessionDest (dsc 2 0 1 (le 4 0 ++ le 4 9))) (linked (sessIn .opened) full) e) ∧
    ∃ e, Leads (.sessionDest (dsc 2 0 1 (le 4 0 ++ le 4 9))) (linked { sessIn .opened with inst := 1 } full) e := by
  intro h
  obtain ⟨k1, g1⟩ := ok_of (a := (linked {} full).peerKey hEc 0 false) (by decide +kernel)
  obtain ⟨k2, g2⟩ := ok_of (a := (linked {} full).peerKey hDsa 0 true) (by decide +kernel)
  obtain ⟨k3, g3⟩ := ok_of (a := (linked {} managerRec).peerKey hEc 0 false) (by decide +kernel)
  obtain ⟨k4, g4⟩ := ok_of (a := (linked {} managerRec).peerKey hDsa 0 true) (by decide +kernel)
  have r1 : readSession (padTo 64 (submitted 0x8403 (sessRec 1) (linked {} full)).cmd.data) =
    { encap := 3, initiator := true, keyEc := hEc, keyDsa := hDsa, peerMac := [2#8, 0#8, 0#8, 0#8, 0#8, 2#8], peerIp := zeros 16,
      recMac := [2#8, 0#8, 0#8, 0#8, 0#8, 2#8], recIp := zeros 16 } := by decide +kernel
  have r2 : readSession (padTo 64 (submitted 0x8403 (sessRec 2) (linked {} managerRec)).cmd.data) =
    { encap := 3, keyEc := hEc, keyDsa := hDsa, peerMac := [2#8, 0#8, 0#8, 0#8, 0#8, 2#8], peerIp := zeros 16,
      recMac := [2#8, 0#8, 0#8, 0#8, 0#8, 2#8], recIp := zeros 16 } := by decide +kernel
  refine ⟨⟨⟨_, (h.1 { sessRec 1 with desc := (dsc 4 9 1 []).desc } (linked (sessIn .parked) full) (accepted ?_)).1 ?_⟩,
      ⟨_, (h.1 (sessRec 3) (linked {} full) (accepted ?_)).2.1 ?_ ?_⟩,
      ⟨_, ((h.1 (sessRec 1) (linked {} full) (accepted ?_)).2.2 k1 k2 ?_ ?_ (by rw [r1]; exact g1) (by rw [r1]; exact g2)).1 ?_⟩,
      ⟨_, ((h.1 (sessRec 2) (linked {} managerRec) (accepted ?_)).2.2 k3 k4 ?_ ?_ (by rw [r2]; exact g3) (by rw [r2]; exact g4)).2 ?_⟩⟩,
    ⟨⟨_, (h.2.1 (dsc 4 9 1 []) (linked { sessIn .parked with initiator := false } full) (accepted ?_)).1 ?_ ?_⟩,
      ⟨_, (h.2.1 (dsc 4 9 1 []) (linked (sessIn .handshake) full) (accepted ?_)).2.1 ?_ ?_ (.inl ?_)⟩,
      ⟨_, (h.2.1 (dsc 4 9 1 []) (linked (sessIn .parked) full) (accepted ?_)).2.2 ?_ ?_ ?_ ?_⟩⟩,
    ⟨⟨_, (h.2.2.1 (dsc 4 9 0 []) (linked {} full) (accepted ?_)).1 ?_⟩, ⟨_, (h.2.2.1 (dsc 4 9 1 [1#8]) (linked (sessIn .parked) full) (accepted ?_)).2.1 ?_ ?_⟩,
      ⟨_, (h.2.2.1 (dsc 4 9 1 []) (linked (sessIn .parked) full) (accepted ?_)).2.2.1 ?_ ?_⟩,
      ⟨_, (h.2.2.1 (dsc 4 9 1 []) (linked (sessIn .opened) full) (accepted ?_)).2.2.2 ?_ ?_⟩⟩,
    ⟨_, (h.2.2.2 (dsc 2 0 1 (le 4 4095 ++ le 4 0xFFFFFFFF)) (linked (sessIn .opened) full) (accepted ?_) ?_ ?_ ?_).1 ?_⟩,
    ⟨_, (h.2.2.2 (dsc 2 0 1 (le 4 0 ++ le 4 9)) (linked (sessIn .opened) full) (accepted ?_) ?_ ?_ ?_).2.1 ?_ ?_ ?_⟩,
    ⟨_, (h.2.2.2 (dsc 2 0 1 (le 4 0 ++ le 4 9)) (linked { sessIn .opened with inst := 1 } full) (accepted ?_) ?_ ?_ ?_).2.2 ?_ ?_⟩⟩ <;> decide +kernel

/-- QUEUE_CREATE of local index 3, rings of 64 and 65,536 entries at `sq` and 8192. -/
def queueCreate (sq : Nat) : Cmd := dsc 2 0 1 ([3#8, 6#8, 16#8, 0xFF#8, 0#8, 0#8] ++ le 2 2047 ++ le 8 sq ++ le 8 8192)
/-- `live` with local queue 3 of the PF. -/
def queued : State := { live with queues := [(0, { lix := 3 })] }

theorem witness_queues : Obligations.QueueCommandsAct →
    ((∃ e, Leads (.queueCreate (queueCreate 4096)) live e) ∧ (∃ e, Leads (.queueCreate (queueCreate 4095)) live e) ∧ ∃ e, Leads (.queueCreate (queueCreate 4096)) up e) ∧
    ((∃ e, Leads (.queueDestroy (dsc 2 0 1 [3#8, 1#8])) live e) ∧ ∃ e, Leads (.queueDestroy (dsc 2 0 1 [3#8, 1#8])) queued e) ∧
    (∃ e, Leads (.queueStatus (dsc 2 7 0 [3#8])) live e) ∧ (∃ e, Leads (.queueStatus (dsc 2 0 0 [3#8])) live e) ∧ ∃ e, Leads (.queueStatus (dsc 2 0 0 [3#8])) queued e := by
  intro h
  refine ⟨⟨⟨_, (h.1 (queueCreate 4096) live (accepted ?_) ?_ ?_ ?_ ?_ ?_ ?_ (.inr ?_) ?_ ?_).1 ?_ ?_ ?_⟩,
      ⟨_, (h.1 (queueCreate 4095) live (accepted ?_) ?_ ?_ ?_ ?_ ?_ ?_ (.inr ?_) ?_ ?_).2.1 ?_ ?_⟩,
      ⟨_, (h.1 (queueCreate 4096) up (accepted ?_) ?_ ?_ ?_ ?_ ?_ ?_ (.inr ?_) ?_ ?_).2.2 ?_ ?_ ?_⟩⟩,
    ⟨⟨_, (h.2.1 (dsc 2 0 1 [3#8, 1#8]) live (accepted ?_)).1 ?_⟩, ⟨_, (h.2.1 (dsc 2 0 1 [3#8, 1#8]) queued (accepted ?_)).2 0 { lix := 3 } ?_ ?_⟩⟩,
    ⟨_, (h.2.2 (dsc 2 7 0 [3#8]) live (accepted ?_)).1 ?_⟩, ⟨_, (h.2.2 (dsc 2 0 0 [3#8]) live (accepted ?_)).2.1 ?_ ?_⟩,
    ⟨_, (h.2.2 (dsc 2 0 0 [3#8]) queued (accepted ?_)).2.2 0 { lix := 3 } ?_ ?_⟩⟩ <;> decide +kernel

/-- `live` with instance 1, and a command for it of version 1. -/
def with1 (d : InstDur) : State := { live with inst := live.inst ++ [(1, { d := d })] }
def on1 (par : Bytes) : Cmd := dsc 2 1 1 par
/-- Its durable record in state `st`. -/
def inst1 (st : InstState) : InstDur := { st := st, version := 1, lim := { managerRec with fronds := 1 }, inc := 1 }
/-- The default record. -/
def dflt : InstRec := {}
/-- A configuration whose default instances have all the sessions there are. -/
def greedy : State := { live with last := { cfgs := [(0, { cfg with dflt := { sessions := 1048576 } })], cur := some 0 } }
/-- A default record in memory. -/
def recBytes : Bytes := zeros 16 ++ le 4 1 ++ le 4 1 ++ le 2 1 ++ [1#8, 0#8] ++ le 2 1 ++ zeros 34
/-- What it says. -/
def recOne : InstRec := { fronds := 1 }

theorem witness_instances : Obligations.InstanceCommandsAct →
    ((∃ e, Leads (.instanceCreate (dsc 2 1 0 [])) live e) ∧ ∃ e, Leads (.instanceCreate (dsc 2 4095 0 [])) greedy e) ∧
    ((∃ e, Leads (.instanceEnable (on1 [])) (with1 (inst1 .created)) e) ∧ (∃ e, Leads (.instanceEnable (on1 [])) (with1 (inst1 .disabled)) e) ∧
      ∃ e, Leads (.instanceEnable (on1 [])) { with1 (inst1 .disabled) with disp := { items := [(0, { inst := 1 })] } } e) ∧
    ((∃ e, Leads (.instanceDisable (on1 [1#8])) (with1 (inst1 .enabled)) e) ∧ ∃ e, Leads (.instanceDisable (on1 [])) (with1 (inst1 .disabled)) e) ∧
    ((∃ e, Leads (.instanceReset (on1 [])) (with1 (inst1 .quiescing)) e) ∧ ∃ e, Leads (.instanceReset (on1 [])) (with1 (inst1 .moving)) e) ∧
    ((∃ e, Goes (.instanceResetDone 1) (with1 (inst1 .resetting)) e) ∧ Goes (.instanceResetDone 1) (with1 (inst1 .enabled)) (with1 (inst1 .enabled)) ∧
      (∃ e, Goes (.instanceQuiet 1) (with1 (inst1 .quiescing)) e) ∧ Goes (.instanceQuiet 1) (with1 (inst1 .resetting)) (with1 (inst1 .resetting))) ∧
    ((∃ e, Leads (.instanceDestroy (on1 [])) (with1 (inst1 .disabled)) e) ∧ ∃ e, Leads (.instanceDestroy (on1 [])) { with1 (inst1 .created) with queues := [(0, { fn := 1 })] } e) ∧
    ∃ e, Leads (.instanceSetLimits { on1 (le 8 8) with data := recBytes }) (with1 (inst1 .enabled)) e := by
  intro h
  refine ⟨⟨⟨_, (h.1 (dsc 2 1 0 []) live dflt (accepted ?_) ⟨?_, ?_⟩ ?_ ?_ ?_ ?_).1 ?_⟩,
      ⟨_, (h.1 (dsc 2 4095 0 []) greedy { sessions := 1048576 } (accepted ?_) ⟨?_, ?_⟩ ?_ ?_ ?_ ?_).2 ?_⟩⟩,
    ⟨⟨_, (h.2.1 (on1 []) (with1 (inst1 .created)) (accepted ?_) ⟨?_, ?_⟩ ?_ (.inl ?_)).1 ?_ ?_⟩,
      ⟨_, (h.2.1 (on1 []) (with1 (inst1 .disabled)) (accepted ?_) ⟨?_, ?_⟩ ?_ (.inr ?_)).1 ?_ ?_⟩,
      ⟨_, (h.2.1 (on1 []) { with1 (inst1 .disabled) with disp := { items := [(0, { inst := 1 })] } } (accepted ?_) ⟨?_, ?_⟩ ?_ (.inr ?_)).2 ?_⟩⟩,
    ⟨⟨_, (h.2.2.1 (on1 [1#8]) (with1 (inst1 .enabled)) (accepted ?_) ⟨?_, ?_⟩ ?_).1 ?_⟩,
      ⟨_, (h.2.2.1 (on1 []) (with1 (inst1 .disabled)) (accepted ?_) ⟨?_, ?_⟩ ?_).2 ?_⟩⟩,
    ⟨⟨_, (h.2.2.2.1 (on1 []) (with1 (inst1 .quiescing)) (accepted ?_) ⟨?_, ?_⟩ ?_).1 (.inr (.inr (.inl ?_)))⟩,
      ⟨_, (h.2.2.2.1 (on1 []) (with1 (inst1 .moving)) (accepted ?_) ⟨?_, ?_⟩ ?_).2 (.inr (.inr ?_))⟩⟩,
    ⟨⟨_, (h.2.2.2.2.1 1 (with1 (inst1 .resetting))).1 ?_ ?_ ?_⟩, (h.2.2.2.2.1 1 (with1 (inst1 .enabled))).2.1 ?_,
      ⟨_, (h.2.2.2.2.1 1 (with1 (inst1 .quiescing))).2.2.1 ?_ ?_ ?_⟩, (h.2.2.2.2.1 1 (with1 (inst1 .resetting))).2.2.2 ?_⟩,
    ⟨⟨_, (h.2.2.2.2.2.1 (on1 []) (with1 (inst1 .disabled)) (accepted ?_) ⟨?_, ?_⟩ ?_ (.inr ?_)).1 ?_⟩,
      ⟨_, (h.2.2.2.2.2.1 (on1 []) { with1 (inst1 .created) with queues := [(0, { fn := 1 })] } (accepted ?_) ⟨?_, ?_⟩ ?_ (.inl ?_)).2 ?_⟩⟩,
    ⟨_, h.2.2.2.2.2.2 { on1 (le 8 8) with data := recBytes } (with1 (inst1 .enabled)) recOne (accepted ?_) ⟨?_, ?_⟩ ?_ ?_ ?_ ?_ ?_ ?_ ?_⟩⟩
  all_goals decide +kernel

/-- Instance 1 as the source or the target of move 5. -/
def moving (source : Bool) : State := with1 { inst1 .moving with moveId := 5, moveSource := source, movePeer := 7 }
/-- A blob of a move, as it stands in memory. -/
def blob (par : Bytes) : Cmd := { on1 par with data := zeros 64 }

/-- The outcomes of the public-key primitives that a move rests on are open: they are premises of this witness. -/
theorem witness_moves : Obligations.MovesCarryInstances →
    (live.memberOk live.drec.member mySerial identityHash = true → ∃ e, Leads (.movePrepare (dsc 2 1 0 (zeros 8 ++ le 4 1 ++ le 4 16 ++ zeros 8 ++ le 8 4096))) live e) ∧
    (∀ b, (with1 (inst1 .disabled)).moveOut (submitted 0x8608 (blob (le 8 8)) (with1 (inst1 .disabled))) = .ok b → ∃ e, Leads (.moveOut (blob (le 8 8))) (with1 (inst1 .disabled)) e) ∧
    (∀ b, (moving false).moveIn (submitted 0x8609 (blob (le 8 8)) (moving false)) = .ok b → ∃ e, Leads (.moveIn (blob (le 8 8))) (moving false) e) ∧
    (∃ e, Leads (.moveIn (blob (le 8 8))) (moving false) e) ∧
    (∃ e, Leads (.moveFinish (blob (le 8 8))) (moving true) e) ∧
    (endBlobOk 4 ((moving true).instOf (submitted 0x860C (blob (le 8 8 ++ le 4 64)) (moving true)).cmd.unit).d (submitted 0x860C (blob (le 8 8 ++ le 4 64)) (moving true)).cmd.unit
      ((submitted 0x860C (blob (le 8 8 ++ le 4 64)) (moving true)).cmd.data.take ((submitted 0x860C (blob (le 8 8 ++ le 4 64)) (moving true)).cmd.u 40 4)) = true → ∃ e, Leads (.moveCancel (blob (le 8 8 ++ le 4 64))) (moving true) e) ∧
    (∃ e, Leads (.moveAbandon (on1 (le 8 4096))) (moving false) e) ∧ ∃ e, Leads (.moveMembership { dsc 1 0 1 (le 8 8) with data := zeros 4763 }) live e := by
  intro h
  have D (b : Bool) : Alone (moving b) := ⟨by cases b <;> decide +kernel, by cases b <;> decide +kernel⟩
  have L (b : Bool) : (moving b).ledgerOk = true := by cases b <;> decide +kernel
  refine ⟨fun hm => ?_, fun b hb => ?_, fun b hb => ?_, ?_, ?_, fun hb => ?_, ?_, ?_⟩
  · exact ⟨_, h.1 (dsc 2 1 0 (zeros 8 ++ le 4 1 ++ le 4 16 ++ zeros 8 ++ le 8 4096)) live dflt (accepted (by decide +kernel)) ⟨by decide +kernel, by decide +kernel⟩
      (by decide +kernel) (by decide +kernel) (by decide +kernel) (by decide +kernel) hm (by decide +kernel) (by decide +kernel) (by decide +kernel)
      (by decide +kernel) (by decide +kernel)⟩
  · have g := h.2.1 (blob (le 8 8)) (with1 (inst1 .disabled)) b (accepted (by decide +kernel)) ⟨by decide +kernel, by decide +kernel⟩ (by decide +kernel) hb
    by_cases hl : b.length ≤ (submitted 0x8608 (blob (le 8 8)) (with1 (inst1 .disabled))).cmd.u 56 8
    · exact ⟨_, g.1 hl⟩
    · exact ⟨_, g.2 (Nat.lt_of_not_le hl)⟩
  · exact ⟨_, h.2.2.1 (blob (le 8 8)) (moving false) b (accepted (by decide +kernel)) (D false) (L false) (by decide +kernel) hb⟩
  · cases hv : (moving false).moveIn (submitted 0x8609 (blob (le 8 8)) (moving false)) with
    | error st => exact ⟨_, h.2.2.2.1 (blob (le 8 8)) (moving false) st (accepted (by decide +kernel)) (by decide +kernel) hv⟩
    | ok b => exact ⟨_, h.2.2.1 (blob (le 8 8)) (moving false) b (accepted (by decide +kernel)) (D false) (L false) (by decide +kernel) hv⟩
  · exact ⟨_, (h.2.2.2.2.1 (blob (le 8 8)) (moving true) (accepted (by decide +kernel)) (D true) (L true) (by decide +kernel) (by decide +kernel)
      (by decide +kernel) (by decide +kernel)).2 (by decide +kernel)⟩
  · exact ⟨_, h.2.2.2.2.2.1 (blob (le 8 8 ++ le 4 64)) (moving true) (accepted (by decide +kernel)) (D true) (L true) (by decide +kernel) (by decide +kernel)
      (by decide +kernel) (by decide +kernel) hb⟩
  · exact ⟨_, h.2.2.2.2.2.2.1 (on1 (le 8 4096)) (moving false) (accepted (by decide +kernel)) (D false) (L false) (by decide +kernel) (by decide +kernel)
      (by decide +kernel) (by decide +kernel) (by decide +kernel)⟩
  · have g := (h.2.2.2.2.2.2.2 { dsc 1 0 1 (le 8 8) with data := zeros 4763 } live (accepted (by decide +kernel)) (by decide +kernel))
    cases hv : live.memberOk ((submitted 0x860D { dsc 1 0 1 (le 8 8) with data := zeros 4763 } live).cmd.data.take 4763) mySerial identityHash with
    | true => exact ⟨_, g.1 hv⟩
    | false => exact ⟨_, g.2 hv⟩

/-- `live` with a partner, and the twin state `t`; this device has role `role`. -/
def twin (role : Nat) (t : TwinSt) : State :=
  { live with last := { cfgs := [(0, { cfg with enables := { cfg.enables with welt := true }, twin := some { role := role, autoReturn := true, partner := 7 } })], cur := some 0 }
              twin := t, drec := { domain := some {}, claim := 3 }, regs := [(oTwinClaimAddr, 4096#64)], tick := { aligned := true, count := 20000000 } }
/-- The link to device 7 comes up. -/
def welt (serial : Nat) : WeltUp :=
  { lanes := 8, serial := serial, names := mySerial, role := 2, record := le 8 7 ++ zeros 32 ++ zeros 4723, ident := zeros 32, tick := 5, claim := 4, active := false }
/-- A heartbeat. -/
def beat : Heartbeat := { tick := 5, active := true, pair := 2, claim := 4, offsetNs := 100 }

/-- Whether the partner's membership record verifies is open. -/
theorem witness_twins : Obligations.TwinsPairAndPart →
    (∃ e, Leads (.weltLinkUp (welt 8)) (twin 1 { pair := 1 }) e) ∧
    ((twin 1 { pair := 1 }).memberOk (welt 7).record 7 (zeros 32) = true → ∃ e, Leads (.weltLinkUp (welt 7)) (twin 1 { pair := 1 }) e) ∧
    (∃ e, Leads .weltLinkDown (twin 1 {}) e) ∧ (∃ e, Leads .weltFrameTimeout (twin 1 {}) e) ∧
    (∃ e, Leads (.heartbeatRx beat) (twin 1 {}) e) ∧ (∃ e, Leads (.heartbeatRx beat) (twin 1 { linkUp := true, pair := 2 }) e) ∧
    (∃ e, Leads .heartbeatLoss (twin 1 { pair := 2, lastHeard := 19999992 }) e) ∧ (∃ e, Leads .heartbeatLoss (twin 1 { pair := 2, lastHeard := 19999991, active := true }) e) ∧
    (∃ e, Leads .resyncComplete (twin 1 { pair := 1, linkUp := true }) e) ∧ ∃ e, Leads .resyncComplete (twin 1 { pair := 1, linkUp := true, active := true }) e := by
  intro h
  refine ⟨⟨_, (h.1 (welt 8) (twin 1 { pair := 1 }) ?_ ?_ ?_ ?_).1 (.inl ?_)⟩, fun hm => ⟨_, (h.1 (welt 7) (twin 1 { pair := 1 }) ?_ ?_ ?_ ?_).2 ?_ rfl (.inr ?_) ?_ hm ?_⟩,
    ⟨_, h.2.1 .weltLinkDown (twin 1 {}) (.inl rfl)⟩, ⟨_, h.2.1 .weltFrameTimeout (twin 1 {}) (.inr rfl)⟩,
    ⟨_, (h.2.2.1 beat (twin 1 {}) ?_ ?_).1 ?_⟩, ⟨_, (h.2.2.1 beat (twin 1 { linkUp := true, pair := 2 }) ?_ ?_).2 ?_ ?_ ?_⟩,
    ⟨_, (h.2.2.2.1 (twin 1 { pair := 2, lastHeard := 19999992 }) ?_ ?_ ?_).1 ?_⟩,
    ⟨_, (h.2.2.2.1 (twin 1 { pair := 2, lastHeard := 19999991, active := true }) ?_ ?_ ?_).2 ?_ ?_⟩,
    ⟨_, (h.2.2.2.2 (twin 1 { pair := 1, linkUp := true }) ?_ ?_ ?_).1 ?_⟩,
    ⟨_, (h.2.2.2.2 (twin 1 { pair := 1, linkUp := true, active := true }) ?_ ?_ ?_).2 ?_ ?_⟩⟩ <;> decide +kernel

/-- A command as the twin holds it. -/
def heldCmd : MCmd := { cmd := raw 0x8601 0 2 1 0, addr := 0 }
/-- A CAS in flight at tick `t` for `p`: 3 to be replaced by 4. -/
def cas (t : Nat) (p : Purpose) : State := twin 1 { cas := [(0, { cmp := 3, swap := 4, since := t, purpose := p })] }

theorem witness_claims : Obligations.ClaimsDecideWhoIsActive →
    ((∃ e, Leads (.claimCasResult 0 3) (cas 1 (.promote 4 1 none)) e) ∧ (∃ e, Leads (.claimCasResult 0 4) (cas 1 (.promote 4 1 none)) e) ∧
      (∃ e, Leads (.claimCasResult 0 9) (cas 1 (.takeRead heldCmd)) e) ∧ (∃ e, Leads (.claimCasResult 0 3) (cas 1 (.page 0)) e) ∧
      (∃ e, Leads (.claimCasResult 0 5) (cas 1 (.command 0x8601 heldCmd)) e) ∧ (∃ e, Leads (.claimCasTimeout 0) (cas 19999997 (.page 0)) e) ∧
      ∃ e, Leads (.claimCasTimeout 0) (cas 19999996 (.command 0x8601 heldCmd)) e) ∧
    ((∃ e, Leads .fencePromotionAttempt (twin 1 { fenceAt := some 20000000 }) e) ∧ ∃ e, Leads .fencePromotionAttempt (twin 1 { fenceAt := some 20000001 }) e) ∧
    ((∃ e, Leads .startWaitExpiry (twin 1 { aloneSince := 18000000 }) e) ∧ ∃ e, Leads .startWaitExpiry (twin 1 { startTried := true }) e) ∧
    ((∃ e, Leads .returnOfPrimary (twin 2 { pair := 2, active := true }) e) ∧ ∃ e, Leads .returnOfPrimary (twin 1 { pair := 2, pairedSince := some 10000000 }) e) ∧
    ((∃ e, Leads .returnResumeTimeout (twin 2 { active := true, paused := some 19999992 }) e) ∧ ∃ e, Leads .returnResumeTimeout (twin 2 { active := true, paused := some 19999993 }) e) ∧
    ((∃ e, Leads (.forcedFailover (dsc 1 0 1 [])) live e) ∧ (∃ e, Leads (.forcedFailover (dsc 1 0 1 [1#8])) (twin 1 { active := true }) e) ∧
      (∃ e, Leads (.forcedFailover (dsc 1 0 1 [1#8])) (twin 1 {}) e) ∧ (∃ e, Leads (.forcedFailover (dsc 1 0 1 [1#8])) { twin 1 {} with regs := [] } e) ∧
      ∃ e, Leads (.forcedFailover (dsc 1 0 1 [])) (twin 1 { active := true }) e) ∧
    (∃ e, Leads (.twinReturnHold (dsc 1 0 1 [1#8])) (twin 1 {}) e) ∧ ∃ e, Leads (.twinReturnHold (dsc 1 0 1 [1#8])) live e := by
  intro h
  have g (p : Purpose) (t v : Nat) := h.1 0 v { cmp := 3, swap := 4, since := t, purpose := p } (cas t p) rfl
  have q (c : Cmd) (s : State) (e : (s.works && (formatFail (coded 0x8701 c)).isNone && standbyAccepts (coded 0x8701 c).code && versionOk (coded 0x8701 c) s) = true) :
      Accepted 0x8701 c s := by
    simp only [Bool.and_eq_true, Option.isNone_iff_eq_none] at e
    exact ⟨e.1.1.1, e.1.1.2, .inr e.1.2, e.2⟩
  have q2 (c : Cmd) (s : State) (e : (s.works && (formatFail (coded 0x8702 c)).isNone && standbyAccepts (coded 0x8702 c).code && versionOk (coded 0x8702 c) s) = true) :
      Accepted 0x8702 c s := by
    simp only [Bool.and_eq_true, Option.isNone_iff_eq_none] at e
    exact ⟨e.1.1.1, e.1.1.2, .inr e.1.2, e.2⟩
  refine ⟨⟨⟨_, (g (.promote 4 1 none) 1 3).1 4 1 rfl rfl⟩, ⟨_, (g (.promote 4 1 none) 1 4).2.1 4 1 rfl ?_⟩, ⟨_, (g (.takeRead heldCmd) 1 9).2.2.1 heldCmd rfl⟩,
      ⟨_, (g (.page 0) 1 3).2.2.2.1 0 rfl rfl⟩, ⟨_, (g (.command 0x8601 heldCmd) 1 5).2.2.2.2.1 0x8601 heldCmd rfl ?_ ?_⟩,
      ⟨_, (g (.page 0) 19999997 0).2.2.2.2.2.1 ?_⟩, ⟨_, (g (.command 0x8601 heldCmd) 19999996 0).2.2.2.2.2.2 0x8601 heldCmd rfl ?_⟩⟩,
    ⟨⟨_, (h.2.1 20000000 (twin 1 { fenceAt := some 20000000 }) ?_ ?_).1 ?_⟩, ⟨_, (h.2.1 20000001 (twin 1 { fenceAt := some 20000001 }) ?_ ?_).2 ?_⟩⟩,
    ⟨⟨_, (h.2.2.1 (twin 1 { aloneSince := 18000000 }) ?_ ?_ ?_ ?_).1 ?_ ?_⟩, ⟨_, (h.2.2.1 (twin 1 { startTried := true }) ?_ ?_ ?_ ?_).2 ?_⟩⟩,
    ⟨⟨_, (h.2.2.2.1 (twin 2 { pair := 2, active := true }) ?_ ?_ ?_ ?_ ?_).1 ?_ ?_ ?_⟩,
      ⟨_, (h.2.2.2.1 (twin 1 { pair := 2, pairedSince := some 10000000 }) ?_ ?_ ?_ ?_ ?_).2 10000000 ?_ ?_ ?_ ?_ ?_ ?_ ?_⟩⟩,
    ⟨⟨_, (h.2.2.2.2.1 19999992 (twin 2 { active := true, paused := some 19999992 }) ?_ ?_ ?_).1 ?_⟩,
      ⟨_, (h.2.2.2.2.1 19999993 (twin 2 { active := true, paused := some 19999993 }) ?_ ?_ ?_).2 ?_⟩⟩,
    ⟨⟨_, (h.2.2.2.2.2.1 (dsc 1 0 1 []) live (q _ _ ?_)).1 ?_⟩, ⟨_, (h.2.2.2.2.2.1 (dsc 1 0 1 [1#8]) (twin 1 { active := true }) (q _ _ ?_)).2.1 ?_ ?_⟩,
      ⟨_, (h.2.2.2.2.2.1 (dsc 1 0 1 [1#8]) (twin 1 {}) (q _ _ ?_)).2.2.1 ?_ ?_ ?_ ?_⟩,
      ⟨_, (h.2.2.2.2.2.1 (dsc 1 0 1 [1#8]) { twin 1 {} with regs := [] } (q _ _ ?_)).2.2.2.1 ?_ ?_ ?_ ?_⟩,
      ⟨_, (h.2.2.2.2.2.1 (dsc 1 0 1 []) (twin 1 { active := true }) (q _ _ ?_)).2.2.2.2 ?_ ?_ ?_⟩⟩,
    ⟨_, (h.2.2.2.2.2.2 (dsc 1 0 1 [1#8]) (twin 1 {}) (q2 _ _ ?_)).1 ?_⟩, ⟨_, (h.2.2.2.2.2.2 (dsc 1 0 1 [1#8]) live (q2 _ _ ?_)).2 ?_⟩⟩ <;> decide +kernel

/-- A change of the claim number `c`. -/
def change (c : Nat) (priv : Bool) : MirrorRx := { id := 5, claim := c, priv := priv, change := .key 3 none }

theorem witness_mirror : Obligations.MirroredChangesWaitForThePartner →
    (∃ e, (twin 1 { active := true, pair := 2 }).mirror (.page 0) = e) ∧ (∃ e, Leads (.mirrorAck 0) (twin 1 { acks := [(0, .page 0)] }) e) ∧
    (∃ e, Leads (.mirrorAck 0) (twin 1 {}) e) ∧ (∃ e, Leads (.mirroredChangeRx (change 2 false)) (twin 1 { pair := 2 }) e) ∧
    (∃ e, Leads (.mirroredChangeRx (change 3 false)) (twin 1 { pair := 2 }) e) ∧ ∃ e, Leads (.mirroredChangeRx (change 3 true)) (twin 1 { pair := 1 }) e := by
  intro h
  refine ⟨⟨_, h.1 (.page 0) (twin 1 { active := true, pair := 2 }) ?_ ?_ ?_⟩, ⟨_, h.2.1 0 (.page 0) (twin 1 { acks := [(0, .page 0)] }) ?_⟩,
    ⟨_, h.2.2.1 0 (twin 1 {}) ?_⟩, ⟨_, (h.2.2.2 (change 2 false) (twin 1 { pair := 2 }) ?_ ?_ ?_ ?_).1 ?_⟩,
    ⟨_, (h.2.2.2 (change 3 false) (twin 1 { pair := 2 }) ?_ ?_ ?_ ?_).2.1 ?_ ?_⟩, ⟨_, (h.2.2.2 (change 3 true) (twin 1 { pair := 1 }) ?_ ?_ ?_ ?_).2.2 ?_ ?_⟩⟩ <;> decide +kernel

/-- `live`, its monitors watched; the fused response of source 0 is `r`; the asserted sources. -/
def watching (r live_ : Nat) : State := { live with prot := { watching := true, live := live_ }, fuses := { response := some r } }

theorem witness_monitors : Obligations.MonitorSourcesActOnce →
    (∃ e, Leads (.monitorAssert 15) (watching 0 0x8000) e) ∧ (∃ e, Leads (.monitorAssert 0) live e) ∧ (∃ e, Leads (.monitorAssert 15) (watching 0 0) e) ∧
    (∃ e, Leads (.monitorAssert 0) (watching 2 0) e) ∧ (∃ e, Leads (.monitorAssert 0) (watching 1 0) e) ∧
    (∃ e, Goes (.monitorDeassert 0) (watching 1 1) e) ∧ (live.zeroiseNow 1 0).ks.keys = [] := by
  intro h
  refine ⟨⟨_, h.1 15 (watching 0 0x8000) ?_ ?_⟩, ⟨_, (h.2.1 0 live ?_ ?_).1 ?_⟩, ⟨_, ((h.2.1 15 (watching 0 0) ?_ ?_).2 ?_ ?_).1 ?_⟩,
    ⟨_, ((h.2.1 0 (watching 2 0) ?_ ?_).2 ?_ ?_).2.1 ?_ ?_⟩, ⟨_, ((h.2.1 0 (watching 1 0) ?_ ?_).2 ?_ ?_).2.2 ?_⟩, ⟨_, h.2.2.1 0 (watching 1 1)⟩,
    (h.2.2.2 1 0 live ?_).1⟩ <;> decide +kernel

/-- A window of as many ones as zeros, as many equal pairs as unequal. -/
def fair : Bytes := List.replicate 512 0x33#8
/-- DRBG 16 has answered `n` requests; random output is stopped or not. -/
def drbg (state n : Nat) : State := { live with rng := { state := state, drbgs := [(3, n), (16, n)] } }

theorem witness_noise : Obligations.NoiseWindowsAndDrbgs →
    ((∃ e, Leads (.noiseWindow 7 fair) live e) ∧ (∃ e, Leads (.noiseWindow 0 (zeros 512)) live e) ∧ ∃ e, Leads (.noiseWindow 0 (zeros 512)) (drbg 2 0) e) ∧
    (∃ e, Goes (.drbgReseedCount 1 3) (drbg 1 (2 ^ 24)) e) ∧ (∃ e, Goes (.drbgReseedCount 2 0) (drbg 1 (2 ^ 24)) e) ∧
    Goes (.drbgReseedCount 2 0) (drbg 1 (2 ^ 24 - 1)) (drbg 1 (2 ^ 24 - 1)) := by
  intro h
  refine ⟨⟨⟨_, (h.1 7 fair live ?_ ?_ ?_ ?_ ?_).1 ?_⟩, ⟨_, (h.1 0 (zeros 512) live ?_ ?_ ?_ ?_ ?_).2.1 ?_ ?_⟩, ⟨_, (h.1 0 (zeros 512) (drbg 2 0) ?_ ?_ ?_ ?_ ?_).2.2 ?_ ?_⟩⟩,
    ⟨_, (h.2 1 3 (drbg 1 (2 ^ 24)) (.inl ⟨?_, ?_⟩) ?_).1 ?_ ?_⟩, ⟨_, (h.2 2 0 (drbg 1 (2 ^ 24)) (.inr ?_) ?_).1 ?_ ?_⟩, (h.2 2 0 (drbg 1 (2 ^ 24 - 1)) (.inr ?_) ?_).2 ?_⟩ <;> decide +kernel

/-- A life-cycle step towards RETURNED since tick 0 stands at `stage`, `row` rows burned, at tick `n`. -/
def lifeStep (stage row : Nat) : LifeStep := { target := 3, stage := stage, since := 0, row := row, kum := none }
def stepping (stage row n : Nat) : State := { live with prot := { life := 2, step := some (lifeStep stage row) }, tick := { count := n } }
/-- The device is FIELDED. -/
def fielded : State := { live with prot := { life := 2 } }
/-- A debug token as it stands in memory. -/
def token : Cmd := { dsc 1 0 1 (zeros 8 ++ le 4 4800) with data := zeros 4800 }

/-- Whether a debug token's signatures verify is open. -/
theorem witness_life_cycle : Obligations.LifeCycleStepsBurnRows →
    ((∃ e, Leads .lifecycleReceiptTimeout (stepping 1 0 1000) e) ∧ ∃ e, Leads .lifecycleReceiptTimeout (stepping 1 0 999) e) ∧
    (∃ e, Leads .wipeDone (stepping 2 0 5) e) ∧ ((∃ e, Goes .fuseBurnDone (stepping 3 1 5) e) ∧ ∃ e, Goes .fuseBurnDone (stepping 3 2 5) e) ∧
    (Goes .fuseBurnDone live live ∧ Leads .wipeDone live live ∧ Leads .lifecycleReceiptTimeout live live) ∧
    ((∃ e, Leads (.protFuseOptions (dsc 1 0 1 (le 2 0xFFFF ++ [1#8]))) live e) ∧ ∃ e, Leads (.protFuseOptions (dsc 1 0 1 [])) fielded e) ∧
    (∃ e, Leads (.zeroise (dsc 1 0 1 [])) live e) ∧
    (∃ e, Leads (.debugUnlock token) fielded e) ∧ (∃ e, Leads (.debugUnlock token) live e) ∧
    ((live.decisions 2).tokenFail debugAllowed (padTo 4800 (zeros 4800)) = none → ∃ e, Leads (.debugUnlock token) live e) := by
  intro h
  have n := h.2.2.2.1 live rfl
  have q (c : Cmd) (s : State) (e : (s.works && (formatFail (coded 0x8801 c)).isNone && standbyAccepts (coded 0x8801 c).code && versionOk (coded 0x8801 c) s) = true) :
      Accepted 0x8801 c s := by
    simp only [Bool.and_eq_true, Option.isNone_iff_eq_none] at e
    exact ⟨e.1.1.1, e.1.1.2, .inr e.1.2, e.2⟩
  refine ⟨⟨⟨_, (h.1 (lifeStep 1 0) (stepping 1 0 1000) ?_ ?_).1 ?_⟩, ⟨_, (h.1 (lifeStep 1 0) (stepping 1 0 999) ?_ ?_).2 ?_⟩⟩,
    ⟨_, h.2.1 (lifeStep 2 0) (stepping 2 0 5) ?_ ?_⟩,
    ⟨⟨_, (h.2.2.1 (lifeStep 3 1) (stepping 3 1 5) ?_ ?_ (.inr ?_)).1 ?_⟩, ⟨_, (h.2.2.1 (lifeStep 3 2) (stepping 3 2 5) ?_ ?_ (.inr ?_)).2 ?_ ?_⟩⟩, n,
    ⟨⟨_, (h.2.2.2.2.1 (dsc 1 0 1 (le 2 0xFFFF ++ [1#8])) live (accepted ?_)).1 ?_⟩, ⟨_, (h.2.2.2.2.1 (dsc 1 0 1 []) fielded (accepted ?_)).2 ?_⟩⟩,
    ⟨_, h.2.2.2.2.2.1 (dsc 1 0 1 []) live (q _ _ ?_)⟩, ⟨_, (h.2.2.2.2.2.2 token fielded (accepted ?_)).1 ?_⟩,
    ⟨_, (h.2.2.2.2.2.2 token live (accepted ?_)).2.1 ?_ .badFieldValue ?_⟩, fun ht => ⟨_, (h.2.2.2.2.2.2 token live (accepted ?_)).2.2 ?_ ?_ ?_⟩⟩
  all_goals try decide +kernel
  rw [if_pos (by decide +kernel)]; exact ht

/-- A committed record, of sequence number 1. -/
def rec1 : LedgerRec := { mark := 0xA5, typ := 1, seq := 1, link := zeros 8 }
/-- `live` with that record in the ledger, a card in its slot, and `pending` records. -/
def ledgered (ps : List LedgerPend) : State :=
  { live with ledger := { live.ledger with pending := ps }, flash := { records := [rec1], ahead := false }
              card := { state := 2, typ := 1, blocks := 2 ^ 20, detect := true } }
/-- The ledger holds `n` records that no seal covers, at tick `t`. -/
def sealing (n t : Nat) : State := { live with ledger := { live.ledger with unsealed := n }, tick := { count := t } }
/-- The circular area is worn out by one erase. -/
def frail : State := { ledgered [] with flash := { (ledgered []).flash with endurance := some 1 } }

theorem witness_ledger : Obligations.LedgerKeepsRecords →
    (∃ e, Leads (.ledgerRecordCommit 0) (ledgered [{ typ := 2, body := [] }]) e) ∧ (∃ e, Leads (.ledgerRecordCommit 0) (ledgered [{ typ := 0x10, body := [], kum := some 3 }]) e) ∧
    (∃ e, Leads (.ledgerRecordCommit 0) { ledgered [{ typ := 0x10, body := [], kum := some 3 }] with ledger := { opened := true, pending := [{ typ := 0x10, body := [], kum := some 3 }], failed := true } } e) ∧
    (∃ e, Leads (.ledgerRecordCommit 2) (ledgered [{ typ := 2, body := [] }]) e) ∧
    (∃ e, Leads .ledgerSealCount (sealing 65536 0) e) ∧ (∃ e, Leads .ledgerSealCount (sealing 65535 0) e) ∧ (∃ e, Leads .ledgerSealTimer (sealing 1 3600000000) e) ∧
    (∃ e, Leads (.sectorEraseAhead true) (ledgered []) e) ∧ (∃ e, Leads (.sectorEraseAhead true) frail e) ∧ (∃ e, Leads (.sectorEraseAhead false) frail e) ∧
    (∃ e, Goes (.ledgerVerifyDone 3 true) live e) ∧
    ∃ e, Goes (.ledgerVerifyDone 3 true) { live with ledger := { opened := true, verified := true } } e := by
  intro h
  refine ⟨⟨_, (h.2.1 { typ := 2, body := [] } [] (ledgered [{ typ := 2, body := [] }]) ?_ ?_).1 ?_⟩,
    ⟨_, (h.2.1 { typ := 0x10, body := [], kum := some 3 } [] (ledgered [{ typ := 0x10, body := [], kum := some 3 }]) ?_ ?_).2.1 3 ?_ ?_⟩,
    ⟨_, (h.2.1 { typ := 0x10, body := [], kum := some 3 } [] { ledgered [{ typ := 0x10, body := [], kum := some 3 }] with ledger := { opened := true, pending := [{ typ := 0x10, body := [], kum := some 3 }], failed := true } } ?_ ?_).2.2.1 3 ?_ ?_⟩,
    ⟨_, (h.2.1 { typ := 2, body := [] } [] (ledgered [{ typ := 2, body := [] }]) ?_ ?_).2.2.2.2⟩,
    ⟨_, (h.2.2.1 (sealing 65536 0) ?_ ?_ ?_).1 ?_⟩, ⟨_, (h.2.2.1 (sealing 65535 0) ?_ ?_ ?_).2.1 ?_⟩, ⟨_, (h.2.2.1 (sealing 1 3600000000) ?_ ?_ ?_).2.2 ?_ ?_⟩,
    ⟨_, (h.2.2.2.1 (ledgered []) ?_ ?_).1 ?_⟩, ⟨_, (h.2.2.2.1 frail ?_ ?_).2.1 ?_⟩, ⟨_, (h.2.2.2.1 frail ?_ ?_).2.2⟩,
    ⟨_, (h.2.2.2.2 3 true live ?_).1 ?_⟩, ⟨_, (h.2.2.2.2 3 true { live with ledger := { opened := true, verified := true } } ?_).2 ?_⟩⟩ <;> decide +kernel

/-- LEDGER_EXPORT from sequence number 1 on, at most one record: to memory at 4096, or to a card from block 0. -/
def exporting (card : Bool) (room : Nat) : Cmd :=
  dsc 1 0 1 (le 8 1 ++ le 4 1 ++ [if card then 1#8 else 0#8] ++ zeros 3 ++ le 8 (if card then 0 else 4096) ++ le 4 room)
/-- CARD_READ of the card's last block, with what it answers. -/
def cardRead (ok : Bool) (b : Bytes) : Cmd := { dsc 1 0 1 (le 4 (2 ^ 20 - 1) ++ le 4 1 ++ le 8 4096) with data := b, pass := ok }
/-- A card is being written since tick 0, at tick `n`. -/
def writing (n : Nat) : State := { ledgered [] with card := { (ledgered []).card with job := some { m := heldCmd } }, tick := { count := n } }
/-- No card is there; it is identified since tick 0, at tick `n`. -/
def identifying (n : Nat) : State :=
  { live with last := { cfgs := [(0, { cfg with enables := { cfg.enables with card := true } })], cur := some 0 }, card := { state := if n = 0 then 0 else 1 }, tick := { count := n } }
/-- A card as identification finds it. -/
def seen (volt rdy : Bool) : CardSeen :=
  { typ := 1, blocks := 2 ^ 20, wide := true, fast := false, ready := rdy, voltage := volt, sdio := false, wpSwitch := false, wpCsd := false, cid := [] }

theorem witness_card : Obligations.CardCarriesSegments →
    (∃ e, Leads (.ledgerExport (exporting false 5747)) (ledgered []) e) ∧ (∃ e, Leads (.ledgerExport { exporting false 5747 with pass := false }) (ledgered []) e) ∧
    (∃ e, Leads (.ledgerExport (exporting true 12)) (ledgered []) e) ∧
    ((∃ e, Leads (.cardRead (cardRead true [])) (ledgered []) e) ∧ (∃ e, Leads (.cardRead (cardRead true (le 4 0x434F4D50))) (ledgered []) e) ∧
      ∃ e, Leads (.cardRead (cardRead false [])) (ledgered []) e) ∧
    ((∃ e, Leads (.cardBusyEnd ⟨true, true, true, 0⟩) (writing 5) e) ∧ (∃ e, Leads (.cardBusyEnd ⟨true, true, true, 1⟩) (writing 5) e) ∧
      (∃ e, Leads .cardBusyTimeout (writing 500000) e) ∧ ∃ e, Leads .cardBusyTimeout (writing 499999) e) ∧
    ((∃ e, Goes (.cardDetect (seen true true)) (identifying 0) e) ∧ (∃ e, Goes (.cardDetect (seen true false)) (identifying 0) e) ∧
      ∃ e, Goes (.cardDetect (seen false true)) (identifying 0) e) ∧
    ((∃ e, Leads (.cardRemoval 1000) (writing 5) e) ∧ ∃ e, Leads (.cardRemoval 1001) (ledgered []) e) ∧
    (∃ e, Goes .cardIdentifyTimeout (identifying 1000000) e) ∧ ∃ e, Goes .cardIdentifyTimeout (identifying 999999) e := by
  intro h
  refine ⟨⟨_, (h.1 (exporting false 5747) (ledgered []) rec1 [] (accepted ?_) ?_ ?_ ?_ ?_ ?_ ?_ ?_ ?_).1 ?_⟩,
    ⟨_, (h.1 { exporting false 5747 with pass := false } (ledgered []) rec1 [] (accepted ?_) ?_ ?_ ?_ ?_ ?_ ?_ ?_ ?_).2 ?_⟩,
    ⟨_, h.2.1 (exporting true 12) (ledgered []) rec1 [] (accepted ?_) ?_ ?_ ?_ ?_ ?_ ?_ ?_ ?_ ?_ ?_⟩,
    ⟨⟨_, (h.2.2.1 (cardRead true []) (ledgered []) (accepted ?_) ?_ ?_ ?_ ?_).1 ?_ ?_⟩,
      ⟨_, (h.2.2.1 (cardRead true (le 4 0x434F4D50)) (ledgered []) (accepted ?_) ?_ ?_ ?_ ?_).2.1 ?_ ?_⟩,
      ⟨_, (h.2.2.1 (cardRead false []) (ledgered []) (accepted ?_) ?_ ?_ ?_ ?_).2.2 ?_⟩⟩,
    ⟨⟨_, (h.2.2.2.1 { m := heldCmd } ⟨true, true, true, 0⟩ (writing 5) rfl ?_).1 ?_⟩, ⟨_, (h.2.2.2.1 { m := heldCmd } ⟨true, true, true, 1⟩ (writing 5) rfl ?_).2.1 ?_⟩,
      ⟨_, (h.2.2.2.1 { m := heldCmd } ⟨true, true, true, 0⟩ (writing 500000) rfl ?_).2.2.1 ?_⟩, ⟨_, (h.2.2.2.1 { m := heldCmd } ⟨true, true, true, 0⟩ (writing 499999) rfl ?_).2.2.2 ?_⟩⟩,
    ⟨⟨_, (h.2.2.2.2.1 (seen true true) (identifying 0) ?_ ?_ ?_).1 ?_ ?_ ?_⟩, ⟨_, (h.2.2.2.2.1 (seen true false) (identifying 0) ?_ ?_ ?_).2.1 ?_ ?_ ?_⟩,
      ⟨_, (h.2.2.2.2.1 (seen false true) (identifying 0) ?_ ?_ ?_).2.2 (.inl ?_)⟩⟩,
    ⟨⟨_, (h.2.2.2.2.2.1 1000 (writing 5) ?_ ?_).1 ?_⟩, ⟨_, (h.2.2.2.2.2.1 1001 (ledgered []) ?_ ?_).2 ?_ ?_⟩⟩,
    ⟨_, (h.2.2.2.2.2.2 (identifying 1000000) ?_).1 ?_⟩, ⟨_, (h.2.2.2.2.2.2 (identifying 999999) ?_).2 ?_⟩⟩ <;> decide +kernel

/-- An engine of a kind, a bank. -/
def engine : Nat := 5 * 4096
def bank (b : Nat) : Nat := 7 * 4096 + b
/-- `live` with retired units, and with tests in progress. -/
def broken : State := { live with drec := { engines := [engine], banks := [(3327, 3391)] } }
def underTest (es : List Nat) (ts : Tbl BankTest) : State := { live with fab := { live.fab with engTests := es, tests := ts } }
/-- Bank 3327 rests in RETENTION. -/
def resting : State := { live with fab := { live.fab with rest := [(3327, 1)] } }
/-- The device's one admitted item; `tainted`: it has drawn random bytes. -/
def admittedItem (tainted : Bool) : State :=
  { live with disp := { live.disp with items := [(0, { stage := .running, admitted := true, inv := { fn := 0x0701 }, tainted := tainted })] } }

theorem witness_units : Obligations.UnitsAreTestedAndRetired →
    ((∃ e, Leads (.fabBankPower (dsc 1 0 1 (le 2 (bank 3327) ++ [0#8]))) live e) ∧ (∃ e, Leads (.fabBankPower (dsc 1 0 1 (le 2 (bank 3391) ++ [1#8]))) live e) ∧
      ∃ e, Leads (.fabBankPower (dsc 1 0 1 (le 2 (bank 207) ++ [2#8]))) live e) ∧
    ((∃ e, Leads (.fabUnretire (dsc 1 0 1 (le 2 engine))) broken e) ∧ ∃ e, Leads (.fabUnretire (dsc 1 0 1 (le 2 (bank 3327)))) broken e) ∧
    ((∃ e, Leads (.fabSelftest (dsc 1 0 1 (le 2 engine))) live e) ∧ ∃ e, Leads (.fabSelftest (dsc 1 0 1 (le 2 (bank 3327)))) live e) ∧
    ((∃ e, Leads (.eccError ⟨3391, true, 0, 0, 0, 0⟩) live e) ∧ ∃ e, Leads (.eccError ⟨0, false, 0, 0, 0, 0⟩) live e) ∧
    ((∃ e, Leads (.engineError engine 0) live e) ∧ (∃ e, Leads (.engineError engine 0) (admittedItem false) e) ∧ ∃ e, Leads (.engineError engine 0) (admittedItem true) e) ∧
    ((∃ e, Leads (.engineKatDone engine true) (underTest [engine] []) e) ∧ (∃ e, Leads (.engineKatDone engine false) (underTest [engine] []) e) ∧
      ∃ e, Leads (.engineKatDone engine false) { broken with fab := { broken.fab with engTests := [engine] } } e) ∧
    ((∃ e, Leads (.bankCopyDone 3) (underTest [] [(3, { bank := 3327, stage := 0 })]) e) ∧ (∃ e, Leads (.bankMarchTestDone 3 true) (underTest [] [(3, { bank := 3327, stage := 1 })]) e) ∧
      (∃ e, Leads (.bankMarchTestDone 3 false) (underTest [] [(3, { bank := 3327, stage := 1 })]) e) ∧
      (∃ e, Leads (.bankMarchTestDone 3 false) (underTest [] [(3, { bank := 3327, stage := 1, bad := true })]) e) ∧
      ∃ e, Leads (.bankCopyBackDone 3) (underTest [] [(3, { bank := 3327, stage := 2 })]) e) ∧
    (∃ e, Goes (.bankRetentionTimeout 3327) resting e) ∧
    (∃ e, Goes (.arbiterStarvation 71 5 true) { live with fab := { live.fab with starvedAt := some 0 } } e) ∧ ∃ e, Goes (.arbiterStarvation 71 5 true) live e := by
  intro h
  refine ⟨⟨⟨_, (h.1 (dsc 1 0 1 (le 2 (bank 3327) ++ [0#8])) live (accepted ?_) ?_ ?_).1 ?_⟩, ⟨_, (h.1 (dsc 1 0 1 (le 2 (bank 3391) ++ [1#8])) live (accepted ?_) ?_ ?_).2.1 ?_⟩,
      ⟨_, (h.1 (dsc 1 0 1 (le 2 (bank 207) ++ [2#8])) live (accepted ?_) ?_ ?_).2.2 ?_ ?_ ?_ ?_⟩⟩,
    ⟨⟨_, (h.2.1 (dsc 1 0 1 (le 2 engine)) broken (accepted ?_) ?_ ?_).1 ?_⟩, ⟨_, (h.2.1 (dsc 1 0 1 (le 2 (bank 3327))) broken (accepted ?_) ?_ ?_).2 ?_ ?_ ?_⟩⟩,
    ⟨⟨_, (h.2.2.1 (dsc 1 0 1 (le 2 engine)) live (accepted ?_) ?_ ?_).1 ?_⟩, ⟨_, (h.2.2.1 (dsc 1 0 1 (le 2 (bank 3327))) live (accepted ?_) ?_ ?_).2 ?_ ?_ ?_ ?_⟩⟩,
    ⟨⟨_, (h.2.2.2.1 ⟨3391, true, 0, 0, 0, 0⟩ live ?_ ?_).1 ?_⟩, ⟨_, (h.2.2.2.1 ⟨0, false, 0, 0, 0, 0⟩ live ?_ ?_).2 ?_⟩⟩,
    ⟨⟨_, (h.2.2.2.2.1 engine 0 {} live ?_ ?_ ?_).1 ?_⟩,
      ⟨_, (h.2.2.2.2.1 engine 0 { stage := .running, admitted := true, inv := { fn := 0x0701 } } (admittedItem false) ?_ ?_ ?_).2.1 ?_ ?_ ?_ ?_ ?_⟩,
      ⟨_, (h.2.2.2.2.1 engine 0 { stage := .running, admitted := true, inv := { fn := 0x0701 }, tainted := true } (admittedItem true) ?_ ?_ ?_).2.2 ?_ ?_ ?_ (.inl ?_)⟩⟩,
    ⟨⟨_, (h.2.2.2.2.2.1 engine (underTest [engine] []) ?_ ?_).1 ?_⟩, ⟨_, (h.2.2.2.2.2.1 engine (underTest [engine] []) ?_ ?_).2.1 ?_⟩,
      ⟨_, (h.2.2.2.2.2.1 engine { broken with fab := { broken.fab with engTests := [engine] } } ?_ ?_).2.2 ?_⟩⟩,
    ⟨⟨_, (h.2.2.2.2.2.2.1 3 { bank := 3327, stage := 0 } (underTest [] [(3, { bank := 3327, stage := 0 })]) ?_ ?_).1 ?_⟩,
      ⟨_, (h.2.2.2.2.2.2.1 3 { bank := 3327, stage := 1 } (underTest [] [(3, { bank := 3327, stage := 1 })]) ?_ ?_).2.1 ?_ ?_⟩,
      ⟨_, (h.2.2.2.2.2.2.1 3 { bank := 3327, stage := 1 } (underTest [] [(3, { bank := 3327, stage := 1 })]) ?_ ?_).2.2.1 3376 ?_ ?_ ?_⟩,
      ⟨_, (h.2.2.2.2.2.2.1 3 { bank := 3327, stage := 1, bad := true } (underTest [] [(3, { bank := 3327, stage := 1, bad := true })]) ?_ ?_).2.2.2.1 ?_ ?_⟩,
      ⟨_, (h.2.2.2.2.2.2.1 3 { bank := 3327, stage := 2 } (underTest [] [(3, { bank := 3327, stage := 2 })]) ?_ ?_).2.2.2.2 ?_⟩⟩,
    ⟨_, h.2.2.2.2.2.2.2.1 3327 resting ?_ ?_⟩,
    ⟨_, (h.2.2.2.2.2.2.2.2 71 5 true { live with fab := { live.fab with starvedAt := some 0 } } ?_ ?_).1 ?_⟩, ⟨_, (h.2.2.2.2.2.2.2.2 71 5 true live ?_ ?_).2 ?_⟩⟩ <;> decide +kernel

/-- A job that generates a P-256 pair for item 0 of the device (or, with `check`, verifies with a key that is not there). -/
def pkInv (check : Bool) : Invoc :=
  if check then { fn := 0x0802, opts := 3, k1 := h0, ins := [zeros 4, [], zeros 64] }
  else { fn := 0x0A01, p2 := 0x100111 + 2 ^ 32 * 2 ^ 15, p3 := 1 + 2 ^ 32 * unlimited, cap0 := 8, cap1 := 133 }
/-- The item and its job. -/
def pkItem (check : Bool) : Item := { stage := .parked, admitted := true, inv := pkInv check }
def pkJob (bounded : Bool) : PkJob := { purpose := .item 0, bounded := bounded }
/-- `live` with them. -/
def jobbed (check : Bool) (j : PkJob) : State :=
  { live with disp := { live.disp with items := [(0, pkItem check)] }, eng := { live.eng with jobs := [(4, j)] } }
/-- Its running segment is the last but `n`. -/
def segment (n : Nat) (gone : Bool) : PkJob := { pkJob false with placed := true, running := true, left := n + 1, abandoned := gone }
/-- The pair's result. -/
def pkOut : FnOut := { o0 := [1#8] }
/-- The item has its result. -/
def ended : State := { jobbed false (segment 0 false) with disp := { live.disp with items := [(0, { pkItem false with result := some pkOut, invoked := some (pkInv false) })] } }

/-- What an item comes to. -/
theorem pair_of {α β : Type} {p : Option α × β} (h : p.1.isSome = true) : ∃ a b, p = (some a, b) := by
  obtain ⟨o, b⟩ := p
  cases o with
  | none => cases h
  | some a => exact ⟨a, b, rfl⟩

theorem witness_jobs : Obligations.PublicKeyJobsRunInSegments →
    ((∃ e, Leads (.pkJobAdmit 0) { jobbed false (pkJob false) with inst := [(0, { d := { managerInst with lim := full } })] } e) ∧
      (∃ e, Leads (.pkJobAdmit 0) (jobbed false (pkJob false)) e) ∧ ∃ e, Leads (.pkJobAdmit 0) (jobbed true (pkJob true)) e) ∧
    ((∃ e, Leads (.segmentEnd 0 false true) (jobbed false (segment 1 false)) e) ∧ (∃ e, Leads (.segmentEnd 0 false true) (jobbed false (segment 1 true)) e) ∧
      ∃ e, Leads (.segmentEnd 0 false false) (jobbed false (segment 0 false)) e) ∧
    (∃ e, ended.jobEnd 4 (segment 0 false) true = e) ∧ ∃ e, ended.jobEnd 4 (segment 0 false) false = e := by
  intro h
  obtain ⟨o, t, e⟩ := pair_of (p := (jobbed false (pkJob false)).runKeys 0 0 (pkInv false) false false) (by decide +kernel)
  have g : o.st = .ok := by
    have : ((jobbed false (pkJob false)).runKeys 0 0 (pkInv false) false false).1.map FnOut.st = some .ok := by decide +kernel
    rw [e] at this; exact Option.some.inj this
  obtain ⟨o2, t2, e2⟩ := pair_of (p := (jobbed true (pkJob true)).runKeys 0 0 (pkInv true) false false) (by decide +kernel)
  have g2 : o2.st = .keyExpired := by
    have : ((jobbed true (pkJob true)).runKeys 0 0 (pkInv true) false false).1.map FnOut.st = some .keyExpired := by decide +kernel
    rw [e2] at this; exact Option.some.inj this
  obtain ⟨y, z⟩ := some_of (o := (State.releaseFail 0 0x0A01 false (((ended.dropJob 4).bump64 oPkJobsDone 1).decisions 1)).item? 0) (by decide +kernel)
  have w : y.transit = false := by
    have : ((State.releaseFail 0 0x0A01 false (((ended.dropJob 4).bump64 oPkJobsDone 1).decisions 1)).item? 0).map Item.transit = some false := by decide +kernel
    rw [z] at this; exact Option.some.inj this
  have q : (((ended.dropJob 4).bump64 oPkJobsDone 1).decisions (if releases (ended.jobFn (segment 0 false)) then 1 else 0)).item? 0 =
      some { pkItem false with result := some pkOut, invoked := some (pkInv false) } := by decide +kernel
  refine ⟨⟨⟨_, (h.1 0 4 (pkJob false) { jobbed false (pkJob false) with inst := [(0, { d := { managerInst with lim := full } })] } ?_ ?_).1 ?_⟩,
      ⟨_, (h.1 0 4 (pkJob false) (jobbed false (pkJob false)) ?_ ?_).2.1 0 (pkItem false) o t ?_ ?_ ?_ ?_ ?_ e (.inl g)⟩,
      ⟨_, (h.1 0 4 (pkJob true) (jobbed true (pkJob true)) ?_ ?_).2.2 0 (pkItem true) o2 t2 ?_ ?_ ?_ ?_ ?_ ?_ e2 ?_ ?_⟩⟩,
    ⟨⟨_, (h.2.1 0 false true 4 (segment 1 false) (jobbed false (segment 1 false)) ?_ ?_).1 ?_ ?_⟩, ⟨_, (h.2.1 0 false true 4 (segment 1 true) (jobbed false (segment 1 true)) ?_ ?_).2.1 ?_⟩,
      ⟨_, (h.2.1 0 false false 4 (segment 0 false) (jobbed false (segment 0 false)) ?_ ?_).2.2 ?_ ?_⟩⟩,
    ⟨_, (h.2.2 4 0 (segment 0 false) _ pkOut ended rfl ?_ ?_ q).1⟩, ⟨_, (h.2.2 4 0 (segment 0 false) _ pkOut ended rfl ?_ ?_ q).2 ?_ y z w⟩⟩
  all_goals first | decide +kernel | (rw [g2]; decide)

/-- A message to the device (target 0xFFFF) with one op and no signatures, counter `n`; it names device 5. -/
def message (code n : Nat) (body : Bytes) : Bytes :=
  let len := roundUp (16 + body.length) 8
  le 4 0x4B554D31 ++ le 2 1 ++ le 2 0xFFFF ++ le 8 5 ++ zeros 8 ++ le 4 0 ++ le 6 n ++ le 2 1 ++ le 2 0 ++ zeros 2 ++ le 4 len ++ le 4 (64 + len) ++
    zeros 16 ++ [BitVec.ofNat 8 code, 0#8] ++ le 2 body.length ++ zeros 12 ++ padTo (len - 16) body
/-- Its ring entry. -/
def ringEntry (m : Bytes) : Bytes := le 8 8 ++ le 4 m.length ++ le 4 7 ++ le 8 8 ++ le 4 262144 ++ zeros 4
/-- A roster of one officer, of whom `m` must sign. -/
def roster (m : Nat) : Bytes := [BitVec.ofNat 8 m, 1#8] ++ zeros 14 ++ [1#8] ++ zeros 47
/-- SET_ROSTER for the device, as a message. -/
def rosterMsg (m : Nat) : Bytes := message 0x10 1 (roster m)
/-- What the form checks read of a message. -/
def viewed (m : Bytes) : KumView := (readKum m).getD ⟨0, 0, 0, 0, 0, [], [], []⟩
/-- The key update ring holds a message; the ledger is open or not. -/
def kumming (opened : Bool) : State := { live with regs := [(oKumControl, 1#64)], kum := { sqTail := 1 }, ledger := { opened := opened } }
/-- Its entry is taken. -/
def taken (opened : Bool) : State :=
  { kumming opened with kum := { (kumming opened).kum with sqHead := ((kumming opened).kum.sqHead + 1) % (kumming opened).ringSize oKumSqSize } }
/-- The message has passed its checks. -/
def begun (opened : Bool) (b msg : Bytes) (v : KumView) : State :=
  let d := taken opened
  let segs := (v.sigs.map (fun g => if g.kind = 1 then publicSegs algEc 2 else publicSegs algDsa 2)).foldl (· + ·) 0
  let e := ((d.decisions v.sigs.length).bump64 oPkSegments segs).charge v.inst 0 0 segs
  { e with kum := { e.kum with next := d.kum.next + 1, msgs := e.kum.msgs.set d.kum.next { entry := b, msg := msg } } }

/-- A message waits for its ledger record. -/
def accepting : State := { kumming true with kum := { msgs := [(0, { entry := [], msg := rosterMsg 1 })] } }

/-- What ops come to. -/
theorem done_of {o : OpsOut} (h : (match o with | .done _ _ => true | _ => false) = true) : ∃ t rs, o = .done t rs := by
  cases o with
  | done t rs => exact ⟨t, rs, rfl⟩
  | fail _ _ _ => cases h
  | page _ _ _ => cases h
theorem fail_of {o : OpsOut} (h : (match o with | .fail _ _ _ => true | _ => false) = true) : ∃ t ix st, o = .fail t ix st := by
  cases o with
  | fail t ix st => exact ⟨t, ix, st, rfl⟩
  | done _ _ => cases h
  | page _ _ _ => cases h

/-- The device's serial number is open: where a message must name the device, it is 5. -/
theorem witness_key_updates (hs : Config.deviceSerial = 5#64) : Obligations.KeyUpdatesAreCheckedAndRecorded →
    (∃ e, Leads (.keyUpdateMessage [] []) (kumming true) e) ∧ (∃ e, Leads (.keyUpdateMessage (ringEntry (message 0x15 1 (zeros 8))) (message 0x15 1 (zeros 8))) (kumming true) e) ∧
    (∃ e, Leads (.keyUpdateMessage (ringEntry (rosterMsg 2)) (rosterMsg 2)) (kumming true) e) ∧
    (∃ e, Leads (.keyUpdateMessage (ringEntry (rosterMsg 1)) (rosterMsg 1)) (kumming false) e) ∧
    (∃ e, Leads (.keyUpdateMessage (ringEntry (rosterMsg 1)) (rosterMsg 1)) (kumming true) e) ∧
    ∃ e, State.acceptKum 0 accepting = e := by
  intro h
  have form (m : Nat) (hm : m = 1 ∨ m = 2) : kumForm (padTo 32 (ringEntry (rosterMsg m))) (rosterMsg m) = .ok (viewed (rosterMsg m)) := by
    rcases hm with rfl | rfl <;> decide +kernel
  have checks (o : Bool) (m : Nat) (hm : m = 1 ∨ m = 2) : (taken o).kumChecks (viewed (rosterMsg m)) = none := by
    unfold State.kumChecks State.kumBinding; rw [hs]
    cases o <;> rcases hm with rfl | rfl <;> decide +kernel
  have g (o : Bool) (e m : Bytes) := h.1 e m (kumming o) (by cases o <;> decide +kernel) (by cases o <;> decide +kernel) (by cases o <;> decide +kernel)
    (by cases o <;> decide +kernel) (by cases o <;> decide +kernel)
  have p (o : Bool) (m : Nat) (hm : m = 1 ∨ m = 2) := (g o (ringEntry (rosterMsg m)) (rosterMsg m)).2.2 (viewed (rosterMsg m)) (form m hm) (checks o m hm)
  obtain ⟨t2, ix, st, e2⟩ := fail_of (o := (begun true (padTo 32 (ringEntry (rosterMsg 2))) (rosterMsg 2) (viewed (rosterMsg 2))).runOps (viewed (rosterMsg 2)))
    (by unfold State.runOps; rw [hs]; decide +kernel)
  obtain ⟨t0, r0, e0⟩ := done_of (o := (begun false (padTo 32 (ringEntry (rosterMsg 1))) (rosterMsg 1) (viewed (rosterMsg 1))).runOps (viewed (rosterMsg 1)))
    (by unfold State.runOps; rw [hs]; decide +kernel)
  obtain ⟨t1, r1, e1⟩ := done_of (o := (begun true (padTo 32 (ringEntry (rosterMsg 1))) (rosterMsg 1) (viewed (rosterMsg 1))).runOps (viewed (rosterMsg 1)))
    (by unfold State.runOps; rw [hs]; decide +kernel)
  obtain ⟨t3, r3, e3⟩ := done_of (o := (accepting).runOps (viewed (rosterMsg 1)))
    (by unfold State.runOps; rw [hs]; decide +kernel)
  refine ⟨⟨_, (g true [] []).1 .badLength ?_⟩, ⟨_, (g true (ringEntry (message 0x15 1 (zeros 8))) (message 0x15 1 (zeros 8))).2.1 (viewed (message 0x15 1 (zeros 8))) .kumQuorumShort ?_ ?_⟩,
    ⟨_, (p true 2 (.inr rfl)).1 t2 ix st e2⟩, ⟨_, (p false 1 (.inl rfl)).2.1 t0 r0 e0 ?_⟩, ⟨_, (p true 1 (.inl rfl)).2.2 t1 r1 e1 ?_ ?_ ?_⟩,
    ⟨_, h.2 0 { entry := [], msg := rosterMsg 1 } (viewed (rosterMsg 1)) accepting t3 r3 rfl ?_ ?_ ?_ e3⟩⟩
  · decide +kernel
  · decide +kernel
  · unfold State.kumChecks State.kumBinding; rw [hs]; decide +kernel
  · decide +kernel
  · decide +kernel
  · decide +kernel
  · decide +kernel
  · decide +kernel
  · unfold State.kumBinding; rw [hs]; decide +kernel
  · decide +kernel

/-- What an op comes to. -/
theorem op_done {o : OpOut} (h : (match o with | .done _ _ => true | _ => false) = true) : ∃ t k, o = .done t k := by
  cases o with
  | done t k => exact ⟨t, k, rfl⟩
  | fail _ _ => cases h
  | page _ _ _ => cases h
/-- `live` with keys. -/
def holds (ks : List KeyRec) : State := { live with ks := { live.ks with keys := ks.map (fun k => (hSlot k.handle, k)) } }
/-- A persistent key at index 5, and one under which keys are wrapped (of empty material: the cipher is then the identity). -/
def stored : KeyRec := { aes with handle := mkHandle 0 1 5 1, flags := 4 }
def kek : KeyRec := { aes with handle := mkHandle 0 1 6 1, flags := 4, cls := 4, usage := classUsage 4, mat := [] }
/-- The key that WRITE_KEY brings. -/
def written : NewKey := { alg := algAes, len := 16, cls := 1, cap := 0, usage := classUsage 1, flags := 4, uses := unlimited, mat := zeros 16 }
def writeOp : KeyOp :=
  { target := 0, handle := mkHandle 0 1 5 0, body := le 8 kek.handle ++ [4#8, 0#8, 0#8, 0#8, 1#8, 16#8, 1#8, 0#8] ++ le 4 (classUsage 1) ++ le 4 4 ++ le 4 unlimited ++
      le 2 24 ++ zeros 2 ++ [166#8, 89#8, 89#8, 166#8, 0#8, 0#8, 0#8, 28#8] ++ zeros 16 }
/-- An op on a key of instance 0. -/
def keyOp (h : Nat) (b : Bytes) : KeyOp := { target := 0, handle := h, body := b }

theorem witness_key_ops : Obligations.KeyOpsChangeStoredKeys →
    (∃ (t : State) (r : KeyRec), live.putPersistent (mkHandle 0 1 5 0) written none = .done t r.handle ∧ r.mat = written.mat) ∧
    (∃ e, Leads (.writeKey writeOp) (holds [kek]) e) ∧ (∃ e, Leads (.delete (keyOp h0 [])) (holds [aes]) e) ∧ (∃ e, Leads (.delete (keyOp stored.handle [])) (holds [stored]) e) ∧
    (∃ e, Leads (.replenish (keyOp stored.handle (le 4 100))) (holds [stored]) e) ∧ (∃ e, Leads (.replenish (keyOp h0 (le 4 100))) (holds [aes]) e) ∧
    (∃ e, Leads (.setAttributes (keyOp stored.handle (le 4 1 ++ le 4 4 ++ [13#8]))) (holds [stored]) e) ∧
    (∃ e, Leads (.markPersistent (keyOp h0 (le 8 (mkHandle 0 1 7 0) ++ le 4 4))) (holds [aes]) e) ∧ ∃ e, Leads (.setRoster (keyOp 0 (roster 1))) live e := by
  intro h
  obtain ⟨t, r, e, _, _, hm, _⟩ := h.1 (mkHandle 0 1 5 0) written none live (by decide +kernel) (by decide +kernel) (.inr (by decide +kernel))
  obtain ⟨t1, k1, e1⟩ := op_done (o := State.putPersistent (mkHandle 0 1 5 0) written none
    (((holds [kek]).decisions 2).when kek.counted (fun s => (s.hold (hSlot kek.handle)).release (hSlot kek.handle) true))) (by decide +kernel)
  obtain ⟨t2, k2, e2⟩ := op_done (o := State.putPersistent (leAt (keyOp h0 (le 8 (mkHandle 0 1 7 0) ++ le 4 4)).body 0 8)
      { alg := aes.alg, len := aes.len, cls := aes.cls, cap := aes.cap, usage := aes.usage, flags := leAt (keyOp h0 (le 8 (mkHandle 0 1 7 0) ++ le 4 4)).body 8 4, uses := aes.uses, mat := aes.mat } none
    (((((holds [aes]).decisions 2).touch 6 aes.handle).forgetUses (hSlot aes.handle)).eraseKey (hSlot aes.handle))) (by decide +kernel)
  refine ⟨⟨t, r, e, hm⟩, ⟨_, h.2.1 writeOp kek written none k1 (holds [kek]) t1 ?_ ?_ ?_ ?_ ?_ ?_ rfl ?_ ?_ ?_ ?_ rfl e1⟩,
    ⟨_, (h.2.2.1 (keyOp h0 []) aes (holds [aes]) ?_ rfl).1 ?_⟩, ⟨_, (h.2.2.1 (keyOp stored.handle []) stored (holds [stored]) ?_ rfl).2.1 ?_ ?_⟩,
    ⟨_, (h.2.2.1 (keyOp stored.handle (le 4 100)) stored (holds [stored]) ?_ rfl).2.2.1 ?_ ?_ ?_⟩,
    ⟨_, (h.2.2.1 (keyOp h0 (le 4 100)) aes (holds [aes]) ?_ rfl).2.2.2.1 ?_ ?_ ?_⟩,
    ⟨_, (h.2.2.1 (keyOp stored.handle (le 4 1 ++ le 4 4 ++ [13#8])) stored (holds [stored]) ?_ rfl).2.2.2.2.1 ?_ ?_ ?_ ?_ ?_ ?_ ?_ ?_⟩,
    ⟨_, (h.2.2.1 (keyOp h0 (le 8 (mkHandle 0 1 7 0) ++ le 4 4)) aes (holds [aes]) ?_ rfl).2.2.2.2.2 none k2 t2 ?_ ?_ ?_ ?_ ?_ rfl e2⟩,
    ⟨_, h.2.2.2 (keyOp 0 (roster 1)) live ?_ ?_⟩⟩
  all_goals decide +kernel

/-- A device whose domain awaits its first rosters; instance 1 exists. -/
def unrostered : State := with1 { inst1 .created with roster := zeros 16 }
/-- An op for the device. -/
def devOp (b : Bytes) : KeyOp := { target := 0xFFFF, handle := 0, body := b }

/-- Whether a debug token's signatures verify is open. -/
theorem witness_device_ops : Obligations.DeviceOpsActOnTheDevice →
    (∃ e, Leads (.setRosterDevice (devOp (roster 1))) unrostered e) ∧ (∃ e, Leads (.enrolImageAuthority (devOp (zeros 2689))) unrostered e) ∧
    (∃ e, Leads (.enrolDomainAuthority (devOp (zeros 2689))) unrostered e) ∧ (∃ e, Leads (.establishRoster (devOp (le 4 1 ++ le 4 1 ++ roster 1))) unrostered e) ∧
    (∃ e, Leads (.lifecycleStep (devOp (4#8 :: zeros 7))) unrostered e) ∧
    ((unrostered.decisions 2).tokenFail debugAllowed (zeros 4800) = none → ∃ e, Leads (.debugEnable (devOp (zeros 4800))) unrostered e) ∧
    (∃ e, Leads (.debugEnable (devOp (zeros 4800))) unrostered e) ∧ ∃ e, Leads (.clearTamper (devOp (le 2 0xFFFF ++ zeros 6))) unrostered e := by
  intro h
  have g (op : KeyOp) := h op unrostered (by decide +kernel) (by decide +kernel)
  refine ⟨⟨_, (g (devOp (roster 1))).1 ?_⟩, ⟨_, (g (devOp (zeros 2689))).2.1⟩, ⟨_, (g (devOp (zeros 2689))).2.2.1⟩,
    ⟨_, (g (devOp (le 4 1 ++ le 4 1 ++ roster 1))).2.2.2.1 ?_ ?_ ?_ ?_ ?_ ?_ ?_⟩, ⟨_, (g (devOp (4#8 :: zeros 7))).2.2.2.2.1 ?_ ?_ ?_ ?_⟩,
    fun ht => ⟨_, (g (devOp (zeros 4800))).2.2.2.2.2.1.1 ht⟩, ⟨_, (g (devOp (zeros 4800))).2.2.2.2.2.1.2 .badFieldValue ?_ ?_⟩, ⟨_, (g (devOp (le 2 0xFFFF ++ zeros 6))).2.2.2.2.2.2⟩⟩
  all_goals decide +kernel

/-- A service request for RANDOM, as queue pair 0 fetches it; `t` is its operand table. -/
def fetched (code : Nat) (t : Option Bytes) : ServiceFetch :=
  { qp := 0, desc := le 2 code ++ zeros 38 ++ zeros 24, table := t, segs := [], ins := [] }
/-- An operand table that names the queue pair's own flow and no operand. -/
def noOperands : Bytes := zeros 2 ++ le 2 1 ++ zeros 172
/-- Queue pair 0 of the PF has a request to fetch; instance 0's state is `st`. -/
def asked (st : InstState) (active : Bool) (bme : List Nat) : State :=
  { live with queues := [(0, { sqTail := 1 })], twin := { active := active }, pcie := { bmeOff := bme },
              inst := [(0, { d := { managerInst with st := st, lim := full } })] }
/-- A request for HASH that frond 0 runs (its queue pair, or none: it came over a session), with its result once it is a job. -/
def request (qp : Option Nat) (job transit : Bool) (stop : Option Status) : Item :=
  { stage := .running, admitted := true, transit := transit, qp := qp, job := job, result := if job then some {} else none, stopped := stop, inv := { fn := 0x0701 }, total := 1 }
def running (x : Item) : State := { live with queues := [(0, {})], disp := { live.disp with items := [(0, x)] } }
/-- A response that has waited since tick 0, at tick `n`. -/
def answering (n : Nat) : State := { running { request none true false none with sess := some 9, lateResponse := some (0, []) } with tick := { count := n } }

theorem witness_service : Obligations.ServiceRequestsBecomeItems →
    ((∃ e, Leads (.serviceDescriptorFetch (fetched 0x0B01 none)) (asked .enabled true [0]) e) ∧ (∃ e, Leads (.serviceDescriptorFetch (fetched 0x0B01 none)) (asked .enabled false []) e) ∧
      (∃ e, Leads (.serviceDescriptorFetch (fetched 0x0B01 none)) (asked .enabled true []) e) ∧
      (∃ e, Leads (.serviceDescriptorFetch (fetched 0x0B01 (some noOperands))) (asked .disabled true []) e) ∧
      ∃ e, Leads (.serviceDescriptorFetch (fetched 0x0B01 (some noOperands))) (asked .enabled true []) e) ∧
    (∃ e, Leads (.gatherFault 0 5 3) (running (request (some 0) true false none)) e) ∧
    ((∃ e, Leads (.quantumEnd ⟨0, none, 0⟩) (running (request (some 0) true true none)) e) ∧ (∃ e, Leads (.quantumEnd ⟨0, none, 0⟩) (running (request (some 0) true false (some .notActive))) e) ∧
      (∃ e, Leads (.quantumEnd ⟨0, none, 2⟩) (running (request (some 0) true false none)) e) ∧ (∃ e, Leads (.quantumEnd ⟨0, some (6, 1), 1⟩) (running (request (some 0) true false none)) e) ∧
      ∃ e, Leads (.quantumEnd ⟨0, none, 1⟩) (running (request (some 0) true false none)) e) ∧
    (∃ e, (running (request none true false none)).quantumOutput 0 (request none true false none) {} = e) ∧
    (∃ e, Leads (.serviceResponseTimeout 0) (answering 65536) e) ∧ ∃ e, Leads (.serviceResponseTimeout 0) (answering 65535) e := by
  intro h
  have q (st : InstState) (a : Bool) (b : List Nat) := h.1 (fetched 0x0B01 none) { sqTail := 1 } (asked st a b) rfl
  have q2 (st : InstState) (a : Bool) (b : List Nat) := h.1 (fetched 0x0B01 (some noOperands)) { sqTail := 1 } (asked st a b) rfl
  have g (x : Item) (e : QuantumEnd) := h.2.2.1 e x {} (running x)
  obtain ⟨es, hes⟩ : ∃ es, fetchCheck 0 { sqTail := 1 } (fetched 0x0B01 (some noOperands)) = .ok ((1, false, be 2 0), es) := ⟨_, rfl⟩
  obtain ⟨er, her⟩ : ∃ er, fetchCheck 0 { sqTail := 1 } (fetched 0x0B01 none) = .error er := ⟨_, rfl⟩
  refine ⟨⟨⟨_, (q .enabled true [0] ?_).1 ?_⟩, ⟨_, (q .enabled false [] ?_).2.1 ?_ ?_⟩, ⟨_, (q .enabled true [] ?_).2.2.1 er ?_ ?_ her⟩,
      ⟨_, ((q2 .disabled true [] ?_).2.2.2 1 false (be 2 0) es ?_ ?_ hes).1 .instanceDisabled ?_⟩, ⟨_, ((q2 .enabled true [] ?_).2.2.2 1 false (be 2 0) es ?_ ?_ hes).2 ?_⟩⟩,
    ⟨_, h.2.1 0 5 3 (request (some 0) true false none) (running (request (some 0) true false none)) ?_ ?_ ?_ ?_⟩,
    ⟨⟨_, (g (request (some 0) true true none) ⟨0, none, 0⟩ ?_ ?_).1 ?_⟩, ⟨_, ((g (request (some 0) true false (some .notActive)) ⟨0, none, 0⟩ ?_ ?_).2 ?_ ?_ ?_ ?_).1 .notActive ?_⟩,
      ⟨_, ((g (request (some 0) true false none) ⟨0, none, 2⟩ ?_ ?_).2 ?_ ?_ ?_ ?_).2.1 ?_ ?_⟩,
      ⟨_, ((g (request (some 0) true false none) ⟨0, some (6, 1), 1⟩ ?_ ?_).2 ?_ ?_ ?_ ?_).2.2.1 (6, 1) ?_ ?_ ?_⟩,
      ⟨_, ((g (request (some 0) true false none) ⟨0, none, 1⟩ ?_ ?_).2 ?_ ?_ ?_ ?_).2.2.2 ?_ ?_ ?_⟩⟩,
    ⟨_, h.2.2.2.1 0 (request none true false none) {} (running (request none true false none)) ?_ ?_⟩,
    ⟨_, (h.2.2.2.2 0 0 9 [] { request none true false none with sess := some 9, lateResponse := some (0, []) } (answering 65536) ?_ ?_ ?_ ?_).1 ?_⟩,
    ⟨_, (h.2.2.2.2 0 0 9 [] { request none true false none with sess := some 9, lateResponse := some (0, []) } (answering 65535) ?_ ?_ ?_ ?_).2 ?_⟩⟩ <;> decide +kernel

/-! Service requests that a frond runs. -/

/-- The item of an invocation. -/
def inv (v : Invoc) : Item := { stage := .running, admitted := true, inv := v }
/-- `live` with keys, a saved context at entry 3, and item 0. -/
def serving (v : Invoc) (ks : List KeyRec) (cs : Tbl CipherCtx) : State :=
  { holds ks with disp := { live.disp with items := [(0, inv v)] }, eng := { live.eng with ctxs := cs } }
/-- The keys of the invocation are found and held; it resumes the context of entry `e`, or none. -/
def after (v : Invoc) (ks : List KeyRec) (cs : Tbl CipherCtx) (f : FnSpec) (e : Option Nat) : State :=
  let s := serving v ks cs
  let r := s.takeKeys 0 v false (f.roles v)
  let u := r.2.2.2.modItem 0 (fun y => { y with used1 := r.2.1, used2 := r.2.2.1, ctxSlot := e })
  match e with
  | none => u
  | some e => { u with eng := { u.eng with ctxs := u.eng.ctxs.modify e (fun c => { c with holder := some 0, lastUse := u.tick.count }) } }

theorem runs {v : Invoc} {ks : List KeyRec} {cs : Tbl CipherCtx} (h : ((serving v ks cs).works && ((serving v ks cs).formStep v false).isNone) = true) :
    Runs v.fn 0 (inv v) (serving v ks cs) := by
  simp only [Bool.and_eq_true, Option.isNone_iff_eq_none] at h
  exact ⟨h.1, rfl, rfl, rfl, rfl, rfl, rfl, rfl, h.2⟩

theorem supplied {v : Invoc} {ks : List KeyRec} {cs : Tbl CipherCtx} (f : FnSpec) (cx : Option (Nat × CipherCtx)) (k1 k2 : KeyRec) (hf : fnSpec v.fn = some f)
    (hr : (serving v ks cs).resumeStep 0 0 v = .ok cx) (hk : ((serving v ks cs).takeKeys 0 v false (f.roles v)).1 = .got k1 k2)
    (hp : f.policy ((after v ks cs f (cx.map Prod.fst)).fnCtx (inv v) (cx.map Prod.snd) k1 k2) = none)
    (hn : (!f.random v || (after v ks cs f (cx.map Prod.fst)).rngOk) = true) :
    Supplied v.fn 0 (inv v) cx k1 k2 (serving v ks cs) (after v ks cs f (cx.map Prod.fst)) := by
  refine ⟨rfl, hr, f, _, _, _, hf, Prod.ext hk rfl, ?_, hp, fun hb => ?_⟩
  · cases cx <;> rfl
  · have hb' : f.random v = true := hb
    rw [hb'] at hn; simpa using hn

theorem served {v : Invoc} {ks : List KeyRec} {cs : Tbl CipherCtx} (f : FnSpec) (cx : Option (Nat × CipherCtx)) (k1 k2 : KeyRec) (hf : fnSpec v.fn = some f)
    (hw : ((serving v ks cs).works && ((serving v ks cs).formStep v false).isNone) = true) (hb : isPkFn v = false)
    (hr : (serving v ks cs).resumeStep 0 0 v = .ok cx) (hk : ((serving v ks cs).takeKeys 0 v false (f.roles v)).1 = .got k1 k2)
    (hp : f.policy ((after v ks cs f (cx.map Prod.fst)).fnCtx (inv v) (cx.map Prod.snd) k1 k2) = none)
    (hn : (!f.random v || (after v ks cs f (cx.map Prod.fst)).rngOk) = true) :
    Served v.fn 0 (inv v) cx k1 k2 (serving v ks cs) (after v ks cs f (cx.map Prod.fst)) :=
  ⟨runs hw, hb, supplied f cx k1 k2 hf hr hk hp hn⟩

/-- ENCRYPT, AES-CBC, of one block under `aes` (mat empty), with option bits `o`. -/
def aes0 : KeyRec := { aes with mat := [] }
def enc (o : Nat) (p1 : Nat) : Invoc :=
  { fn := 0x0601, opts := 2 + o, k1 := h0, p1 := p1, ins := [zeros 16, if o / 0x4000 % 2 = 1 then [] else zeros 16], cap0 := 16, cap1 := 4 }
/-- The context that its first piece leaves at entry 3. -/
def savedCtx : CipherCtx := { fn := 0x0601, opts := 2, k1 := h0, chain := zeros 16, textLen := 16, blockIx := 1 }
/-- A request for HASH. -/
def hashInv : Invoc := { fn := 0x0701, opts := 2, ins := [[1#8]], cap0 := 32 }

/-- VERIFY with no such key; MAC_GENERATE with a key in page 0. -/
def verifyInv : Invoc := { pkInv true with opts := 0x13 }
def macInv : Invoc := { fn := 0x0201, k1 := mkHandle 0 1 5 1, p1 := 3, cap0 := 16, ins := [[1#8]] }
def paging : State := { serving macInv [] [] with ks := { pages := [(0, { ver := 1 })] }, regs := [(oKpgControl, 1#64)] }

/-- A missing page. -/
theorem none_of {α β : Type} {p : Option α × β} (h : p.1.isNone = true) : ∃ b, p = (none, b) := by
  obtain ⟨o, b⟩ := p
  cases o with
  | none => exact ⟨b, rfl⟩
  | some _ => cases h

theorem witness_functions : Obligations.FunctionsRunInTheStepsOfR105 →
    (∃ e, Leads (.hash 0) (running { inv hashInv with waitSt := some .keyPageStale }) e) ∧ (∃ e, Leads (.hash 0) (serving { hashInv with opts := 0 } [] []) e) ∧
    (∃ e, Leads (.verify 0) (serving verifyInv [] []) e) ∧ (∃ e, Leads (.macGenerate 0) paging e) ∧
    (∃ e, Leads (.encrypt 0) (serving (enc 0 0) [] []) e) ∧ (∃ e, Leads (.hash 0) (serving hashInv [] []) e) ∧
    (∃ e, Leads (.encrypt 0) (serving (enc 0x8000 0) [aes0] []) e) ∧ (∃ e, Leads (.encrypt 0) (serving (enc 0xC000 3) [aes0] [(3, savedCtx)]) e) ∧
    ∃ e, Leads (.encrypt 0) (serving (enc 0x4000 3) [aes0] [(3, savedCtx)]) e := by
  intro h
  have g (i : Instr) (v : Invoc) (ks : List KeyRec) (cs : Tbl CipherCtx) (e : fnRowOf i = some (v.fn, 0)) := h i v.fn 0 (inv v) (serving v ks cs) e rfl rfl rfl rfl rfl rfl rfl
  obtain ⟨t, et⟩ := none_of (p := paging.runKeys 0 0 macInv false false) (by decide +kernel)
  obtain ⟨o1, t1, e1⟩ := pair_of (p := (serving (enc 0 0) [] []).runKeys 0 0 (enc 0 0) false false) (by decide +kernel)
  have s1 : o1.st = .keyExpired := by
    have : ((serving (enc 0 0) [] []).runKeys 0 0 (enc 0 0) false false).1.map FnOut.st = some .keyExpired := by decide +kernel
    rw [e1] at this; exact Option.some.inj this
  obtain ⟨o2, t2, e2⟩ := pair_of (p := (serving hashInv [] []).runKeys 0 0 hashInv false false) (by decide +kernel)
  have s2 : o2.st = .ok := by
    have : ((serving hashInv [] []).runKeys 0 0 hashInv false false).1.map FnOut.st = some .ok := by decide +kernel
    rw [e2] at this; exact Option.some.inj this
  obtain ⟨⟨id, u⟩, eu⟩ := some_of (o := ((after (enc 0x8000 0) [aes0] [] fnEncrypt none).computed (inv (enc 0x8000 0))
    (fnEncrypt.compute ((after (enc 0x8000 0) [aes0] [] fnEncrypt none).fnCtx (inv (enc 0x8000 0)) none aes0 {}))).newCtx 0 { fn := 0x0601, holder := some 0 }) (by decide +kernel)
  refine ⟨⟨_, (h (.hash 0) 0x0701 0 { inv hashInv with waitSt := some .keyPageStale } (running { inv hashInv with waitSt := some .keyPageStale }) rfl rfl rfl rfl rfl rfl rfl rfl).1 .keyPageStale rfl⟩,
    ⟨_, (g (.hash 0) { hashInv with opts := 0 } [] [] rfl).2.1 .badFieldValue rfl ?_⟩,
    ⟨_, ((g (.verify 0) verifyInv [] [] rfl).2.2.1 rfl ?_).1 ?_⟩,
    ⟨_, ((h (.macGenerate 0) 0x0201 0 (inv macInv) paging rfl rfl rfl rfl rfl rfl rfl rfl).2.2.1 rfl ?_).2.1 t ?_ et⟩,
    ⟨_, (((g (.encrypt 0) (enc 0 0) [] [] rfl).2.2.1 rfl ?_).2.2 o1 t1 ?_ e1).1 (.inr ⟨?_, ?_⟩)⟩,
    ⟨_, (((g (.hash 0) hashInv [] [] rfl).2.2.1 rfl ?_).2.2 o2 t2 ?_ e2).2 ?_ (.inl s2)⟩,
    ⟨_, (g (.encrypt 0) (enc 0x8000 0) [aes0] [] rfl).2.2.2.1 fnEncrypt aes0 {} _ (served fnEncrypt none aes0 {} rfl ?_ ?_ ?_ ?_ ?_ ?_) ?_ ?_ ?_ rfl ?_ ?_ id u eu⟩,
    ⟨_, ((g (.encrypt 0) (enc 0xC000 3) [aes0] [(3, savedCtx)] rfl).2.2.2.2 fnEncrypt 3 savedCtx aes0 {} _
      (served fnEncrypt (some (3, savedCtx)) aes0 {} rfl ?_ ?_ ?_ ?_ ?_ ?_) ?_ rfl ?_).1 ?_ ?_⟩,
    ⟨_, ((g (.encrypt 0) (enc 0x4000 3) [aes0] [(3, savedCtx)] rfl).2.2.2.2 fnEncrypt 3 savedCtx aes0 {} _
      (served fnEncrypt (some (3, savedCtx)) aes0 {} rfl ?_ ?_ ?_ ?_ ?_ ?_) ?_ rfl ?_).2 ?_⟩⟩
  all_goals first | decide +kernel | (rw [s1]; decide)

/-! PINs, MACs and cards. -/

def h1 : Nat := mkHandle 0 1 0xF000001 1
/-- Keys of class `cls` as K1 and K2: AES of empty material, or two-key TDES. -/
def aesKey (cls : Nat) (second : Bool) : KeyRec := { aes0 with handle := if second then h1 else h0, cls := cls, usage := classUsage cls }
def tdesKey (cls : Nat) (second : Bool) : KeyRec := { aesKey cls second with alg := algTdes, mat := zeros 16 }
/-- Digits 0. -/
def digits0 (n : Nat) : Bytes := List.replicate n 0x30#8
/-- PIN 1234 in format 4, for the PAN of twelve 0s, and its keys. -/
def pinBlk : Bytes := [0x44#8, 0x12#8, 0x34#8, 0xAA#8, 0xAA#8, 0xAA#8, 0xAA#8, 0xAA#8] ++ zeros 8
def pins : List KeyRec := [aesKey 2 false, aesKey 2 true]
def pinsT : List KeyRec := [aesKey 2 false, tdesKey 2 true]
def trans (b : Bytes) : Invoc := { fn := 0x0101, opts := 0x44, k1 := h0, k2 := h1, ins := [b, digits0 12], cap0 := 16 }
def verOff (b : Bytes) : Invoc := { fn := 0x0102, opts := 0x44, k1 := h0, k2 := h1, p1 := 0x5432109876543210, ins := [b, digits0 12, digits0 16, digits0 4] }
def verPvv (b : Bytes) : Invoc := { fn := 0x0103, opts := 0x04, k1 := h0, k2 := h1, ins := [b, digits0 12, digits0 4] }
def genOff (n : Nat) (b : Bytes) : Invoc := { fn := 0x0104, opts := 4 + 16 * n, k1 := h0, k2 := h1, p1 := 0x5432109876543210, ins := [b, digits0 12, digits0 16], cap0 := 5 }
/-- MACs by CMAC, and the cards' functions. -/
def macs : List KeyRec := [aesKey 3 false, aesKey 3 true]
def macGen : Invoc := { fn := 0x0201, k1 := h0, p1 := 3, ins := [[1#8]], cap0 := 16 }
def macVer : Invoc := { fn := 0x0202, k1 := h0, p1 := 3, ins := [[1#8], zeros 16] }
def macTrans (m : Bytes) : Invoc := { fn := 0x0203, k1 := h0, k2 := h1, p1 := 0x30003, ins := [[1#8], m], cap0 := 16 }
def arqc : Invoc := { fn := 0x0301, k1 := h0, ins := [digits0 12, [], zeros 2, [1#8], zeros 8] }
def arpc : Invoc := { fn := 0x0302, opts := 2, k1 := h0, ins := [digits0 12, [], zeros 2, zeros 8, zeros 4], cap0 := 4 }
def cardVer : Invoc := { fn := 0x0303, opts := 3, k1 := h0, ins := [digits0 12, digits0 4, digits0 3, digits0 3] }
def cardGen : Invoc := { fn := 0x0304, opts := 3, k1 := h0, ins := [digits0 12, digits0 4, digits0 3], cap0 := 3 }
def dukptDer : Invoc := { fn := 0x0401, opts := 1, k1 := h0, p3 := 1 + unlimited * 2 ^ 32, ins := [zeros 8 ++ [0#8, 0#8, 0#8, 1#8]], cap0 := 8 }

theorem witness_cards : Obligations.CardFunctionsAnswer →
    ((∃ e, Leads (.pinTranslate 0) (serving (trans (zeros 16)) pins []) e) ∧ ∃ e, Leads (.pinTranslate 0) (serving (trans pinBlk) pins []) e) ∧
    ((∃ e, Leads (.pinVerifyOffset 0) (serving (verOff (zeros 16)) pinsT []) e) ∧ ∃ e, Leads (.pinVerifyOffset 0) (serving (verOff pinBlk) pinsT []) e) ∧
    ((∃ e, Leads (.pinVerifyPvv 0) (serving (verPvv (zeros 16)) pinsT []) e) ∧ ∃ e, Leads (.pinVerifyPvv 0) (serving (verPvv pinBlk) pinsT []) e) ∧
    ((∃ e, Leads (.pinGenerateOffset 0) (serving (genOff 4 (zeros 16)) pinsT []) e) ∧ (∃ e, Leads (.pinGenerateOffset 0) (serving (genOff 5 pinBlk) pinsT []) e) ∧
      ∃ e, Leads (.pinGenerateOffset 0) (serving (genOff 4 pinBlk) pinsT []) e) ∧
    (∃ e, Leads (.macGenerate 0) (serving macGen macs []) e) ∧ (∃ e, Leads (.macVerify 0) (serving macVer macs []) e) ∧
    ((∃ e, Leads (.macTranslate 0) (serving (macTrans (cmac [] [1#8])) macs []) e) ∧ ∃ e, Leads (.macTranslate 0) (serving (macTrans (zeros 16)) macs []) e) ∧
    ((∃ e, Leads (.arqcVerify 0) (serving arqc [aesKey 5 false] []) e) ∧ ∃ e, Leads (.arpcGenerate 0) (serving arpc [aesKey 5 false] []) e) ∧
    ((∃ e, Leads (.cardValueVerify 0) (serving cardVer [tdesKey 5 false] []) e) ∧ ∃ e, Leads (.cardValueGenerate 0) (serving cardGen [tdesKey 5 false] []) e) ∧
    ∃ e, Leads (.dukptDerive 0) (serving dukptDer [aesKey 6 false] []) e := by
  intro h
  have g (v : Invoc) (ks : List KeyRec) (f : FnSpec) (k1 k2 : KeyRec) := h 0 (inv v) k1 k2 (serving v ks []) (after v ks [] f none)
  have a (v : Invoc) := g v pins fnPinTranslate (aesKey 2 false) (aesKey 2 true)
  have b (f : FnSpec) (v : Invoc) := g v pinsT f (aesKey 2 false) (tdesKey 2 true)
  have m (f : FnSpec) (v : Invoc) := g v macs f (aesKey 3 false)
  refine ⟨⟨⟨_, ((a (trans (zeros 16))).1 (served fnPinTranslate none _ _ rfl ?_ ?_ ?_ ?_ ?_ ?_)).1 ?_⟩,
      ⟨_, ((a (trans pinBlk)).1 (served fnPinTranslate none _ _ rfl ?_ ?_ ?_ ?_ ?_ ?_)).2 [1, 2, 3, 4] ?_⟩⟩,
    ⟨⟨_, ((b fnPinVerifyOffset (verOff (zeros 16))).2.1 (served fnPinVerifyOffset none _ _ rfl ?_ ?_ ?_ ?_ ?_ ?_)).1 ?_⟩,
      ⟨_, ((b fnPinVerifyOffset (verOff pinBlk)).2.1 (served fnPinVerifyOffset none _ _ rfl ?_ ?_ ?_ ?_ ?_ ?_)).2 [1, 2, 3, 4] ?_⟩⟩,
    ⟨⟨_, ((b fnPinVerifyPvv (verPvv (zeros 16))).2.2.1 (served fnPinVerifyPvv none _ _ rfl ?_ ?_ ?_ ?_ ?_ ?_)).1 ?_⟩,
      ⟨_, ((b fnPinVerifyPvv (verPvv pinBlk)).2.2.1 (served fnPinVerifyPvv none _ _ rfl ?_ ?_ ?_ ?_ ?_ ?_)).2 [1, 2, 3, 4] ?_⟩⟩,
    ⟨⟨_, ((b fnPinGenerateOffset (genOff 4 (zeros 16))).2.2.2.1 (served fnPinGenerateOffset none _ _ rfl ?_ ?_ ?_ ?_ ?_ ?_)).1 ?_⟩,
      ⟨_, (((b fnPinGenerateOffset (genOff 5 pinBlk)).2.2.2.1 (served fnPinGenerateOffset none _ _ rfl ?_ ?_ ?_ ?_ ?_ ?_)).2 [1, 2, 3, 4] ?_).1 ?_⟩,
      ⟨_, (((b fnPinGenerateOffset (genOff 4 pinBlk)).2.2.2.1 (served fnPinGenerateOffset none _ _ rfl ?_ ?_ ?_ ?_ ?_ ?_)).2 [1, 2, 3, 4] ?_).2 ?_⟩⟩,
    ⟨_, (m fnMacGenerate macGen {}).2.2.2.2.1 (served fnMacGenerate none _ _ rfl ?_ ?_ ?_ ?_ ?_ ?_)⟩,
    ⟨_, (m fnMacVerify macVer {}).2.2.2.2.2.1 (served fnMacVerify none _ _ rfl ?_ ?_ ?_ ?_ ?_ ?_)⟩,
    ⟨⟨_, ((m fnMacTranslate (macTrans (cmac [] [1#8])) (aesKey 3 true)).2.2.2.2.2.2.1 (served fnMacTranslate none _ _ rfl ?_ ?_ ?_ ?_ ?_ ?_)).1 ?_⟩,
      ⟨_, ((m fnMacTranslate (macTrans (zeros 16)) (aesKey 3 true)).2.2.2.2.2.2.1 (served fnMacTranslate none _ _ rfl ?_ ?_ ?_ ?_ ?_ ?_)).2 ?_⟩⟩,
    ⟨⟨_, (g arqc [aesKey 5 false] fnArqcVerify (aesKey 5 false) {}).2.2.2.2.2.2.2.1.1 (served fnArqcVerify none _ _ rfl ?_ ?_ ?_ ?_ ?_ ?_)⟩,
      ⟨_, (g arpc [aesKey 5 false] fnArpcGenerate (aesKey 5 false) {}).2.2.2.2.2.2.2.1.2 (served fnArpcGenerate none _ _ rfl ?_ ?_ ?_ ?_ ?_ ?_)⟩⟩,
    ⟨⟨_, (g cardVer [tdesKey 5 false] fnCardValueVerify (tdesKey 5 false) {}).2.2.2.2.2.2.2.2.1.1 (served fnCardValueVerify none _ _ rfl ?_ ?_ ?_ ?_ ?_ ?_)⟩,
      ⟨_, (g cardGen [tdesKey 5 false] fnCardValueGenerate (tdesKey 5 false) {}).2.2.2.2.2.2.2.2.1.2 (served fnCardValueGenerate none _ _ rfl ?_ ?_ ?_ ?_ ?_ ?_)⟩⟩,
    ⟨_, (g dukptDer [aesKey 6 false] fnDukptDerive (aesKey 6 false) {}).2.2.2.2.2.2.2.2.2 (served fnDukptDerive none _ _ rfl ?_ ?_ ?_ ?_ ?_ ?_)⟩⟩
  all_goals decide +kernel

/-! Data, tokens, digests and keys. -/

/-- New-key parameters: an AES-128 data key that expires at reset, its uses unlimited. -/
def newP2 : Nat := 0x11001 + classUsage 1 * 2 ^ 32
def newP3 : Nat := 1 + unlimited * 2 ^ 32
def newAes : NewKey := { newKeyOf 0x11001 (classUsage 1) 1 unlimited with mat := zeros 16 }
def derive : Invoc := { fn := 0x0402, k1 := h0, p2 := newP2, p3 := newP3, cap0 := 8 }
def tokenInv (fn : Nat) : Invoc := { fn := fn, k1 := h0, ins := [digits0 12], cap0 := 12 }
def tokenKey : KeyRec := { aesKey 7 false with len := 32 }
def sealInv : Invoc := { fn := 0x0603, opts := 5, k1 := h0, ins := [[1#8], zeros 12], cap0 := 17 }
def openInv : Invoc := { fn := 0x0604, opts := 5, k1 := h0, ins := [zeros 17, zeros 12], cap0 := 1 }
def hmacKey : KeyRec := { aesKey 3 false with alg := algHmac, len := 32, mat := zeros 32 }
def hmacInv (verify : Bool) : Invoc :=
  { fn := if verify then 0x0703 else 0x0702, opts := 2, k1 := h0, ins := if verify then [[1#8], zeros 32] else [[1#8]], cap0 := 32 }
def generate : Invoc := { fn := 0x0A01, p2 := newP2, p3 := newP3, cap0 := 8 }
/-- An import by KWP under `kek`, of a wrapped key of zeros, or of something that does not unwrap. -/
def importInv (b : Bytes) : Invoc := { fn := 0x0A02, opts := 4, k1 := kek.handle, p2 := newP2, p3 := newP3, ins := [b], cap0 := 8 }
def wrapped : Bytes := [166#8, 89#8, 89#8, 166#8, 0#8, 0#8, 0#8, 28#8] ++ zeros 16
def exported : KeyRec := { aesKey 1 true with flags := 3, mat := zeros 16 }
def exportInv : Invoc := { fn := 0x0A03, opts := 4, k1 := kek.handle, k2 := h1, cap0 := 24 }
def checkInv : Invoc := { fn := 0x0A04, k1 := h0, cap0 := 5 }
def randomInv : Invoc := { fn := 0x0B01, p1 := 8, cap0 := 8 }
def reseedInv : Invoc := { fn := 0x0B02 }
def ctxExport : Invoc := { fn := 0x0605, p1 := 3, cap0 := 136 }
def ctxImport (b : Byte) : Invoc := { fn := 0x0606, ins := [b :: zeros 135], cap0 := 4 }

/-- Whether bytes open under the context key, which rests on the device's secret, is a premise of its witness. -/
theorem witness_data : Obligations.DataFunctionsAnswer →
    (∃ e, Leads (.keyDerive 0) (serving derive [aesKey 8 false] []) e) ∧
    ((∃ e, Leads (.tokenise 0) (serving (tokenInv 0x0501) [tokenKey] []) e) ∧ ∃ e, Leads (.detokenise 0) (serving (tokenInv 0x0502) [tokenKey] []) e) ∧
    ((∃ e, Leads (.encrypt 0) (serving (enc 0 0) [aes0] []) e) ∧ ∃ e, Leads (.decrypt 0) (serving { enc 0 0 with fn := 0x0602 } [aes0] []) e) ∧
    ((∃ e, Leads (.aeadSeal 0) (serving sealInv [aes0] []) e) ∧ ∃ e, Leads (.aeadOpen 0) (serving openInv [aes0] []) e) ∧
    ((∃ e, Leads (.hash 0) (serving hashInv [] []) e) ∧ (∃ e, Leads (.hmacGenerate 0) (serving (hmacInv false) [hmacKey] []) e) ∧
      ∃ e, Leads (.hmacVerify 0) (serving (hmacInv true) [hmacKey] []) e) ∧
    ((∃ e, Leads (.keyGenerate 0) (serving generate [] []) e) ∧ (∃ e, Leads (.keyImportBlock 0) (serving (importInv wrapped) [kek] []) e) ∧
      (∃ e, Leads (.keyImportBlock 0) (serving (importInv (zeros 24)) [kek] []) e) ∧ (∃ e, Leads (.keyExportBlock 0) (serving exportInv [kek, exported] []) e) ∧
      ∃ e, Leads (.keyCheckValue 0) (serving checkInv [aes0] []) e) ∧
    ((∃ e, Leads (.random 0) (serving randomInv [] []) e) ∧ ∃ e, Leads (.drbgReseed 0) (serving reseedInv [] []) e) ∧
    ((∃ e, Leads (.contextExport 0) (serving ctxExport [] [(3, savedCtx)]) e) ∧ (∃ e, Leads (.contextImport 0) (serving (ctxImport 0) [] []) e) ∧
      (ctxOpen ((serving (ctxImport 1) [] []).contextKey 0) 0 ((ctxImport 1).inp 0) = some savedCtx → ∃ e, Leads (.contextImport 0) (serving (ctxImport 1) [] []) e)) := by
  intro h
  have g (v : Invoc) (ks : List KeyRec) (f : FnSpec) (k1 k2 : KeyRec) := h.1 0 (inv v) k1 k2 (serving v ks []) (after v ks [] f none)
  obtain ⟨⟨id, u⟩, eu⟩ := some_of (o := (serving (ctxImport 1) [] []).newCtx 0 savedCtx) (by decide +kernel)
  refine ⟨⟨_, (g derive [aesKey 8 false] fnKeyDerive (aesKey 8 false) {}).1 (served fnKeyDerive none _ _ rfl ?_ ?_ ?_ ?_ ?_ ?_)⟩,
    ⟨⟨_, (g (tokenInv 0x0501) [tokenKey] fnTokenise tokenKey {}).2.1 (served fnTokenise none _ _ rfl ?_ ?_ ?_ ?_ ?_ ?_)⟩,
      ⟨_, (g (tokenInv 0x0502) [tokenKey] fnDetokenise tokenKey {}).2.2.1 (served fnDetokenise none _ _ rfl ?_ ?_ ?_ ?_ ?_ ?_)⟩⟩,
    ⟨⟨_, (g (enc 0 0) [aes0] fnEncrypt aes0 {}).2.2.2.1.1 (served fnEncrypt none _ _ rfl ?_ ?_ ?_ ?_ ?_ ?_) ?_⟩,
      ⟨_, (g { enc 0 0 with fn := 0x0602 } [aes0] fnDecrypt aes0 {}).2.2.2.1.2 (served fnDecrypt none _ _ rfl ?_ ?_ ?_ ?_ ?_ ?_) ?_⟩⟩,
    ⟨⟨_, ((g sealInv [aes0] fnAeadSeal aes0 {}).2.2.2.2.1 (served fnAeadSeal none _ _ rfl ?_ ?_ ?_ ?_ ?_ ?_) ?_).2⟩,
      ⟨_, ((g openInv [aes0] fnAeadOpen aes0 {}).2.2.2.2.2.1 (served fnAeadOpen none _ _ rfl ?_ ?_ ?_ ?_ ?_ ?_) ?_).2⟩⟩,
    ⟨⟨_, (g hashInv [] fnHash {} {}).2.2.2.2.2.2.1 (served fnHash none _ _ rfl ?_ ?_ ?_ ?_ ?_ ?_)⟩,
      ⟨_, (g (hmacInv false) [hmacKey] fnHmacGenerate hmacKey {}).2.2.2.2.2.2.2.1.1 (served fnHmacGenerate none _ _ rfl ?_ ?_ ?_ ?_ ?_ ?_)⟩,
      ⟨_, (g (hmacInv true) [hmacKey] fnHmacVerify hmacKey {}).2.2.2.2.2.2.2.1.2 (served fnHmacVerify none _ _ rfl ?_ ?_ ?_ ?_ ?_ ?_)⟩⟩,
    ⟨⟨_, (g generate [] fnKeyGenerate {} {}).2.2.2.2.2.2.2.2.1 (served fnKeyGenerate none _ _ rfl ?_ ?_ ?_ ?_ ?_ ?_)⟩,
      ⟨_, (g (importInv wrapped) [kek] fnKeyImportBlock kek {}).2.2.2.2.2.2.2.2.2.1 newAes (served fnKeyImportBlock none _ _ rfl ?_ ?_ ?_ ?_ ?_ ?_) ?_ ?_ ?_⟩,
      ⟨_, (g (importInv (zeros 24)) [kek] fnKeyImportBlock kek {}).2.2.2.2.2.2.2.2.2.2.1 .tagMismatch (served fnKeyImportBlock none _ _ rfl ?_ ?_ ?_ ?_ ?_ ?_) ?_⟩,
      ⟨_, (g exportInv [kek, exported] fnKeyExportBlock kek exported).2.2.2.2.2.2.2.2.2.2.2.1 (served fnKeyExportBlock none _ _ rfl ?_ ?_ ?_ ?_ ?_ ?_)⟩,
      ⟨_, (g checkInv [aes0] fnKeyCheckValue aes0 {}).2.2.2.2.2.2.2.2.2.2.2.2.1 (served fnKeyCheckValue none _ _ rfl ?_ ?_ ?_ ?_ ?_ ?_)⟩⟩,
    ⟨⟨_, (g randomInv [] fnRandom {} {}).2.2.2.2.2.2.2.2.2.2.2.2.2.1 (served fnRandom none _ _ rfl ?_ ?_ ?_ ?_ ?_ ?_)⟩,
      ⟨_, (g reseedInv [] fnDrbgReseed {} {}).2.2.2.2.2.2.2.2.2.2.2.2.2.2 (served fnDrbgReseed none _ _ rfl ?_ ?_ ?_ ?_ ?_ ?_)⟩⟩,
    ⟨⟨_, h.2.1 0 3 (inv ctxExport) savedCtx (serving ctxExport [] [(3, savedCtx)]) (runs (v := ctxExport) ?_) rfl ?_ rfl ?_ ?_ ?_⟩,
      ⟨_, (h.2.2 0 (inv (ctxImport 0)) (serving (ctxImport 0) [] []) (runs (v := ctxImport 0) ?_)).1 ?_⟩,
      fun ho => ⟨_, (h.2.2 0 (inv (ctxImport 1)) (serving (ctxImport 1) [] []) (runs (v := ctxImport 1) ?_)).2 savedCtx id u ho eu⟩⟩⟩
  all_goals decide +kernel

/-! Public-key functions. -/

/-- An EC P-256 key with usage `u` and class `cls`, an ML-KEM key, and the invocations. -/
def pkKey (alg cls u : Nat) : KeyRec := { aes0 with alg := alg, len := 1, cls := cls, usage := 2 ^ u, handle := mkHandle 0 2 0xF000000 1 }
def signInv : Invoc := { fn := 0x0801, opts := 0x13, k1 := mkHandle 0 2 0xF000000 1, ins := [[1#8]], cap0 := 64 }
def verInv : Invoc := { fn := 0x0802, opts := 0x13, k1 := mkHandle 0 2 0xF000000 1, ins := [[1#8], [], zeros 64] }
def agreeInv : Invoc := { fn := 0x0901, opts := 1, k1 := mkHandle 0 2 0xF000000 1, p2 := newP2, p3 := newP3, ins := [zeros 65], cap0 := 8 }
def encapsInv : Invoc := { fn := 0x0902, opts := 0x11, p2 := newP2, p3 := newP3, ins := [zeros 800], cap0 := 768, cap1 := 8 }
def decapsInv : Invoc := { fn := 0x0903, opts := 1, k1 := mkHandle 0 2 0xF000000 1, p2 := newP2, p3 := newP3, ins := [zeros 768], cap0 := 8 }
def attestInv : Invoc := { fn := 0x0C01, ins := [zeros 8], cap0 := 65536 }
def genPk : Invoc := { fn := 0x0A01, p2 := 0x100111 + 2 ^ uSign * 2 ^ 32, p3 := newP3, cap0 := 8, cap1 := 65 }
def importPk : Invoc := { fn := 0x0A02, opts := 5, k1 := mkHandle 0 2 5 1, p2 := newP2, p3 := newP3, ins := [zeros 256], cap0 := 8 }
def exportPk : Invoc := { fn := 0x0A03, opts := 5, k1 := mkHandle 0 2 5 1, k2 := h1, cap0 := 256 }

/-- The policy of KEM_ENCAPS without an anchor. -/
theorem encaps_policy {c : FnCtx} (hl : ((c.inv.inp 0).length == publicLen algKem (kemSet c.inv c.k1) && decide (kemCtLen (kemSet c.inv c.k1) ≤ c.inv.cap0)) = true)
    (h0 : (c.inv.k1 == 0) = true) (hk : Config.kemKeyOk (kemSet c.inv c.k1) (c.inv.inp 0) = true) (hn : agreeNewFail c none = none) : fnKemEncaps.policy c = none := by
  simp only [Bool.and_eq_true, beq_iff_eq, decide_eq_true_eq] at hl h0
  simp [fnKemEncaps, firstFail, lenIs, valIs, hl, h0, hk, hn]

/-- What a primitive computes is open (log 9): the rounds of a signature, whether there is an agreed secret, whether an encapsulation key is
one, and the length of a statement are cases or premises here. -/
theorem witness_public_key : Obligations.PublicKeyFunctionsAnswer →
    ((∃ e, Leads (.sign 0) (serving signInv [] []) e) ∧ (∃ e, Leads (.verify 0) (serving verInv [] []) e) ∧ (∃ e, Leads (.keyAgree 0) (serving agreeInv [] []) e) ∧
      (∃ e, Leads (.kemEncaps 0) (serving encapsInv [] []) e) ∧ (∃ e, Leads (.kemDecaps 0) (serving decapsInv [] []) e) ∧ (∃ e, Leads (.attest 0) (serving attestInv [] []) e) ∧
      (∃ e, Leads (.keyGenerate 0) (serving genPk [] []) e) ∧ (∃ e, Leads (.keyImportBlock 0) (serving importPk [] []) e) ∧
      ∃ e, Leads (.keyExportBlock 0) (serving exportPk [] []) e) ∧
    (∃ e, (serving signInv [pkKey algEc 0x10 uSign] []).runKeys 0 0 signInv false false = e) ∧
    (∃ e, (serving verInv [pkKey algEc 0x11 uVerify] []).runKeys 0 0 verInv false false = e) ∧
    (∃ e, (serving agreeInv [pkKey algEc 0x10 uAgree] []).runKeys 0 0 agreeInv false false = e) ∧
    (Config.kemKeyOk 1 (zeros 800) = true → ∃ e, (serving encapsInv [] []).runKeys 0 0 encapsInv false false = e) ∧
    (∃ e, (serving decapsInv [pkKey algKem 0x10 uDecapsulate] []).runKeys 0 0 decapsInv false false = e) ∧
    (((after attestInv [] [] fnAttest none).statement false 0 (zeros 8) (after attestInv [] [] fnAttest none).free).length ≤ 65536 →
      ∃ e, (serving attestInv [] []).runKeys 0 0 attestInv false false = e) := by
  intro h
  have g (v : Invoc) (ks : List KeyRec) (f : FnSpec) (k1 : KeyRec) := h 0 (inv v) k1 {} (serving v ks []) (after v ks [] f none)
  have w (v : Invoc) := g v [] fnSign {}
  refine ⟨⟨⟨_, (w signInv).1 (runs (v := signInv) ?_)⟩, ⟨_, (w verInv).2.1 (runs (v := verInv) ?_)⟩, ⟨_, (w agreeInv).2.2.1 (runs (v := agreeInv) ?_)⟩,
      ⟨_, (w encapsInv).2.2.2.1 (runs (v := encapsInv) ?_)⟩, ⟨_, (w decapsInv).2.2.2.2.1 (runs (v := decapsInv) ?_)⟩, ⟨_, (w attestInv).2.2.2.2.2.1 (runs (v := attestInv) ?_)⟩,
      ⟨_, (w genPk).2.2.2.2.2.2.1 (runs (v := genPk) ?_) ?_⟩, ⟨_, (w importPk).2.2.2.2.2.2.2.1 (runs (v := importPk) ?_) ?_⟩,
      ⟨_, (w exportPk).2.2.2.2.2.2.2.2.1 (runs (v := exportPk) ?_) ?_⟩⟩, ?_, ?_, ?_, ?_, ?_, ?_⟩
  iterate 12 decide +kernel
  · have s := supplied (v := signInv) (ks := [pkKey algEc 0x10 uSign]) (cs := []) fnSign none (pkKey algEc 0x10 uSign) {} rfl (by decide +kernel) (by decide +kernel) (by decide +kernel) (by decide +kernel)
    have q := g signInv [pkKey algEc 0x10 uSign] fnSign (pkKey algEc 0x10 uSign)
    rcases Nat.lt_or_ge 256 (Config.signIterations (pkKey algEc 0x10 uSign).alg (pkKey algEc 0x10 uSign).len (pkKey algEc 0x10 uSign).mat [1#8]
        (freeBytes (after signInv [pkKey algEc 0x10 uSign] [] fnSign none).free 96)) with hi | hi
    · exact ⟨_, q.2.2.2.2.2.2.2.2.2.2.1 s hi⟩
    · exact ⟨_, q.2.2.2.2.2.2.2.2.2.1 s hi⟩
  · exact ⟨_, (g verInv [pkKey algEc 0x11 uVerify] fnVerify (pkKey algEc 0x11 uVerify)).2.2.2.2.2.2.2.2.2.2.2.1
      (supplied (v := verInv) fnVerify none _ _ rfl (by decide +kernel) (by decide +kernel) (by decide +kernel) (by decide +kernel))⟩
  · have s := supplied (v := agreeInv) (ks := [pkKey algEc 0x10 uAgree]) (cs := []) fnKeyAgree none (pkKey algEc 0x10 uAgree) {} rfl (by decide +kernel) (by decide +kernel) (by decide +kernel) (by decide +kernel)
    have q := (g agreeInv [pkKey algEc 0x10 uAgree] fnKeyAgree (pkKey algEc 0x10 uAgree)).2.2.2.2.2.2.2.2.2.2.2.2.1 s
    cases hz : Config.ecdh (pkKey algEc 0x10 uAgree).alg (pkKey algEc 0x10 uAgree).len (pkKey algEc 0x10 uAgree).mat (agreeInv.inp 0) with
    | none => exact ⟨_, q.2 hz⟩
    | some z => exact ⟨_, q.1 z hz⟩
  · intro hk
    exact ⟨_, (g encapsInv [] fnKemEncaps {}).2.2.2.2.2.2.2.2.2.2.2.2.2.1
      (supplied (v := encapsInv) fnKemEncaps none _ _ rfl (by decide +kernel) (by decide +kernel) (encaps_policy (by decide +kernel) (by decide +kernel) hk (by decide +kernel)) (by decide +kernel))⟩
  · exact ⟨_, (g decapsInv [pkKey algKem 0x10 uDecapsulate] fnKemDecaps (pkKey algKem 0x10 uDecapsulate)).2.2.2.2.2.2.2.2.2.2.2.2.2.2.1
      (supplied (v := decapsInv) fnKemDecaps none _ _ rfl (by decide +kernel) (by decide +kernel) (by decide +kernel) (by decide +kernel))⟩
  · intro hl
    exact ⟨_, (g attestInv [] fnAttest {}).2.2.2.2.2.2.2.2.2.2.2.2.2.2.2
      (supplied (v := attestInv) fnAttest none _ _ rfl (by decide +kernel) (by decide +kernel) (by
        have hf : fnAttest.policy ((after attestInv [] [] fnAttest none).fnCtx (inv attestInv) none {} {}) =
            firstFail [lenIs (decide (((after attestInv [] [] fnAttest none).statement false 0 (zeros 8) (after attestInv [] [] fnAttest none).free).length ≤ 65536))] := rfl
        rw [Option.map_none, Option.map_none, hf, decide_eq_true hl]; rfl) (by decide +kernel))⟩

/-! Stitches. -/

/-- A message whose seam is the stitch `t`, with variable 0 set to one byte 1. -/
def passing : Item := { stage := .running, admitted := true, transit := true, msg := some {}, vars := [(0, [1#8])] }
/-- A stitch. -/
def st1 (op flags a b ix imm : Nat) : Stitch := ⟨op, flags, a, b, ix, imm⟩
/-- Invocations that an APPLY may name: HASH, VERIFY, a MAC, and one of no function. -/
def applied : List ApplyEntry := [{ inv := hashInv, ins := [0x8000], out0 := 0x8002 }, { inv := verifyInv }, { inv := macInv, ins := [0x8000] }]
/-- A seam of failure disposition `disp` with the stitch `t` twice. -/
def seam1 (t : Stitch) (disp : Nat) : SeamSec := { seams := [(0, { disp := disp, handler := 1, stitches := [t, t] })], entries := applied }
/-- A configuration with it, whose pattern has one field, and a selector table. -/
def sewn (t : Stitch) (disp : Nat) : LastConfig :=
  { cfg with seams := seam1 t disp, tables := [{ entries := [([1#8], 5)] }], pats := { patterns := [(0, { fields := [default] })] } }
/-- `live` with message 0 at the seam's first stitch. -/
def sewing (t : Stitch) (disp : Nat) (x : Item) : State :=
  let s : State := { live with last := { cfgs := [(0, sewn t disp)], cur := some 0 } }
  { s with disp := { live.disp with items := [(0, x)], flows := [(3, {})] } }

theorem witness_stitches : Obligations.StitchesReadAndWrite →
    ((∃ e, (sewing (st1 opTest 0 0 0 0 0) 0 passing).endStitch 0 (st1 opTest 0 0 0 0 0) .ok 1 = e) ∧ (∃ e, (sewing (st1 opTest 0 0 0 0 0) 0 passing).endStitch 0 (st1 opTest 0 0 0 0 0) .noRoute 1 = e) ∧
      (∃ e, (sewing (st1 opTest 0 0 0 0 0) 2 passing).takeFailure 0 0 = e) ∧ ∃ e, (sewing (st1 opTest 0 0 0 0 0) 2 passing).takeFailure 0 1 = e) ∧
    ((∃ e, Leads (.extract 0) (sewing (st1 opExtract 0 0 0x8001 0 0) 0 passing) e) ∧ (∃ e, Leads (.extract 0) (sewing (st1 opExtract 0 0x8000 0x8001 0 (3 * 2 ^ 32)) 0 passing) e) ∧
      ∃ e, Leads (.extract 0) (sewing (st1 opExtract 0 0x8000 0x8001 0 0) 0 passing) e) ∧
    ((∃ e, Leads (.selectKey 0) (sewing (st1 opSelectKey 0 0 0 0 0) 0 passing) e) ∧ ∃ e, Leads (.selectKey 0) (sewing (st1 opSelectKey 0 0x8000 0 0 0) 0 passing) e) ∧
    ((∃ e, Leads (.rewrite 0) (sewing (st1 opRewrite 1 0 0x8000 0 0) 0 passing) e) ∧ (∃ e, Leads (.rewrite 0) (sewing (st1 opRewrite 1 0 0x2000 0 0) 0 passing) e) ∧
      (∃ e, Leads (.rewrite 0) (sewing (st1 opRewrite 0 0 0x8001 0 (2 ^ 48)) 0 passing) e) ∧ ∃ e, Leads (.rewrite 0) (sewing (st1 opRewrite 0 0 0x3000 0 (2 ^ 48)) 0 passing) e) ∧
    ((∃ e, Leads (.test 0) (sewing (st1 opTest 0 0x8000 0 0 (2 ^ 60)) 0 passing) e) ∧ (∃ e, Leads (.skipIf 0) (sewing (st1 opSkipIf 0 0 0 0 1) 0 passing) e) ∧
      ∃ e, Leads (.skipIf 0) (sewing (st1 opSkipIf 1 0 0 0 1) 0 passing) e) ∧
    ((∃ e, Leads (.route 0) (sewing (st1 opRoute 0 0 0 0 9) 0 passing) e) ∧ (∃ e, Leads (.route 0) (sewing (st1 opRoute 1 0 0 0 0) 0 passing) e) ∧
      ∃ e, Leads (.route 0) (sewing (st1 opRoute 1 0x8000 0 0 0) 0 passing) e) ∧
    ((∃ e, Leads (.count 0) (sewing (st1 opCount 0 0 0 2 7) 0 passing) e) ∧ (∃ e, Leads (.hold 0) (sewing (st1 opHold 0 0 0 0 3) 0 passing) e)) ∧
    ((∃ e, Leads (.setFlow 0) (sewing (st1 opSetFlow 0 0 0 0 0) 0 { passing with flow := 3 }) e) ∧ (∃ e, Leads (.setFlow 0) (sewing (st1 opSetFlow 0 0 0 0 0) 0 passing) e) ∧
      ∃ e, Leads (.setFlow 0) { sewing (st1 opSetFlow 0 0 0 0 0) 0 passing with disp := { live.disp with items := [(0, passing), (1, { passing with flow := 3 })], flows := [(3, {})] } } e) := by
  intro h
  have z (op : Nat) (t : Stitch) (x : Item) (d : Nat) (hx : (x == passing) = true) (ht : t.op = op) : Stitching op 0 x t (sewing t d x) := by
    rw [beq_iff_eq.mp hx]; exact ⟨⟨rfl, rfl⟩, rfl, rfl, rfl, rfl, rfl, rfl, ht⟩
  have y3 (t : Stitch) (ht : t.op = opSetFlow) : Stitching opSetFlow 0 { passing with flow := 3 } t (sewing t 0 { passing with flow := 3 }) :=
    ⟨⟨rfl, rfl⟩, rfl, rfl, rfl, rfl, rfl, rfl, ht⟩
  have e3 (x : Item) (t : Stitch) (s : State) := (h.2.2.1 0 x t s)
  have k (t : Stitch) := h.2.2.2.1 0 passing t (sewing t 0 passing)
  have r (t : Stitch) := h.2.2.2.2.1 0 passing t {} (sewing t 0 passing)
  have q (t : Stitch) := h.2.2.2.2.2 0 passing t (sewing t 0 passing)
  obtain ⟨d1, hd1⟩ : ∃ d, (sewing (st1 opExtract 0 0x8000 0x8001 0 0) 0 passing).writeOf 0 0x8001 [1#8] = .ok d := ⟨_, rfl⟩
  obtain ⟨d2, hd2⟩ : ∃ d, (sewing (st1 opRewrite 0 0 0x8001 0 (2 ^ 48)) 0 passing).writeOf 0 0x8001 (constBytes (2 ^ 48)) = .ok d := ⟨_, rfl⟩
  refine ⟨⟨⟨_, (h.1 0 1 (st1 opTest 0 0 0 0 0) passing .ok (sewing (st1 opTest 0 0 0 0 0) 0 passing) ?_).1 ?_⟩,
      ⟨_, (h.1 0 1 (st1 opTest 0 0 0 0 0) passing .noRoute (sewing (st1 opTest 0 0 0 0 0) 0 passing) ?_).2 ?_ ?_⟩,
      ⟨_, (h.2.1 0 0 passing (sewing (st1 opTest 0 0 0 0 0) 2 passing) ?_).1 ?_ ?_⟩, ⟨_, (h.2.1 0 1 passing (sewing (st1 opTest 0 0 0 0 0) 2 passing) ?_).2 ?_⟩⟩,
    ⟨⟨_, (e3 passing (st1 opExtract 0 0 0x8001 0 0) _ (z opExtract _ _ 0 ?_ ?_)).1 (.inl ?_) ?_⟩,
      ⟨_, (e3 passing (st1 opExtract 0 0x8000 0x8001 0 (3 * 2 ^ 32)) _ (z opExtract _ _ 0 ?_ ?_)).2.1 [1#8] [1#8] ?_ ?_ ?_⟩,
      ⟨_, (e3 passing (st1 opExtract 0 0x8000 0x8001 0 0) _ (z opExtract _ _ 0 ?_ ?_)).2.2 [1#8] [1#8] [1#8] d1 ?_ ?_ ?_ hd1⟩⟩,
    ⟨⟨_, (k (st1 opSelectKey 0 0 0 0 0) (z _ _ _ 0 ?_ ?_)).1 ?_⟩, ⟨_, (k (st1 opSelectKey 0 0x8000 0 0 0) (z _ _ _ 0 ?_ ?_)).2 5 ?_⟩⟩,
    ⟨⟨_, (r (st1 opRewrite 1 0 0x8000 0 0) (z _ _ _ 0 ?_ ?_) ?_).1 ?_ ?_⟩, ⟨_, (r (st1 opRewrite 1 0 0x2000 0 0) (z _ _ _ 0 ?_ ?_) ?_).2.1 {} ?_ ?_ ?_⟩,
      ⟨_, ((r (st1 opRewrite 0 0 0x8001 0 (2 ^ 48)) (z _ _ _ 0 ?_ ?_) ?_).2.2 ?_).1 d2 hd2⟩,
      ⟨_, ((r (st1 opRewrite 0 0 0x3000 0 (2 ^ 48)) (z _ _ _ 0 ?_ ?_) ?_).2.2 ?_).2 .badFieldValue ?_⟩⟩,
    ⟨⟨_, (q (st1 opTest 0 0x8000 0 0 (2 ^ 60))).1 (z _ _ _ 0 ?_ ?_)⟩, ⟨_, ((q (st1 opSkipIf 0 0 0 0 1)).2.1 (z _ _ _ 0 ?_ ?_)).1 ?_⟩,
      ⟨_, ((q (st1 opSkipIf 1 0 0 0 1)).2.1 (z _ _ _ 0 ?_ ?_)).2 ?_⟩⟩,
    ⟨⟨_, ((q (st1 opRoute 0 0 0 0 9)).2.2.1 (z _ _ _ 0 ?_ ?_)).1 ?_⟩, ⟨_, (((q (st1 opRoute 1 0 0 0 0)).2.2.1 (z _ _ _ 0 ?_ ?_)).2 ?_).1 ?_⟩,
      ⟨_, (((q (st1 opRoute 1 0x8000 0 0 0)).2.2.1 (z _ _ _ 0 ?_ ?_)).2 ?_).2 5 ?_⟩⟩,
    ⟨⟨_, (q (st1 opCount 0 0 0 2 7)).2.2.2.1 (z _ _ _ 0 ?_ ?_)⟩, ⟨_, (q (st1 opHold 0 0 0 0 3)).2.2.2.2.1 (z _ _ _ 0 ?_ ?_)⟩⟩,
    ⟨⟨_, (h.2.2.2.2.2 0 { passing with flow := 3 } (st1 opSetFlow 0 0 0 0 0) (sewing (st1 opSetFlow 0 0 0 0 0) 0 { passing with flow := 3 })).2.2.2.2.2.1 (y3 _ ?_) ?_⟩,
      ⟨_, ((q (st1 opSetFlow 0 0 0 0 0)).2.2.2.2.2.2 (z _ _ _ 0 ?_ ?_) ?_).1 ?_⟩,
      ⟨_, ((h.2.2.2.2.2 0 passing (st1 opSetFlow 0 0 0 0 0) { sewing (st1 opSetFlow 0 0 0 0 0) 0 passing with
        disp := { live.disp with items := [(0, passing), (1, { passing with flow := 3 })], flows := [(3, {})] } }).2.2.2.2.2.2 ⟨⟨?_, ?_⟩, ?_, ?_, ?_, ?_, ?_, ?_, ?_⟩ ?_).2 ?_⟩⟩⟩
  all_goals decide +kernel

/-- Entry 2 is a MAC under a key that is not found at once (page 0 is fetched). -/
def sewingPages (t : Stitch) : State := { sewing t 0 passing with ks := { pages := [(0, { ver := 1 })] }, regs := [(oKpgControl, 1#64)] }

theorem witness_apply : Obligations.ApplyRunsAnInvocation →
    (∃ e, Leads (.apply 0) (sewing (st1 opApply 0 0 0 0 0) 0 { passing with result := some {} }) e) ∧ (∃ e, Leads (.apply 0) (sewing (st1 opApply 0 0 0 0 0) 0 { passing with waitSt := some .keyPageStale }) e) ∧
    (∃ e, Leads (.apply 0) (sewing (st1 opApply 0 0 0 3 0) 0 passing) e) ∧ (∃ e, Leads (.apply 0) (sewing (st1 opApply 0 0 0 1 0) 0 passing) e) ∧
    (∃ e, Leads (.apply 0) (sewingPages (st1 opApply 0 0 0x8001 2 0)) e) ∧ (∃ e, Leads (.apply 0) (sewing (st1 opApply 0 0 0 0 0) 0 passing) e) ∧
    ((∃ e, (sewing (st1 opApply 0 0 0 0 0) 0 passing).finishApply 0 passing (st1 opApply 0 0 0 0 0) hashInv { st := .badLength } 0 = e) ∧
      (∃ e, (sewing (st1 opApply 0 0 0 1 0) 0 passing).finishApply 0 passing (st1 opApply 0 0 0 1 0) hashInv {} 0 = e) ∧
      ∃ e, (sewing (st1 opApply 0 0 0 0 0) 0 passing).finishApply 0 passing (st1 opApply 0 0 0 0 0) hashInv { o0 := [1#8] } 0 = e) := by
  intro h
  have g (x : Item) (t : Stitch) (s : State) := h 0 x t s
  obtain ⟨t2, e2⟩ := none_of (p := (sewingPages (st1 opApply 0 0 0x8001 2 0)).runKeys 0 0 ((sewingPages (st1 opApply 0 0 0x8001 2 0)).applyInvoc passing (st1 opApply 0 0 0x8001 2 0)).1 false true) (by decide +kernel)
  obtain ⟨o3, t3, e3⟩ := pair_of (p := (sewing (st1 opApply 0 0 0 0 0) 0 passing).runKeys 0 0 ((sewing (st1 opApply 0 0 0 0 0) 0 passing).applyInvoc passing (st1 opApply 0 0 0 0 0)).1 false true) (by decide +kernel)
  have s (t : Stitch) : Stitching t.op 0 passing t (sewing t 0 passing) := ⟨⟨rfl, rfl⟩, rfl, rfl, rfl, rfl, rfl, rfl, rfl⟩
  have c (t : Stitch) (o : FnOut) : ∃ p k u, (sewing t 0 passing).closeInvoc 0 passing.inst hashInv true o = (p, k, u) := ⟨_, _, _, rfl⟩
  refine ⟨⟨_, (g { passing with result := some {} } (st1 opApply 0 0 0 0 0) _ ⟨⟨rfl, rfl⟩, rfl, rfl, rfl, rfl, rfl, rfl, rfl⟩).1 {} rfl⟩,
    ⟨_, (g { passing with waitSt := some .keyPageStale } (st1 opApply 0 0 0 0 0) _ ⟨⟨rfl, rfl⟩, rfl, rfl, rfl, rfl, rfl, rfl, rfl⟩).2.1 .keyPageStale rfl rfl⟩,
    ⟨_, (g passing (st1 opApply 0 0 0 3 0) _ (s _)).2.2.1 .badOpcode rfl rfl ?_⟩,
    ⟨_, ((g passing (st1 opApply 0 0 0 1 0) _ (s _)).2.2.2.1 rfl rfl ?_).1 ?_ ?_⟩,
    ⟨_, (((g passing (st1 opApply 0 0 0x8001 2 0) (sewingPages (st1 opApply 0 0 0x8001 2 0)) ⟨⟨rfl, rfl⟩, rfl, rfl, rfl, rfl, rfl, rfl, rfl⟩).2.2.2.1 rfl rfl ?_).2 (.inl ?_)).1 t2 e2⟩,
    ⟨_, (((g passing (st1 opApply 0 0 0 0 0) _ (s _)).2.2.2.1 rfl rfl ?_).2 (.inl ?_)).2 o3 t3 e3⟩, ?_, ?_, ?_⟩
  iterate 8 decide +kernel
  · obtain ⟨p, k, u, e⟩ := c (st1 opApply 0 0 0 0 0) { st := .badLength }
    have hp : p.st = .badLength := by
      have := congrArg (fun r => r.1.st) e
      exact this.symm.trans (by decide +kernel)
    exact ⟨_, ((g passing (st1 opApply 0 0 0 0 0) _ (s _)).2.2.2.2 hashInv _ p 0 k u e).1 (by rw [hp]; decide)⟩
  · obtain ⟨p, k, u, e⟩ := c (st1 opApply 0 0 0 1 0) {}
    have hp : p.st = .ok := by
      have := congrArg (fun r => r.1.st) e
      exact this.symm.trans (by decide +kernel)
    exact ⟨_, ((g passing (st1 opApply 0 0 0 1 0) _ (s _)).2.2.2.2 hashInv _ p 0 k u e).2.1 hp (by decide +kernel) (by decide +kernel)⟩
  · obtain ⟨p, k, u, e⟩ := c (st1 opApply 0 0 0 0 0) { o0 := [1#8] }
    have hp : p.st = .ok := by
      have := congrArg (fun r => r.1.st) e
      exact this.symm.trans (by decide +kernel)
    have hw : (match u.writeOf 0 0x8002 p.o0 with | .ok _ => true | .error _ => false) = true := by
      have e1 : p = _ := (congrArg (fun r => r.1) e).symm
      have e2 : u = _ := (congrArg (fun r => r.2.2) e).symm
      rw [e1, e2]; decide +kernel
    cases hu : u.writeOf 0 0x8002 p.o0 with
    | error _ => rw [hu] at hw; cases hw
    | ok w => exact ⟨_, ((g passing (st1 opApply 0 0 0 0 0) _ (s _)).2.2.2.2 hashInv _ p 0 k u e).2.2 w hp (by decide +kernel) (by decide +kernel) hu⟩

/-! Messages end; frames. -/

/-- Session 1 is open, with `lim` DATA frames of credit. -/
def sessOpen (lim : Nat) : Sess := { st := .opened, keyTx := [0#8], limit := lim }
/-- `sewing` with session 1. -/
def talking (t : Stitch) (x : Item) (y : Sess) : State := { sewing t 0 x with sess := [(1, y)] }
/-- A message of session 1, bound for it; with a deferred stitch that runs. -/
def answered : Item := { passing with sess := some 1, dest := some 0, binds := [(0, 1)] }
def answeredLate : Item := { answered with deferred := [{ ix := 0 }] }
/-- A stitch of opcode `op`; REJECT writes 0210 into the message type, or to a path that the pattern has not. -/
def ends (op : Nat) : Stitch := st1 op 0 0 0 0 0
def rejects (sel : Nat) : Stitch := st1 opReject 0 0 sel 0 (4 * 2 ^ 48 + 0x30323130 * 2 ^ 16)
/-- A message that is held until tick 3, or that is past its deadline. -/
def heldItem : Item := { passing with stage := .held, due := 3, terms := 9 }
def timed (x : Item) (n : Nat) : State := { sewing (ends opDrop) 0 x with tick := { count := n } }

theorem at_stitch {t : Stitch} {x : Item} {y : Sess} (h : (x.transit && x.admitted && x.stage == .running && !x.ending && x.emis.isNone) = true)
    (hs : (talking t x y).itemStitch x = some t) : Stitching t.op 0 x t (talking t x y) := by
  simp only [Bool.and_eq_true, Bool.not_eq_true', Option.isNone_iff_eq_none, beq_iff_eq] at h
  exact ⟨⟨rfl, hs⟩, rfl, h.1.1.1.1, h.1.1.1.2, h.1.1.2, h.1.2, h.2, rfl⟩

theorem witness_endings : Obligations.MessagesEndByTheirTerminalStitch →
    ((∃ e, Leads (.respond 0) (talking (ends opRespond) answeredLate (sessOpen 1)) e) ∧ (∃ e, Leads (.reject 0) (talking (ends opReject) answeredLate (sessOpen 1)) e) ∧
      (∃ e, Leads (.drop 0) (talking (ends opDrop) answeredLate (sessOpen 1)) e)) ∧
    ((∃ e, Leads (.respond 0) (talking (ends opRespond) answered (sessOpen 1)) e) ∧ (∃ e, Leads (.respond 0) (talking (ends opRespond) answered (sessOpen 0)) e) ∧
      (∃ e, Leads (.respond 0) (talking (ends opRespond) answered {}) e)) ∧
    ((∃ e, Leads (.reject 0) (talking (rejects 0x1000) answered (sessOpen 1)) e) ∧ (∃ e, Leads (.reject 0) (talking (rejects 0x3000) answered (sessOpen 1)) e) ∧
      ∃ e, Leads (.drop 0) (talking (ends opDrop) answered (sessOpen 1)) e) ∧
    ((∃ e, Leads (.emit 0) (talking (ends opEmit) { answered with dest := none } (sessOpen 1)) e) ∧ (∃ e, Leads (.emit 0) (talking (ends opEmit) answered (sessOpen 1)) e) ∧
      (∃ e, Leads (.emit 0) (talking (ends opEmit) answered (sessOpen 0)) e) ∧ (∃ e, Leads (.emit 0) (talking (ends opEmit) answered {}) e) ∧
      ∃ e, (talking (ends opEmit) answered (sessOpen 1)).startEmission 0 1 answered {} = e) ∧
    ((∃ e, Leads (.holdDue 0) (timed heldItem 3) e) ∧ (∃ e, Leads (.holdDue 0) (timed heldItem 2) e) ∧ (∃ e, Leads (.deadlineExpiry 0) (timed passing 65536) e) ∧
      ∃ e, Leads (.deadlineExpiry 0) (timed heldItem 2) e) := by
  intro h
  have g (t : Stitch) (x : Item) (y : Sess) := h.1 0 x t {} (talking t x y)
  obtain ⟨m, hm⟩ : ∃ m, State.rejectMsg ((talking (rejects 0x1000) answered (sessOpen 1)).modItem 0 (fun x => { x with ending := false })) answered (rejects 0x1000) {} = .ok m := ⟨_, rfl⟩
  have l (op : Nat) (ho : op = opRespond ∨ op = opReject ∨ op = opDrop) := (g (ends op) answeredLate (sessOpen 1) rfl).1 op ho
    (at_stitch (t := ends op) rfl rfl) rfl
  refine ⟨⟨⟨_, (l opRespond (.inl rfl)).1 rfl⟩, ⟨_, (l opReject (.inr (.inl rfl))).2.1 rfl⟩, ⟨_, (l opDrop (.inr (.inr rfl))).2.2 rfl⟩⟩,
    ⟨⟨_, ((g (ends opRespond) answered (sessOpen 1) rfl).2.1 (at_stitch (t := ends opRespond) rfl rfl) rfl 1 rfl ?_).1 ?_⟩,
      ⟨_, ((g (ends opRespond) answered (sessOpen 0) rfl).2.1 (at_stitch (t := ends opRespond) rfl rfl) rfl 1 rfl ?_).2 ?_⟩,
      ⟨_, (g (ends opRespond) answered {} rfl).2.2.1 (at_stitch (t := ends opRespond) rfl rfl) rfl 1 rfl ?_⟩⟩,
    ⟨⟨_, ((g (rejects 0x1000) answered (sessOpen 1) rfl).2.2.2.1 (at_stitch (t := rejects 0x1000) rfl rfl) rfl).1 m hm⟩,
      ⟨_, ((g (rejects 0x3000) answered (sessOpen 1) rfl).2.2.2.1 (at_stitch (t := rejects 0x3000) rfl rfl) rfl).2 .badFieldValue ?_⟩,
      ⟨_, (g (ends opDrop) answered (sessOpen 1) rfl).2.2.2.2.1 (at_stitch (t := ends opDrop) rfl rfl) rfl⟩⟩,
    ⟨⟨_, ((g (ends opEmit) { answered with dest := none } (sessOpen 1) rfl).2.2.2.2.2.1 (at_stitch (t := ends opEmit) rfl rfl)).1 rfl⟩,
      ⟨_, ((g (ends opEmit) answered (sessOpen 1) rfl).2.2.2.2.2.1 (at_stitch (t := ends opEmit) rfl rfl)).2.1 1 ?_ ?_ ?_⟩,
      ⟨_, ((g (ends opEmit) answered (sessOpen 0) rfl).2.2.2.2.2.1 (at_stitch (t := ends opEmit) rfl rfl)).2.2.1 1 ?_ ?_ ?_⟩,
      ⟨_, ((g (ends opEmit) answered {} rfl).2.2.2.2.2.1 (at_stitch (t := ends opEmit) rfl rfl)).2.2.2 1 ?_ ?_⟩,
      ⟨_, (g (ends opEmit) answered (sessOpen 1) rfl).2.2.2.2.2.2 1 ?_⟩⟩,
    ⟨⟨_, (h.2 0 heldItem (timed heldItem 3) ?_ ?_).1 ?_ ?_⟩, ⟨_, (h.2 0 heldItem (timed heldItem 2) ?_ ?_).2.1 ?_⟩,
      ⟨_, (h.2 0 passing (timed passing 65536) ?_ ?_).2.2.1 ?_ ?_ ?_⟩, ⟨_, (h.2 0 heldItem (timed heldItem 2) ?_ ?_).2.2.2 ?_⟩⟩⟩
  all_goals decide +kernel

/-! Frames. -/

/-- Addresses: the sub-port's and a peer's, MAC and IPv6. -/
def macA : Bytes := [2#8, 0#8, 0#8, 0#8, 0#8, 1#8]
def macB : Bytes := [2#8, 0#8, 0#8, 0#8, 0#8, 2#8]
def ipA : Bytes := [0xFE#8, 0x80#8] ++ zeros 13 ++ [1#8]
def ipB : Bytes := [0xFE#8, 0x80#8] ++ zeros 13 ++ [2#8]
def subA (flags : Nat) : SubDef := { mac := macA, flags := flags, pfc := 0xFF, ip4 := [10#8, 0#8, 0#8, 1#8], ip6 := ipA }
/-- `live` with that sub-port up, with or without MACsec, and session 9 on it. -/
def listening (flags : Nat) (y : Sess) : State :=
  let l : State := { live with last := { cfgs := [(0, { cfg with ports := [{ mode := 1, subs := [subA flags] }], htt := { cfg.htt with encaps := 7 } })], cur := some 0 } }
  { l with ports := [(0, { subs := [{ admin := true, link := true }, {}, {}, {}] })], sess := [(9, y)] }
/-- A frame from the peer. -/
def frame (dst : Bytes) (typ : Nat) (body : Bytes) : RxFrame := ⟨0, 0, true, padFrame (dst ++ macB ++ be 2 typ ++ body)⟩
/-- An HTT frame: type, flags, receiver ID, sequence, limit, and what follows the header. -/
def htt (typ flags rid seq limit len : Nat) (rest : Bytes) : Bytes :=
  [1#8, BitVec.ofNat 8 typ, BitVec.ofNat 8 flags, 0#8] ++ be 4 rid ++ be 4 0 ++ be 6 seq ++ be 6 limit ++ be 4 0 ++ be 2 len ++ be 2 0 ++ rest
/-- It as the sub-port hears it. -/
def heardOf (b : Bytes) : Heard := { encap := 3, mac := macB, mayPad := decide (b.length ≤ 46), bytes := b ++ zeros (46 - b.length) }
/-- What the sub-port hears. -/
theorem hears {f : RxFrame} {k : Taken} {y : Sess} (h : ((listening 0x19 y).takeRx f (subA 0x19)).1 = k) (hu : (listening 0x19 y).subUp f.port f.sub = true)
    (hd : (listening 0x19 y).subDef f.port f.sub = some (subA 0x19)) : Hears f (subA 0x19) k (listening 0x19 y) ((listening 0x19 y).takeRx f (subA 0x19)).2 :=
  ⟨hd, hu, Prod.ext h rfl⟩

def pfcBody : Bytes := be 2 0x0101 ++ zeros 18
def arpBody : Bytes := [0#8, 1#8, 8#8, 0#8, 6#8, 4#8, 0#8, 1#8] ++ macB ++ [10#8, 0#8, 0#8, 2#8] ++ zeros 6 ++ [10#8, 0#8, 0#8, 1#8]
/-- A neighbour solicitation for the sub-port's address, with its checksum. -/
def nsBody : Bytes := [0x60#8, 0#8, 0#8, 0#8] ++ be 2 24 ++ [58#8, 255#8] ++ ipB ++ ipA ++ [135#8, 0#8, 0x7D#8, 0x26#8] ++ zeros 4 ++ ipA
/-- PRESENCE. -/
def presence : Bytes := htt 0x20 0 0 0 0 48 (zeros 48)

theorem witness_frames : Obligations.FramesAreCheckedAndHandedOn →
    (∃ e, Leads (.ethernetFrameRx ⟨5, 0, true, []⟩) (listening 0x19 {}) e) ∧
    ((∃ e, Leads (.ethernetFrameRx ⟨0, 0, true, zeros 9213⟩) (listening 0x19 {}) e) ∧ (∃ e, Leads (.ethernetFrameRx ⟨0, 0, false, zeros 60⟩) (listening 0x19 {}) e) ∧
      (∃ e, Leads (.ethernetFrameRx ⟨0, 0, true, zeros 59⟩) (listening 0x19 {}) e) ∧ (∃ e, Leads (.ethernetFrameRx ⟨0, 0, true, zeros 60⟩) (listening 0x1B {}) e) ∧
      ∃ e, Leads (.ethernetFrameRx (frame macA 0x88E5 (zeros 46))) (listening 0x1B {}) e) ∧
    ((∃ e, Leads (.ethernetFrameRx ⟨0, 0, true, zeros 60⟩) (listening 0x19 {}) e) ∧ (∃ e, Leads (.pfcFrame (frame controlMac 0x8808 pfcBody)) (listening 0x19 {}) e) ∧
      (∃ e, Leads (.arpRequest (frame broadcastMac 0x0806 arpBody)) (listening 0x19 {}) e) ∧ (∃ e, Leads (.neighbourSolicitation (frame macA 0x86DD nsBody)) (listening 0x19 {}) e) ∧
      ∃ e, Leads (.lldpdu (frame discoveryMac 0x88CC (zeros 46))) (listening 0x19 {}) e) ∧
    ((∃ e, Leads (.dataFrame (frame macA 0x88B5 (zeros 46))) (listening 0x19 {}) e) ∧ (∃ e, Leads (.dataFrame (frame macA 0x88B5 (htt 1 0 9 1 0 0 (zeros 16)))) (listening 0x19 {}) e) ∧
      (∃ e, Leads (.hello (frame macA 0x88B5 (htt 0x10 0 0 256 0 14 (zeros 14)))) (listening 0x19 {}) e) ∧ (∃ e, Leads (.offer (frame macA 0x88B5 (htt 0x11 0 9 256 0 14 (zeros 14)))) (listening 0x19 {}) e) ∧
      (∃ e, Leads (.accept (frame macA 0x88B5 (htt 0x12 0 9 256 0 14 (zeros 14)))) (listening 0x19 {}) e) ∧ ∃ e, Leads (.presenceFrame (frame macA 0x88B5 presence)) (listening 0x19 {}) e) := by
  intro h
  have a (f : RxFrame) (fl : Nat) := h.2.1 f (subA fl) (listening fl {})
  have q (f : RxFrame) (k : Taken) := h.2.2 f (subA 0x19) k (listening 0x19 {}) ((listening 0x19 {}).takeRx f (subA 0x19)).2
  have v (b : Bytes) := q (frame macA 0x88B5 b) (.htt (heardOf b))
  obtain ⟨c, hc⟩ : ∃ c, (((listening 0x1B {}).bump64 (portReg oPortRxFrames 0) 1).subOf 0 0).openMacsec (frame macA 0x88E5 (zeros 46)).bytes = .drop c := ⟨_, rfl⟩
  refine ⟨⟨_, h.1 ⟨5, 0, true, []⟩ (listening 0x19 {}) (.inl ?_)⟩,
    ⟨⟨_, (a ⟨0, 0, true, zeros 9213⟩ 0x19 ?_ ?_).1 ?_⟩, ⟨_, (a ⟨0, 0, false, zeros 60⟩ 0x19 ?_ ?_).2.1 ?_ ?_⟩, ⟨_, (a ⟨0, 0, true, zeros 59⟩ 0x19 ?_ ?_).2.2.1 ?_ ?_ ?_⟩,
      ⟨_, ((a ⟨0, 0, true, zeros 60⟩ 0x1B ?_ ?_).2.2.2.1 ?_ ?_ ?_ ?_).1 ?_ ?_⟩, ⟨_, ((a (frame macA 0x88E5 (zeros 46)) 0x1B ?_ ?_).2.2.2.1 ?_ ?_ ?_ ?_).2 c ?_ hc⟩⟩,
    ⟨⟨_, (q ⟨0, 0, true, zeros 60⟩ .other (hears ?_ ?_ ?_)).1 rfl⟩, ⟨_, (q (frame controlMac 0x8808 pfcBody) (.pfc (pfcBody ++ zeros 26)) (hears ?_ ?_ ?_)).2.1 _ rfl _ (.inr rfl)⟩,
      ⟨_, (q (frame broadcastMac 0x0806 arpBody) (.arp macB (arpBody ++ zeros 18)) (hears ?_ ?_ ?_)).2.2.1 _ _ rfl _ (.inr rfl)⟩,
      ⟨_, (q (frame macA 0x86DD nsBody) (.neighbour macB ipB) (hears ?_ ?_ ?_)).2.2.2.1 _ _ rfl _ (.inr rfl)⟩,
      ⟨_, (q (frame discoveryMac 0x88CC (zeros 46)) (.lldp macB (zeros 46)) (hears ?_ ?_ ?_)).2.2.2.2.1 _ _ rfl _ (.inr rfl)⟩⟩,
    ⟨⟨_, (v (zeros 46) (hears ?_ ?_ ?_)).2.2.2.2.2.1 _ _ rfl ?_ (List.mem_cons_of_mem _ (List.mem_cons_self ..))⟩,
      ⟨_, ((v (htt 1 0 9 1 0 0 (zeros 16)) (hears ?_ ?_ ?_)).2.2.2.2.2.2 _ rfl ?_).1 _ 1 (List.mem_cons_self ..) ?_ ?_ ?_⟩,
      ⟨_, ((v (htt 0x10 0 0 256 0 14 (zeros 14)) (hears ?_ ?_ ?_)).2.2.2.2.2.2 _ rfl ?_).2.1 ?_ _ (.inr rfl)⟩,
      ⟨_, ((v (htt 0x11 0 9 256 0 14 (zeros 14)) (hears ?_ ?_ ?_)).2.2.2.2.2.2 _ rfl ?_).2.2.1 ?_ _ (.inr rfl)⟩,
      ⟨_, ((v (htt 0x12 0 9 256 0 14 (zeros 14)) (hears ?_ ?_ ?_)).2.2.2.2.2.2 _ rfl ?_).2.2.2.1 ?_ _ (.inr rfl)⟩,
      ⟨_, ((v presence (hears ?_ ?_ ?_)).2.2.2.2.2.2 _ rfl ?_).2.2.2.2 ?_ _ (.inr rfl)⟩⟩⟩
  all_goals decide +kernel

/-- A sub-port without PFC whose one message fills its share of the message buffer. -/
def subB : SubDef := { subA 0x19 with pfc := 0 }
def overfull : State :=
  let l : State := { live with last := { cfgs := [(0, { cfg with ports := [{ mode := 1, subs := [subB] }], htt := { cfg.htt with encaps := 7 } })], cur := some 0 } }
  { l with ports := [(0, { subs := [{ admin := true, link := true }, {}, {}, {}] })], sess := [(9, { port := 0, sub := 0 })]
           disp := { l.disp with items := [(0, { sess := some 9, raw := List.replicate (Config.bufferShare 0 0 + 1) 0#8 })] } }

theorem witness_full_share : Obligations.FramesAreCheckedAndHandedOn →
    ∃ e, Leads (.ethernetFrameRx (frame broadcastMac 0x0806 arpBody)) overfull e := by
  intro h
  have full : (overfull.bump64 (portReg oPortRxFrames 0) 1).bufferFull 0 0 = true := by
    have u : (overfull.bump64 (portReg oPortRxFrames 0) 1).bufferUse 0 0 = (List.replicate (Config.bufferShare 0 0 + 1) (0#8 : Byte)).length + 0 + 0 := rfl
    unfold State.bufferFull
    rw [u, List.length_replicate]
    simp
  exact ⟨_, (h.2.1 (frame broadcastMac 0x0806 arpBody) subB overfull (by rfl) (by rfl)).2.2.2.2 (by decide +kernel) (by decide +kernel) (by rfl) (by rfl)
    (by decide +kernel) (by decide +kernel) (by rfl) full⟩

/-! Session frames. -/

/-- What a state's sub-port hears. -/
theorem hears_in {f : RxFrame} {k : Taken} {s : State} (h : (s.takeRx f (subA 0x19)).1 = k) (hu : s.subUp f.port f.sub = true)
    (hd : s.subDef f.port f.sub = some (subA 0x19)) : Hears f (subA 0x19) k s (s.takeRx f (subA 0x19)).2 := ⟨hd, hu, Prod.ext h rfl⟩
/-- Session 9, open, of receiver ID 9, with a receive key of empty material (the cipher is then the identity) and credit granted. -/
def sess9 : Sess := { st := .opened, myId := 9, rxPhase := some 0, granted := 8, maxMsg := 8192 }
/-- A session frame, sealed for it, or with a tag that does not fit. -/
def sealedFor (typ flags : Nat) (m : Bytes) : Bytes :=
  let h := htt typ flags 9 1 0 m.length []
  h ++ gcmSeal [] (be 4 0 ++ [0#8, 0#8] ++ be 6 1) h m 16
def unsealed (typ : Nat) (m : Bytes) : Bytes := htt typ 0 9 1 0 m.length (m ++ zeros 16)
/-- `s` on standby. -/
def onStandby (s : State) : State := { s with twin := {} }

theorem witness_session_frames : Obligations.SessionFramesActAfterTheirChecks →
    (∃ e, Leads (.dataFrame (frame macA 0x88B5 (unsealed 1 []))) (listening 0x19 {}) e) ∧ (∃ e, Leads (.dataFrame (frame macA 0x88B5 (unsealed 1 []))) (onStandby (listening 0x19 sess9)) e) ∧
    (∃ e, Leads (.dataFrame (frame macA 0x88B5 (unsealed 1 [1#8]))) (listening 0x19 { sess9 with maxMsg := 0 }) e) ∧
    (∃ e, Leads (.dataFrame (frame macA 0x88B5 (unsealed 1 []))) (listening 0x19 { sess9 with rxSeen := [1], rxHigh := 1 }) e) ∧
    (∃ e, Leads (.dataFrame (frame macA 0x88B5 (unsealed 1 []))) (listening 0x19 { sess9 with granted := 0 }) e) ∧
    (∃ e, Leads (.noticeFrame (frame macA 0x88B5 (unsealed 2 (zeros 24)))) (listening 0x19 sess9) e) ∧
    (∃ e, Leads (.noticeFrame (frame macA 0x88B5 (sealedFor 2 0 (zeros 23 ++ [1#8])))) (listening 0x19 sess9) e) ∧
    (∃ e, Leads (.dataFrame (frame macA 0x88B5 (sealedFor 1 1 [1#8]))) (listening 0x19 sess9) e) ∧ (∃ e, Leads (.dataFrame (frame macA 0x88B5 (sealedFor 1 0 [1#8]))) (listening 0x19 sess9) e) ∧
    (∃ e, Leads (.noticeFrame (frame macA 0x88B5 (sealedFor 2 0 (zeros 24)))) (listening 0x19 sess9) e) ∧ (∃ e, Leads (.creditFrame (frame macA 0x88B5 (sealedFor 3 0 (zeros 8)))) (listening 0x19 sess9) e) ∧
    ∃ e, Leads (.closeFrame (frame macA 0x88B5 (sealedFor 4 0 (zeros 8)))) (listening 0x19 sess9) e := by
  intro h
  have g (b : Bytes) (s : State) := h (frame macA 0x88B5 b) (subA 0x19) (heardOf b) s (s.takeRx (frame macA 0x88B5 b) (subA 0x19)).2
  have i1 (b : Bytes) : (Instr.dataFrame (frame macA 0x88B5 b), 1) ∈ [(Instr.dataFrame (frame macA 0x88B5 b), 1), (.noticeFrame (frame macA 0x88B5 b), 2), (.creditFrame (frame macA 0x88B5 b), 3), (.closeFrame (frame macA 0x88B5 b), 4)] := List.mem_cons_self ..
  have i2 (b : Bytes) : (Instr.noticeFrame (frame macA 0x88B5 b), 2) ∈ [(Instr.dataFrame (frame macA 0x88B5 b), 1), (.noticeFrame (frame macA 0x88B5 b), 2), (.creditFrame (frame macA 0x88B5 b), 3), (.closeFrame (frame macA 0x88B5 b), 4)] := by simp
  have i3 (b : Bytes) : (Instr.creditFrame (frame macA 0x88B5 b), 3) ∈ [(Instr.dataFrame (frame macA 0x88B5 b), 1), (.noticeFrame (frame macA 0x88B5 b), 2), (.creditFrame (frame macA 0x88B5 b), 3), (.closeFrame (frame macA 0x88B5 b), 4)] := by simp
  have i4 (b : Bytes) : (Instr.closeFrame (frame macA 0x88B5 b), 4) ∈ [(Instr.dataFrame (frame macA 0x88B5 b), 1), (.noticeFrame (frame macA 0x88B5 b), 2), (.creditFrame (frame macA 0x88B5 b), 3), (.closeFrame (frame macA 0x88B5 b), 4)] := by simp
  refine ⟨⟨_, (g (unsealed 1 []) (listening 0x19 {}) (hears_in ?_ ?_ ?_) ?_ _ 1 (i1 _) ?_).1 (.inr (.inr (.inl ?_)))⟩,
    ⟨_, ((g (unsealed 1 []) (onStandby (listening 0x19 sess9)) (hears_in ?_ ?_ ?_) ?_ _ 1 (i1 _) ?_).2 ?_ ?_ ?_ ?_).1 ?_⟩,
    ⟨_, (((g (unsealed 1 [1#8]) (listening 0x19 { sess9 with maxMsg := 0 }) (hears_in ?_ ?_ ?_) ?_ _ 1 (i1 _) ?_).2 ?_ ?_ ?_ ?_).2 ?_).1 ?_⟩,
    ⟨_, (((g (unsealed 1 []) (listening 0x19 { sess9 with rxSeen := [1], rxHigh := 1 }) (hears_in ?_ ?_ ?_) ?_ _ 1 (i1 _) ?_).2 ?_ ?_ ?_ ?_).2 ?_).2.1 ?_ ?_⟩,
    ⟨_, (((g (unsealed 1 []) (listening 0x19 { sess9 with granted := 0 }) (hears_in ?_ ?_ ?_) ?_ _ 1 (i1 _) ?_).2 ?_ ?_ ?_ ?_).2 ?_).2.2.1 ?_ ?_ ?_⟩,
    ⟨_, (((g (unsealed 2 (zeros 24)) (listening 0x19 sess9) (hears_in ?_ ?_ ?_) ?_ _ 2 (i2 _) ?_).2 ?_ ?_ ?_ ?_).2 ?_).2.2.2.1 ?_ ?_ ?_ ?_⟩,
    ⟨_, ((((g (sealedFor 2 0 (zeros 23 ++ [1#8])) (listening 0x19 sess9) (hears_in ?_ ?_ ?_) ?_ _ 2 (i2 _) ?_).2 ?_ ?_ ?_ ?_).2 ?_).2.2.2.2 (zeros 23 ++ [1#8]) ?_ ?_ ?_ ?_).1 ?_⟩,
    ⟨_, (((((g (sealedFor 1 1 [1#8]) (listening 0x19 sess9) (hears_in ?_ ?_ ?_) ?_ _ 1 (i1 _) ?_).2 ?_ ?_ ?_ ?_).2 ?_).2.2.2.2 [1#8] ?_ ?_ ?_ ?_).2 ?_).1 ?_ ?_⟩,
    ⟨_, (((((g (sealedFor 1 0 [1#8]) (listening 0x19 sess9) (hears_in ?_ ?_ ?_) ?_ _ 1 (i1 _) ?_).2 ?_ ?_ ?_ ?_).2 ?_).2.2.2.2 [1#8] ?_ ?_ ?_ ?_).2 ?_).2.1 ?_ ?_⟩,
    ⟨_, (((((g (sealedFor 2 0 (zeros 24)) (listening 0x19 sess9) (hears_in ?_ ?_ ?_) ?_ _ 2 (i2 _) ?_).2 ?_ ?_ ?_ ?_).2 ?_).2.2.2.2 (zeros 24) ?_ ?_ ?_ ?_).2 ?_).2.2.1 ?_⟩,
    ⟨_, (((((g (sealedFor 3 0 (zeros 8)) (listening 0x19 sess9) (hears_in ?_ ?_ ?_) ?_ _ 3 (i3 _) ?_).2 ?_ ?_ ?_ ?_).2 ?_).2.2.2.2 (zeros 8) ?_ ?_ ?_ ?_).2 ?_).2.2.2.1 ?_⟩,
    ⟨_, (((((g (sealedFor 4 0 (zeros 8)) (listening 0x19 sess9) (hears_in ?_ ?_ ?_) ?_ _ 4 (i4 _) ?_).2 ?_ ?_ ?_ ?_).2 ?_).2.2.2.2 (zeros 8) ?_ ?_ ?_ ?_).2 ?_).2.2.2.2 ?_⟩⟩
  all_goals decide +kernel

/-! Setups. -/

/-- A setup frame of `n` bytes of zeros, as fragment 0 of `parts`. -/
def setupFrame (typ rid parts n : Nat) : Bytes := htt typ 0 rid (256 * parts) 0 n (zeros n)
/-- HELLO that offers messages of 256 bytes. -/
def helloFrame : Bytes := htt 0x10 0 0 256 0 1713 (zeros 12 ++ be 2 256 ++ zeros 1699)
/-- Session 9 answers; its setup has answered a HELLO of 14 zeros. -/
def responder : Sess := { st := .parked, encap := 3 }
def setup9 (initiator : Bool) (stage : Nat) : Setup := { initiator := initiator, stage := stage, myId := 9, hello := zeros 14 }
def inSetup (initiator : Bool) (stage : Nat) : Sess := { st := .handshake, encap := 3, setup := some (setup9 initiator stage) }
/-- As many setups as the device carries. -/
def setups4096 : State := { listening 0x19 responder with sess := (9, responder) :: (List.range 4096).map (fun n => (n + 16, inSetup true 0)) }
/-- What a sub-port heard of a frame, in `s`. -/
def took (s : State) (b : Bytes) : State := (s.takeRx (frame macA 0x88B5 b) (subA 0x19)).2
/-- The state with a HELLO gathered. -/
def gathered (s : State) (b : Bytes) : State := ((took s b).gatherHello (frame macA 0x88B5 b).port (frame macA 0x88B5 b).sub (heardOf b)).2

theorem hello_whole {b : Bytes} (hl : b.length = 1713) (hv : (decide (256 ≤ beAt b 12 2 ∧ beAt b 12 2 ≤ 8192) && allZero (slice b 14 2)) = true)
    (hk : Config.kemKeyOk 3 (slice b 145 1568) = true) : helloFail b = none := by
  simp only [Bool.and_eq_true, decide_eq_true_eq] at hv
  simp [helloFail, firstFail, hl, hv, hk]

/-- A HELLO that is whole. -/
theorem whole (h : Obligations.SetupFramesOpenSessions) (b c : Bytes) (s : State) (hs : (took s b).standby = false) (hg : ((took s b).gatherHello (frame macA 0x88B5 b).port (frame macA 0x88B5 b).sub (heardOf b)).1 = some c)
    (q : Hears (frame macA 0x88B5 b) (subA 0x19) (.htt (heardOf b)) s (took s b)) (hv : httValid (heardOf b) = true) (ht : (Hdr.read (heardOf b).bytes).typ = 0x10)
    (hc : 12 ≤ c.length) :
    ((gathered s b).responderOf (frame macA 0x88B5 b).port (frame macA 0x88B5 b).sub (heardOf b) (beAt c 4 8) = none → ∃ e, Leads (.hello (frame macA 0x88B5 b)) s e) ∧
    (∀ k, (gathered s b).responderOf (frame macA 0x88B5 b).port (frame macA 0x88B5 b).sub (heardOf b) (beAt c 4 8) = some k →
      let v := (gathered s b).leaveSolitary (frame macA 0x88B5 b).port (frame macA 0x88B5 b).sub
      (∀ y, ((gathered s b).sessOf k).setup = some y → y.hello = c → ∃ e, Leads (.hello (frame macA 0x88B5 b)) s e) ∧
      (((gathered s b).sessOf k).setup = none → 4096 ≤ v.setups → ∃ e, Leads (.hello (frame macA 0x88B5 b)) s e) ∧
      (((gathered s b).sessOf k).setup = none → v.setups < 4096 →
        (∀ st, helloFail c = some st → ∃ e, Leads (.hello (frame macA 0x88B5 b)) s e) ∧
        (helloFail c = none → v.rngOk = false → ∃ e, Leads (.hello (frame macA 0x88B5 b)) s e) ∧
        (helloFail c = none → v.rngOk = true → ∃ e, Leads (.hello (frame macA 0x88B5 b)) s e))) := by
  have e : (took s b).gatherHello (frame macA 0x88B5 b).port (frame macA 0x88B5 b).sub (heardOf b) = (some c, gathered s b) := by
    rw [gathered, ← hg]
  have w := ((h (frame macA 0x88B5 b) (subA 0x19) (heardOf b) s (took s b) q hv).1 ht).2.2 c (gathered s b) hs e hc
  generalize gathered s b = u at w ⊢
  obtain ⟨w1, w2⟩ := w
  refine ⟨fun a => ⟨_, w1 a⟩, fun k a => ?_⟩
  have w3 := w2 k a
  generalize u.leaveSolitary (frame macA 0x88B5 b).port (frame macA 0x88B5 b).sub = v at w3 ⊢
  obtain ⟨p1, p2, p3⟩ := w3
  refine ⟨fun y e f => ⟨_, p1 y e f⟩, fun e f => ⟨_, p2 e f⟩, fun e f => ?_⟩
  obtain ⟨q1, q2, q3⟩ := p3 e f
  exact ⟨fun st g => ⟨_, q1 st g⟩, fun g r => ⟨_, q2 g r⟩, fun g r => ⟨_, q3 g r⟩⟩

theorem witness_hello : Obligations.SetupFramesOpenSessions →
    ((∃ e, Leads (.hello (frame macA 0x88B5 (setupFrame 0x10 0 1 14))) (onStandby (listening 0x19 responder)) e) ∧
      (∃ e, Leads (.hello (frame macA 0x88B5 (setupFrame 0x10 0 2 14))) (listening 0x19 responder) e) ∧ (∃ e, Leads (.hello (frame macA 0x88B5 (setupFrame 0x10 0 1 14))) (listening 0x19 {}) e) ∧
      (∃ e, Leads (.hello (frame macA 0x88B5 (setupFrame 0x10 0 1 14))) (listening 0x19 (inSetup false 0)) e) ∧
      (∃ e, Leads (.hello (frame macA 0x88B5 (setupFrame 0x10 0 1 14))) setups4096 e) ∧ (∃ e, Leads (.hello (frame macA 0x88B5 (setupFrame 0x10 0 1 14))) (listening 0x19 responder) e)) := by
  intro h
  have g (b : Bytes) (s : State) := h (frame macA 0x88B5 b) (subA 0x19) (heardOf b) s (took s b)
  refine ⟨⟨_, ((g (setupFrame 0x10 0 1 14) (onStandby (listening 0x19 responder)) (hears_in ?_ ?_ ?_) ?_).1 ?_).1 ?_⟩,
      ⟨_, ((g (setupFrame 0x10 0 2 14) (listening 0x19 responder) (hears_in ?_ ?_ ?_) ?_).1 ?_).2.1 (gathered (listening 0x19 responder) (setupFrame 0x10 0 2 14)) ?_ (Prod.ext ?_ rfl)⟩,
      (whole h (setupFrame 0x10 0 1 14) (zeros 14) (listening 0x19 {}) ?_ ?_ (hears_in ?_ ?_ ?_) ?_ ?_ ?_).1 ?_,
      ((whole h (setupFrame 0x10 0 1 14) (zeros 14) (listening 0x19 (inSetup false 0)) ?_ ?_ (hears_in ?_ ?_ ?_) ?_ ?_ ?_).2 9 ?_).1 (setup9 false 0) ?_ ?_,
      ((whole h (setupFrame 0x10 0 1 14) (zeros 14) setups4096 ?_ ?_ (hears_in ?_ ?_ ?_) ?_ ?_ ?_).2 9 ?_).2.1 ?_ ?_,
      (((whole h (setupFrame 0x10 0 1 14) (zeros 14) (listening 0x19 responder) ?_ ?_ (hears_in ?_ ?_ ?_) ?_ ?_ ?_).2 9 ?_).2.2 ?_ ?_).1 .badLength ?_⟩
  all_goals decide +kernel

/-- Whether an encapsulation key is one is a premise (log 9). -/
theorem witness_hello_answered : Obligations.SetupFramesOpenSessions →
    (Config.kemKeyOk 3 (zeros 1568) = true → (∃ e, Leads (.hello (frame macA 0x88B5 helloFrame)) { listening 0x19 responder with rng := {} } e) ∧
        ∃ e, Leads (.hello (frame macA 0x88B5 helloFrame)) (listening 0x19 responder) e) := by
  intro h
  have g (b : Bytes) (s : State) := h (frame macA 0x88B5 b) (subA 0x19) (heardOf b) s (took s b)
  have kem (hk : Config.kemKeyOk 3 (zeros 1568) = true) : helloFail (zeros 12 ++ be 2 256 ++ zeros 1699) = none :=
    hello_whole (by decide +kernel) (by decide +kernel) (by
      have hz : slice (zeros 12 ++ be 2 256 ++ zeros 1699) 145 1568 = zeros 1568 := by decide +kernel
      rw [hz]; exact hk)
  refine fun hk => ⟨(((whole h helloFrame (zeros 12 ++ be 2 256 ++ zeros 1699) { listening 0x19 responder with rng := {} } ?_ ?_ (hears_in ?_ ?_ ?_) ?_ ?_ ?_).2 9 ?_).2.2 ?_ ?_).2.1 (kem hk) ?_,
        (((whole h helloFrame (zeros 12 ++ be 2 256 ++ zeros 1699) (listening 0x19 responder) ?_ ?_ (hears_in ?_ ?_ ?_) ?_ ?_ ?_).2 9 ?_).2.2 ?_ ?_).2.2 (kem hk) ?_⟩
  all_goals decide +kernel

theorem witness_setups : Obligations.SetupFramesOpenSessions →
    ((∃ e, Leads (.offer (frame macA 0x88B5 (setupFrame 0x11 9 1 14))) (onStandby (listening 0x19 responder)) e) ∧
      (∃ e, Leads (.accept (frame macA 0x88B5 (setupFrame 0x12 9 1 14))) (onStandby (listening 0x19 responder)) e) ∧
      (∃ e, Leads (.offer (frame macA 0x88B5 (setupFrame 0x11 9 1 14))) (listening 0x19 (inSetup true 1)) e) ∧ (∃ e, Leads (.offer (frame macA 0x88B5 (setupFrame 0x11 9 2 14))) (listening 0x19 (inSetup true 0)) e) ∧
      (∃ e, Leads (.offer (frame macA 0x88B5 (setupFrame 0x11 9 1 14))) (listening 0x19 (inSetup true 0)) e) ∧ (∃ e, Leads (.accept (frame macA 0x88B5 (setupFrame 0x12 9 2 14))) (listening 0x19 (inSetup false 0)) e) ∧
      (∃ e, Leads (.accept (frame macA 0x88B5 (setupFrame 0x12 9 1 14))) (listening 0x19 (inSetup false 0)) e) ∧ (∃ e, Leads (.accept (frame macA 0x88B5 (setupFrame 0x12 9 1 14))) (listening 0x19 sess9) e) ∧
      (∃ e, Leads (.offer (frame macA 0x88B5 (setupFrame 0x11 9 1 14))) (listening 0x19 {}) e) ∧ ∃ e, Leads (.accept (frame macA 0x88B5 (setupFrame 0x12 9 1 14))) (listening 0x19 {}) e) := by
  intro h
  have g (b : Bytes) (s : State) := h (frame macA 0x88B5 b) (subA 0x19) (heardOf b) s (took s b)
  refine ⟨⟨_, (((g (setupFrame 0x11 9 1 14) (onStandby (listening 0x19 responder)) (hears_in ?_ ?_ ?_) ?_).2.1 ?_ ?_ ?_).1 ?_).1 ?_⟩,
      ⟨_, (((g (setupFrame 0x12 9 1 14) (onStandby (listening 0x19 responder)) (hears_in ?_ ?_ ?_) ?_).2.1 ?_ ?_ ?_).1 ?_).2 ?_⟩,
      ⟨_, (((g (setupFrame 0x11 9 1 14) (listening 0x19 (inSetup true 1)) (hears_in ?_ ?_ ?_) ?_).2.1 ?_ ?_ ?_).2.1 (setup9 true 1) ?_ ?_ ?_).1 ?_ ?_ ?_⟩,
      ⟨_, ((((g (setupFrame 0x11 9 2 14) (listening 0x19 (inSetup true 0)) (hears_in ?_ ?_ ?_) ?_).2.1 ?_ ?_ ?_).2.1 (setup9 true 0) ?_ ?_ ?_).2.1 ?_ ?_ ?_).1 ?_⟩,
      ⟨_, ((((g (setupFrame 0x11 9 1 14) (listening 0x19 (inSetup true 0)) (hears_in ?_ ?_ ?_) ?_).2.1 ?_ ?_ ?_).2.1 (setup9 true 0) ?_ ?_ ?_).2.1 ?_ ?_ ?_).2 (zeros 14) ?_⟩,
      ⟨_, ((((g (setupFrame 0x12 9 2 14) (listening 0x19 (inSetup false 0)) (hears_in ?_ ?_ ?_) ?_).2.1 ?_ ?_ ?_).2.1 (setup9 false 0) ?_ ?_ ?_).2.2 ?_ ?_).1 ?_⟩,
      ⟨_, ((((g (setupFrame 0x12 9 1 14) (listening 0x19 (inSetup false 0)) (hears_in ?_ ?_ ?_) ?_).2.1 ?_ ?_ ?_).2.1 (setup9 false 0) ?_ ?_ ?_).2.2 ?_ ?_).2 (zeros 14) ?_⟩,
      ⟨_, ((g (setupFrame 0x12 9 1 14) (listening 0x19 sess9) (hears_in ?_ ?_ ?_) ?_).2.1 ?_ ?_ ?_).2.2 ?_ ?_ ?_ ?_ ?_ ?_⟩,
      ⟨_, ((g (setupFrame 0x11 9 1 14) (listening 0x19 {}) (hears_in ?_ ?_ ?_) ?_).2.2.1 (.inr (.inr ?_))).1 ?_⟩,
      ⟨_, ((g (setupFrame 0x12 9 1 14) (listening 0x19 {}) (hears_in ?_ ?_ ?_) ?_).2.2.1 (.inr (.inr ?_))).2 ?_⟩⟩
  all_goals decide +kernel

/-- Whether a proof verifies is a premise (log 9). -/
theorem witness_accepts : Obligations.SetupFramesOpenSessions →
    (∃ e, (linked (sessIn .handshake) full).takeAccept 9 (setup9 false 0) [] = e) ∧
    ∀ b, (∀ k1 k2, proofFail k1 k2 "HTT-I" (thI (zeros 14) []) b = none) → ∃ e, (linked (sessIn .handshake) full).takeAccept 9 (setup9 false 0) b = e := by
  intro h
  obtain ⟨k1, g1⟩ := ok_of (a := (linked (sessIn .handshake) full).peerKey hEc 0 false) (by decide +kernel)
  obtain ⟨k2, g2⟩ := ok_of (a := (linked (sessIn .handshake) full).peerKey hDsa 0 true) (by decide +kernel)
  have hp : (linked (sessIn .handshake) full).peerKeys ((linked (sessIn .handshake) full).sessOf 9) = .ok (k1, k2) := by
    have e : (linked (sessIn .handshake) full).sessOf 9 = sessIn .handshake := rfl
    have e1 : (linked (sessIn .handshake) full).peerKey (sessIn .handshake).keyEc (sessIn .handshake).inst false = .ok k1 := g1
    have e2 : (linked (sessIn .handshake) full).peerKey (sessIn .handshake).keyDsa (sessIn .handshake).inst true = .ok k2 := g2
    unfold State.peerKeys; rw [e, e1, e2]
  have hl := hears_in (f := frame macA 0x88B5 (setupFrame 0x12 9 1 14)) (k := .htt (heardOf (setupFrame 0x12 9 1 14))) (s := listening 0x19 {}) (by decide +kernel) (by decide +kernel) (by decide +kernel)
  have f := (h _ _ _ _ _ hl (by decide +kernel)).2.2.2 9 (setup9 false 0)
  exact ⟨⟨_, (f [] k1 k2 (linked (sessIn .handshake) full) hp).1 .badLength rfl⟩,
    fun b hb => ⟨_, (f b k1 k2 (linked (sessIn .handshake) full) hp).2 (hb k1 k2)⟩⟩

/-! Timers and links. -/

/-- `listening`, at tick `n`. -/
def ticked (fl : Nat) (y : Sess) (n : Nat) : State := { listening fl y with tick := { count := n } }
/-- A message that waits for the credit of session 9. -/
def waits : Item := { stage := .parked, mask := setBit 0 evCredit, sess := some 9 }
def crediting (n : Nat) : State := { ticked 0x19 { sess9 with grantSent := 5, granted := 5 } n with disp := { live.disp with items := [(0, waits)] } }
/-- A sub-port that has been silent for three announcements; a peer that expires at tick 5. -/
def silent3 : State := { listening 0x19 {} with ports := [(0, { subs := [{ admin := true, link := true, silent := 3 }, {}, {}, {}], peers := [⟨0, 0, 0, 0, 0, 5, []⟩] })] }

theorem witness_timers : Obligations.SessionTimersAndLinksAct →
    ((∃ e, Leads (.setupTimeout 9) (ticked 0x19 (inSetup true 0) 1000) e) ∧ (∃ e, Leads (.setupTimeout 9) (ticked 0x19 (inSetup true 0) 0) e) ∧
      (∃ e, Leads (.helloResend 9) (ticked 0x19 (inSetup true 0) 250) e) ∧ (∃ e, Leads (.helloResend 9) (ticked 0x19 (inSetup true 0) 0) e) ∧
      (∃ e, Leads (.acceptResend 9) (ticked 0x19 (inSetup true 1) 64) e) ∧ ∃ e, Leads (.acceptResend 9) (ticked 0x19 (inSetup true 1) 63) e) ∧
    ((∃ e, Leads (.creditResend 9) (crediting 8) e) ∧ (∃ e, Leads (.creditResend 9) (crediting 7) e) ∧ (∃ e, Leads (.creditGrantSend 9) (ticked 0x19 sess9 1) e) ∧
      (∃ e, Leads (.creditGrantSend 9) (ticked 0x19 sess9 0) e) ∧ (∃ e, Leads (.parkTimeExpiry 9) (ticked 0x19 { sess9 with park := 5 } 5) e) ∧
      (∃ e, Leads (.parkTimeExpiry 9) (ticked 0x19 { sess9 with park := 5 } 4) e) ∧ (∃ e, Leads (.reclaimTimeExpiry 9) (ticked 0x19 { responder with reclaim := 5 } 5) e) ∧
      ∃ e, Leads (.reclaimTimeExpiry 9) (ticked 0x19 responder 5) e) ∧
    ((∃ e, Goes (.presenceAnnounce 0 0) (ticked 0x19 {} 0) e) ∧ (∃ e, Goes (.presenceAnnounce 0 0) (ticked 0x01 {} 10000) e) ∧ (∃ e, Goes (.presenceAnnounce 0 0) (ticked 0x19 {} 10000) e) ∧
      (∃ e, Goes (.lldpAnnounce 0 0) (ticked 0x19 {} 0) e) ∧ (∃ e, Goes (.lldpAnnounce 0 0) (ticked 0x01 {} 10000) e) ∧ (∃ e, Goes (.lldpAnnounce 0 0) (ticked 0x19 {} 10000) e) ∧
      (∃ e, Goes (.solitaryEntry 0 0) silent3 e) ∧ ∃ e, Goes (.solitaryEntry 0 0) (listening 0x19 {}) e) ∧
    ((∃ e, Goes (.peerEntryAgeing 0 0) { silent3 with tick := { count := 5 } } e) ∧ (∃ e, Goes (.peerEntryAgeing 0 0) silent3 e) ∧
      (∃ e, Leads (.linkChange 0 0 true) (listening 0x19 {}) e) ∧ ∃ e, Leads (.linkChange 0 0 false) (listening 0x19 {}) e) := by
  intro h
  have a (i : Bool) (k n : Nat) := h.1 9 (setup9 i k) (ticked 0x19 (inSetup i k) n) rfl (by cases i <;> rfl)
  have b (s : State) := h.2.1 9 s
  have c (fl n : Nat) := h.2.2.1 0 0 (subA fl) (ticked fl {} n)
  refine ⟨⟨⟨_, (a true 0 1000).1 ?_⟩, ⟨_, (a true 0 0).2.1 ?_⟩, ⟨_, ((a true 0 250).2.2.1 ?_ ?_).1 ?_⟩, ⟨_, ((a true 0 0).2.2.1 ?_ ?_).2 ?_⟩,
      ⟨_, ((a true 1 64).2.2.2 ?_ ?_).1 ?_⟩, ⟨_, ((a true 1 63).2.2.2 ?_ ?_).2 ?_⟩⟩,
    ⟨⟨_, (((b (crediting 8) ?_ ?_).1 ?_).1 ?_ ?_).1 ?_⟩, ⟨_, (((b (crediting 7) ?_ ?_).1 ?_).1 ?_ ?_).2 ?_⟩,
      ⟨_, (((b (ticked 0x19 sess9 1) ?_ ?_).1 ?_).2.1 0 ?_).1 ?_ ?_⟩, ⟨_, (((b (ticked 0x19 sess9 0) ?_ ?_).1 ?_).2.1 0 ?_).2 (.inr ?_)⟩,
      ⟨_, ((b (ticked 0x19 { sess9 with park := 5 } 5) ?_ ?_).1 ?_).2.2.1 ?_ ?_⟩, ⟨_, ((b (ticked 0x19 { sess9 with park := 5 } 4) ?_ ?_).1 ?_).2.2.2 (.inr ?_)⟩,
      ⟨_, ((b (ticked 0x19 { responder with reclaim := 5 } 5) ?_ ?_).2 ?_).1 ?_ ?_⟩, ⟨_, ((b (ticked 0x19 responder 5) ?_ ?_).2 ?_).2 (.inl ?_)⟩⟩,
    ⟨⟨_, (c 0x19 0 ?_ ?_).1 ?_⟩, ⟨_, ((c 0x01 10000 ?_ ?_).2.1 ?_).1 ?_⟩, ⟨_, ((c 0x19 10000 ?_ ?_).2.1 ?_).2 ?_⟩,
      ⟨_, (c 0x19 0 ?_ ?_).2.2.1 ?_⟩, ⟨_, ((c 0x01 10000 ?_ ?_).2.2.2.1 ?_).1 ?_⟩, ⟨_, ((c 0x19 10000 ?_ ?_).2.2.2.1 ?_).2 ?_⟩,
      ⟨_, (h.2.2.1 0 0 (subA 0x19) silent3 ?_ ?_).2.2.2.2.1 ?_ ?_⟩, ⟨_, (h.2.2.1 0 0 (subA 0x19) (listening 0x19 {}) ?_ ?_).2.2.2.2.2 (.inr ?_)⟩⟩,
    ⟨⟨_, (h.2.2.2.1 0 0 ⟨0, 0, 0, 0, 0, 5, []⟩ { silent3 with tick := { count := 5 } } ?_).1 ?_⟩, ⟨_, (h.2.2.2.1 0 0 ⟨0, 0, 0, 0, 0, 5, []⟩ silent3 ?_).2 ?_⟩,
      ⟨_, (h.2.2.2.2 0 0 (subA 0x19) true (listening 0x19 {}) ?_ ?_).1 ?_⟩, ⟨_, (h.2.2.2.2 0 0 (subA 0x19) false (listening 0x19 {}) ?_ ?_).2 ?_⟩⟩⟩
  all_goals decide +kernel

/-! ### An ill-formed command for each check of WellFormed, beside one that passes it -/

theorem test_wf_descriptor : (Instr.portAdmin (dsc 3 0 1 [])).wf = true ∧ (Instr.portAdmin { desc := zeros 63 }).wf = false := by decide
theorem test_wf_key_op : (Instr.delete ⟨0xFFFF, 0, []⟩).wf = true ∧ (Instr.delete ⟨4096, 0, []⟩).wf = false ∧ (Instr.delete ⟨0, 2 ^ 64, []⟩).wf = false := by decide
theorem test_wf_key_op_body : (Instr.writeKey ⟨0, 0, zeros 65536⟩).wf = false := by decide +kernel
theorem test_wf_frame : (Instr.hello ⟨63, 3, true, []⟩).wf = true ∧ (Instr.hello ⟨64, 3, true, []⟩).wf = false ∧ (Instr.hello ⟨63, 4, true, []⟩).wf = false := by decide
theorem test_wf_service : (Instr.serviceDescriptorFetch (fetched 0 none)).wf = true ∧ (Instr.serviceDescriptorFetch { fetched 0 none with qp := 65536 }).wf = false ∧
    (Instr.serviceDescriptorFetch { fetched 0 none with desc := zeros 65 }).wf = false := by decide
theorem test_wf_access : (Instr.registerWrite ⟨4095, 0, 8, 0⟩).wf = true ∧ (Instr.registerWrite ⟨4096, 0, 8, 0⟩).wf = false ∧ (Instr.registerWrite ⟨0, 2 ^ 64, 8, 0⟩).wf = false ∧
    (Instr.registerRead ⟨0, 0, 0, 0⟩).wf = false ∧ (Instr.rcRegisterRead ⟨0, 0, 65, 0⟩).wf = false ∧ (Instr.registerWrite ⟨0, 0, 8, 2 ^ 64⟩).wf = false := by decide
theorem test_wf_ecc : (Instr.eccError ⟨3391, true, 0, 0, 0, 0⟩).wf = true ∧ (Instr.eccError ⟨3392, true, 0, 0, 0, 0⟩).wf = false := by decide
theorem test_wf_welt : (Instr.weltLinkUp ⟨8, 0, 0, 0, [], [], 0, 0, true⟩).wf = true ∧ (Instr.weltLinkUp ⟨9, 0, 0, 0, [], [], 0, 0, true⟩).wf = false := by decide
theorem test_wf_card : (Instr.cardDetect ⟨0, 0, true, true, true, true, false, false, false, zeros 16⟩).wf = true ∧
    (Instr.cardDetect ⟨0, 0, true, true, true, true, false, false, false, zeros 15⟩).wf = false := by decide
theorem test_wf_debug : (Instr.debugAccess ⟨false, 0, []⟩).wf = true ∧ (Instr.debugAccess ⟨false, 2 ^ 64, []⟩).wf = false := by decide
theorem test_wf_start : (Instr.startUp ⟨true, List.replicate 32 (zeros 512), false, 3, 0⟩).wf = true ∧ (Instr.startUp ⟨true, List.replicate 31 (zeros 512), false, 3, 0⟩).wf = false ∧
    (Instr.startUp ⟨true, List.replicate 32 (zeros 511), false, 3, 0⟩).wf = false ∧ (Instr.startUp ⟨true, List.replicate 32 (zeros 512), false, 4, 0⟩).wf = false := by decide +kernel
theorem test_wf_quantum : (Instr.quantumEnd ⟨0, none, 2⟩).wf = true ∧ (Instr.quantumEnd ⟨0, none, 3⟩).wf = false := by decide
theorem test_wf_entry : (Instr.keyUpdateMessage (zeros 32) []).wf = true ∧ (Instr.keyUpdateMessage (zeros 31) []).wf = false := by decide
theorem test_wf_value : (Instr.mgmtSqTail (2 ^ 64 - 1)).wf = true ∧ (Instr.mgmtSqTail (2 ^ 64)).wf = false ∧ (Instr.errCodeSelect (2 ^ 64)).wf = false := by decide
theorem test_wf_function : (Instr.vfFlr 4095).wf = true ∧ (Instr.vfFlr 4096).wf = false ∧ (Instr.vfEnable 4096).wf = false ∧ (Instr.sqTail 0 256 0).wf = false := by decide
theorem test_wf_units : (Instr.itemAdmit 16).wf = false ∧ (Instr.bankCopyDone 4).wf = false ∧ (Instr.bankRetentionTimeout 3392).wf = false ∧ (Instr.arbiterStarvation 72 0 false).wf = false ∧
    (Instr.monitorAssert 16).wf = false ∧ (Instr.instanceQuiet 4096).wf = false := by decide
theorem test_wf_pages : (Instr.pageFetchDone 0 (some (zeros 4095))).wf = false ∧ (Instr.pageFetchTimeout (2 ^ 22)).wf = false ∧ (Instr.pageWriteConfirm 0 (some (zeros 63))).wf = false := by decide +kernel
theorem test_wf_sessions : (Instr.setupTimeout (2 ^ 20)).wf = false ∧ (Instr.flowLingerExpiry (2 ^ 20)).wf = false ∧ (Instr.lldpAnnounce 64 0).wf = false := by decide
theorem test_wf_noise : (Instr.noiseWindow 8 (zeros 512)).wf = false ∧ (Instr.noiseWindow 7 (zeros 511)).wf = false ∧ (Instr.drbgReseedCount 3 0).wf = false ∧ (Instr.drbgReseedCount 1 16).wf = false := by
  decide +kernel
theorem test_wf_messages : (Instr.instMbxOutPost 0 0 (zeros 1023) false).wf = false := by decide +kernel
theorem test_wf_link : (Instr.pcieLinkChange true 5 3 false).wf = false ∧ (Instr.ledgerRecordCommit 3).wf = false := by decide

/-! ### What the spec's words come to -/

/-- The table gives no bits, so no word spells a command. -/
theorem test_no_word_decodes : decodeTableWord 32 0 = none := by decide
/-- The Luhn digit of 7992739871 is 3 (the well-known example of the check of R129). -/
theorem test_luhn : luhnDigit [7, 9, 9, 2, 7, 3, 9, 8, 7, 1] = 3 := by decide
/-- A handle's fields lie where Table 3.1 puts them: instance [63:52], store [51:48], index [47:20], generation [19:0]. -/
theorem test_handle : hInst 0x0015000002A00003 = 1 ∧ hStore 0x0015000002A00003 = 5 ∧ hIndex 0x0015000002A00003 = 0x2A ∧ hGen 0x0015000002A00003 = 3 := by decide
/-- AES-128 keys have rank 3, two-key TDES rank 1 (Table 4.4a). -/
theorem test_strength : strengthRank algAes 16 = some 3 ∧ strengthRank algTdes 16 = some 1 := by decide
/-- A stitch word is little-endian with its opcode in byte 15 (R178). -/
theorem test_stitch_word : (Stitch.ofBytes ([7#8] ++ zeros 14 ++ [0x0B#8])).op = opHold ∧ (Stitch.ofBytes ([7#8] ++ zeros 14 ++ [0x0B#8])).imm = 7 := by decide

end Sys2Proof.Tests
end

section
/-! How a message ends (R192-R195, R206-R209, R247, R40): what each terminal stitch, EMIT, HOLD_DUE and the deadline come to, one lemma per case
of their definitions, and O56 assembled from them. -/

namespace Sys2Proof.Proofs

open Sys2Proof Sys2Proof.Machine Sys2Proof.Laws

/-! ### Terminal stitches (R209) -/

/-- No deferred stitch keeps a terminal stitch from acting: all have ended, and no failure is left to take. -/
def DeferredSettled (x : Item) : Prop := x.deferred.any (fun d => !d.ended) = false ∧ failedDeferred x.deferred = none

theorem deferredSettled_of_nil {x : Item} (h : x.deferred = []) : DeferredSettled x := by
  unfold DeferredSettled; rw [h]; exact ⟨rfl, rfl⟩

theorem terminalStitch_waits {x : Item} (h : x.deferred.any (fun d => !d.ended) = true) (n : Nat) (t : Stitch) (s : State) :
    s.terminalStitch n x t = s.modItem n (fun x => { x with ending := true }) := by
  unfold State.terminalStitch; rw [if_pos h]

theorem terminalStitch_respond {x : Item} {t : Stitch} {m : Msg} (h : DeferredSettled x) (ht : t.op = opRespond) (hm : x.msg = some m)
    (n : Nat) (s : State) : s.terminalStitch n x t = (s.modItem n (fun x => { x with ending := false })).sendBack n x m := by
  obtain ⟨hall, hok⟩ := h
  unfold State.terminalStitch; rw [hall, if_neg Bool.false_ne_true, hok]; dsimp only
  rw [ht, if_neg (by decide), if_neg (by decide), hm]

theorem terminalStitch_reject {x : Item} {t : Stitch} (h : DeferredSettled x) (ht : t.op = opReject) (n : Nat) (s : State) :
    s.terminalStitch n x t = (s.modItem n (fun x => { x with ending := false })).rejectNow n x t := by
  obtain ⟨hall, hok⟩ := h
  unfold State.terminalStitch; rw [hall, if_neg Bool.false_ne_true, hok]; dsimp only
  rw [if_pos ht]

theorem terminalStitch_drop {x : Item} {t : Stitch} (h : DeferredSettled x) (ht : t.op = opDrop) (n : Nat) (s : State) :
    s.terminalStitch n x t = (s.modItem n (fun x => { x with ending := false })).dropNow n x t := by
  obtain ⟨hall, hok⟩ := h
  unfold State.terminalStitch; rw [hall, if_neg Bool.false_ne_true, hok]; dsimp only
  rw [ht, if_neg (by decide), if_pos rfl]

/-- The stitch that runs in a row has the row's opcode. -/
theorem op_of_stitching {op n : Nat} {x : Item} {t : Stitch} {s : State} (h : Stitching op n x t s) : t.op = op := by
  obtain ⟨-, -, -, -, -, -, -, hop⟩ := h
  exact hop

/-- The row of a terminal stitch runs it. -/
theorem leads_terminal {i : Instr} {op n : Nat} {x : Item} {t : Stitch} {s e : State}
    (hx : exec i s = run (fun s => (s.stitchRow op State.terminalStitch n).settle) s) (h : Stitching op n x t s)
    (he : s.terminalStitch n x t = e) : Leads i s e :=
  leads_of hx ((stitchRow_runs _ h).trans he)

/-! ### Sending back (R193, R194) -/

theorem sendBack_undeliverable {x : Item} {k : Nat} {s : State} (hk : x.sess = some k) (ho : (s.sessOf k).st ≠ .opened) (n : Nat) (m : Msg) :
    s.sendBack n x m = ((s.fieldOps n 1).seamStat x 5).endItem n := by
  unfold State.sendBack; rw [hk]; dsimp only; rw [if_pos (bne_iff_ne.mpr ho)]

theorem sendBack_waits {x : Item} {k : Nat} {s : State} (hk : x.sess = some k) (ho : (s.sessOf k).st = .opened) (hc : s.canSend k = false)
    (n : Nat) (m : Msg) : s.sendBack n x m = s.park n (setBit 0 evCredit) := by
  unfold State.sendBack; rw [hk]; dsimp only; rw [if_neg (by simp [ho]), if_pos (by simp [hc])]

theorem sendBack_sends {x : Item} {k : Nat} {s : State} (hk : x.sess = some k) (ho : (s.sessOf k).st = .opened) (hc : s.canSend k = true)
    (n : Nat) (m : Msg) : s.sendBack n x m =
      (((s.fieldOps n (1 + msgNodes (s.itemPat x) m)).sendData k 2 (rebuild (s.itemPat x) m)).seamStat x 2).endItem n := by
  unfold State.sendBack; rw [hk]; dsimp only; rw [if_neg (by simp [ho]), if_neg (by simp [hc])]

theorem rejectNow_sends {x : Item} {t : Stitch} {m m' : Msg} {s : State} (hm : x.msg = some m) (hr : s.rejectMsg x t m = .ok m') (n : Nat) :
    s.rejectNow n x t = s.sendBack n x m' := by
  unfold State.rejectNow; rw [hm]; dsimp only; rw [hr]

theorem rejectNow_fails {x : Item} {t : Stitch} {m : Msg} {st : Status} {s : State} (hm : x.msg = some m) (hr : s.rejectMsg x t m = .error st)
    (n : Nat) : s.rejectNow n x t = ((s.fieldOps n 1).modItem n (fun x => { x with st := st.code })).takeFailure n x.ix := by
  unfold State.rejectNow; rw [hm]; dsimp only; rw [hr]

/-! ### EMIT (R192, R206) -/

/-- EMIT fails with NO_ROUTE. -/
def emitFails (n : Nat) (x : Item) (s : State) : State :=
  ((s.fieldOps n 1).modItem n (fun x => { x with st := Status.noRoute.code })).takeFailure n x.ix

theorem emitStitch_unrouted {x : Item} (hd : destOf x = none) (n : Nat) (t : Stitch) (s : State) :
    s.emitStitch n x t = emitFails n x s := by
  unfold State.emitStitch; rw [hd]; rfl

/-- A destination that is not open fails too; an initiator's setup starts (R284). -/
theorem emitStitch_closed {x : Item} {k : Nat} {s : State} (hd : destOf x = some k) (ho : (s.sessOf k).st ≠ .opened) (n : Nat) (t : Stitch) :
    s.emitStitch n x t =
      emitFails n x (if (s.sessOf k).st == .parked && (s.sessOf k).initiator then s.startSetup k else s) := by
  unfold State.emitStitch; rw [hd]; dsimp only; rw [if_pos (bne_iff_ne.mpr ho)]; rfl

theorem emitStitch_waits {x : Item} {k : Nat} {s : State} (hd : destOf x = some k) (ho : (s.sessOf k).st = .opened) (hc : s.canSend k = false)
    (n : Nat) (t : Stitch) : s.emitStitch n x t = s.park n (setBit 0 evCredit) := by
  unfold State.emitStitch; rw [hd]; dsimp only; rw [if_neg (by simp [ho]), if_pos (by simp [hc])]

theorem emitStitch_sends {x : Item} {k : Nat} {m : Msg} {s : State} (hm : x.msg = some m) (hd : destOf x = some k)
    (ho : (s.sessOf k).st = .opened) (hc : s.canSend k = true) (n : Nat) (t : Stitch) :
    s.emitStitch n x t = s.startEmission n k x m := by
  unfold State.emitStitch; rw [hd]; dsimp only; rw [if_neg (by simp [ho]), if_neg (by simp [hc]), hm]

/-- With every deferred stitch ended well the frame goes out whole. -/
theorem startEmission_completes {x : Item} (h : x.deferred.all (fun d => d.ended && d.status == .ok) = true) (n k : Nat) (m : Msg) (s : State) :
    s.startEmission n k x m =
      (((s.fieldOps n (1 + msgNodes (s.itemPat x) m)).sendData k 0 (rebuild (s.itemPat x) m)).seamStat x 1).endItem n := by
  unfold State.startEmission; dsimp only; rw [if_pos h]

theorem leads_emit {n : Nat} {x : Item} {t : Stitch} {s e : State} (h : Stitching opEmit n x t s) (he : s.emitStitch n x t = e) :
    Leads (.emit n) s e :=
  leads_of (Rows.emit n s) ((stitchRow_runs _ h).trans he)

/-! ### Held messages and the deadline (R247, R40) -/

theorem holdDue_due {n : Nat} {x : Item} {s : State} (hi : s.item? n = some x) (hw : s.works = true) (hs : x.stage = .held)
    (hd : x.due ≤ s.tick.count) : s.holdDue n = s.resume n := by
  unfold State.holdDue; rw [hi]; simp [hw, hs, hd]

theorem holdDue_early {n : Nat} {x : Item} {s : State} (hi : s.item? n = some x) (h : x.stage ≠ .held ∨ s.tick.count < x.due) :
    s.holdDue n = s := by
  unfold State.holdDue; rw [hi]; dsimp only
  rcases h with h | h
  · simp [h]
  · simp [Nat.not_le.mpr h]

theorem deadlineExpiry_late {n : Nat} {x : Item} {s : State} (hi : s.item? n = some x) (hw : s.works = true) (ht : x.transit = true)
    (ha : x.admitted = true) (hd : s.deadline x ≤ s.tick.count) : s.deadlineExpiry n =
      (((s.stomp n true).bump oTickDeadlineMissed).sourceNotice x Status.deadlineMissed.code).endItem n := by
  unfold State.deadlineExpiry; rw [hi]; simp [hw, ht, ha, hd]

theorem deadlineExpiry_early {n : Nat} {x : Item} {s : State} (hi : s.item? n = some x) (hd : s.tick.count < s.deadline x) :
    s.deadlineExpiry n = s := by
  unfold State.deadlineExpiry; rw [hi]; simp [Nat.not_le.mpr hd]

/-! ### O56 -/

/-- Settles O56, each clause by the lemma for its case: the row runs the stitch, and the stitch comes to what the clause says. -/
theorem messagesEndByTheirTerminalStitch : Obligations.MessagesEndByTheirTerminalStitch := by
  refine ⟨fun n x t m s hm => ⟨?waits, ?responds, ?undeliverable, ?rejects, ?drops, ?emits, ?completes⟩, fun n x s hi hw => ?timed⟩
  case waits =>
    intro op _ hs hd
    refine ⟨?_, ?_, ?_⟩ <;> rintro rfl
    · exact leads_terminal (Rows.respond n s) hs (terminalStitch_waits hd n t s)
    · exact leads_terminal (Rows.reject n s) hs (terminalStitch_waits hd n t s)
    · exact leads_terminal (Rows.drop n s) hs (terminalStitch_waits hd n t s)
  case responds =>
    intro hs hd k hk ho
    have acts := terminalStitch_respond (deferredSettled_of_nil hd) (op_of_stitching hs) hm n s
    exact ⟨fun hc => leads_terminal (Rows.respond n s) hs (acts.trans (sendBack_sends hk ho hc n m)),
      fun hc => leads_terminal (Rows.respond n s) hs (acts.trans (sendBack_waits hk ho hc n m))⟩
  case undeliverable =>
    intro hs hd k hk ho
    have acts := terminalStitch_respond (deferredSettled_of_nil hd) (op_of_stitching hs) hm n s
    exact leads_terminal (Rows.respond n s) hs (acts.trans (sendBack_undeliverable hk ho n m))
  case rejects =>
    intro hs hd
    have acts := terminalStitch_reject (deferredSettled_of_nil hd) (op_of_stitching hs) n s
    exact ⟨fun m' hr => leads_terminal (Rows.reject n s) hs (acts.trans (rejectNow_sends hm hr n)),
      fun st hr => leads_terminal (Rows.reject n s) hs (acts.trans (rejectNow_fails hm hr n))⟩
  case drops =>
    intro hs hd
    exact leads_terminal (Rows.drop n s) hs (terminalStitch_drop (deferredSettled_of_nil hd) (op_of_stitching hs) n s)
  case emits =>
    intro hs
    exact ⟨fun hd => leads_emit hs (emitStitch_unrouted hd n t s),
      fun k hd ho hc => leads_emit hs (emitStitch_sends hm hd ho hc n t),
      fun k hd ho hc => leads_emit hs (emitStitch_waits hd ho hc n t),
      fun k hd ho => leads_emit hs (emitStitch_closed hd ho n t)⟩
  case completes => exact fun k h => startEmission_completes h n k m s
  case timed =>
    exact ⟨fun hst hdue => leads_of (Rows.holdDue n s) (holdDue_due hi hw hst hdue),
      fun h => leads_of (Rows.holdDue n s) (holdDue_early hi h),
      fun ht ha hd => leads_of (Rows.deadlineExpiry n s) (deadlineExpiry_late hi hw ht ha hd),
      fun hd => leads_of (Rows.deadlineExpiry n s) (deadlineExpiry_early hi hd)⟩

end Sys2Proof.Proofs
end

section
/-! Doorbells (R301): the offset of a doorbell names its ring again, what a doorbell write does once the access has reached it, and O18 assembled
from these. `cq` tells the completion ring's head (`true`) from the submission ring's tail, as in `State.doorbellWrite`. -/

namespace Sys2Proof.Proofs

open Sys2Proof Sys2Proof.Machine Sys2Proof.Laws

/-! ### Offsets (Table 10.4) -/

theorem doorbell_pf0 (q k : Nat) : doorbell 0 q k = 0x501000 + 16 * q + 8 * k := rfl

theorem doorbell_vf {fn : Nat} (h : fn ≠ 0) (q k : Nat) : doorbell fn q k = 0x2000 + 16 * q + 8 * k := if_neg h

theorem b2n_le_one (b : Bool) : b2n b ≤ 1 := by cases b <;> decide

/-- The offset within the pair of doorbells tells the head from the tail. -/
theorem doorbell_ring {a q : Nat} (cq : Bool) (ha : a % 16 = 0) : ((a + 16 * q + 8 * b2n cq) % 16 == 8) = cq := by
  cases cq <;> simp only [b2n, Bool.false_eq_true, if_false, if_true, beq_eq_false_iff_ne, beq_iff_eq] <;> omega

theorem doorbell_index (a q : Nat) (cq : Bool) : (a + 16 * q + 8 * b2n cq - a) / 16 = q := by
  have := b2n_le_one cq
  omega

theorem writeReg_doorbell_pf0 {q v : Nat} (cq : Bool) (hq : q < 256) (hv : v < 2 ^ 64) (s : State) :
    s.writeReg 0 (doorbell 0 q (b2n cq)) 8 v = s.doorbellWrite 0 q v cq := by
  have hk := b2n_le_one cq
  rw [doorbell_pf0]
  have notMsix : (inMsixTable 0 (0x501000 + 16 * q + 8 * b2n cq) || inMsixPba 0 (0x501000 + 16 * q + 8 * b2n cq)) = false := by
    simp only [inMsixTable, inMsixPba, if_true, Bool.or_eq_false_iff, decide_eq_false_iff_not]; omega
  have rings : isDoorbell (0x501000 + 16 * q + 8 * b2n cq) = true := decide_eq_true (by omega)
  unfold State.writeReg
  rw [notMsix, if_neg Bool.false_ne_true, if_neg (by simp), if_pos rings, doorbell_index, doorbell_ring cq rfl, Nat.mod_eq_of_lt hv]

theorem writeReg_doorbell_vf {fn q v : Nat} (cq : Bool) (hf : fn ≠ 0) (hq : q < 256) (hv : v < 2 ^ 64) (s : State) :
    s.writeReg fn (doorbell fn q (b2n cq)) 8 v = s.doorbellWrite fn q v cq := by
  have hk := b2n_le_one cq
  rw [doorbell_vf hf]
  have notMsix : (inMsixTable fn (0x2000 + 16 * q + 8 * b2n cq) || inMsixPba fn (0x2000 + 16 * q + 8 * b2n cq)) = false := by
    simp only [inMsixTable, inMsixPba, if_neg hf, Bool.or_eq_false_iff, decide_eq_false_iff_not]; omega
  unfold State.writeReg
  rw [notMsix, if_neg Bool.false_ne_true, if_pos hf, if_pos (by omega), doorbell_index, doorbell_ring cq rfl, Nat.mod_eq_of_lt hv]

/-! ### A write that reaches its doorbell -/

/-- The function is there, in D0, and its registers are loaded: its doorbells answer by their queue pair alone. -/
def Listens (fn : Nat) (s : State) : Prop := s.hasFn fn = true ∧ s.pcie.d3.contains fn = false ∧ s.dev.regsUp = true

theorem decided_queues (s : State) : (decided s).queues = s.queues := State.bump64_queues ..

theorem listens_of_reaches {fn off : Nat} {s : State} (h : Reaches fn off s) : Listens fn (decided s) := by
  obtain ⟨hsees, -, hup, -⟩ := h
  simp only [State.hostSees, Bool.and_eq_true, Bool.not_eq_true'] at hsees
  obtain ⟨⟨⟨-, hfn⟩, hd0⟩, -⟩ := hsees
  have hpcie : (decided s).pcie = s.pcie := State.bump64_pcie ..
  have hdev : (decided s).dev = s.dev := State.bump64_dev ..
  unfold Listens State.hasFn
  rw [hpcie, hdev]
  exact ⟨hfn, hd0, hup⟩

/-- A doorbell's row is its write, decided on once. -/
theorem doorbellRow_reaches {fn q v : Nat} {s : State} (cq : Bool) (hq : q < 256) (hf : fn < 4096) (hv : v < 2 ^ 16)
    (h : Reaches fn (doorbell fn q (b2n cq)) s) : s.doorbellRow fn q (b2n cq) v = (decided s).doorbellWrite fn q v cq := by
  unfold State.doorbellRow
  rw [if_neg (by omega)]
  by_cases h0 : fn = 0
  · subst h0
    rw [if_pos rfl, pfWrite_reaches h, writeReg_doorbell_pf0 cq hq (by omega)]
  · rw [if_neg h0, State.vfReg64, hostWrite_reaches h, writeReg_doorbell_vf cq h0 hq (by omega)]

/-! ### What the write does (R301) -/

/-- The size of the ring that the doorbell moves. -/
def ringOf (cq : Bool) (x : Qp) : Nat := 2 ^ (if cq then x.cqLog else x.sqLog)

/-- The queue pair with the index that the doorbell writes. -/
def movedTo (cq : Bool) (v : Nat) (x : Qp) : Qp := if cq then { x with cqHead := v } else { x with sqTail := v }

section
variable {fn q v : Nat} {s : State} (cq : Bool) (h : Listens fn s) (hv : v < 2 ^ 16)
include h hv

theorem doorbellWrite_paired {k : Nat} {x : Qp} (hx : s.queueAt fn q = some (k, x)) :
    s.doorbellWrite fn q v cq = if !x.active || ringOf cq x ≤ v then s.rejectFn fn (doorbell fn q (b2n cq)) .badFieldValue
      else { s with queues := s.queues.set k (movedTo cq v x) } := by
  obtain ⟨hfn, hd0, hup⟩ := h
  have hmod : v % 65536 = v := Nat.mod_eq_of_lt hv
  unfold State.doorbellWrite
  simp only [hfn, hd0, hup, hx, hmod]
  rw [if_neg (by decide), if_neg (by decide), if_neg (by omega)]
  rfl

theorem doorbellWrite_takes {k : Nat} {x : Qp} (hx : s.queueAt fn q = some (k, x)) (ha : x.active = true) (hin : v < ringOf cq x) :
    s.doorbellWrite fn q v cq = { s with queues := s.queues.set k (movedTo cq v x) } := by
  rw [doorbellWrite_paired cq h hv hx, if_neg (by simp [ha, hin])]

theorem doorbellWrite_refuses {k : Nat} {x : Qp} (hx : s.queueAt fn q = some (k, x)) (hout : x.active = false ∨ ringOf cq x ≤ v) :
    s.doorbellWrite fn q v cq = s.rejectFn fn (doorbell fn q (b2n cq)) .badFieldValue := by
  rw [doorbellWrite_paired cq h hv hx, if_pos (by simpa using hout)]

theorem doorbellWrite_unpaired (hx : s.queueAt fn q = none) :
    s.doorbellWrite fn q v cq = s.rejectFn fn (doorbell fn q (b2n cq)) .badFieldValue := by
  obtain ⟨hfn, hd0, hup⟩ := h
  unfold State.doorbellWrite
  simp only [hfn, hd0, hup, hx]
  rw [if_neg (by decide), if_neg (by decide), if_neg (by omega)]

end

/-- R301 for one doorbell: whichever row `i` stands for it leads to what its write does. -/
theorem leads_doorbell {i : Instr} {fn q v : Nat} {s : State} (cq : Bool) (hi : exec i s = run (fun s => (s.doorbellRow fn q (b2n cq) v).settle) s)
    (hq : q < 256) (hf : fn < 4096) (hv : v < 2 ^ 16) (h : Reaches fn (doorbell fn q (b2n cq)) s) :
    (∀ k x, (decided s).queueAt fn q = some (k, x) → x.active = true → v < ringOf cq x →
      Leads i s { decided s with queues := (decided s).queues.set k (movedTo cq v x) }) ∧
    (∀ k x, (decided s).queueAt fn q = some (k, x) → (x.active = false ∨ ringOf cq x ≤ v) →
      Leads i s ((decided s).rejectFn fn (doorbell fn q (b2n cq)) .badFieldValue)) ∧
    ((decided s).queueAt fn q = none → Leads i s ((decided s).rejectFn fn (doorbell fn q (b2n cq)) .badFieldValue)) := by
  have row := doorbellRow_reaches cq hq hf hv h
  have listens := listens_of_reaches h
  exact ⟨fun k x hx ha hin => leads_of hi (row.trans (doorbellWrite_takes cq listens hv hx ha hin)),
    fun k x hx hout => leads_of hi (row.trans (doorbellWrite_refuses cq listens hv hx hout)),
    fun hx => leads_of hi (row.trans (doorbellWrite_unpaired cq listens hv hx))⟩

/-- Settles O18: a write that reaches a doorbell is a `doorbellWrite` of its ring (`doorbellRow_reaches`), whose three outcomes are those of R301. -/
theorem doorbellsMoveTheirRings : Obligations.DoorbellsMoveTheirRings := by
  refine ⟨fun fn q hf => ?vf, fun q => ?pf0, fun fn q v s hq hf hv => ?writes⟩
  case vf => constructor <;> rw [doorbell_vf hf] <;> omega
  case pf0 => constructor <;> rw [doorbell_pf0] <;> omega
  case writes =>
    rw [← decided_queues s]
    exact ⟨fun h => leads_doorbell false (Rows.sqTail fn q v s) hq hf hv h, fun h => leads_doorbell true (Rows.cqHead fn q v s) hq hf hv h⟩

end Sys2Proof.Proofs
end

section
/-! The reset pin (R518): what a low pulse on SYS_RST_N does in each of its three ranges of width, what the device reset leaves (R520), and O9
assembled from these. -/

namespace Sys2Proof.Proofs

open Sys2Proof Sys2Proof.Machine Sys2Proof.Laws

section

variable {ns : Nat} {s : State}

theorem sysReset_ignored (h : ns < 50) : s.sysReset ns = s := if_pos (.inr h)

theorem sysReset_glitch (hup : s.dev.rails = true) (hlow : 50 ≤ ns) (hhigh : ns < 10000) : s.sysReset ns = s.assertSource 13 := by
  unfold State.sysReset
  rw [if_neg (by simp [hup, hlow]), if_pos hhigh]

theorem sysReset_resets (hup : s.dev.rails = true) (h : 10000 ≤ ns) : s.sysReset ns = s.deviceReset 2 := by
  have hlow : 50 ≤ ns := by omega
  unfold State.sysReset
  rw [if_neg (by simp [hup, hlow]), if_neg (by omega)]

end

/-- R520, R449: after a device reset start-up may run exactly when the rails are up and the fuses do not decode as SCRAPPED. -/
theorem mayStart_deviceReset (cause : Nat) (s : State) : (s.deviceReset cause).mayStart = (s.dev.rails && s.fuses.decode != 4) := by
  simp [State.mayStart, State.deviceReset]

/-- Settles O9: `sysReset` ignores the pulse, asserts source 13 or resets the device by its width, and the row leads to what it does. -/
theorem resetPinIsFilteredByWidth : Obligations.ResetPinIsFilteredByWidth := by
  intro ns s hup
  have row := Rows.sysRstN ns s
  refine ⟨fun h => leads_of row (sysReset_ignored h), fun hlow hhigh => leads_of row (sysReset_glitch hup hlow hhigh), fun h => ?reset⟩
  case reset =>
    intro t
    have reset_eq : s.deviceReset 2 = t := by rw [State.deviceReset, hup]
    refine ⟨leads_of row ((sysReset_resets hup h).trans reset_eq), fun live => ?_⟩
    rw [← reset_eq, mayStart_deviceReset, hup]
    simpa using live

end Sys2Proof.Proofs
end

section
/-! What holds of every step: it answers a next state (O3), burns fuses alone (O4), settles nothing more in a quiet state (O6), and checks a
management command before it acts (O7). -/

namespace Sys2Proof.Proofs

open Sys2Proof Sys2Proof.Machine Sys2Proof.Laws

/-! ### The outcome of a command -/

theorem powerOn_outOfOrder {s : State} (h : s.dev.rails = false) : exec (.powerOn false) s = .fault .outsideRatedConditions := by
  show execPowerOn false s = _
  unfold execPowerOn; rw [h]; rfl

/-- Settles O1: `step` on a queue with a front command is `exec` of that command. -/
theorem stepRunsTheFrontCommand : Obligations.StepRunsTheFrontCommand := fun _ _ => rfl

/-- Settles O2: `step` on an empty queue answers the state itself. -/
theorem emptyQueueIdles : Obligations.EmptyQueueIdles := by
  intro s h
  unfold step; rw [h]

/-- Settles O3: every command runs one effect, but for POWER_ON out of order (`Rows.runs`). -/
theorem onlyPowerOnOutOfOrderStops : Obligations.OnlyPowerOnOutOfOrderStops := by
  intro c s
  rcases Rows.runs c s with ⟨f, hf⟩ | ⟨rfl, hr⟩
  · exact .inl ⟨_, hf⟩
  · exact .inr ⟨rfl, hr, powerOn_outOfOrder hr⟩

/-! ### Fuses only burn (R433, R448) -/

theorem getD_map_range (n k : Nat) (f : Nat → Nat) (h : k < n) : ((List.range n).map f).getD k 0 = f k := by
  simp [List.getD, h]

/-- The rows of a burned image hold the bits of both images. -/
theorem burned_burn (f g : Fuses) (row k : Nat) : (f.burn g).burned row k = (f.burned row k || g.burned row k) := by
  unfold Fuses.burned
  by_cases hs : row < 12
  · simp only [hs, if_true, Fuses.burn, getD_map_range 12 row _ hs, Nat.testBit_or]
  · by_cases ho : row < 15
    · have hk : row - 12 < 3 := by omega
      simp only [hs, ho, if_false, decide_true, Bool.true_and, Fuses.burn, getD_map_range 3 _ _ hk, Nat.testBit_or]
    · simp [hs, ho]

/-- What stands burned stays burned through a burn. -/
theorem keeps_burn {f g : Fuses} (h : f.keeps g) (new : Fuses) : f.keeps (g.burn new) := by
  obtain ⟨hrows, hresp, hthr, hsec, htorn⟩ := h
  refine ⟨fun row k hb => ?_, fun v hv => ?_, fun v hv => ?_, fun hd => ?_, fun ht => ?_⟩
  · rw [burned_burn, hrows row k hb, Bool.true_or]
  · simp only [Fuses.burn, hresp v hv]
  · simp only [Fuses.burn, hthr v hv]
  · simp only [Fuses.burn, hsec hd, Bool.false_and]
  · simp only [Fuses.burn, htorn ht, Bool.true_or]

/-- A step with a command waiting takes it off the queue, and its fuses are the old ones burned further. -/
theorem step_of_pending {c : Instr} {rest : List Instr} {s t : State} (hq : s.pending = c :: rest) (h : step s = .next t) :
    t.pending = rest ∧ ∃ new, t.fuses = s.fuses.burn new := by
  unfold step at h; rw [hq] at h; dsimp only at h
  rcases Rows.runs c { s with pending := rest } with ⟨f, hf⟩ | ⟨rfl, hr⟩
  · rw [hf] at h
    cases h
    exact ⟨rfl, _, rfl⟩
  · rw [powerOn_outOfOrder hr] at h
    cases h

/-- Settles O4: an idle step changes nothing, any other burns the fuses further (`step_of_pending`), and a burn keeps what stands (`keeps_burn`). -/
theorem everyStepKeepsBurnedFuses : Obligations.EveryStepKeepsBurnedFuses := by
  intro f s t hf hstep
  cases hq : s.pending with
  | nil =>
    rw [emptyQueueIdles s hq] at hstep
    cases hstep
    exact ⟨hf, hq, fun h => absurd rfl h⟩
  | cons c rest =>
    obtain ⟨hp, new, hburn⟩ := step_of_pending hq hstep
    refine ⟨?_, hp, fun _ => ?_⟩
    · rw [hburn]; exact keeps_burn hf new
    · rw [hburn]; simp [Fuses.burn]

/-! ### Quiet states -/

theorem settleAll_of_none {s : State} (h : s.settleOne = none) (n : Nat) : State.settleAll n s = s := by
  cases n with
  | zero => rfl
  | succ n => unfold State.settleAll; rw [h]

theorem settleOne_quiet {s : State} (h : Quiet s) : s.settleOne = none := by
  obtain ⟨hpassed, hurgent, hstaged, -, -⟩ := h
  unfold State.settleOne; rw [hpassed, hurgent, hstaged]

theorem dropUndeliverable_no_items {s : State} (h : s.disp.items = []) : s.dropUndeliverable = s := by
  unfold State.dropUndeliverable; rw [h]; rfl

theorem reapJobs_no_jobs {s : State} (h : s.eng.jobs = []) : s.reapJobs = s := by
  unfold State.reapJobs; rw [h]; rfl

theorem pump_no_items {s : State} (h : s.disp.items = []) : s.pump = s := by
  unfold State.pump; rw [h]; rfl

theorem after_quiet {e t : State} (h : Quiet e) (ha : After e t) : t = e := by
  obtain ⟨n, rfl⟩ := ha
  rw [settleAll_of_none (settleOne_quiet h)]
  obtain ⟨-, -, -, hitems, hjobs⟩ := h
  rw [dropUndeliverable_no_items hitems, reapJobs_no_jobs hjobs, pump_no_items hitems]

/-- Settles O6: each part of what settles leaves a quiet state alone. -/
theorem quietStatesAreSettled : Obligations.QuietStatesAreSettled := by
  refine ⟨fun e t => after_quiet, fun c s e hq hl => ?_⟩
  obtain ⟨t, ha, hg⟩ := hl
  rwa [after_quiet hq ha] at hg

/-! ### The checks of a management command (R41, R43, R423) -/

section
variable {code : Nat} {c : Cmd} {s : State} (eff : MCmd → State → Eff)

theorem cmdRow_malformed {st : Status} (hw : s.works = true) (hf : formatFail (coded code c) = some st) :
    s.cmdRow code eff c = s.completeAs { submitted code c s with point := 0 } st.code 0 0 := by
  rw [cmdRow_eq, hw, hf]; rfl

theorem cmdRow_commits (hw : s.works = true) (hf : formatFail (coded code c) = none) :
    s.cmdRow code eff c = s.commitCmd eff { submitted code c s with point := 0 } := by
  rw [cmdRow_eq, hw, hf]; rfl

theorem cmdRow_idle (hw : s.works = false) : s.cmdRow code eff c = s := by
  rw [cmdRow_eq, hw]; rfl

theorem commitCmd_standby (hs : s.standby = true) (ha : standbyAccepts (coded code c).code = false) :
    s.commitCmd eff { submitted code c s with point := 0 } = s.finish (submitted code c s) .notActive := by
  rw [commitCmd_eq, if_pos (by simp [submitted, hs, ha])]; rfl

theorem commitCmd_stale (hs : s.standby = false ∨ standbyAccepts (coded code c).code = true) (hv : versionOk (coded code c) s = false) :
    s.commitCmd eff { submitted code c s with point := 0 } = s.finish (submitted code c s) .stateMismatch := by
  have active : ¬ (s.standby && !standbyAccepts (coded code c).code) = true := by rcases hs with hs | hs <;> simp [hs]
  exact (commitCmd_eq eff _ s).trans ((if_neg active).trans (if_pos (by simp [submitted, hv])))

end

/-- Settles O7: every management row runs `cmdRow` (`Rows.mgmt`), which makes these checks before the command's effect. -/
theorem commandsAreCheckedBeforeTheyAct : Obligations.CommandsAreCheckedBeforeTheyAct := by
  refine ⟨fun i code c s st hi hw hf => ?malformed, fun i code c s hi hw hf hs hv => ?stale, fun i code c s hi hw hf hs ha => ?standby,
    fun i code c s hi hw => ?idle⟩ <;> obtain ⟨eff, hx⟩ := Rows.mgmt s hi
  case malformed => exact leads_of hx (cmdRow_malformed eff hw hf)
  case stale => exact leads_of hx ((cmdRow_commits eff hw hf).trans (commitCmd_stale eff hs hv))
  case standby => exact leads_of hx ((cmdRow_commits eff hw hf).trans (commitCmd_standby eff hs ha))
  case idle => exact leads_of hx (cmdRow_idle eff hw)

end Sys2Proof.Proofs
end

section
/-! Register accesses (R3, R4, R9, R54, R497-R499): what a write and a read of PF0's BAR0 come to, check by check (O15, O16), and the listed
registers whose writes other statements speak of. -/

namespace Sys2Proof.Proofs

open Sys2Proof Sys2Proof.Machine Sys2Proof.Laws

/-! ### Masks -/

theorem and_low_mask {v k : Nat} (h : v < 2 ^ k) : v &&& (2 ^ k - 1) = v := Nat.and_two_pow_sub_one_of_lt_two_pow h

/-- A value below 2^k has no bit where a mask starts at bit k. -/
theorem and_high_mask {v k : Nat} (m : Nat) (h : v < 2 ^ k) : v &&& 2 ^ k * m = 0 := by
  apply Nat.eq_of_testBit_eq
  intro i
  simp only [Nat.testBit_and, Nat.testBit_two_pow_mul, Nat.zero_testBit, Bool.and_eq_false_iff]
  by_cases hi : k ≤ i
  · exact .inl (Nat.testBit_lt_two_pow (lt_of_lt_of_le h (Nat.pow_le_pow_right (by decide) hi)))
  · exact .inr (by simp [hi])

/-! ### The path of an access -/

section
variable {off size v : Nat} {s : State}

theorem barred_aligned (hup : s.dev.regsUp = true) (hok : accessOk 0 off size = true) (kind : Nat) : s.barred false 0 off size kind =
    if (decided s).allowed 2 kind (regStore 0 off) then none else some ((decided s).denied 2 (regStore 0 off)) := by
  simp only [State.barred, hok, hup]; rfl

section
variable (hsees : s.hostSees 0 off = true)
include hsees

theorem hostWrite_misaligned (h : accessOk 0 off size = false) :
    s.hostWriteReg { fn := 0, off := off, size := size, value := v } = s.reject off .badAlignment := by
  simp only [State.hostWriteReg, hsees, if_true, State.busWrite, State.barred, h]; rfl

theorem hostRead_misaligned (h : accessOk 0 off size = false) :
    s.hostReadReg { fn := 0, off := off, size := size, value := v } = (s.reject off .badAlignment).emit (.value 0) := by
  simp only [State.hostReadReg, hsees, if_true, State.busRead, State.barred, h]; rfl

variable (hup : s.dev.regsUp = true) (hok : accessOk 0 off size = true)
include hup hok

theorem hostWrite_denied (h : (decided s).allowed 2 1 (regStore 0 off) = false) :
    s.hostWriteReg { fn := 0, off := off, size := size, value := v } = (decided s).denied 2 (regStore 0 off) := by
  simp only [State.hostWriteReg, hsees, if_true, State.busWrite, barred_aligned hup hok, h]; rfl

theorem hostRead_denied (h : (decided s).allowed 2 0 (regStore 0 off) = false) :
    s.hostReadReg { fn := 0, off := off, size := size, value := v } = ((decided s).denied 2 (regStore 0 off)).emit (.value 0) := by
  simp only [State.hostReadReg, hsees, if_true, State.busRead, barred_aligned hup hok, h]; rfl

theorem hostWrite_allowed (h : (decided s).allowed 2 1 (regStore 0 off) = true) :
    s.hostWriteReg { fn := 0, off := off, size := size, value := v } = (decided s).writeReg 0 off size v := by
  simp only [State.hostWriteReg, hsees, if_true, State.busWrite, barred_aligned hup hok, h, State.when, hup]; rfl

theorem hostRead_allowed (h : (decided s).allowed 2 0 (regStore 0 off) = true) :
    s.hostReadReg { fn := 0, off := off, size := size, value := v } =
      ((decided s).readEffect 0 off).emit (.value ((decided s).readValue 0 off size)) := by
  simp only [State.hostReadReg, hsees, if_true, State.busRead, barred_aligned hup hok, h, State.when, hup]; rfl

end

/-- An offset outside the MSI-X structures and the doorbells. -/
def Plain (off : Nat) : Prop := inMsixTable 0 off = false ∧ inMsixPba 0 off = false ∧ isDoorbell off = false

/-- A listed register of PF0's BAR0. -/
def Listed (off : Nat) (b : BlockDef) (r : RegDef) : Prop := Plain off ∧ blockOf off = some b ∧ regAt off = some r

theorem writeReg_of_listed {b : BlockDef} {r : RegDef} (h : Listed off b r) : s.writeReg 0 off size v = s.writeListed b r off v := by
  obtain ⟨⟨ht, hp, hd⟩, hb, hr⟩ := h
  unfold State.writeReg
  rw [ht, hp, if_neg (by decide), if_neg (by decide), hd, if_neg (by decide), hb, hr]

section
variable {b : BlockDef} {r : RegDef}

theorem writeListed_reserved (h64 : v < 2 ^ 64) (h : v &&& r.rsv ≠ 0) : s.writeListed b r off v = s.reject off .reservedNonzero := by
  simp only [State.writeListed, Nat.mod_eq_of_lt h64, if_pos h]

variable (h64 : v < 2 ^ 64) (hrsv : v &&& r.rsv = 0)
include h64 hrsv

theorem writeListed_readOnly (h : r.rw = 0) : s.writeListed b r off v = s := by
  unfold State.writeListed; dsimp only
  rw [Nat.mod_eq_of_lt h64, if_neg (not_not_intro hrsv), if_pos h]

theorem writeListed_refused {st : Status} (h : r.rw ≠ 0) (hc : firstFail (s.writeChecks b off (v &&& r.rw)) = some st) :
    s.writeListed b r off v = s.reject off st := by
  unfold State.writeListed; dsimp only
  rw [Nat.mod_eq_of_lt h64, if_neg (not_not_intro hrsv), if_neg h, hc]

theorem writeListed_takes (h : r.rw ≠ 0) (hc : firstFail (s.writeChecks b off (v &&& r.rw)) = none) :
    s.writeListed b r off v = s.writeEffect b r off (v &&& r.rw) := by
  unfold State.writeListed; dsimp only
  rw [Nat.mod_eq_of_lt h64, if_neg (not_not_intro hrsv), if_neg h, hc]

end

/-- Settles O15: each clause is one branch of the access's path (`barred_aligned`) or of `writeListed`. -/
theorem registerWritesAreCheckedFirst : Obligations.RegisterWritesAreCheckedFirst := by
  intro off size v s hsees hup a
  have row := Rows.registerWrite a s
  refine ⟨fun hbad => leads_of row (hostWrite_misaligned hsees hbad), fun hok hno => leads_of row (hostWrite_denied hsees hup hok hno),
    fun b r hok hyes ht hp hd hb hr h64 => ?listed⟩
  have path : s.hostWriteReg a = (decided s).writeListed b r off v :=
    (hostWrite_allowed hsees hup hok hyes).trans (writeReg_of_listed ⟨⟨ht, hp, hd⟩, hb, hr⟩)
  exact ⟨fun h => leads_of row (path.trans (writeListed_reserved h64 h)),
    fun h h0 => leads_of row (path.trans (writeListed_readOnly h64 h h0)),
    fun h h0 st hc => leads_of row (path.trans (writeListed_refused h64 h h0 hc)),
    fun h h0 hc => leads_of row (path.trans (writeListed_takes h64 h h0 hc))⟩

/-! ### Reads -/

theorem readEffect_noBlock (hp : Plain off) (hb : blockOf off = none) : s.readEffect 0 off = s.reject off .badFieldValue := by
  obtain ⟨ht, hpba, -⟩ := hp
  unfold State.readEffect
  rw [ht, hpba, if_neg (by decide), if_neg (by decide), hb]

theorem readEffect_unlisted {b : BlockDef} (hp : Plain off) (hb : blockOf off = some b) (hr : regAt off = none) : s.readEffect 0 off = s := by
  obtain ⟨ht, hpba, -⟩ := hp
  unfold State.readEffect
  rw [ht, hpba, if_neg (by decide), if_neg (by decide), hb]; dsimp only; rw [hr]

theorem readEffect_of_listed {b : BlockDef} {r : RegDef} (h : Listed off b r) :
    s.readEffect 0 off = (s.clearRc b r off).when (off == oTwinMirror) (State.spend 8) := by
  obtain ⟨⟨ht, hpba, -⟩, hb, hr⟩ := h
  unfold State.readEffect
  rw [ht, hpba, if_neg (by decide), if_neg (by decide), hb]; dsimp only; rw [hr]

theorem readValue_unlisted (hp : Plain off) (hr : regAt off = none) : s.readValue 0 off size = 0 := by
  obtain ⟨ht, hpba, hd⟩ := hp
  unfold State.readValue
  rw [ht, hpba, if_neg (by decide), if_neg (by decide), hd, if_neg (by decide), hr]
  cases blockOf off <;> rfl

theorem readValue_of_listed {b : BlockDef} {r : RegDef} (h : Listed off b r) : s.readValue 0 off size = s.view b r off := by
  obtain ⟨⟨ht, hpba, hd⟩, hb, hr⟩ := h
  unfold State.readValue
  rw [ht, hpba, if_neg (by decide), if_neg (by decide), hd, if_neg (by decide), hb, hr]

/-- Outside every block no register is listed. -/
theorem regAt_of_noBlock (h : blockOf off = none) : regAt off = none := by unfold regAt; rw [h]

/-- Settles O16: both rows are one read, whose answer and effect follow from the block and the register at the offset. -/
theorem registerReadsAnswerValues : Obligations.RegisterReadsAnswerValues := by
  intro off size v s hsees hup a i hi
  have row : exec i s = run (fun s => s.hostReadReg a) s := by
    rcases hi with rfl | rfl
    · exact Rows.registerRead a s
    · exact Rows.rcRegisterRead a s
  refine ⟨fun hbad => goes_of row (hostRead_misaligned hsees hbad), fun hok hno => goes_of row (hostRead_denied hsees hup hok hno),
    fun hok hyes ht hpba hd => ?_⟩
  have plain : Plain off := ⟨ht, hpba, hd⟩
  have read := hostRead_allowed (v := v) hsees hup hok hyes
  refine ⟨fun hb => goes_of row (read.trans ?_), fun b hb hr => goes_of row (read.trans ?_), fun b r hb hr => goes_of row (read.trans ?_)⟩
  · rw [readEffect_noBlock plain hb, readValue_unlisted plain (regAt_of_noBlock hb)]
  · rw [readEffect_unlisted plain hb hr, readValue_unlisted plain hr]
  · rw [readEffect_of_listed ⟨plain, hb, hr⟩, readValue_of_listed ⟨plain, hb, hr⟩]

/-! ### A row that writes one register -/

/-- A write of a listed register that the host reaches, of a value within the register's writable bits. -/
def Writes (off v : Nat) (b : BlockDef) (r : RegDef) (s : State) : Prop :=
  Reaches 0 off s ∧ Listed off b r ∧ v < 2 ^ 64 ∧ v &&& r.rsv = 0 ∧ v &&& r.rw = v ∧ r.rw ≠ 0

section
variable {b : BlockDef} {r : RegDef} (h : Writes off v b r s)
include h

theorem pfWrite_refused {st : Status} (hc : firstFail ((decided s).writeChecks b off v) = some st) :
    s.pfWrite off v = (decided s).reject off st := by
  obtain ⟨hreach, hl, h64, hrsv, hrw, h0⟩ := h
  rw [pfWrite_reaches hreach, writeReg_of_listed hl]
  exact writeListed_refused h64 hrsv h0 (by rw [hrw]; exact hc)

theorem pfWrite_takes (hc : firstFail ((decided s).writeChecks b off v) = none) :
    s.pfWrite off v = (decided s).writeEffect b r off v := by
  obtain ⟨hreach, hl, h64, hrsv, hrw, h0⟩ := h
  rw [pfWrite_reaches hreach, writeReg_of_listed hl, writeListed_takes h64 hrsv h0 (by rw [hrw]; exact hc), hrw]

end

/-- A value that fits the `k` writable bits of a register whose other bits are all reserved. -/
theorem writes_of_low {k : Nat} {b : BlockDef} {r : RegDef} (hreach : Reaches 0 off s) (hl : Listed off b r) (hv : v < 2 ^ k)
    (hk : 0 < k ∧ k ≤ 64) (hrw : r.rw = 2 ^ k - 1) (hrsv : r.rsv = 2 ^ k * (2 ^ (64 - k) - 1)) : Writes off v b r s := by
  refine ⟨hreach, hl, lt_of_lt_of_le hv (Nat.pow_le_pow_right (by decide) hk.2), ?_, ?_, ?_⟩
  · rw [hrsv]; exact and_high_mask _ hv
  · rw [hrw]; exact and_low_mask hv
  · have := Nat.one_lt_two_pow_iff.mpr (Nat.pos_iff_ne_zero.mp hk.1)
    omega

end

end Sys2Proof.Proofs
end

section
/-! The registers that rows of their own write: the reset request (O10), rings and the urgent slot (O17), mailboxes (O19), test and debug (O20). -/

namespace Sys2Proof.Proofs

open Sys2Proof Sys2Proof.Machine Sys2Proof.Laws

theorem firstFail_none_of_true {b : Bool} (st : Status) (rest : List (Bool × Status)) (h : b = true) :
    firstFail ((b, st) :: rest) = firstFail rest := by rw [h]; rfl

theorem firstFail_of_false {b : Bool} (st : Status) (rest : List (Bool × Status)) (h : b = false) :
    firstFail ((b, st) :: rest) = some st := by rw [h]; rfl

/-! ### DEV_RESET_REQUEST (R528) -/

section
variable {v : Nat} {s : State}

theorem resetRequest_write (h : Reaches 0 oDevResetRequest s) (hv : v < 2 ^ 32) :
    s.pfWrite oDevResetRequest v = (decided s).resetRequest v :=
  pfWrite_takes (writes_of_low (b := ⟨0, 0x0, 0xffff, 0x0, devRegs⟩) (r := ⟨0x48, 0xffffffff, 0, 0xffffffff00000000, 0⟩) h
    ⟨⟨rfl, rfl, rfl⟩, rfl, rfl⟩ hv (by decide) rfl rfl) rfl

theorem resetRequest_key : s.resetRequest 0x51205E7E = { s with dev := { s.dev with resetReq := true } } := rfl

theorem resetRequest_other (hv : v < 2 ^ 32) (hk : v ≠ 0x51205E7E) : s.resetRequest v = s.reject oDevResetRequest .badFieldValue := by
  unfold State.resetRequest; rw [if_neg (by omega), if_pos hk]

theorem tickBoundary_resets (hup : s.dev.rails = true) (hdue : s.tick.due = false) (hreq : s.dev.resetReq = true) :
    s.tickBoundary = s.deviceReset 3 := by
  unfold State.tickBoundary; rw [if_neg (by simp [hup, hdue]), if_pos hreq]

end

/-- Settles O10: the write comes to `resetRequest`, which takes its key alone; the tick boundary then resets the device. -/
theorem resetRequestTakesItsKeyAlone : Obligations.ResetRequestTakesItsKeyAlone := by
  refine ⟨fun s h => ?key, fun v s h hv hk => ?other, fun s hup hdue hreq => ?reset⟩
  case key => exact goes_of (Rows.devResetRequest _ s) ((resetRequest_write h (by decide)).trans resetRequest_key)
  case other => exact goes_of (Rows.devResetRequest v s) ((resetRequest_write h hv).trans (resetRequest_other hv hk))
  case reset => exact leads_of (Rows.tickBoundary s) ((tickBoundary_resets hup hdue hreq).trans (by rw [State.deviceReset, hup]))

/-! ### Tails and heads of the rings (R56, R57) -/

section
variable {off size v : Nat} {s t : State} {b : BlockDef} {r : RegDef} (h : Writes off v b r s)
  (hc : (decided s).writeChecks b off v = [(decide (v < (decided s).ringSize size), .badFieldValue)])
include h hc

/-- An index within the ring is taken. -/
theorem index_taken (hv : v < (decided s).ringSize size) : s.pfWrite off v = (decided s).writeEffect b r off v :=
  pfWrite_takes h (by rw [hc]; exact firstFail_none_of_true _ _ (decide_eq_true hv))

/-- An index at or beyond the ring's size is refused. -/
theorem index_refused (hv : (decided s).ringSize size ≤ v) : s.pfWrite off v = (decided s).reject off .badFieldValue :=
  pfWrite_refused h (by rw [hc]; exact firstFail_of_false _ _ (decide_eq_false (Nat.not_lt.mpr hv)))

end

/-- The blocks of the management queue, of the key pages and of the key updates (Table 0.3). -/
def mgmtBlock : BlockDef := ⟨3, 0x30000, 0x30fff, 0x0, mgmtRegs⟩
def kpgBlock : BlockDef := ⟨7, 0x340000, 0x3fffff, 0x0, kpgRegs⟩
def kumBlock : BlockDef := ⟨12, 0x680000, 0x6fffff, 0x0, kumRegs⟩

/-- A register of 16 writable bits, all others reserved. -/
def indexReg (o : Nat) : RegDef := ⟨o, 0xffff, 0, 0xffffffffffff0000, 0⟩

section
variable {v : Nat} {s : State} (hv : v < 2 ^ 16)
include hv

theorem writes_index {off o : Nat} {b : BlockDef} (h : Reaches 0 off s) (hl : Listed off b (indexReg o)) : Writes off v b (indexReg o) s :=
  writes_of_low h hl hv (by decide) rfl rfl

theorem writes_sqTail (h : Reaches 0 oMgmtSqTail s) : Writes oMgmtSqTail v mgmtBlock (indexReg 0x10) s :=
  writes_index hv h ⟨⟨rfl, rfl, rfl⟩, rfl, rfl⟩
theorem writes_cqHead (h : Reaches 0 oMgmtCqHead s) : Writes oMgmtCqHead v mgmtBlock (indexReg 0x30) s :=
  writes_index hv h ⟨⟨rfl, rfl, rfl⟩, rfl, rfl⟩
theorem writes_kumSqTail (h : Reaches 0 oKumSqTail s) : Writes oKumSqTail v kumBlock (indexReg 0x10) s :=
  writes_index hv h ⟨⟨rfl, rfl, rfl⟩, rfl, rfl⟩
theorem writes_kumCqHead (h : Reaches 0 oKumCqHead s) : Writes oKumCqHead v kumBlock (indexReg 0x30) s :=
  writes_index hv h ⟨⟨rfl, rfl, rfl⟩, rfl, rfl⟩
theorem writes_noticeHead (h : Reaches 0 oKpgNoticeHead s) :
    Writes oKpgNoticeHead v kpgBlock ⟨0x28, 0xfffff, 0, 0xfffffffffff00000, 0⟩ s :=
  writes_of_low (k := 20) h ⟨⟨rfl, rfl, rfl⟩, rfl, rfl⟩ (by omega) (by decide) rfl rfl

end

theorem releaseHeld_nothing {s : State} (h : s.mgmt.held = []) (n : Nat) : s.releaseHeld n = s := by
  cases n with
  | zero => rfl
  | succ n => unfold State.releaseHeld; rw [h]

theorem releaseKum_nothing {s : State} (h : s.kum.held = []) (n : Nat) : s.releaseKum n = s := by
  cases n with
  | zero => rfl
  | succ n => unfold State.releaseKum; rw [h]

section
variable (v : Nat) (s : State)

theorem cqHeadEffect : (decided s).writeEffect mgmtBlock (indexReg 0x30) oMgmtCqHead v =
    State.releaseHeld (s.mgmt.held.length + 1) { decided s with mgmt := { s.mgmt with cqHead := v } } := by
  have same : (decided s).mgmt = s.mgmt := rfl
  have num : mgmtBlock.num = 3 := rfl
  have rel : mgmtBlock.rel oMgmtCqHead = 0x30 := rfl
  simp [State.writeEffect, num, rel, same]

theorem kumCqHeadEffect : (decided s).writeEffect kumBlock (indexReg 0x30) oKumCqHead v =
    State.releaseKum (s.kum.held.length + 1) { decided s with kum := { s.kum with cqHead := v } } := by
  have same : (decided s).kum = s.kum := rfl
  have num : kumBlock.num = 12 := rfl
  have rel : kumBlock.rel oKumCqHead = 0x30 := rfl
  simp [State.writeEffect, num, rel, same]

end

/-! ### The digest acknowledge and the urgent slot (R51, R57) -/

theorem writes_digestAck {v : Nat} {s : State} (hv : v < 2) (h : Reaches 0 oMgmtDigestAck s) :
    Writes oMgmtDigestAck v mgmtBlock ⟨0x50, 0x1, 0, 0xfffffffffffffffe, 0x1⟩ s :=
  writes_of_low (k := 1) h ⟨⟨rfl, rfl, rfl⟩, rfl, rfl⟩ hv (by decide) rfl rfl

/-- Every address of a descriptor (a multiple of 128) lies within MGMT_URGENT's writable bits. -/
theorem writes_urgent {k : Nat} {s : State} (hk : k < 2 ^ 57) (h : Reaches 0 oMgmtUrgent s) :
    Writes oMgmtUrgent (128 * k) mgmtBlock ⟨0x78, 0xffffffffffffff80, 0, 0x7e, 0⟩ s := by
  refine ⟨h, ⟨⟨rfl, rfl, rfl⟩, rfl, rfl⟩, by omega, ?_, ?_, by decide⟩
  · rw [Nat.and_comm]; exact and_high_mask (v := 0x7e) (k := 7) k (by decide)
  · have shifted (a : Nat) : 128 * a = a <<< 7 := by rw [Nat.shiftLeft_eq, Nat.mul_comm]
    have kept : k <<< 7 &&& (2 ^ 57 - 1) <<< 7 = k <<< 7 := by rw [← Nat.shiftLeft_and_distrib, and_low_mask hk]
    rw [shifted]; exact kept

theorem urgentEffect {k : Nat} {s : State} : s.writeEffect mgmtBlock ⟨0x78, 0xffffffffffffff80, 0, 0x7e, 0⟩ oMgmtUrgent (128 * k) =
    { s with mgmt := { s.mgmt with urgAddr := 128 * k, busy := true, urgRead := false } } := by
  have aligned : 128 * k / 128 * 128 = 128 * k := by omega
  conv_rhs => rw [← aligned]
  rfl

theorem urgentChecks (k : Nat) (s : State) : (decided s).writeChecks mgmtBlock oMgmtUrgent (128 * k) = [(k != 0, .badFieldValue), (!s.mgmt.busy, .busy)] := by
  have quot : 128 * k / 128 = k := by omega
  conv_rhs => rw [← quot]
  rfl

section
variable {k : Nat} {s : State} (hk : k < 2 ^ 57) (h : Reaches 0 oMgmtUrgent s)
include hk h

theorem urgent_taken (h0 : k ≠ 0) (hb : s.mgmt.busy = false) : s.pfWrite oMgmtUrgent (128 * k) =
    { decided s with mgmt := { s.mgmt with urgAddr := 128 * k, busy := true, urgRead := false } } :=
  (pfWrite_takes (writes_urgent hk h) (by rw [urgentChecks, hb, firstFail_none_of_true _ _ (by simpa using h0)]; rfl)).trans urgentEffect

theorem urgent_busy (h0 : k ≠ 0) (hb : s.mgmt.busy = true) : s.pfWrite oMgmtUrgent (128 * k) = (decided s).reject oMgmtUrgent .busy :=
  pfWrite_refused (writes_urgent hk h) (by rw [urgentChecks, hb, firstFail_none_of_true _ _ (by simpa using h0)]; rfl)

end

/-- Settles O17: each ring's register by `index_taken` and `index_refused`, the urgent slot by its checks. -/
theorem ringAndUrgentRegistersAct : Obligations.RingAndUrgentRegistersAct := by
  refine ⟨fun v s hv => ⟨fun h => ?sqTail, fun h => ?cqHead, fun h => ?kumSqTail, fun h => ?kumCqHead, fun h => ?noticeHead⟩,
    fun v s hv h => ?ack, fun k s hk h => ?urgent⟩
  case sqTail =>
    exact ⟨fun hlt => goes_of (Rows.mgmtSqTail v s) (index_taken (writes_sqTail hv h) rfl hlt),
      fun hge => goes_of (Rows.mgmtSqTail v s) (index_refused (writes_sqTail hv h) rfl hge)⟩
  case cqHead =>
    exact ⟨fun hlt => ⟨goes_of (Rows.mgmtCqHead v s) ((index_taken (writes_cqHead hv h) rfl hlt).trans (cqHeadEffect v s)), fun hh => releaseHeld_nothing (by exact hh) 1⟩,
      fun hge => goes_of (Rows.mgmtCqHead v s) (index_refused (writes_cqHead hv h) rfl hge)⟩
  case kumSqTail =>
    exact ⟨fun hlt => goes_of (Rows.kumSqTail v s) (index_taken (writes_kumSqTail hv h) rfl hlt),
      fun hge => goes_of (Rows.kumSqTail v s) (index_refused (writes_kumSqTail hv h) rfl hge)⟩
  case kumCqHead =>
    exact ⟨fun hlt => ⟨goes_of (Rows.kumCqHead v s) ((index_taken (writes_kumCqHead hv h) rfl hlt).trans (kumCqHeadEffect v s)), fun hh => releaseKum_nothing (by exact hh) 1⟩,
      fun hge => goes_of (Rows.kumCqHead v s) (index_refused (writes_kumCqHead hv h) rfl hge)⟩
  case noticeHead =>
    exact ⟨fun hlt => leads_of (Rows.kpgNoticeHead v s) (index_taken (writes_noticeHead hv h) rfl hlt),
      fun hge => leads_of (Rows.kpgNoticeHead v s) (index_refused (writes_noticeHead hv h) rfl hge)⟩
  case ack => exact goes_of (Rows.mgmtDigestAck v s) (pfWrite_takes (writes_digestAck hv h) rfl)
  case urgent =>
    refine ⟨fun h0 hb => goes_of (Rows.mgmtUrgent _ s) (urgent_taken hk h h0 hb),
      fun h0 hb => goes_of (Rows.mgmtUrgent _ s) (urgent_busy hk h h0 hb), ?_⟩
    rintro rfl
    exact goes_of (Rows.mgmtUrgent 0 s) (pfWrite_refused (writes_urgent hk h) rfl)

end Sys2Proof.Proofs
end

section
/-! Mailboxes (O19): the rows of the VF's and the instance's registers. -/

namespace Sys2Proof.Proofs

open Sys2Proof Sys2Proof.Machine Sys2Proof.Laws

/-! ### The mailbox registers of a VF (Table 14.12) -/

section
variable {i v : Nat} {s : State}

/-- A write that reaches a mailbox register passes the checks of R4: its low 16 bits are writable. -/
theorem vfRow_mailbox {off : Nat} (h0 : 0 < i) (hi : i < 4096) (hoff : off = 0x1008 ∨ off = 0x1010) (h : Reaches i off s) : s.vfRow i off v =
    (decided s).vfWriteListed i off v ⟨off, 0xFFFF, 0, 2 ^ 64 - 1 - 0xFFFF, 0⟩ := by
  have hne : i ≠ 0 := by omega
  have listed : vfReg off = some ⟨off, 0xFFFF, 0, 2 ^ 64 - 1 - 0xFFFF, 0⟩ := by rcases hoff with rfl | rfl <;> rfl
  unfold State.vfRow State.vfReg64
  rw [if_neg (by omega), hostWrite_reaches h]
  unfold State.writeReg
  rw [if_neg (by simp only [inMsixTable, inMsixPba, if_neg hne, Bool.or_eq_true, decide_eq_true_eq]; omega), if_pos hne,
    if_neg (by omega), listed]

variable (hv : v < 2 ^ 16)
include hv

theorem mailbox_reserved : v % 2 ^ 64 &&& (2 ^ 64 - 1 - 0xFFFF) = 0 := by
  rw [Nat.mod_eq_of_lt (by omega)]
  exact and_high_mask (2 ^ 48 - 1) hv

theorem vfWriteListed_send {t : State} (ht : s.mbxSend i v = .ok t) :
    s.vfWriteListed i 0x1008 v ⟨0x1008, 0xFFFF, 0, 2 ^ 64 - 1 - 0xFFFF, 0⟩ = t := by
  unfold State.vfWriteListed; dsimp only
  rw [if_neg (not_not_intro (mailbox_reserved hv)), if_neg (by decide), if_pos rfl, Nat.mod_eq_of_lt (by omega), ht]

theorem vfWriteListed_sendRefused {st : Status} (ht : s.mbxSend i v = .error st) :
    s.vfWriteListed i 0x1008 v ⟨0x1008, 0xFFFF, 0, 2 ^ 64 - 1 - 0xFFFF, 0⟩ = s.rejectVf i 0x1008 st := by
  unfold State.vfWriteListed; dsimp only
  rw [if_neg (not_not_intro (mailbox_reserved hv)), if_neg (by decide), if_pos rfl, Nat.mod_eq_of_lt (by omega), ht]

theorem vfWriteListed_release (ht : s.inst.has i = true) :
    s.vfWriteListed i 0x1010 v ⟨0x1010, 0xFFFF, 0, 2 ^ 64 - 1 - 0xFFFF, 0⟩ = s.mbxRelease i v := by
  unfold State.vfWriteListed; dsimp only
  rw [if_neg (not_not_intro (mailbox_reserved hv)), if_neg (by decide), if_neg (by decide), if_pos rfl, Nat.mod_eq_of_lt (by omega), ht]
  rfl

end

/-! ### The outcomes of a send and of a post (R392, R393) -/

section
variable {i v : Nat} {s : State}

theorem mbxSend_sends (hst : (s.instOf i).d.st ≠ .free) (hslots : (s.instOf i).pendIn &&& v = 0) (hok : s.mailboxFail i = none)
    (hd : s.mayDma 0 = true) : s.mbxSend i v = .ok ((slotsOf v).foldl (fun (s : State) k => s.copySend i k)
      (s.modInst i (fun x => { x with pendIn := x.pendIn ||| v }))) := by
  have dma : (s.modInst i (fun x => { x with pendIn := x.pendIn ||| v })).mayDma 0 = true := hd
  unfold State.mbxSend; dsimp only
  rw [firstFail_none_of_true _ _ (by simpa using hst), firstFail_none_of_true _ _ (by simp [hslots]),
    firstFail_none_of_true _ _ (by simp [hok])]
  simp only [firstFail, dma, if_true]

theorem mbxSend_full (hst : (s.instOf i).d.st ≠ .free) (hslots : (s.instOf i).pendIn &&& v ≠ 0) : s.mbxSend i v = .error .queueFull := by
  unfold State.mbxSend; dsimp only
  rw [firstFail_none_of_true _ _ (by simpa using hst), firstFail_of_false _ _ (by simpa using hslots)]

theorem mbxPost_posts {msgs : Bytes} {fault : Bool} (hst : (s.instOf i).d.st ≠ .free) (h0 : i ≠ 0) (hf : s.hasFn i = true)
    (hb : s.reg (vfBase i + 0x1000) ≠ 0) (hslots : (s.instOf i).busyOut &&& v = 0) (hok : s.mailboxFail i = none) (hd : s.mayDma 0 = true) :
    s.mbxPost i v msgs fault = .ok ((slotsOf v).foldl (fun (s : State) k => s.copyPost i k fault)
      (s.modInst i (fun x => { x with
        busyOut := x.busyOut ||| v
        slots := (slotsOf v).foldl (fun t k => t.set (16 + k) (padTo 64 (slice msgs (64 * k) 64))) x.slots }))) := by
  have dma (f : Inst → Inst) : (s.modInst i f).mayDma 0 = true := hd
  unfold State.mbxPost; dsimp only
  rw [firstFail_none_of_true _ _ (by simp [hst, h0, hf, hb]), firstFail_none_of_true _ _ (by simp [hslots]),
    firstFail_none_of_true _ _ (by simp [hok])]
  simp only [firstFail, dma, if_true]

end

/-! ### The instance's registers in PF0 (Table 14.11) -/

/-- The block of the instances' registers (Table 0.3). -/
def instBlock : BlockDef := ⟨4, 0x100000, 0x1fffff, 0x100, instRegs⟩

theorem blockOf_inst {off : Nat} (h : 0x100000 ≤ off ∧ off ≤ 0x1fffff) : blockOf off = some instBlock := by
  obtain ⟨hlo, hhi⟩ := h
  have skip (b : BlockDef) (rest : List BlockDef) (hb : b.last < off) :
      (b :: rest).find? (fun b => decide (b.base ≤ off ∧ off ≤ b.last)) = rest.find? (fun b => decide (b.base ≤ off ∧ off ≤ b.last)) :=
    List.find?_cons_of_neg (by simp only [decide_eq_true_eq]; omega)
  unfold blockOf blocks
  simp only [List.cons_append, List.nil_append]
  rw [skip _ _ (by dsimp only; omega), skip _ _ (by dsimp only; omega), skip _ _ (by dsimp only; omega), skip _ _ (by dsimp only; omega)]
  exact List.find?_cons_of_pos (by simp only [decide_eq_true_eq]; omega)

section
variable {i off o : Nat} (hoff : off = 0x100000 + o) (ho : o < 256)
include hoff ho

theorem instBlock_rel : instBlock.rel (instReg off i) = o := by
  have strided : (off + 256 * i - 0x100000) % 256 = o := by omega
  exact (if_neg (by decide)).trans strided

theorem instBlock_copy : instBlock.copy (instReg off i) = i := by
  have strided : (off + 256 * i - 0x100000) / 256 = i := by omega
  exact (if_neg (by decide)).trans strided

theorem listed_inst {r : RegDef} (hi : i < 4096) (hr : instRegs.find? (fun r => r.off == o) = some r) :
    Listed (instReg off i) instBlock r := by
  have hb : blockOf (instReg off i) = some instBlock := blockOf_inst (by unfold instReg; omega)
  have notTable : inMsixTable 0 (instReg off i) = false := (if_pos rfl).trans (decide_eq_false (by unfold instReg; omega))
  have notPba : inMsixPba 0 (instReg off i) = false := (if_pos rfl).trans (decide_eq_false (by unfold instReg; omega))
  have notDoorbell : isDoorbell (instReg off i) = false := decide_eq_false (by unfold instReg; omega)
  have reg : regAt (instReg off i) = some r := by unfold regAt; rw [hb]; dsimp only; rw [instBlock_rel hoff ho]; exact hr
  exact ⟨⟨notTable, notPba, notDoorbell⟩, hb, reg⟩

end

section
variable {i v : Nat} {s : State} (hi : i < 4096)
include hi

theorem instRow_eq (off : Nat) : s.instRow i off v = s.pfWrite (instReg off i) v := if_neg (Nat.not_le.mpr hi)

theorem instRow_mbxIn (hv : v < 2 ^ 16) (h : Reaches 0 (instReg oInstMbxIn i) s) (hhas : s.inst.has i = true) :
    s.instRow i oInstMbxIn v = (decided s).mbxAck i v := by
  have rel := instBlock_rel (i := i) (show oInstMbxIn = 0x100000 + 0x60 from rfl) (by decide)
  have copy := instBlock_copy (i := i) (show oInstMbxIn = 0x100000 + 0x60 from rfl) (by decide)
  have num : instBlock.num = 4 := rfl
  have writes : Writes (instReg oInstMbxIn i) v instBlock ⟨0x60, 0xffff, 0, 0xffffffffffff0000, 0⟩ s :=
    writes_of_low h (listed_inst (o := 0x60) rfl (by decide) hi rfl) hv (by decide) rfl rfl
  have has : (decided s).inst.has i = true := hhas
  rw [instRow_eq hi, pfWrite_takes writes (by simp [State.writeChecks, num, rel, firstFail])]
  simp [State.writeEffect, num, rel, copy, has]

theorem instRow_logHead (hv : v < 2 ^ 20) (h : Reaches 0 (instReg oInstLogHead i) s) (hr : v < (decided s).ringSize (instReg oInstLogSize i)) :
    s.instRow i oInstLogHead v = (decided s).modInst i (fun x => { x with logHead := v }) := by
  have rel := instBlock_rel (i := i) (show oInstLogHead = 0x100000 + 0x88 from rfl) (by decide)
  have copy := instBlock_copy (i := i) (show oInstLogHead = 0x100000 + 0x88 from rfl) (by decide)
  have num : instBlock.num = 4 := rfl
  have writes : Writes (instReg oInstLogHead i) v instBlock ⟨0x88, 0xfffff, 0, 0xfffffffffff00000, 0⟩ s :=
    writes_of_low h (listed_inst (o := 0x88) rfl (by decide) hi rfl) hv (by decide) rfl rfl
  rw [instRow_eq hi, index_taken (size := instReg oInstLogSize i) writes
    (by simp [State.writeChecks, num, rel, copy]) hr]
  simp [State.writeEffect, num, rel, copy]

end

/-! ### INST_MBX_OUT_POST (R393) -/

theorem barred_reaches {off : Nat} {s : State} (h : Reaches 0 off s) : s.barred false 0 off 8 1 = none := by
  obtain ⟨-, hok, hup, hallow⟩ := h
  rw [barred_aligned hup hok]; exact if_pos hallow

section
variable {i v : Nat} {msgs : Bytes} {fault : Bool} {s : State} (hi : i < 4096) (hv : v < 2 ^ 16) (h : Reaches 0 (instReg oInstMbxOut i) s)
include hi hv h

theorem mbxOutPost_write : s.mbxOutPost i v msgs fault = (decided s).postWrite i v msgs fault := by
  have sees : s.hostSees 0 (instReg oInstMbxOut i) = true := by obtain ⟨hsees, -⟩ := h; exact hsees
  have small : v % 2 ^ 64 / 2 ^ 32 = 0 := by omega
  unfold State.mbxOutPost; dsimp only
  rw [if_neg (by simp only [sees, Bool.not_true, Bool.or_false, decide_eq_true_eq]; omega), barred_reaches h]; dsimp only
  rw [if_neg (not_not_intro small), Nat.mod_eq_of_lt (by omega)]; rfl

theorem mbxOutPost_ok {t : State} (ht : (decided s).mbxPost i v msgs fault = .ok t) : s.mbxOutPost i v msgs fault = t := by
  rw [mbxOutPost_write hi hv h]; unfold State.postWrite; rw [ht]

theorem mbxOutPost_refused {st : Status} (ht : (decided s).mbxPost i v msgs fault = .error st) :
    s.mbxOutPost i v msgs fault = (decided s).reject (instReg oInstMbxOut i) st := by
  rw [mbxOutPost_write hi hv h]; unfold State.postWrite; rw [ht]

end

/-- Settles O19: each row writes its register, and the write does what the mailbox operation of that register says. -/
theorem mailboxesHandMessagesOver : Obligations.MailboxesHandMessagesOver := by
  refine ⟨fun i v s h0 hi hv h hst => ?send, fun i v s h0 hi hv h hhas => ?release, fun i v s hi hv h hhas => ?ack,
    fun i v msgs fault s hi hv h => ?post, fun i v s hi hv h hr => ?logHead⟩
  case send =>
    have row := vfRow_mailbox (v := v) h0 hi (.inl rfl) h
    exact ⟨fun hslots hok hd => goes_of (Rows.mbxSend i v s)
        (row.trans (vfWriteListed_send hv (mbxSend_sends (s := decided s) hst hslots hok hd))),
      fun hslots => goes_of (Rows.mbxSend i v s) (row.trans (vfWriteListed_sendRefused hv (mbxSend_full (s := decided s) hst hslots)))⟩
  case release =>
    exact goes_of (Rows.mbxRx i v s) ((vfRow_mailbox h0 hi (.inr rfl) h).trans (vfWriteListed_release (s := decided s) hv hhas))
  case ack => exact goes_of (Rows.instMbxIn i v s) (instRow_mbxIn hi hv h hhas)
  case post =>
    have row := Rows.instMbxOutPost i v msgs fault s
    exact ⟨fun t ht => goes_of row (mbxOutPost_ok hi hv h ht), fun st ht => goes_of row (mbxOutPost_refused hi hv h ht),
      fun _ hst h0 hf hb hslots hok hd =>
        goes_of row (mbxOutPost_ok hi hv h (mbxPost_posts (s := decided s) hst h0 hf hb hslots hok hd))⟩
  case logHead => exact goes_of (Rows.instLogHead i v s) (instRow_logHead hi hv h hr)

end Sys2Proof.Proofs
end

section
/-! Test and debug (O20): the random test registers, PROT_DEBUG, the debug port and ERR_CODE_SELECT. -/

namespace Sys2Proof.Proofs

open Sys2Proof Sys2Proof.Machine Sys2Proof.Laws

/-- The blocks of randomness, of protection and of errors (Table 0.3). -/
def rngBlock : BlockDef := ⟨15, 0x750000, 0x77ffff, 0x0, rngRegs⟩
def protBlock : BlockDef := ⟨14, 0x740000, 0x74ffff, 0x0, protRegs⟩
def errBlock : BlockDef := ⟨19, 0xf00000, 0xffffff, 0x0, errRegs⟩

section
variable {v : Nat} {s : State}

/-! ### Random test mode (R447) -/

theorem testControl_write (hv : v < 2) (h : Reaches 0 oRngTestControl s) : s.pfWrite oRngTestControl v = (decided s).rngTestControl v :=
  pfWrite_takes (writes_of_low (k := 1) (b := rngBlock) (r := ⟨0x60, 0x1, 0, 0xfffffffffffffffe, 0⟩) h ⟨⟨rfl, rfl, rfl⟩, rfl, rfl⟩ hv
    (by decide) rfl rfl) rfl

theorem rngTestControl_maker (h : s.prot.life = 0) :
    s.rngTestControl 1 = { s with rng := { s.rng with test := 1, state := if s.rng.state = 1 then 3 else s.rng.state } } := by
  unfold State.rngTestControl; rw [if_neg (by decide), if_neg (not_not_intro h), if_neg (by decide)]

theorem rngTestControl_later (h : s.prot.life ≠ 0) : s.rngTestControl 1 = s.reject oRngTestControl .lifecycleForbidden := by
  unfold State.rngTestControl; rw [if_neg (by decide), if_pos h]

theorem testData_write (hv : v < 2 ^ 64) (h : Reaches 0 oRngTestData s) : s.pfWrite oRngTestData v = (decided s).rngTestData v :=
  pfWrite_takes (writes_of_low (b := rngBlock) (r := ⟨0x68, 0xffffffffffffffff, 0, 0, 0⟩) h ⟨⟨rfl, rfl, rfl⟩, rfl, rfl⟩ hv
    (by decide) rfl rfl) rfl

theorem rngTestData_off (h : s.rng.test = 0) : s.rngTestData v = s.setReg oRngTestData v := by
  unfold State.rngTestData; dsimp only; rw [State.setReg_rng, if_pos h]

theorem rngTestData_gathers (hv : v < 2 ^ 64) (h : s.rng.test ≠ 0) (hl : (s.rng.testBits ++ [v]).length < 64) :
    s.rngTestData v = { s.setReg oRngTestData v with rng := { s.rng with testBits := s.rng.testBits ++ [v] } } := by
  unfold State.rngTestData; dsimp only
  rw [State.setReg_rng, if_neg h, Nat.mod_eq_of_lt hv, if_pos hl]

theorem rngTestData_tests (hv : v < 2 ^ 64) (h : s.rng.test ≠ 0) (hl : 64 ≤ (s.rng.testBits ++ [v]).length) :
    s.rngTestData v = (List.range 8).foldl (fun (t : State) k => t.testWindow k ((s.rng.testBits ++ [v]).flatMap (le 8)))
      { s.setReg oRngTestData v with rng := { s.rng with testBits := [] } } := by
  unfold State.rngTestData; dsimp only
  rw [State.setReg_rng, if_neg h, Nat.mod_eq_of_lt hv, if_neg (Nat.not_lt.mpr hl)]

/-! ### PROT_DEBUG and the debug port (R453, R455, R497) -/

theorem protDebug_write (h : Reaches 0 oProtDebug s) (hv : v = 0x100 ∨ v = 0x200) : s.pfWrite oProtDebug v = (decided s).debugWrite v := by
  have writes : Writes oProtDebug v protBlock ⟨0x40, 0x300, 0, 0xfffffffffffffcfc, 0⟩ s := by
    refine ⟨h, ⟨⟨rfl, rfl, rfl⟩, rfl, rfl⟩, by omega, ?_, ?_, by decide⟩ <;> rcases hv with rfl | rfl <;> rfl
  exact pfWrite_takes writes rfl

theorem newNonce_draws (h : s.rngOk = true) : s.newNonce =
    (State.generate s.mgmtDrbg 32 { s with prot := { s.prot with nonce := some (s.drawn 32) } }).spend 32 := by
  unfold State.newNonce; rw [if_neg (by simp [h])]

theorem newNonce_fails (h : s.rngOk = false) : s.newNonce = s.reject oProtDebug .rngFailed := by
  unfold State.newNonce; rw [if_pos (by simp [h])]

theorem debugAccess_locked {d : DebugAcc} (h : s.prot.debug = 0) : s.debugAccess d = s := by
  unfold State.debugAccess; dsimp only; rw [if_pos (by simp [h])]

section
variable {d : DebugAcc} {fn o : Nat} (hup : s.dev.rails = true) (hd : d.data ≠ [])
include hup hd

/-- With a level enabled the access goes on. -/
theorem debugAccess_open (h : s.prot.debug ≠ 0) : (!s.dev.rails || s.prot.debug = 0 || d.data.length = 0) = false := by
  have : d.data.length ≠ 0 := by simpa using hd
  simp [hup, h, this]

theorem debugAccess_observes (h : s.prot.debug = 1) (hw : d.write = true) :
    s.debugAccess d = (partsOf d.addr d.data.length).foldl (fun (s : State) a => s.denied 4 a) s := by
  unfold State.debugAccess; dsimp only
  rw [debugAccess_open hup hd (by omega), if_neg (by decide), if_pos (by simp [hw, h])]

variable (hs : regSpace d.addr = some (fn, o))
include hs

theorem debugAccess_writes (h : s.prot.debug = 2) (hw : d.write = true) : s.debugAccess d = s.busWrite true fn o d.data.length (ofLe d.data) := by
  unfold State.debugAccess; dsimp only
  rw [debugAccess_open hup hd (by omega), if_neg (by decide), if_neg (by simp [h]), hs]; dsimp only; rw [if_pos hw]

theorem debugAccess_reads (h : s.prot.debug ≠ 0) (hw : d.write = false) : s.debugAccess d = s.busRead true fn o d.data.length := by
  unfold State.debugAccess; dsimp only
  rw [debugAccess_open hup hd h, if_neg (by decide), if_neg (by simp [hw]), hs]; dsimp only; rw [if_neg (by simp [hw])]

end

/-! ### ERR_CODE_SELECT (R535) -/

section
variable (hv : v < 2 ^ 16) (h : Reaches 0 oErrCodeSelect s)
include hv h

theorem writes_errCode : Writes oErrCodeSelect v errBlock ⟨0x18, 0xffff, 0, 0xffffffffffff0000, 0xc01⟩ s :=
  writes_of_low h ⟨⟨rfl, rfl, rfl⟩, rfl, rfl⟩ hv (by decide) rfl rfl

theorem errCode_taken (hc : Status.all.any (fun c => c.code == v) = true) : s.pfWrite oErrCodeSelect v =
    { (decided s).setReg oErrCodeSelect (andNot ((decided s).reg oErrCodeSelect) 0xFFFF + v) with errCode := 0 } := by
  have low : v &&& 0xFFFF = v := and_low_mask hv
  rw [pfWrite_takes (writes_errCode hv h) (firstFail_none_of_true _ _ hc)]
  conv_rhs => rw [← low]
  rfl

theorem errCode_refused (hc : Status.all.any (fun c => c.code == v) = false) :
    s.pfWrite oErrCodeSelect v = (decided s).reject oErrCodeSelect .badFieldValue :=
  pfWrite_refused (writes_errCode hv h) (firstFail_of_false _ _ hc)

end

end

/-- Settles O20: each row by the outcomes of its register's write or of `debugAccess`. -/
theorem testAndDebugAccess : Obligations.TestAndDebugAccess := by
  refine ⟨fun s h => ?control, fun v s hv h => ?data, fun s h => ?debug, fun d s fn o hup hd hs => ?access, fun v s hv h => ?errCode⟩
  case control =>
    have row := testControl_write (v := 1) (by decide) h
    exact ⟨fun hl => goes_of (Rows.rngTestControl 1 s) (row.trans (rngTestControl_maker (s := decided s) hl)),
      fun hl => goes_of (Rows.rngTestControl 1 s) (row.trans (rngTestControl_later (s := decided s) hl))⟩
  case data =>
    have row := testData_write hv h
    exact ⟨fun ht => leads_of (Rows.rngTestData v s) (row.trans (rngTestData_off (s := decided s) ht)),
      fun ht hl => leads_of (Rows.rngTestData v s) (row.trans (rngTestData_gathers (s := decided s) hv ht hl)),
      fun ht hl => leads_of (Rows.rngTestData v s) (row.trans (rngTestData_tests (s := decided s) hv ht hl))⟩
  case debug =>
    have nonce := protDebug_write h (.inl rfl)
    exact ⟨goes_of (Rows.protDebugRevoke s) (protDebug_write h (.inr rfl)),
      fun hr => goes_of (Rows.protDebugNewNonce s) (nonce.trans (newNonce_draws hr)),
      fun hr => goes_of (Rows.protDebugNewNonce s) (nonce.trans (newNonce_fails hr))⟩
  case access =>
    have row := Rows.debugAccess d s
    exact ⟨fun h => leads_of row (debugAccess_locked h), fun h hw => leads_of row (debugAccess_observes hup hd h hw),
      fun h hw => leads_of row (debugAccess_writes hup hd hs h hw), fun h hw => leads_of row (debugAccess_reads hup hd hs h hw)⟩
  case errCode =>
    exact ⟨fun hc => goes_of (Rows.errCodeSelect v s) (errCode_taken hv h hc),
      fun hc => goes_of (Rows.errCodeSelect v s) (errCode_refused hv h hc)⟩

end Sys2Proof.Proofs
end

section
/-! Power, start-up, temperature and firmware (chapter 19): O8, O11, O12. -/

namespace Sys2Proof.Proofs

open Sys2Proof Sys2Proof.Machine Sys2Proof.Laws

/-! ### The rails (R517, R520) -/

section
variable {s : State}

theorem powerUp_up (h : s.dev.rails = true) : s.powerUp = s := if_pos h

theorem powerUp_down (h : s.dev.rails = false) :
    s.powerUp = State.deviceReset 1 { s with dev := { s.dev with rails := true } } := if_neg (by simp [h])

theorem powerLoss_down (h : s.dev.rails = false) : s.powerLoss = s := if_pos (by simp [h])

theorem powerLoss_up (h : s.dev.rails = true) : s.powerLoss =
    (let burning := match s.prot.step with | none => false | some t => t.stage == 3
     let r := State.deviceReset 0 { s with fuses := if burning then { s.fuses with torn := true } else s.fuses }
     { r with dev := { r.dev with rails := false } }) := if_neg (by simp [h])

/-- A torn row reads as LOST (R449). -/
theorem decode_torn {f : Fuses} (h : f.torn = true) : f.decode = 5 := if_pos h

end

/-- Settles O8: `powerUp` and `powerLoss` by the rails, and the fuses' decode. -/
theorem railsComeUpAndGoDown : Obligations.RailsComeUpAndGoDown := by
  refine ⟨⟨fun b s h => ?up, fun s h => ?inOrder, fun s h => powerOn_outOfOrder h⟩, fun s h => ?down, fun s h => ?loss,
    fun f => decode_torn⟩
  case up => exact goes_of (Rows.powerOn b s (by simp [h])) (powerUp_up h)
  case inOrder => exact goes_of (Rows.powerOn true s (by simp)) (powerUp_down h)
  case down => exact goes_of (Rows.powerLoss s) (powerLoss_down h)
  case loss => exact goes_of (Rows.powerLoss s) (powerLoss_up h)

/-! ### Start-up (R522, R523, R525) -/

/-- The state in which the sources on the core rail begin to be watched (steps 1 and 2). -/
def watchedStart (s : State) : State :=
  { s with bat := { s.bat with cycles := min (s.bat.cycles + 1) (2 ^ 32 - 1) }, prot := { s.prot with watching := true } }

/-- The state in which step 3 has decoded the life-cycle. -/
def decodedStart (s : State) : State :=
  State.decisions 1 { watchedStart s with prot := { (watchedStart s).prot with life := s.fuses.decode } }

/-- The firmware of higher serial, and whether it is copy B. -/
def newerIsB (f : Flash) : Bool := f.fwB.valid && (!f.fwA.valid || decide (f.fwA.serial < f.fwB.serial))

section
variable {e : StartEnv} {s : State}

/-- With a valid battery domain and no source asserted, start-up comes to the life-cycle's decode. -/
theorem startUp_decodes (hm : s.mayStart = true) (hb : s.bat.valid = true) (hs : (watchedStart s).startSources = []) :
    s.startUp e = if (decodedStart s).prot.life = 4 then decodedStart s
      else if (decodedStart s).prot.life = 5 then
        { decodedStart s with bat := { (decodedStart s).bat with secret := none },
                              dev := { (decodedStart s).dev with lost := true, step := 3 } }
      else (decodedStart s).startCore e false [] := by
  have battery : s.batteryCheck = { s with bat := { s.bat with cycles := min (s.bat.cycles + 1) (2 ^ 32 - 1) } } := if_pos hb
  have none' : State.startSources { s with
      bat := { s.bat with cycles := min (s.bat.cycles + 1) (2 ^ 32 - 1) }, prot := { s.prot with watching := true } } = [] := hs
  unfold State.startUp
  rw [hm, if_neg (by decide), battery]; dsimp only
  rw [none', show (!s.bat.valid) = false by rw [hb]; rfl, List.any_nil, if_neg Bool.false_ne_true]; rfl

theorem startUp_core (hm : s.mayStart = true) (hb : s.bat.valid = true) (hs : (watchedStart s).startSources = []) (hl : s.fuses.decode < 4) :
    s.startUp e = (decodedStart s).startCore e false [] := by
  have life : (decodedStart s).prot.life = s.fuses.decode := rfl
  rw [startUp_decodes hm hb hs, life, if_neg (by omega), if_neg (by omega)]

theorem startCore_badRom {srcs : List Nat} (h : e.romOk = false) : s.startCore e false srcs = s.stopAt 4 2 := by
  unfold State.startCore; rw [if_pos (by simp [h])]

theorem pickFirmware_none (ha : s.flash.fwA.valid = false) (hb : s.flash.fwB.valid = false) : s.pickFirmware = none := by
  unfold State.pickFirmware; dsimp only; rw [ha, hb]; rfl

theorem pickFirmware_newer (h : s.flash.fwA.valid = true ∨ s.flash.fwB.valid = true) :
    s.pickFirmware = some (newerIsB s.flash, if newerIsB s.flash then s.flash.fwB else s.flash.fwA) := by
  unfold State.pickFirmware newerIsB; dsimp only
  cases ha : s.flash.fwA.valid <;> cases hb : s.flash.fwB.valid
  · simp [ha, hb] at h
  · rfl
  · rfl
  · by_cases hle : s.flash.fwB.serial ≤ s.flash.fwA.serial
    · simp [hle, Nat.not_lt.mpr hle]
    · simp [hle, Nat.not_le.mp hle]

theorem startCore_noFirmware (hr : e.romOk = true) (ha : s.flash.fwA.valid = false) (hb : s.flash.fwB.valid = false) :
    s.startCore e false [] = (State.decisions 2 { s with dev := { s.dev with romDigest := Config.romDigest } }).stopAt 5 1 := by
  have pick : (State.decisions 2 { s with dev := { s.dev with romDigest := Config.romDigest } }).pickFirmware = none := pickFirmware_none ha hb
  unfold State.startCore
  rw [if_neg (by simp [hr])]; dsimp only; rw [pick]

/-- Steps 5 and 6 up to the opened ledger, with the firmware that runs. -/
def ledgerStart (e : StartEnv) (s : State) : State :=
  let r := State.decisions 2 { s with dev := { s.dev with romDigest := Config.romDigest } }
  let fw := if newerIsB s.flash then s.flash.fwB else s.flash.fwA
  let c : State := { r with dev := { r.dev with fwB := newerIsB s.flash, fwSerial := fw.serial, fwDigest := fw.digest, regsUp := true },
                            fab := { r.fab with rules := bootRules } }
  let o := c.openLedger e.torn
  if o.ledger.opened then o else o.raise 16 oLdgIrq 0

theorem when_not (b : Bool) (f : State → State) (s : State) : s.when (!b) f = if b then s else f s := by cases b <;> rfl

theorem startCore_goesOn (hr : e.romOk = true) (hv : s.flash.fwA.valid = true ∨ s.flash.fwB.valid = true)
    (hh : (ledgerStart e s).stillHalting = []) : s.startCore e false [] =
    (let n := (ledgerStart e s).noiseTest e.noise
     if n.rng.state = 2
     then ((n.localRec 0x08 ([BitVec.ofNat 8 n.rng.failed, BitVec.ofNat 8 n.rng.cause] ++ zeros 6)).startRecord).stopAt 6 3
     else n.startRest e) := by
  have pick : (State.decisions 2 { s with dev := { s.dev with romDigest := Config.romDigest } }).pickFirmware =
    some (newerIsB s.flash, if newerIsB s.flash then s.flash.fwB else s.flash.fwA) := pickFirmware_newer hv
  unfold ledgerStart at hh; dsimp only at hh
  unfold State.startCore ledgerStart
  rw [if_neg (by simp [hr])]; dsimp only; rw [pick]; dsimp only
  rw [State.when_false, when_not, hh]; rfl

end

/-- Settles O11: start-up comes to the decode of the fuses (`startUp_decodes`), then to the steps of `startCore`. -/
theorem startUpStepsStopOrGoOn : Obligations.StartUpStepsStopOrGoOn := by
  intro e s hm hb b hs d
  have row := Rows.startUp e s
  have life : (decodedStart s).prot.life = s.fuses.decode := rfl
  refine ⟨fun h => leads_of row ?scrapped, fun h => leads_of row ?lost, fun h hr => leads_of row ?rom, fun h hr ha hb' => leads_of row ?firmware,
    fun h hr hv hh => leads_of row ?goesOn⟩
  case scrapped => rw [startUp_decodes hm hb hs, life, if_pos h]; rfl
  case lost => rw [startUp_decodes hm hb hs, life, if_neg (by omega), if_pos h]; rfl
  case rom => rw [startUp_core hm hb hs h, startCore_badRom hr]; rfl
  case firmware => rw [startUp_core hm hb hs h, startCore_noFirmware (s := decodedStart s) hr ha hb']; rfl
  case goesOn => rw [startUp_core hm hb hs h, startCore_goesOn (s := decodedStart s) hr hv hh]; rfl

/-! ### The battery domain, the temperature and firmware updates (R521, R526) -/

section
variable {s : State}

theorem batteryLoss_down (h : s.dev.rails = false) : s.batteryLoss = { s with bat := { valid := false } } := if_neg (by simp [h])

theorem batteryLoss_up (h : s.dev.rails = true) : s.batteryLoss = s := if_pos h

theorem tempWarn_up {t : Nat} (h : s.dev.rails = true) (ht : t < 2 ^ 16) : s.tempWarn t =
    (let above := decide (signed16 (s.fld oDevTempWarn 15 0) < signed16 t)
     let e : State := { s with dev := { s.dev with
       temp := t, tempMax := if signed16 s.dev.tempMax < signed16 t then t else s.dev.tempMax, tempArmed := !above } }
     if above && s.dev.tempArmed then e.raise 0 oDevIrq 0 else e) := by
  unfold State.tempWarn
  rw [if_neg (by simp [h])]; dsimp only; rw [show t % 65536 = t from Nat.mod_eq_of_lt ht]; rfl

theorem effFirmware_starts {m : MCmd} (hearly : m.early = none) (hjob : s.dev.fwJob = none) (ha : m.cmd.u 32 8 % 8 = 0)
    (hok : firmwareFail s.dev.fwSerial (m.cmd.u 40 4) m.image = none) : effFirmware m s =
    { s := if s.dev.fwB
        then { s.decisions 2 with
          flash := { s.flash with fwA := { s.flash.fwA with valid := false } }, dev := { s.dev with fwJob := some { m := m, slot := 0 } } }
        else { s.decisions 2 with
          flash := { s.flash with fwB := { s.flash.fwB with valid := false } }, dev := { s.dev with fwJob := some { m := m, slot := 1 } } },
      st := none } := by
  have dev : (s.decisions 2).dev = s.dev := rfl
  unfold effFirmware
  rw [effChecks_ok (by simp [hearly, hjob])]; dsimp only
  rw [if_pos ha, dev, hok]; dsimp only [lower]
  cases s.dev.fwB <;> rfl

theorem firmwareDone_bad {j : FwJob} (h : s.dev.fwJob = some j) :
    s.firmwareDone false = State.finish j.m .firmwareInvalid { s with dev := { s.dev with fwJob := none } } := by
  unfold State.firmwareDone; rw [h]; rfl

theorem firmwareDone_good {j : FwJob} (h : s.dev.fwJob = some j) : s.firmwareDone true =
    (let x : Firmware := { valid := true, serial := leAt j.m.image 8 8, digest := sha384 (j.m.image.take 128), image := j.m.image }
     State.finish j.m .ok { s with
       dev := { s.dev with fwJob := none }, flash := if j.slot = 0 then { s.flash with fwA := x } else { s.flash with fwB := x } }) := by
  unfold State.firmwareDone; rw [h]; rfl

end

/-- Settles O12. -/
theorem batteryTemperatureAndFirmware : Obligations.BatteryTemperatureAndFirmware := by
  refine ⟨⟨fun s h => goes_of (Rows.batteryDomainLoss s) (batteryLoss_down h), fun s h => goes_of (Rows.batteryDomainLoss s) (batteryLoss_up h),
    fun t s h ht => goes_of (Rows.tempWarn t s) (tempWarn_up h ht)⟩, fun c s hacc hjob ha hok => ?update, fun j s hj => ?done⟩
  case update => exact row_later (Rows.firmwareUpdate c s) hacc (effFirmware_starts rfl hjob ha hok)
  case done =>
    exact ⟨leads_of (Rows.firmwareWriteDone false s) (firmwareDone_bad hj), leads_of (Rows.firmwareWriteDone true s) (firmwareDone_good hj)⟩

end Sys2Proof.Proofs
end

section
/-! PCIe functions (O13), tick and epoch boundaries and the placement run (O14). -/

namespace Sys2Proof.Proofs

open Sys2Proof Sys2Proof.Machine Sys2Proof.Laws

/-! ### Functions and their resets (R296, R298, R315, R519) -/

section
variable {n : Nat} {s : State}

theorem vfEnable_enables (hup : s.dev.regsUp = true) (h0 : 0 < n) (hn : n ≤ 4095) (hoff : s.pcie.vfEnable = false) :
    s.vfEnable n = { s with pcie := { s.pcie with vfEnable := true, numVfs := n } } := by
  unfold State.vfEnable
  rw [if_neg (by simp [hup, hn]), if_neg (by omega), if_neg (by simp [hoff])]

theorem vfFlr_resets (h0 : n ≠ 0) (hf : s.hasFn n = true) : s.vfFlr n =
    (let d := (((s.dropQueues n).touchInst n).bump oHqFlr).raise 9 oHqIrq 1
     { d with pcie := { d.pcie with
       bmeOff := if d.pcie.bmeOff.contains n then d.pcie.bmeOff else d.pcie.bmeOff ++ [n]
       msixWait := d.pcie.msixWait.filter (fun e => e.1 != n)
       msixPend := d.pcie.msixPend.filter (fun e => e.1 != n) } }) := by
  unfold State.vfFlr; rw [if_neg (by simp [h0, hf])]

theorem perst_asserts (hup : s.dev.rails = true) (hp : s.dev.perstLow = false) : s.perst true =
    State.flrPf0 { s with dev := { s.dev with perstLow := true }, pcie := { s.pcie with up := false, rate := 0, width := 0, flit := false } } := by
  unfold State.perst; rw [if_neg (by simp [hup, hp])]; rfl

theorem perst_releases (hup : s.dev.rails = true) (hp : s.dev.perstLow = true) :
    s.perst false = { s with dev := { s.dev with perstLow := false } } := by
  unfold State.perst; rw [if_neg (by simp [hup, hp])]; rfl

theorem dropQueues_none (h : s.queues = []) : s.dropQueues n = s := by
  have same : ({ s with queues := [] } : State) = s := by rw [← h]
  unfold State.dropQueues; simp only [h, List.filter_nil, List.map_nil, List.foldl_nil, Tbl.filterT]; exact same

/-- Instance 0 has no request log. -/
theorem logOn_zero : s.logOn 0 = false := rfl

theorem mapT_keys {α : Type} (t : Tbl α) (f : Nat → α → α) : (t.mapT f).map Prod.fst = t.map Prod.fst := by
  unfold Tbl.mapT; rw [List.map_map]; rfl

/-- An FLR of PF0 of a device without VFs, queue pairs and instances other than 0. -/
theorem flrPf0_alone (hup : s.dev.regsUp = true) (hv : s.pcie.vfEnable = false) (hq : s.queues = []) (hi : s.inst.map Prod.fst = [0]) : s.flrPf0 =
    (let g := (((s.flrManagement.setFld oMgmtControl 0 0 0).setFld oKpgControl 0 0 0).setFld oKumControl 0 0 0).bump oHqFlr
     { g with pcie := { g.pcie with
       vfEnable := false, numVfs := 0, bmeOff := if g.pcie.bmeOff.contains 0 then g.pcie.bmeOff else g.pcie.bmeOff ++ [0]
       msixWait := [], msixPend := g.pcie.msixPend.filter (fun e => e.1 != 0) } }) := by
  have queues : s.flrManagement.queues = [] := hq
  have keys : s.flrManagement.inst.map Prod.fst = [0] := by
    unfold State.flrManagement; dsimp only; exact (mapT_keys _ _).trans hi
  unfold State.flrPf0
  rw [if_neg (by simp [hup]), hv, if_neg (by decide)]
  simp only [List.foldl_nil, dropQueues_none queues, State.setFld_inst, keys, List.foldl_cons, logOn_zero, Bool.false_eq_true, if_false]

/-! ### Power states, bus mastering and the link (R296, R316) -/

theorem powerState_d3 (hup : s.dev.rails = true) (hf : s.hasFn n = true) (hd : s.pcie.d3.contains n = false) :
    s.powerState n true = { s with pcie := { s.pcie with d3 := s.pcie.d3 ++ [n] } } := by
  unfold State.powerState; rw [if_neg (by simp [hup, hf]), if_pos rfl, hd]; rfl

theorem powerState_d0 (hup : s.dev.rails = true) (hf : s.hasFn n = true) (hb : s.pcie.bmeOff.contains n = true) :
    s.powerState n false = { s with pcie := { s.pcie with d3 := s.pcie.d3.filter (fun f => f != n) } } := by
  unfold State.powerState; rw [if_neg (by simp [hup, hf]), if_neg (by decide), if_pos hb]

theorem busMaster_off (hup : s.dev.regsUp = true) (hf : s.hasFn n = true) (hb : s.pcie.bmeOff.contains n = false) :
    s.busMaster n false = { s with pcie := { s.pcie with bmeOff := s.pcie.bmeOff ++ [n] } } := by
  unfold State.busMaster; rw [if_neg (by simp [hup, hf]), if_pos (show (!false) = true from rfl), hb]; rfl

theorem contains_filter_ne (l : List Nat) (n : Nat) : (l.filter (fun f => f != n)).contains n = false := by
  simp [List.mem_filter]

/-- A VF that masters the bus again sends the messages that waited for it and are not masked. -/
theorem busMaster_on (hup : s.dev.regsUp = true) (h0 : n ≠ 0) (hf : s.hasFn n = true) (hd : s.pcie.d3.contains n = false) :
    s.busMaster n true =
      (let pend := s.pcie.msixPend.filter (fun e => e.1 == n && !bit (s.reg (msixControl e.1 e.2)) 32)
       pend.foldl (fun (s : State) e => s.msix e.1 e.2)
        { s with pcie := { s.pcie with bmeOff := s.pcie.bmeOff.filter (fun f => f != n)
                                       msixPend := s.pcie.msixPend.filter (fun e => !pend.contains e) } }) := by
  have dma : State.mayDma { s with pcie := { s.pcie with bmeOff := s.pcie.bmeOff.filter (fun f => f != n) } } n = true := by
    simp only [State.mayDma, contains_filter_ne, hd]; rfl
  unfold State.busMaster
  rw [if_neg (by simp [hup, hf]), if_neg (by decide)]; dsimp only
  rw [dma, if_neg (by decide), if_pos h0]; rfl

theorem pcieLink_up {rate width : Nat} {flit : Bool} (hup : s.dev.rails = true) (hp : s.dev.perstLow = false) (hr : 1 ≤ rate) (hr6 : rate ≤ 6)
    (hw : [1, 2, 4, 8, 16].contains width = true) : s.pcieLink true rate width flit =
      { s with pcie := { s.pcie with up := true, rate := rate, width := width, flit := flit || rate == 6 } } := by
  have trains : (true && !s.dev.perstLow && decide (1 ≤ rate ∧ rate ≤ 6) && [1, 2, 4, 8, 16].contains width) = true := by
    rw [hp, hw, decide_eq_true ⟨hr, hr6⟩]; rfl
  unfold State.pcieLink; rw [if_neg (by simp [hup]), if_pos trains]

theorem pcieLink_down {rate width : Nat} {flit : Bool} (hup : s.dev.rails = true) : s.pcieLink false rate width flit =
    { s with pcie := { s.pcie with up := false, rate := 0, width := 0, flit := false } } := by
  unfold State.pcieLink; rw [if_neg (by simp [hup]), if_neg (by simp), if_pos (show (!false) = true from rfl)]

end

/-- Settles O13, row by row. -/
theorem pcieFunctionsAndLink : Obligations.PcieFunctionsAndLink := by
  refine ⟨⟨fun n s hup h0 hn hoff => leads_of (Rows.vfEnable n s) (vfEnable_enables hup h0 hn hoff),
      fun n s h0 hf => leads_of (Rows.vfFlr n s) (vfFlr_resets h0 hf),
      fun s hup hp => leads_of (Rows.perstN true s) (perst_asserts hup hp),
      fun s hup hp => leads_of (Rows.perstN false s) (perst_releases hup hp)⟩,
    fun s hup hv hq hi => ⟨leads_of (Rows.flrPf0 s) (flrPf0_alone hup hv hq hi), rfl, rfl, rfl, rfl, rfl⟩,
    fun fn s hup hf hd => leads_of (Rows.pciePowerState fn true s) (powerState_d3 hup hf hd),
    fun fn s hup hf hb => leads_of (Rows.pciePowerState fn false s) (powerState_d0 hup hf hb),
    fun fn s hup hf hb => leads_of (Rows.busMasterEnable fn false s) (busMaster_off hup hf hb),
    fun fn s hup h0 hf hd => leads_of (Rows.busMasterEnable fn true s) (busMaster_on hup h0 hf hd),
    fun rate width flit s hup hp hr hr6 hw => goes_of (Rows.pcieLinkChange true rate width flit s) (pcieLink_up hup hp hr hr6 hw),
    fun rate width flit s hup => goes_of (Rows.pcieLinkChange false rate width flit s) (pcieLink_down hup)⟩

/-! ### Tick and epoch boundaries (R33, R45) -/

section
variable {s : State}

/-- A tick within an epoch. -/
theorem tickBoundary_within (hup : s.dev.rails = true) (hdue : s.tick.due = false) (hreq : s.dev.resetReq = false)
    (h : (s.tick.count + 1) % 1000000 ≠ 0) : s.tickBoundary = (s.passTicks 1).tickDue := by
  unfold State.tickBoundary
  rw [if_neg (by simp [hup, hdue]), if_neg (by simp [hreq])]
  exact if_neg h

/-- The tick that ends an epoch makes the epoch boundary due. -/
theorem tickBoundary_endsEpoch (hup : s.dev.rails = true) (hdue : s.tick.due = false) (hreq : s.dev.resetReq = false)
    (h : (s.tick.count + 1) % 1000000 = 0) (hj : s.tick.jumpTo = none) :
    s.tickBoundary = State.tickDue { s.passTicks 1 with tick := { (s.passTicks 1).tick with due := true } } := by
  have stays : (s.passTicks 1).alignJump = s.passTicks 1 := by
    have jump : (s.passTicks 1).tick.jumpTo = none := hj
    unfold State.alignJump; rw [jump]
  unfold State.tickBoundary
  rw [if_neg (by simp [hup, hdue]), if_neg (by simp [hreq])]
  exact (if_pos h).trans (by rw [stays])

theorem epochBoundary_works (hup : s.dev.rails = true) (hdue : s.tick.due = true) (hr : s.ready = true) (hw : s.works = true)
    (hj : s.last.job = none) : s.epochBoundary =
      (let p : State := { s with tick := { s.tick with due := false }, mgmt := { s.mgmt with committing := some s.tick.count } }
       p.countSilence.newEstimates.rekeyJitter.raise 1 oTickIrq 0) := by
  have ready : State.ready { s with tick := { s.tick with due := false } } = true := hr
  have works : State.works { s with tick := { s.tick with due := false } } = true := hw
  have noLoad : State.resumeLoad { s with tick := { s.tick with due := false } } = { s with tick := { s.tick with due := false } } := by
    unfold State.resumeLoad; rw [show State.last { s with tick := { s.tick with due := false } } = s.last from rfl, hj]
  unfold State.epochBoundary State.epochWork
  rw [if_neg (by simp [hup]), if_pos hdue]; dsimp only
  rw [ready, if_neg (by decide), works, if_pos rfl, noLoad, works, if_pos rfl]

/-! ### The placement run (R253) -/

/-- The moves of a run that fit the budgets of flows and of key slots. -/
def planOf (flows slots : Nat) (moves : List PlanMove) : List PlanMove :=
  (moves.filter (fun p => p.kind == 0)).take flows ++ (moves.filter (fun p => p.kind == 1 || p.kind == 2)).take slots ++
    moves.filter (fun p => decide (3 ≤ p.kind))

theorem planOf_flows (flows slots : Nat) (moves : List PlanMove) :
    ((planOf flows slots moves).filter (fun p => p.kind == 0)).length ≤ flows := by
  have noSlots : ((moves.filter (fun p => p.kind == 1 || p.kind == 2)).take slots).filter (fun p => p.kind == 0) = [] := by
    rw [List.filter_eq_nil_iff]
    intro p hp
    have := (List.mem_filter.mp (List.mem_of_mem_take hp)).2
    simp only [Bool.or_eq_true, beq_iff_eq] at this ⊢; omega
  have noOthers : (moves.filter (fun p => decide (3 ≤ p.kind))).filter (fun p => p.kind == 0) = [] := by
    rw [List.filter_eq_nil_iff]
    intro p hp
    have := (List.mem_filter.mp hp).2
    simp only [decide_eq_true_eq, beq_iff_eq] at this ⊢; omega
  unfold planOf
  rw [List.filter_append, List.filter_append, noSlots, noOthers, List.append_nil, List.append_nil]
  exact le_trans (List.length_filter_le _ _) (List.length_take_le _ _)

theorem planOf_slots (flows slots : Nat) (moves : List PlanMove) :
    ((planOf flows slots moves).filter (fun p => p.kind == 1 || p.kind == 2)).length ≤ slots := by
  have noFlows : ((moves.filter (fun p => p.kind == 0)).take flows).filter (fun p => p.kind == 1 || p.kind == 2) = [] := by
    rw [List.filter_eq_nil_iff]
    intro p hp
    have := (List.mem_filter.mp (List.mem_of_mem_take hp)).2
    simp only [beq_iff_eq, Bool.or_eq_true] at this ⊢; omega
  have noOthers : (moves.filter (fun p => decide (3 ≤ p.kind))).filter (fun p => p.kind == 1 || p.kind == 2) = [] := by
    rw [List.filter_eq_nil_iff]
    intro p hp
    have := (List.mem_filter.mp hp).2
    simp only [decide_eq_true_eq, Bool.or_eq_true, beq_iff_eq] at this ⊢; omega
  unfold planOf
  rw [List.filter_append, List.filter_append, noFlows, noOthers, List.nil_append, List.append_nil]
  exact le_trans (List.length_filter_le _ _) (List.length_take_le _ _)

theorem mem_of_mem_planOf {flows slots : Nat} {moves : List PlanMove} {p : PlanMove} (h : p ∈ planOf flows slots moves) : p ∈ moves := by
  rcases List.mem_append.mp h with h | h
  · rcases List.mem_append.mp h with h | h
    · exact List.mem_of_mem_filter (List.mem_of_mem_take h)
    · exact List.mem_of_mem_filter (List.mem_of_mem_take h)
  · exact List.mem_of_mem_filter h

theorem placementRun_frozen {moves : List PlanMove} (h : s.disp.frozen = true) : s.placementRun moves = s := if_pos (by simp [h])

theorem placementRun_plans {moves : List PlanMove} (hw : s.works = true) (h : s.disp.frozen = false) : s.placementRun moves =
    { s with disp := { s.disp with plan := planOf s.cfg.disp.flowBudget s.cfg.disp.slotBudget moves } } := if_neg (by simp [hw, h])

end

/-- Settles O14: the boundary by its three cases, the run's plan by `planOf`. -/
theorem ticksEpochsAndPlacement : Obligations.TicksEpochsAndPlacement := by
  refine ⟨⟨fun s hup hdue hreq h => ⟨leads_of (Rows.tickBoundary s) (tickBoundary_within hup hdue hreq h), rfl⟩,
    fun s hup hdue hreq h hj => leads_of (Rows.tickBoundary s) (tickBoundary_endsEpoch hup hdue hreq h hj),
    fun s hup hdue hr hw hj => leads_of (Rows.epochBoundary s) (epochBoundary_works hup hdue hr hw hj), fun s => rfl⟩,
    fun moves s _ h => goes_of (Rows.placementRun moves s) (placementRun_frozen h), fun moves s hw h => ?plans⟩
  case plans =>
    exact ⟨planOf s.cfg.disp.flowBudget s.cfg.disp.slotBudget moves, goes_of (Rows.placementRun moves s) (placementRun_plans hw h),
      planOf_flows _ _ _, planOf_slots _ _ _, fun p => mem_of_mem_planOf⟩

end Sys2Proof.Proofs
end

section
/-! Plane commands and descriptor fetch (O21, O22), the key store's commands and pages (O23, O24). -/

namespace Sys2Proof.Proofs

open Sys2Proof Sys2Proof.Machine Sys2Proof.Laws

/-! ### How a command's checks end it -/

section
variable {i : Instr} {code : Nat} {c : Cmd} {s d e : State} {eff : MCmd → State → Eff} {st : Status}

theorem effChecks_one {b : Bool} {k : Eff} : effChecks s [(b, st)] k = if b then k else .fail s st := by
  unfold effChecks; rw [lowestFail_one]; cases b <;> rfl

/-- A command whose effect a device without a twin mirrors acts at once (R407). -/
theorem row_mirrors (hx : exec i s = run (fun s => (State.cmdRow code eff c s).settle) s) (h : Accepted code c s) (hcode : code < 65536) (ha : Alone d)
    (heff : eff (submitted code c s) s = d.thenMirror (submitted code c s)) (hdone : State.commandDone code (submitted code c s) d = e) : Leads i s e := by
  refine row_pass hx h ha.2 (p := .command code (submitted code c s)) ?_ hdone
  rw [heff]; unfold State.thenMirror; rw [mirror_alone ha]
  have named : (submitted code c s).cmd.code = code := code_coded c hcode
  rw [named]

theorem alone_decisions {n : Nat} (h : Alone s) : Alone (s.decisions n) :=
  ⟨h.1, (congrArg (·.passed) (State.bump64_twin ..)).trans h.2⟩

end

/-! ### Plane commands (Table 2.5) -/

theorem effResync_takes {m : MCmd} {s : State} (h : bit (byteAt m.cmd.desc 32) 0 = false) :
    effResync m s = { s := { s with mgmt := { s.mgmt with resync := s.mgmt.resync ||| byteAt m.cmd.desc 32 } } } := by
  unfold effResync; rw [effChecks_one, h]; rfl

theorem effResync_refuses {m : MCmd} {s : State} (h : bit (byteAt m.cmd.desc 32) 0 = true) : effResync m s = .fail s .badFieldValue := by
  unfold effResync; rw [effChecks_one, h]; rfl

/-- Settles O21: each command by its effect. -/
theorem planeCommandsReport : Obligations.PlaneCommandsReport := by
  refine ⟨fun c s h => row_done (Rows.epochFence c s) h rfl, fun c s h => row_done (Rows.readState c s) h rfl, fun c s h => ⟨fun h0 => ?_, fun h0 => ?_⟩,
    fun code c s => rfl⟩
  · exact row_done (Rows.digestResync c s) h (effResync_takes h0)
  · exact row_done (Rows.digestResync c s) h (effResync_refuses h0)

/-! ### Descriptor fetch (R43, R46, R57) -/

section
variable {c : Cmd} {m : MCmd} {st : Status} {s : State}

theorem stage_urgent (h : m.cmd.urgent = true) : s.stage m = { s with mgmt := { s.mgmt with urgent := s.mgmt.urgent ++ [m] } } := if_pos h

theorem stage_ring (h : m.cmd.urgent = false) (hcode : m.cmd.code < 0x8200) :
    s.stage m = { s with mgmt := { s.mgmt with staged := s.mgmt.staged ++ [(m, s.tick.count)] } } := by
  unfold State.stage
  rw [if_neg (by simp [h])]; dsimp only
  rw [if_neg (by omega), if_neg (by omega)]

theorem padded_whole (h : c.desc.length = 64) : ({ c with desc := padTo 64 c.desc } : Cmd) = c := by
  rw [show padTo 64 c.desc = c.desc by unfold padTo; simp [h]]

/-- A command of the ring, and the state in which the ring's head has passed it. -/
def fromRing (c : Cmd) (s : State) : MCmd := { cmd := c, addr := s.reg oMgmtSqBase + 64 * s.mgmt.sqHead }

def passedHead (s : State) : State := { s with mgmt := { s.mgmt with sqHead := (s.mgmt.sqHead + 1) % s.ringSize oMgmtSqSize } }

/-- A command of the urgent slot, and the state in which the slot has been read. -/
def fromSlot (c : Cmd) (s : State) : MCmd := { cmd := c, addr := s.mgmt.urgAddr, slot := true }

def readSlot (s : State) : State := { s with mgmt := { s.mgmt with urgRead := true } }

/-- The ring has a next descriptor, and room for its completion. -/
structure RingReady (s : State) : Prop where
  works : s.works = true
  dma : s.mayDma 0 = true
  enabled : bit (s.reg oMgmtControl) 0 = true
  next : s.mgmt.sqHead ≠ s.mgmt.sqTail
  room : s.mgmt.staged.length < 65536
  cq : s.mgmtCqFull = false
  held : s.mgmt.held = []

theorem ringFetch_malformed (r : RingReady s) (hlen : c.desc.length = 64) (h : formatFail c = some st) :
    s.descriptorFetch false c = (passedHead s).completeAs (fromRing c s) st.code 0 0 := by
  obtain ⟨works, dma, enabled, next, room, cq, held⟩ := r
  unfold State.descriptorFetch; dsimp only
  rw [padded_whole hlen, if_neg (by simp [works, dma]), if_neg (by decide), if_neg (by simp [enabled, next, room, cq, held]), h]
  rfl

theorem ringFetch_stages (r : RingReady s) (hlen : c.desc.length = 64) (h : formatFail c = none) :
    s.descriptorFetch false c = (passedHead s).stage (fromRing c s) := by
  obtain ⟨works, dma, enabled, next, room, cq, held⟩ := r
  unfold State.descriptorFetch; dsimp only
  rw [padded_whole hlen, if_neg (by simp [works, dma]), if_neg (by decide), if_neg (by simp [enabled, next, room, cq, held]), h]
  rfl

theorem slotFetch (hw : s.works = true) (hdma : s.mayDma 0 = true) (hlen : c.desc.length = 64) (hb : s.mgmt.busy = true) (hr : s.mgmt.urgRead = false) :
    s.descriptorFetch true c = (match slotFail c with
      | some st => (readSlot s).completeAs (fromSlot c s) st.code 0 0
      | none => (readSlot s).stage (fromSlot c s)) := by
  unfold State.descriptorFetch; dsimp only
  rw [padded_whole hlen, if_neg (by simp [hw, hdma]), if_pos rfl, if_neg (by simp [hb, hr])]
  rfl

theorem slotFail_malformed (h : formatFail c = some st) : slotFail c = some st := by unfold slotFail; rw [h]

theorem slotFail_formed (h : formatFail c = none) : slotFail c = if c.urgent then none else some .badFieldValue := by unfold slotFail; rw [h]

end

/-- Settles O22: from the ring by `RingReady`, from the urgent slot by `slotFetch`. -/
theorem descriptorsAreFetchedOneByOne : Obligations.DescriptorsAreFetchedOneByOne := by
  intro c s hw hdma hlen
  refine ⟨fun hen hnext hroom hcq hheld => ?ring, fun hb hr => ?slot⟩
  case ring =>
    have ready : RingReady s := ⟨hw, hdma, hen, hnext, hroom, hcq, hheld⟩
    refine ⟨fun st h => leads_of (Rows.mgmtDescriptorFetch false c s) (ringFetch_malformed ready hlen h), fun h hu => ?_, fun h hu hcode => ?_⟩
    · exact leads_of (Rows.mgmtDescriptorFetch false c s) ((ringFetch_stages ready hlen h).trans (stage_urgent hu))
    · exact leads_of (Rows.mgmtDescriptorFetch false c s) ((ringFetch_stages ready hlen h).trans (stage_ring hu hcode))
  case slot =>
    have fetch := slotFetch hw hdma hlen hb hr
    refine ⟨fun st h => ?_, fun h hu => ?_, fun h hu => ?_⟩
    · exact leads_of (Rows.mgmtDescriptorFetch true c s) (by rw [fetch, slotFail_malformed h]; rfl)
    · exact leads_of (Rows.mgmtDescriptorFetch true c s) (by rw [fetch, slotFail_formed h, hu]; rfl)
    · exact leads_of (Rows.mgmtDescriptorFetch true c s) (by rw [fetch, slotFail_formed h, hu]; exact stage_urgent hu)

/-! ### The key store's commands (Table 3.12) -/

section
variable {m : MCmd} {r : KeyRec} {s : State}

theorem withKey_found {k : Nat → KeyRec → State → Eff} (h : (s.decisions 2).checkKey m.cmd.unit (hInst m.cmd.unit) false false none (fun _ => true) = .key r) :
    s.withKey m k = k (hSlot m.cmd.unit) r (s.decisions 2) := by
  unfold State.withKey; dsimp only; rw [h]

/-- The checks of a pin pass for an ephemeral key, whose page and quota it does not touch. -/
theorem effPin_ephemeral (h : (s.decisions 2).checkKey m.cmd.unit (hInst m.cmd.unit) false false none (fun _ => true) = .key r)
    (he : hEphemeral r.handle = true) : effPin m s = (s.decisions 2).thenMirror m := by
  unfold effPin
  rw [withKey_found h]
  exact effChecks_ok (by simp [State.frozenKey, he])

theorem donePin_ephemeral (he : hEphemeral r.handle = true) (hr : s.key? (hSlot m.cmd.unit) = some r) :
    donePin m s = State.finish m .ok ((s.modKey (hSlot m.cmd.unit) (fun x => { x with
      flags := if bit (byteAt m.cmd.desc 32) 0 then setBit r.flags fPinned else clearBit r.flags fPinned, dirty := r.dirty })).touchKey (hSlot m.cmd.unit)) := by
  unfold donePin; dsimp only; rw [hr]; dsimp only
  rw [he]; simp

theorem effKeyInfo_reads (h : (s.decisions 2).checkKey m.cmd.unit (hInst m.cmd.unit) false false none (fun _ => true) = .key r) :
    effKeyInfo m s = { s := (s.decisions 2).overwrite m 32 (slice (KeyRec.sealedBytes { r with durable := none }) 32 24) } := by
  unfold effKeyInfo; rw [withKey_found h]

theorem effPageRetry_stale (h : (s.page m.cmd.unit).stale = true) :
    effPageRetry m s = { s := (s.modPage m.cmd.unit (fun e => { e with retry := true })).touchPage m.cmd.unit } := by
  unfold effPageRetry; dsimp only; rw [effChecks_one, h]; rfl

theorem effPageRetry_kept (h : (s.page m.cmd.unit).stale = false) : effPageRetry m s = .fail s .stateMismatch := by
  unfold effPageRetry; dsimp only; rw [effChecks_one, h]; rfl

theorem effSnapshotBase_starts (h : s.mgmt.baseCmd = none) : effSnapshotBase m s =
    { s := { s with ks := { s.ks with baseBusy := true }, mgmt := { s.mgmt with baseCmd := some m } }, st := none } := by
  unfold effSnapshotBase; rw [effChecks_one, h]; rfl

theorem effSnapshotBase_busy (h : s.mgmt.baseCmd ≠ none) : effSnapshotBase m s = .fail s .busy := by
  unfold effSnapshotBase
  rw [effChecks_one, if_neg (by simpa using h)]

/-- A page range that grows, crosses no other instance's and turns no written page into key space passes its checks. -/
theorem effPageRange_grows (hb : (s.instOf m.cmd.unit).d.p = 0 ∨ m.cmd.u 32 4 = (s.instOf m.cmd.unit).d.base)
    (hp : (s.instOf m.cmd.unit).d.p ≤ m.cmd.u 36 4) (hk : (s.instOf m.cmd.unit).d.k ≤ m.cmd.u 40 4) (hkp : m.cmd.u 40 4 ≤ m.cmd.u 36 4)
    (hmax : m.cmd.u 40 4 ≤ 3994575) (hend : m.cmd.u 32 4 + m.cmd.u 36 4 ≤ 4194304)
    (hpages : ∀ e ∈ s.ks.pages, (s.instOf m.cmd.unit).d.base + (s.instOf m.cmd.unit).d.k ≤ e.1 ∧
      e.1 < (s.instOf m.cmd.unit).d.base + min (m.cmd.u 40 4) (s.instOf m.cmd.unit).d.p → e.2.ver = 0)
    (hremap : ∀ e ∈ s.ks.remap, ¬ ((s.instOf m.cmd.unit).d.base + (s.instOf m.cmd.unit).d.k ≤ e.2 ∧
      e.2 < (s.instOf m.cmd.unit).d.base + min (m.cmd.u 40 4) (s.instOf m.cmd.unit).d.p))
    (hfree : s.pagesFree m.cmd.unit (if (s.instOf m.cmd.unit).d.p = 0 then m.cmd.u 32 4 else m.cmd.u 32 4 + (s.instOf m.cmd.unit).d.p)
      (m.cmd.u 32 4 + m.cmd.u 36 4) = true) (hlive : s.instLive m.cmd.unit = true) : effPageRange m s = s.thenMirror m := by
  have based : ((s.instOf m.cmd.unit).d.p == 0 || m.cmd.u 32 4 == (s.instOf m.cmd.unit).d.base) = true := by simpa using hb
  have pages : (s.ks.pages.all fun e => !decide ((s.instOf m.cmd.unit).d.base + (s.instOf m.cmd.unit).d.k ≤ e.1 ∧
      e.1 < (s.instOf m.cmd.unit).d.base + min (m.cmd.u 40 4) (s.instOf m.cmd.unit).d.p) || e.2.ver == 0) = true :=
    List.all_eq_true.mpr fun e he => by
      by_cases turned : (s.instOf m.cmd.unit).d.base + (s.instOf m.cmd.unit).d.k ≤ e.1 ∧
        e.1 < (s.instOf m.cmd.unit).d.base + min (m.cmd.u 40 4) (s.instOf m.cmd.unit).d.p
      · rw [hpages e he turned]; simp
      · rw [decide_eq_false turned]; rfl
  have remap : (s.ks.remap.all fun e => !decide ((s.instOf m.cmd.unit).d.base + (s.instOf m.cmd.unit).d.k ≤ e.2 ∧
      e.2 < (s.instOf m.cmd.unit).d.base + min (m.cmd.u 40 4) (s.instOf m.cmd.unit).d.p)) = true :=
    List.all_eq_true.mpr fun e he => by rw [decide_eq_false (hremap e he)]; rfl
  have sized : decide ((s.instOf m.cmd.unit).d.p ≤ m.cmd.u 36 4 ∧ (s.instOf m.cmd.unit).d.k ≤ m.cmd.u 40 4 ∧ m.cmd.u 40 4 ≤ m.cmd.u 36 4 ∧
      m.cmd.u 40 4 ≤ 3994575 ∧ m.cmd.u 32 4 + m.cmd.u 36 4 ≤ 4194304) = true := decide_eq_true ⟨hp, hk, hkp, hmax, hend⟩
  unfold effPageRange; dsimp only
  rw [based, sized, pages, remap, hfree, hlive]
  exact effChecks_ok (by simp)

end

/-- Settles O23: each command by its effect, the mirrored ones by what a passed mirror does. -/
theorem keyStoreCommandsAct : Obligations.KeyStoreCommandsAct := by
  refine ⟨fun c s h ha => ?range, fun c s r h ha hk he hr => ?pin, fun c s r h hk => row_done (Rows.ksKeyInfo c s) h (effKeyInfo_reads hk),
    fun c s h => ⟨fun hs => row_done (Rows.ksPageRetry c s) h (effPageRetry_stale hs), fun hs => row_done (Rows.ksPageRetry c s) h (effPageRetry_kept hs)⟩,
    fun c s h => ⟨fun hb => row_later (Rows.ksSnapshotBase c s) h (effSnapshotBase_starts hb),
      fun hb => row_done (Rows.ksSnapshotBase c s) h (effSnapshotBase_busy hb)⟩⟩
  case range =>
    intro m i b p k d lo fresh hb hp hk hkp hmax hend hpages hremap hfree hlive old t t'
    exact row_mirrors (Rows.ksPageRangeSet c s) h (by decide) ha
      (effPageRange_grows hb hp hk hkp hmax hend hpages hremap hfree hlive) rfl
  case pin =>
    exact row_mirrors (Rows.ksPinResident c s) h (by decide) (alone_decisions ha) (effPin_ephemeral hk he) (donePin_ephemeral he hr)

/-! ### Pages (R85-R88, R96) -/

section
variable {p : Nat} {s : State}

theorem pageFetchDone_opens {i : Nat} {b records : Bytes} (hf : s.ks.fetches.has p = true) (hw : s.works = true)
    (hc : bit (s.reg oKpgControl) 0 = true) (ho : s.ownerOf p = some i) (hop : s.openPage p i b = some records) : s.pageFetchDone p (some b) =
      (s.modPage p (fun e => { e with stale := false })).pageArrived p (fun k s => s.installKey k records) := by
  unfold State.pageFetchDone
  rw [if_neg (by simp [hf, hw, hc])]; dsimp only; rw [ho]; dsimp only; rw [hop]

theorem pageFetchDone_fails {i : Nat} {b : Bytes} (hf : s.ks.fetches.has p = true) (hw : s.works = true)
    (hc : bit (s.reg oKpgControl) 0 = true) (ho : s.ownerOf p = some i) (hop : s.openPage p i b = none) :
    s.pageFetchDone p (some b) = s.pageStale p := by
  unfold State.pageFetchDone
  rw [if_neg (by simp [hf, hw, hc])]; dsimp only; rw [ho]; dsimp only; rw [hop]

theorem pageFetchTimeout_due {w : Fetch} (hf : s.ks.fetches.get? p = some w) (ht : w.since + s.cfg.timing.fetch ≤ s.tick.count) :
    s.pageFetchTimeout p = (s.bumpF oKpgFetchFailed 31 0 (w.waiters.length + w.tasks.length)).pageArrived p (fun _ s => (some .keyPageFetchFailed, s)) := by
  unfold State.pageFetchTimeout; rw [hf]; exact if_pos ht

/-- Without a twin a claim check passes at once (R407). -/
theorem claimThen_alone {claim : Nat} {x : Purpose} (h : s.hasTwin = false) : s.claimThen claim x = s.pass x none := if_pos (by rw [h]; rfl)

/-- The write-back of a page that was never written. -/
def firstWrite (p i : Nat) (s : State) : WriteBack :=
  { target := p, ver := 1, bytes := s.sealPage p i 1 (overlay (zeros 4032) (s.dirtyOf p)), content := (s.dirtyOf p).map (fun d => (d.1, d.2.sealedBytes)) }

theorem buildPage_first {i : Nat} (hp : s.page p = {}) (ha : s.hasTwin = false) :
    s.buildPage p i (zeros 4032) = State.pass (.page p) none { s with ks := { s.ks with writes := s.ks.writes.set p (firstWrite p i s) } } := by
  unfold State.buildPage; dsimp only; rw [hp]
  exact (if_pos (by decide)).trans (claimThen_alone ha)

theorem pageWriteBack_first {i : Nat} {data : Option Bytes} (ho : s.ownerOf p = some i) (hw : s.works = true) (hc : bit (s.reg oKpgControl) 0 = true)
    (hdma : s.mayDma 0 = true) (hn : s.ks.writes.has p = false) (hp : s.page p = {}) (hd : s.dirtyOf p ≠ []) :
    s.pageWriteBack p data = s.buildPage p i (zeros 4032) := by
  unfold State.pageWriteBack; dsimp only; rw [ho]; dsimp only
  rw [if_neg (by simp [hw, hc, hdma, hn, hp, hd]), if_pos (by rw [hp]; exact ⟨rfl, rfl⟩)]

theorem pageWriteConfirm_ends {w : WriteBack} (hx : s.ks.writes.get? p = some w) (h2 : w.stage = 2) (hw : s.works = true) :
    s.pageWriteConfirm p (some (w.bytes.take 64)) = s.endWrite p := by
  unfold State.pageWriteConfirm; rw [hx]; dsimp only; rw [if_neg (by simp [h2, hw]), if_pos rfl]

theorem pageWriteConfirm_again {w : WriteBack} {header : Option Bytes} (hx : s.ks.writes.get? p = some w) (h2 : w.stage = 2) (hw : s.works = true)
    (hne : header ≠ some (w.bytes.take 64)) : s.pageWriteConfirm p header = s.putPage w := by
  unfold State.pageWriteConfirm; rw [hx]; dsimp only; rw [if_neg (by simp [h2, hw]), if_neg hne]

theorem baseCommit_commits {m : MCmd} (hr : s.ready = true) (hb : s.ks.baseBusy = true) (hm : s.mgmt.baseCmd = some m) : s.baseCommit =
    (let u := State.setCopy { seq := s.copy.seq + 1, img := s.copy.img }
      { s with ks := { s.ks with baseBusy := false, active := !s.ks.active, fill := s.ks.journal.length } }
     State.finish m .ok { u with mgmt := { u.mgmt with baseCmd := none } }) := by
  unfold State.baseCommit
  rw [if_neg (by simp [hr, hb])]; dsimp only
  rw [State.setCopy_mgmt]; dsimp only; rw [hm]

end

/-- Settles O24: fetch, write-back, confirmation and commits by their lemmas. -/
theorem pagesTravelSealed : Obligations.PagesTravelSealed := by
  refine ⟨fun p i b records s hf hw hc ho => ⟨fun hop => leads_of (Rows.pageFetchDone p (some b) s) (pageFetchDone_opens hf hw hc ho hop),
      fun hop => leads_of (Rows.pageFetchDone p (some b) s) (pageFetchDone_fails hf hw hc ho hop)⟩,
    fun p w s hf ht => leads_of (Rows.pageFetchTimeout p s) (pageFetchTimeout_due hf ht),
    fun p i data s ho hw hc hdma hn hp hd ha =>
      leads_of (Rows.pageWriteBack p data s) ((pageWriteBack_first ho hw hc hdma hn hp hd).trans (buildPage_first hp ha.1)),
    fun p w header s hx h2 hw => ⟨fun h => leads_of (Rows.pageWriteConfirm p header s) (by rw [h]; exact pageWriteConfirm_ends hx h2 hw),
      fun h => leads_of (Rows.pageWriteConfirm p header s) (pageWriteConfirm_again hx h2 hw h)⟩,
    fun s hr hfill hitems => ?journal, fun m s hr hb hm => leads_of (Rows.snapshotBaseCommit s) (baseCommit_commits hr hb hm)⟩
  case journal =>
    intro ds a b c e noItems below
    refine leads_of (Rows.journalCommit s) ?_
    have woken : s.journalCommit = (let waits := (e.disp.items.filter (fun e => e.2.stage == .parked && bit e.2.mask evJournal)).map Prod.fst
        let s : State := waits.foldl (fun s n => s.event n evJournal none) e
        if 75 ≤ s.ks.fill then { s with ks := { s.ks with baseBusy := true } } else s) := by
      unfold State.journalCommit; rw [if_neg (by simp [hr])]; rfl
    rw [woken, noItems]
    exact if_neg (by simpa using below)

end Sys2Proof.Proofs
end

section
/-! Key ceremonies (O25) and the last commands (O26, O27). -/

namespace Sys2Proof.Proofs

open Sys2Proof Sys2Proof.Machine Sys2Proof.Laws

/-! ### Key ceremonies (R368-R371) -/

theorem isNone_of_ne_none {α : Type} {o : Option α} (h : o ≠ none) : o.isNone = false :=
  Option.isNone_eq_false_iff.mpr (Option.isSome_iff_ne_none.mpr h)

section
variable {m : MCmd} {y : Ceremony} {s : State}

theorem effCeremonyBegin_opens (hi : s.instLive m.cmd.unit = true) (hc : s.kum.ceremony = none) (hr : rosterN (s.instOf m.cmd.unit).d.roster ≠ 0) :
    effCeremonyBegin m s = { s := { s with kum := { s.kum with ceremony := some { inst := m.cmd.unit, began := s.epoch } } } } :=
  effChecks_ok (by simp [hi, hc, hr])

theorem effCeremonyBegin_busy (hi : s.instLive m.cmd.unit = true) (hc : s.kum.ceremony ≠ none) (hr : rosterN (s.instOf m.cmd.unit).d.roster ≠ 0) :
    effCeremonyBegin m s = .fail s .busy := by
  have taken := isNone_of_ne_none hc
  unfold effCeremonyBegin; dsimp only
  rw [hi, taken, show (rosterN (s.instOf m.cmd.unit).d.roster != 0) = true from bne_iff_ne.mpr hr]; rfl

theorem effCeremonyBegin_short (hi : s.instLive m.cmd.unit = true) (hc : s.kum.ceremony = none) (hr : rosterN (s.instOf m.cmd.unit).d.roster = 0) :
    effCeremonyBegin m s = .fail s .kumQuorumShort := by
  unfold effCeremonyBegin; dsimp only
  rw [hi, show s.kum.ceremony.isNone = true by rw [hc]; rfl, hr]; rfl

/-- A command of the open ceremony's instance acts on that ceremony. -/
theorem withCeremony_open (hc : s.kum.ceremony = some y) (hi : y.inst = m.cmd.unit) (k : Ceremony → Eff) : withCeremony m s k = k y := by
  unfold withCeremony; rw [hc]; exact if_pos hi

/-- The ceremony with the component of block `b`. -/
def withComponent (y : Ceremony) (b : Bytes) : Ceremony :=
  { y with parts := y.parts.set (byteAt b 38) (slice b 40 (byteAt b 37)), target := leAt b 28 8, alg := byteAt b 36, len := byteAt b 37,
           counter := leAt b 20 6 }

theorem effCeremonyRead_fails (hc : s.kum.ceremony = some y) (hi : y.inst = m.cmd.unit)
    (hf : s.cardFail (m.cmd.u 32 4) ((80 + leAt m.cmd.data 72 2 + leAt m.cmd.data 74 2 + 511) / 512) = none) (hp : m.cmd.pass = false) :
    effCeremonyRead m s = .fail s.readFails .cardReadFailed := by
  unfold effCeremonyRead
  rw [withCeremony_open hc hi]; dsimp only; rw [hf]; dsimp only
  rw [hp]; rfl

theorem effCeremonyRead_refuses {st : Status} (hc : s.kum.ceremony = some y) (hi : y.inst = m.cmd.unit)
    (hf : s.cardFail (m.cmd.u 32 4) ((80 + leAt m.cmd.data 72 2 + leAt m.cmd.data 74 2 + 511) / 512) = none) (hp : m.cmd.pass = true)
    (hx : (s.decisions 1).componentFail y m.cmd.data = some st) : effCeremonyRead m s = .fail (s.decisions 1) st := by
  unfold effCeremonyRead
  rw [withCeremony_open hc hi]; dsimp only; rw [hf]; dsimp only
  rw [hp, if_neg (by decide), hx]

theorem effCeremonyRead_keeps (hc : s.kum.ceremony = some y) (hi : y.inst = m.cmd.unit)
    (hf : s.cardFail (m.cmd.u 32 4) ((80 + leAt m.cmd.data 72 2 + leAt m.cmd.data 74 2 + 511) / 512) = none) (hp : m.cmd.pass = true)
    (hx : (s.decisions 1).componentFail y m.cmd.data = none) : effCeremonyRead m s =
      (let x := slice m.cmd.data 40 (byteAt m.cmd.data 37)
       let v := checkValue { mat := x, alg := byteAt m.cmd.data 36, len := byteAt m.cmd.data 37 }
       let z := withComponent y m.cmd.data
       { s := State.overwrite m 40 (padTo 5 v ++ [BitVec.ofNat 8 z.parts.length])
           { s.decisions 1 with kum := { (s.decisions 1).kum with ceremony := some z } } }) := by
  unfold effCeremonyRead
  rw [withCeremony_open hc hi]; dsimp only; rw [hf]; dsimp only
  rw [hp, if_neg (by decide), hx]; rfl

theorem effCeremonyCommit_passes {t : State} {h : Nat} (hc : s.kum.ceremony = some y) (hi : y.inst = m.cmd.unit)
    (ho : s.ceremonyOut y = .done t h) (hl : s.ledgerOk = true) : effCeremonyCommit m s = { s := s.privileged (.command 0x8112 m), st := none } := by
  unfold effCeremonyCommit
  rw [withCeremony_open hc hi, ho]; dsimp only; rw [if_pos hl]

theorem effCeremonyCommit_short (hc : s.kum.ceremony = some y) (hi : y.inst = m.cmd.unit) (hn : y.parts.length < rosterM (s.instOf y.inst).d.roster) :
    effCeremonyCommit m s = .fail s .kumQuorumShort := by
  have short : s.ceremonyOut y = .fail s .kumQuorumShort := if_pos hn
  unfold effCeremonyCommit
  rw [withCeremony_open hc hi, short]

/-- The ceremony's key, once the privileged check has passed. -/
theorem doneCeremony_makes {t : State} {h : Nat} (hc : s.kum.ceremony = some y) (ho : s.ceremonyOut y = .done t h) (hl : s.ledgerOk = true) :
    doneCeremony m s =
      (let v := padTo 5 (checkValue { mat := y.key.mat, alg := y.key.alg, len := y.key.len })
       let t := (t.modInst y.inst (fun x => { x with d := { x.d with counter := y.counter } })).touchInst y.inst
       let ds := t.ks.journal.drop s.ks.journal.length ++ [Delta.inst y.inst (t.instOf y.inst).d]
       let t : State := { t with ks := { t.ks with journal := s.ks.journal }, kum := { t.kum with ceremony := none } }
       let t := (t.required 0x17 (le 2 y.inst ++ zeros 2 ++ le 4 (t.instOf y.inst).d.inc ++ le 8 h ++ v ++ zeros 3)).commitNow ds
       (t.overwrite m 40 (le 8 h ++ v)).finish m .ok) := by
  unfold doneCeremony; rw [hc]; dsimp only; rw [ho]; dsimp only
  rw [hl]; rfl

theorem effCeremonyAbort_ends (hc : s.kum.ceremony = some y) (hi : y.inst = m.cmd.unit) :
    effCeremonyAbort m s = { s := { s with kum := { s.kum with ceremony := none } } } := by
  unfold effCeremonyAbort; rw [withCeremony_open hc hi]

theorem ceremonyTimeout_due (hc : s.kum.ceremony = some y) (h : y.began + s.fld oKumCeremonyTimeout 11 0 ≤ s.epoch) :
    s.ceremonyTimeout = { s with kum := { s.kum with ceremony := none } } := by
  unfold State.ceremonyTimeout; rw [hc]; exact if_pos h

theorem ceremonyTimeout_early (hc : s.kum.ceremony = some y) (h : s.epoch < y.began + s.fld oKumCeremonyTimeout 11 0) : s.ceremonyTimeout = s := by
  unfold State.ceremonyTimeout; rw [hc]; exact if_neg (by omega)

/-- The certificates as IDENTITY_READ writes them. -/
def certificateBytes : Bytes := Config.certificates.flatMap (fun c => le 4 c.length ++ c)

/-- A command that writes a buffer in host memory checks its alignment and its length. -/
theorem buffer_checked {k : Eff} {need : Nat} {a : Bool} {fits : Bool} (ha : (m.cmd.u 32 8 % 4096 == 0) = a) (hl : decide (need ≤ m.cmd.u 40 4) = fits)
    (hone : a = true ∨ fits = true) :
    effChecks s [(m.cmd.u 32 8 % 4096 == 0, .badFieldValue), (decide (need ≤ m.cmd.u 40 4), .badLength)] k =
      (if a then if fits then k else .fail s .badLength else .fail s .badFieldValue) := by
  rw [ha, hl]
  rcases hone with h | h
  · rw [h]; cases fits <;> rfl
  · rw [h]; cases a <;> rfl

theorem buffer_taken {k : Eff} {need : Nat} (ha : m.cmd.u 32 8 % 4096 = 0) (hl : need ≤ m.cmd.u 40 4) :
    effChecks s [(m.cmd.u 32 8 % 4096 == 0, .badFieldValue), (decide (need ≤ m.cmd.u 40 4), .badLength)] k = k :=
  buffer_checked (beq_iff_eq.mpr ha) (decide_eq_true hl) (.inl rfl)

theorem buffer_misaligned {k : Eff} {need : Nat} (ha : m.cmd.u 32 8 % 4096 ≠ 0) (hl : need ≤ m.cmd.u 40 4) :
    effChecks s [(m.cmd.u 32 8 % 4096 == 0, .badFieldValue), (decide (need ≤ m.cmd.u 40 4), .badLength)] k = .fail s .badFieldValue :=
  buffer_checked (beq_eq_false_iff_ne.mpr ha) (decide_eq_true hl) (.inr rfl)

theorem buffer_small {k : Eff} {need : Nat} (ha : m.cmd.u 32 8 % 4096 = 0) (hl : m.cmd.u 40 4 < need) :
    effChecks s [(m.cmd.u 32 8 % 4096 == 0, .badFieldValue), (decide (need ≤ m.cmd.u 40 4), .badLength)] k = .fail s .badLength :=
  buffer_checked (beq_iff_eq.mpr ha) (decide_eq_false (by omega)) (.inl rfl)

end

/-- Settles O25: each command by its effect, the commit by what its passed check does. -/
theorem ceremoniesFormKeys : Obligations.CeremoniesFormKeys := by
  refine ⟨fun c s h => ⟨fun hi hc hr => row_done (Rows.ceremonyBegin c s) h (effCeremonyBegin_opens hi hc hr),
      fun hi hc hr => row_done (Rows.ceremonyBegin c s) h (effCeremonyBegin_busy hi hc hr),
      fun hi hc hr => row_done (Rows.ceremonyBegin c s) h (effCeremonyBegin_short hi hc hr)⟩,
    fun c s y h hc hi hf => ⟨fun hp hx => row_done (Rows.ceremonyRead c s) h (effCeremonyRead_keeps hc hi hf hp hx),
      fun hp st hx => row_done (Rows.ceremonyRead c s) h (effCeremonyRead_refuses hc hi hf hp hx),
      fun hp => row_done (Rows.ceremonyRead c s) h (effCeremonyRead_fails hc hi hf hp)⟩,
    fun c s t y n h ha hc hi ho hl => ?commit,
    fun c s y h hc hi hn => row_done (Rows.ceremonyCommit c s) h (effCeremonyCommit_short hc hi hn),
    fun c s y h hc hi => row_done (Rows.ceremonyAbort c s) h (effCeremonyAbort_ends hc hi),
    fun s y hc => ⟨fun h => goes_of (Rows.ceremonyTimeout s) (ceremonyTimeout_due hc h), fun h => goes_of (Rows.ceremonyTimeout s) (ceremonyTimeout_early hc h)⟩,
    fun c s h => ⟨fun ha hl => row_done (Rows.identityRead c s) h (buffer_taken ha hl), fun ha hl => row_done (Rows.identityRead c s) h (buffer_misaligned ha hl),
      fun ha hl => row_done (Rows.identityRead c s) h (buffer_small ha hl)⟩⟩
  case commit =>
    refine row_pass (p := .command 0x8112 (submitted 0x8112 c s)) (Rows.ceremonyCommit c s) h ha.2 ?_ (doneCeremony_makes hc ho hl)
    rw [effCeremonyCommit_passes hc hi ho hl, priv_alone ha]

/-! ### Last commands and their validation (R213-R228) -/

section
variable {code : Nat} {c : Cmd} {m : MCmd} {s : State}

theorem lastRow_stages (hw : s.works = true) (hf : formatFail (coded code c) = none) :
    s.lastRow code c = s.stage { submitted code c s with point := 0 } := by
  unfold State.lastRow; dsimp only
  rw [if_neg (by simp [hw])]
  unfold coded at hf; rw [hf]; rfl

/-- The codes of the last commands that have a validation. -/
def isLast (code : Nat) : Prop := code = 0x8201 ∨ code = 0x8202 ∨ code = 0x8203

theorem stage_last_first (own : m.cmd.code = code) (hu : m.cmd.urgent = false) (hcode : isLast code) (ha : m.cmd.u 32 8 % 8 = 0) (hj : s.last.job = none) :
    s.stage m = { s with last := { s.last with job := some { code := code, m := m } },
                         mgmt := { s.mgmt with staged := s.mgmt.staged ++ [(m, s.tick.count)] } } := by
  have starts : startLast code m s = .ok { s with last := { s.last with job := some { code := code, m := m } } } := by
    unfold startLast; rw [ha, hj]; rfl
  unfold State.stage; dsimp only
  unfold isLast at hcode
  rw [if_neg (by simp [hu]), own, if_pos hcode, starts]

theorem stage_last_second (own : m.cmd.code = code) (hu : m.cmd.urgent = false) (hcode : isLast code) (ha : m.cmd.u 32 8 % 8 = 0) (hj : s.last.job ≠ none) :
    s.stage m = { s with mgmt := { s.mgmt with staged := s.mgmt.staged ++ [({ m with early := some .busy }, s.tick.count)] } } := by
  have busy : startLast code m s = .error .busy := by
    have taken := isNone_of_ne_none hj
    unfold startLast; rw [ha, taken]; rfl
  unfold State.stage; dsimp only
  unfold isLast at hcode
  rw [if_neg (by simp [hu]), own, if_pos hcode, busy]

/-- A last command's row stages it, the first as the one in progress. -/
theorem lastRow_stages_first (hcode : isLast code) (hw : s.works = true) (hf : formatFail (coded code c) = none) (hu : (coded code c).urgent = false)
    (ha : (coded code c).u 32 8 % 8 = 0) (hj : s.last.job = none) : s.lastRow code c =
      { s with last := { s.last with job := some { code := code, m := { submitted code c s with point := 0 } } },
               mgmt := { s.mgmt with staged := s.mgmt.staged ++ [({ submitted code c s with point := 0 }, s.tick.count)] } } := by
  have own : (coded code c).code = code := code_coded c (by rcases hcode with h | h | h <;> rw [h] <;> decide)
  exact (lastRow_stages hw hf).trans (stage_last_first own hu hcode ha hj)

theorem lastRow_stages_second (hcode : isLast code) (hw : s.works = true) (hf : formatFail (coded code c) = none) (hu : (coded code c).urgent = false)
    (ha : (coded code c).u 32 8 % 8 = 0) (hj : s.last.job ≠ none) : s.lastRow code c =
      { s with mgmt := { s.mgmt with staged := s.mgmt.staged ++
        [({ ({ submitted code c s with point := 0 } : MCmd) with early := some .busy }, s.tick.count)] } } := by
  have own : (coded code c).code = code := code_coded c (by rcases hcode with h | h | h <;> rw [h] <;> decide)
  exact (lastRow_stages hw hf).trans (stage_last_second own hu hcode ha hj)

/-- What the validation of a last command's image answers. -/
def validated (j : LastJob) (s : State) : Except ImageFail Parsed :=
  validateImage (s.imageEnv s.commandRule) (kindsOfLast j.code) (j.m.cmd.u 40 4) j.m.image

/-- The state in which the validation of `j` has ended. -/
def validationEnds (j : LastJob) (fail : Option ImageFail) (parsed : Option Parsed) (word : Nat) (d : State) : State :=
  { d with last := { d.last with job := some { j with isOver := true, fail := fail, parsed := parsed }, result := word } }

variable {j : LastJob} {p : Parsed}

theorem validationDone_fails {e : ImageFail} (hj : s.last.job = some j) (ho : j.isOver = false) (hv : validated j s = .error e) :
    s.validationDone = State.raise 2 oLastIrq 0 (validationEnds j (some e) none (resultWord (.error e)) (s.decisions 1)) := by
  unfold validated at hv
  unfold State.validationDone; rw [hj]; dsimp only
  rw [if_neg (by simp [ho]), hv]; dsimp only
  rw [if_neg (by simp)]; rfl

theorem validationDone_checks (hj : s.last.job = some j) (ho : j.isOver = false) (hv : validated j s = .ok p) (hcode : j.code = 0x8203) :
    s.validationDone = State.raise 2 oLastIrq 0 (validationEnds j none (some p) 0 (s.decisions 1)) := by
  unfold validated at hv
  have noTwin : s.twinCheck j.code j.m.image p = .ok p := if_neg (by rw [hcode]; simp)
  unfold State.validationDone; rw [hj]; dsimp only
  rw [if_neg (by simp [ho]), hv]; dsimp only
  rw [if_neg (by rw [hcode]; simp), noTwin]
  rw [if_neg (by rw [hcode]; simp)]; rfl

theorem validationDone_amends (hj : s.last.job = some j) (ho : j.isOver = false) (hv : validated j s = .ok p) (hcode : j.code = 0x8202)
    (hlog : s.flash.store.log.length < 255) (hroom : s.flash.store.used + j.m.image.length ≤ 33554432) :
    s.validationDone = State.raise 2 oLastIrq 0 (validationEnds j none (some p) 0
      { s.decisions 1 with flash := { (s.decisions 1).flash with store := { (s.decisions 1).flash.store with
          log := (s.decisions 1).flash.store.log ++ [j.m.image] } } }) := by
  unfold validated at hv
  have fits : ¬ (j.code = 0x8202 ∧ (255 ≤ s.flash.store.log.length ∨ 33554432 < s.flash.store.used + j.m.image.length)) := by omega
  have noTwin : s.twinCheck j.code j.m.image p = .ok p := if_neg (by rw [hcode]; simp)
  unfold State.validationDone; rw [hj]; dsimp only
  rw [if_neg (by simp [ho]), hv]; dsimp only
  simp only [if_neg fits, noTwin]
  rw [if_pos ⟨hcode, rfl⟩]; rfl

end

/-- Settles O26: staging by `lastRow_stages`, the validation's end by its outcomes. -/
theorem lastCommandsAreValidatedFirst : Obligations.LastCommandsAreValidatedFirst := by
  refine ⟨fun i code c s hi hw hf hu ha => ?staged, fun j s hj ho => ⟨fun e hv => leads_of (Rows.lastValidationDone s) (validationDone_fails hj ho hv),
    fun p hv hcode => leads_of (Rows.lastValidationDone s) (validationDone_checks hj ho hv hcode),
    fun p hv hcode hlog hroom => leads_of (Rows.lastValidationDone s) (validationDone_amends hj ho hv hcode hlog hroom)⟩⟩
  case staged =>
    have row : isLast code ∧ exec i s = run (fun s => (s.lastRow code c).settle) s := by
      rcases hi with h | h | h <;> obtain ⟨rfl, rfl⟩ := Prod.mk.inj h
      · exact ⟨.inl rfl, Rows.lastLoad c s⟩
      · exact ⟨.inr (.inl rfl), Rows.lastAmend c s⟩
      · exact ⟨.inr (.inr rfl), Rows.lastCheck c s⟩
    exact ⟨fun hj => leads_of row.2 (lastRow_stages_first row.1 hw hf hu ha hj), fun hj => leads_of row.2 (lastRow_stages_second row.1 hw hf hu ha hj)⟩

/-! ### The boundary (R225, R228) -/

section
variable {m : MCmd} {j : LastJob} {s : State}

theorem not_early (h : m.early = none) {k : Eff} : effChecks s [(m.early.isNone, m.early.getD .ok)] k = k := by rw [h]; rfl

theorem effLastCheck_passed (hm : m.early = none) (hj : s.last.job = some j) (hf : j.fail = none) : effLastCheck m s = { s := s.endLast, st := some .ok } := by
  unfold effLastCheck; rw [not_early hm, hj]; dsimp only; rw [hf]; rfl

theorem effLastCheck_failed {e : ImageFail} (hm : m.early = none) (hj : s.last.job = some j) (hf : j.fail = some e) :
    effLastCheck m s = { s := s.endLast, st := some e.st } := by
  unfold effLastCheck; rw [not_early hm, hj]; dsimp only; rw [hf]; rfl

theorem effLastLoad_failed {e : ImageFail} (hm : m.early = none) (hj : s.last.job = some j) (hf : j.fail = some e) :
    effLastLoad m s = { s := s.endLast, st := some e.st } := by
  unfold effLastLoad; rw [not_early hm, hj]; dsimp only; rw [hf]; rfl

theorem effLastAmend_failed {e : ImageFail} (hm : m.early = none) (hj : s.last.job = some j) (hf : j.fail = some e) :
    effLastAmend m s = { s := s.endLast, st := some e.st } := by
  unfold effLastAmend; rw [not_early hm, hj]; dsimp only; rw [hf]; rfl

theorem effLastLoad_interrupts {p : Parsed} (hm : m.early = none) (hj : s.last.job = some j) (hf : j.fail = none) (hp : j.parsed = some p)
    (ht : s.twinForbids p.cfg = false) (hl : s.ledgerOk = true) (hc : s.last.cur ≠ none) : effLastLoad m s =
      { s := { s with last := { s.last with job := some { j with m := m, boundary := some s.tick.count } } }, st := none } := by
  have running := isNone_of_ne_none hc
  unfold effLastLoad; rw [not_early hm, hj]; dsimp only; rw [hf, hp]; dsimp only
  rw [ht, hl, running]; rfl

theorem finishLoad_changed {p : Parsed} (h : sha384 ((m.cmd.data2.take (m.cmd.u 40 4)).take (leAt (m.cmd.data2.take (m.cmd.u 40 4)) 56 4)) ≠ sha384 p.signed) :
    s.finishLoad m p = State.finish { m with point := s.epoch } .lastImageChanged { s with last := { s.last with job := none } } := by
  unfold State.finishLoad; dsimp only
  exact if_pos (by simpa using h)

theorem storePersisted_already (h : s.last.persisted = true) : s.storePersisted = s := if_pos (by simp [h])

theorem storePersisted_keeps (h : s.last.persisted = false) (hc : s.last.cur ≠ none) : s.storePersisted = State.raise 2 oLastIrq 1
    { s with flash := { s.flash with store := { s.flash.store with full := s.last.image } }, last := { s.last with persisted := true, image := [] } } :=
  if_neg (by simp [h, hc])

end

/-- Settles O27. -/
theorem lastCommandsCommitAtBoundaries : Obligations.LastCommandsCommitAtBoundaries := by
  refine ⟨fun m j s hm hj => ⟨fun hf => effLastCheck_passed hm hj hf, fun e hf => ⟨effLastCheck_failed hm hj hf, effLastLoad_failed hm hj hf, effLastAmend_failed hm hj hf⟩,
      fun p hf hp ht hl hc => effLastLoad_interrupts hm hj hf hp ht hl hc⟩,
    fun m p s h => finishLoad_changed h,
    fun s => ⟨fun h => goes_of (Rows.lastStorePersisted s) (storePersisted_already h), fun h hc => goes_of (Rows.lastStorePersisted s) (storePersisted_keeps h hc)⟩,
    fun c s h => ⟨fun ha hl => row_done (Rows.lastStats c s) h (buffer_taken ha hl), fun ha hl => row_done (Rows.lastStats c s) h (buffer_misaligned ha hl),
      fun ha hl => row_done (Rows.lastStats c s) h (buffer_small ha hl)⟩⟩

end Sys2Proof.Proofs
end

section
/-! Dispatch and placement (O28, O29). -/

namespace Sys2Proof.Proofs

open Sys2Proof Sys2Proof.Machine Sys2Proof.Laws

/-! ### Flow lookup (R253) -/

section
variable {m : MCmd} {s : State}

/-- A lookup that has found its flow answers the entry and its version. -/
def answersFlow (m : MCmd) (f : Nat) (s : State) : Eff := { s := (s.overwrite m 48 (le 4 f)).overwrite m 52 (le 4 (s.flowOf f).version) }

/-- The key record of a lookup is whole, and names a flow key of the command's live instance. -/
structure LooksUp (m : MCmd) (s : State) (sp : Nat) (par : Bool) (v : Bytes) : Prop where
  whole : keyRecordFail m.cmd.data = none
  key : flowKeyOf m.cmd.data = some (sp, par, v)
  inst : leAt m.cmd.data 0 2 = m.cmd.unit
  live : s.instLive m.cmd.unit = true

variable {sp : Nat} {par : Bool} {v : Bytes}

theorem effFlowLookup_finds {f : Nat} (l : LooksUp m s sp par v) (h : s.findFlow m.cmd.unit par sp v = some f) : effFlowLookup m s = answersFlow m f s := by
  obtain ⟨whole, key, inst, live⟩ := l
  unfold effFlowLookup; dsimp only
  rw [whole, key]; dsimp only
  rw [if_neg (by simp [inst, live]), h]; rfl

theorem effFlowLookup_absent (l : LooksUp m s sp par v) (h : s.findFlow m.cmd.unit par sp v = none) (hb : bit (byteAt m.cmd.desc 40) 0 = false) :
    effFlowLookup m s = .fail s .flowNotLive := by
  obtain ⟨whole, key, inst, live⟩ := l
  unfold effFlowLookup; dsimp only
  rw [whole, key]; dsimp only
  rw [if_neg (by simp [inst, live]), h]; dsimp only
  rw [hb]; rfl

theorem effFlowLookup_allocates {f : Nat} {t : State} (l : LooksUp m s sp par v) (h : s.findFlow m.cmd.unit par sp v = none)
    (hb : bit (byteAt m.cmd.desc 40) 0 = true) (ha : s.allocFlow m.cmd.unit par sp v = some (f, t)) : effFlowLookup m s = answersFlow m f t := by
  obtain ⟨whole, key, inst, live⟩ := l
  unfold effFlowLookup; dsimp only
  rw [whole, key]; dsimp only
  rw [if_neg (by simp [inst, live]), h]; dsimp only
  rw [hb, if_neg (by decide), ha]; rfl

theorem effFlowLookup_full (l : LooksUp m s sp par v) (h : s.findFlow m.cmd.unit par sp v = none)
    (hb : bit (byteAt m.cmd.desc 40) 0 = true) (ha : s.allocFlow m.cmd.unit par sp v = none) : effFlowLookup m s = .fail s .quotaExceeded := by
  obtain ⟨whole, key, inst, live⟩ := l
  unfold effFlowLookup; dsimp only
  rw [whole, key]; dsimp only
  rw [if_neg (by simp [inst, live]), h]; dsimp only
  rw [hb, if_neg (by decide), ha]

end

/-! ### Pins and hints of flows and keys (R254-R257) -/

section
variable {m : MCmd} {s : State} {x : Flow}

/-- A command that names a flow in use, with its key, acts on it. -/
theorem withFlow_named (hk : keyRecordFail m.cmd.data = none) (hx : s.disp.flows.get? m.cmd.unit = some x) (h : m.cmd.unit < 1044480)
    (hm : flowMatches x m.cmd.data = true) (k : Nat → Flow → Eff) : withFlow m s k = k m.cmd.unit x := by
  unfold withFlow; rw [hk]; dsimp only; rw [hx]; exact if_pos ⟨h, hm⟩

variable (hk : keyRecordFail m.cmd.data = none) (hx : s.disp.flows.get? m.cmd.unit = some x) (h : m.cmd.unit < 1044480)
  (hm : flowMatches x m.cmd.data = true)
include hk hx h hm

theorem effPinFlow_pins (hf : byteAt m.cmd.desc 41 ≤ 15) (hp : bit (byteAt m.cmd.desc 40) 0 = true)
    (hin : bit (s.instOf x.inst).d.lim.fronds (byteAt m.cmd.desc 41) = true) : effPinFlow m s =
      { s := (s.modFlow m.cmd.unit (fun x => { x with pinned := true, home := some (byteAt m.cmd.desc 41) })).touchFlow m.cmd.unit } := by
  unfold effPinFlow; dsimp only
  rw [withFlow_named hk hx h hm, hp, hin, decide_eq_true hf]; rfl

theorem effPinFlow_outside (hf : byteAt m.cmd.desc 41 ≤ 15) (hp : bit (byteAt m.cmd.desc 40) 0 = true)
    (hin : bit (s.instOf x.inst).d.lim.fronds (byteAt m.cmd.desc 41) = false) : effPinFlow m s = .fail s .placementPinConflict := by
  unfold effPinFlow; dsimp only
  rw [withFlow_named hk hx h hm, hp, hin, decide_eq_true hf]; rfl

theorem effPinFlow_unpins (hf : byteAt m.cmd.desc 41 ≤ 15) (hp : bit (byteAt m.cmd.desc 40) 0 = false) : effPinFlow m s =
      { s := (s.modFlow m.cmd.unit (fun x => { x with pinned := false })).touchFlow m.cmd.unit } := by
  unfold effPinFlow; dsimp only
  rw [withFlow_named hk hx h hm, hp, decide_eq_true hf]; rfl

theorem effHintFlow_hints (hf : byteAt m.cmd.desc 40 ≤ 15 ∨ byteAt m.cmd.desc 40 = 0xFF) : effHintFlow m s =
      { s := (s.modFlow m.cmd.unit (fun x => { x with
          hint := if byteAt m.cmd.desc 40 = 0xFF then none else some (byteAt m.cmd.desc 40), streak := 0 })).touchFlow m.cmd.unit } := by
  unfold effHintFlow; dsimp only
  rw [withFlow_named hk hx h hm]
  exact effChecks_ok (by simpa using hf)

theorem effHintFlow_refuses (hf : 15 < byteAt m.cmd.desc 40) (hn : byteAt m.cmd.desc 40 ≠ 0xFF) : effHintFlow m s = .fail s .badFieldValue := by
  have bad : (decide (byteAt m.cmd.desc 40 ≤ 15) || byteAt m.cmd.desc 40 == 0xFF) = false := by
    rw [decide_eq_false (by omega), beq_eq_false_iff_ne.mpr hn]; rfl
  unfold effHintFlow; dsimp only
  rw [withFlow_named hk hx h hm, bad]; rfl

end

section
variable {m : MCmd} {s : State}

theorem effFronds_set (hi : s.instLive m.cmd.unit = true) (hf : s.frondsOk (m.cmd.u 32 2) = true) (hp : s.pinOutside m.cmd.unit (m.cmd.u 32 2) = false) :
    effFronds m s = s.thenMirror m := effChecks_ok (by simp [hi, hf, hp])

theorem effFronds_pinned (hi : s.instLive m.cmd.unit = true) (hf : s.frondsOk (m.cmd.u 32 2) = true) (hp : s.pinOutside m.cmd.unit (m.cmd.u 32 2) = true) :
    effFronds m s = .fail s .placementPinConflict := by
  unfold effFronds; dsimp only; rw [hi, hf, hp]; rfl

theorem hint_valid {h q : Nat} (hs : hStore h = 1) (hq : q ≤ 3 ∨ q = 0xFF) : (hStore h == 1 && (decide (q ≤ 3) || q == 0xFF)) = true := by
  simpa [hs] using hq

theorem effHintKey_hints (hs : hStore m.cmd.unit = 1) (hq : byteAt m.cmd.desc 32 ≤ 3 ∨ byteAt m.cmd.desc 32 = 0xFF) (hk : (s.keyUnit m.cmd.unit).1 ≠ 0) :
    effHintKey m s = { s := State.touchHandle m.cmd.unit { s with ks := { s.ks with
      hints := if byteAt m.cmd.desc 32 = 0xFF then s.ks.hints.erase (hSlot m.cmd.unit)
               else s.ks.hints.set (hSlot m.cmd.unit) (byteAt m.cmd.desc 32, 0) } } } := by
  unfold effHintKey; dsimp only
  rw [hint_valid hs hq, decide_eq_true hk]; rfl

theorem effHintKey_absent (hs : hStore m.cmd.unit = 1) (hq : byteAt m.cmd.desc 32 ≤ 3 ∨ byteAt m.cmd.desc 32 = 0xFF) (hk : (s.keyUnit m.cmd.unit).1 = 0) :
    effHintKey m s = .fail s .keyNotFound := by
  unfold effHintKey; dsimp only
  rw [hint_valid hs hq, decide_eq_false (not_not.mpr hk)]; rfl

end

/-- Settles O28: each command by its effect. -/
theorem dispatchCommandsAct : Obligations.DispatchCommandsAct := by
  refine ⟨fun c s sp par v h => ?lookup, fun c s x h => ?pin, fun c s x h => ?hint, fun c s h ha => ?fronds, fun c s h => ?key,
    fun c s h => row_done (Rows.dispPlacement c s) h rfl⟩
  case lookup =>
    intro m b i done whole key inst live
    have l : LooksUp m s sp par v := ⟨whole, key, inst, live⟩
    exact ⟨fun f hf => row_done (Rows.dispFlowLookup c s) h (effFlowLookup_finds l hf),
      fun hn hb => row_done (Rows.dispFlowLookup c s) h (effFlowLookup_absent l hn hb),
      fun f t hn hb hf => row_done (Rows.dispFlowLookup c s) h (effFlowLookup_allocates l hn hb hf),
      fun hn hb hf => row_done (Rows.dispFlowLookup c s) h (effFlowLookup_full l hn hb hf)⟩
  case pin =>
    intro m k f hk hx hlt hm hf
    exact ⟨fun hp hin => row_done (Rows.dispPinFlow c s) h (effPinFlow_pins hk hx hlt hm hf hp hin),
      fun hp hin => row_done (Rows.dispPinFlow c s) h (effPinFlow_outside hk hx hlt hm hf hp hin),
      fun hp => row_done (Rows.dispPinFlow c s) h (effPinFlow_unpins hk hx hlt hm hf hp)⟩
  case hint =>
    intro m k g hk hx hlt hm
    exact ⟨fun hf => row_done (Rows.dispHintFlow c s) h (effHintFlow_hints hk hx hlt hm hf),
      fun hf hn => row_done (Rows.dispHintFlow c s) h (effHintFlow_refuses hk hx hlt hm hf hn)⟩
  case fronds =>
    intro m i set hi hf
    exact ⟨fun hp => row_mirrors (Rows.dispFronds c s) h (by decide) ha (effFronds_set hi hf hp) rfl,
      fun hp => row_done (Rows.dispFronds c s) h (effFronds_pinned hi hf hp)⟩
  case key =>
    intro m g q hs hq
    exact ⟨fun hk => row_done (Rows.dispHintKey c s) h (effHintKey_hints hs hq hk), fun hk => row_done (Rows.dispHintKey c s) h (effHintKey_absent hs hq hk)⟩

/-! ### Admission and expiry (R238, R242, R251, R331) -/

section
variable {f n : Nat} {s t : State}

theorem itemAdmit_resumes (hw : s.works = true) (h : s.firstResumed f = some n) : s.itemAdmit f = s.modItem n (fun x => { x with stage := .running }) := by
  unfold State.itemAdmit; rw [if_neg (by simp [hw]), h]

theorem itemAdmit_starts (hw : s.works = true) (h : s.firstResumed f = none) (ha : s.admitting = true) (hf : s.frondOn f = true)
    (hs : s.serve f = some (n, t)) : s.itemAdmit f = t.startItem f n := by
  unfold State.itemAdmit; rw [if_neg (by simp [hw]), h]; dsimp only; rw [if_neg (by simp [ha, hf]), hs]

theorem itemAdmit_idle (h : s.firstResumed f = none) (hs : s.serve f = none) : s.itemAdmit f = s := by
  unfold State.itemAdmit; rw [h, hs]; dsimp only
  rw [ite_self, ite_self]

theorem waitPoolFullCount_withholds (h : 64 ≤ s.disp.poolFull.getD f 0) (hf : 8192 ≤ s.admittedOn f) :
    s.waitPoolFullCount f = { s with disp := { s.disp with poolFull := s.disp.poolFull.set f 65 } } := if_pos ⟨h, hf⟩

theorem waitPoolFullCount_early (h : s.disp.poolFull.getD f 0 < 64) : s.waitPoolFullCount f = s := if_neg (by omega)

theorem flowLinger_frees {x : Flow} (hx : s.disp.flows.get? f = some x) (hw : s.works = true) (hf : f < 1044480) (hi : s.inFlow f = [])
    (hp : x.pinned = false) (hh : x.hint = none) (ht : x.emptyAt + s.cfg.disp.linger ≤ s.tick.count) :
    s.flowLinger f = { s with disp := { s.disp with flows := s.disp.flows.erase f } } := by
  unfold State.flowLinger; rw [hx]; exact if_pos (by simp [hw, hf, hi, hp, hh, ht])

theorem flowLinger_stays {x : Flow} (hx : s.disp.flows.get? f = some x) (h : x.pinned = true ∨ x.hint ≠ none ∨ s.inFlow f ≠ []) :
    s.flowLinger f = s := by
  unfold State.flowLinger; rw [hx]
  refine if_neg ?_
  rcases h with h | h | h
  · simp [h]
  · simp [isNone_of_ne_none h]
  · simp [h]

theorem contextIdle_expires {x : CipherCtx} (hx : s.eng.ctxs.get? f = some x) (hw : s.works = true) (hh : x.holder = none)
    (ht : x.lastUse + s.fld oCiphContextIdle 31 0 ≤ s.tick.count) : s.contextIdle f = (s.freeCtx f).bump oCiphContextExpired := by
  unfold State.contextIdle; rw [hx]; exact if_pos (by simp [hw, hh, ht])

theorem contextIdle_held {x : CipherCtx} (hx : s.eng.ctxs.get? f = some x) (hh : x.holder ≠ none) : s.contextIdle f = s := by
  unfold State.contextIdle; rw [hx]; exact if_neg (by simp [isNone_of_ne_none hh])

end

/-- Settles O29. -/
theorem dispatchTakesAndExpires : Obligations.DispatchTakesAndExpires :=
  ⟨fun f _ s hw h => leads_of (Rows.itemAdmit f s) (itemAdmit_resumes hw h),
    fun f _ s _ hw h ha hf hs => leads_of (Rows.itemAdmit f s) (itemAdmit_starts hw h ha hf hs),
    fun f s h hs => leads_of (Rows.itemAdmit f s) (itemAdmit_idle h hs),
    fun f s => ⟨fun h hf => goes_of (Rows.waitPoolFullCount f s) (waitPoolFullCount_withholds h hf),
      fun h => goes_of (Rows.waitPoolFullCount f s) (waitPoolFullCount_early h)⟩,
    fun f _ s hx => ⟨fun hw hf hi hp hh ht => goes_of (Rows.flowLingerExpiry f s) (flowLinger_frees hx hw hf hi hp hh ht),
      fun h => goes_of (Rows.flowLingerExpiry f s) (flowLinger_stays hx h)⟩,
    fun e _ s hx => ⟨fun hw hh ht => goes_of (Rows.contextIdleExpiry e s) (contextIdle_expires hx hw hh ht),
      fun hh => goes_of (Rows.contextIdleExpiry e s) (contextIdle_held hx hh)⟩⟩

end Sys2Proof.Proofs
end

section
/-! Ports, MACsec, sessions and queue pairs by command (O30-O33). -/

namespace Sys2Proof.Proofs

open Sys2Proof Sys2Proof.Machine Sys2Proof.Laws

/-! ### Ports (Table 9.15) -/

section
variable {m : MCmd} {s : State}

theorem effPortAdmin_acts (h : s.subMaskOk m.cmd.unit (byteAt m.cmd.desc 32) = true) : effPortAdmin m s =
    { s := ((List.range 4).foldl (fun (s : State) k => if bit (byteAt m.cmd.desc 32) k then s.modSub m.cmd.unit k (fun x => { x with admin := true }) else s)
        s).touchPort m.cmd.unit } := by
  unfold effPortAdmin; dsimp only; rw [effChecks_one, h]; rfl

theorem effPortAdmin_refuses (h : s.subMaskOk m.cmd.unit (byteAt m.cmd.desc 32) = false) : effPortAdmin m s = .fail s .badFieldValue := by
  unfold effPortAdmin; dsimp only; rw [effChecks_one, h]; rfl

theorem effPortShutdown_acts (h : s.subMaskOk m.cmd.unit (byteAt m.cmd.desc 32) = true) : effPortShutdown m s =
    { s := ((List.range 4).foldl (fun (s : State) k => if bit (byteAt m.cmd.desc 32) k then s.subDown m.cmd.unit k else s) s).touchPort m.cmd.unit } := by
  unfold effPortShutdown; dsimp only; rw [effChecks_one, h]; rfl

theorem effPortShutdown_refuses (h : s.subMaskOk m.cmd.unit (byteAt m.cmd.desc 32) = false) : effPortShutdown m s = .fail s .badFieldValue := by
  unfold effPortShutdown; dsimp only; rw [effChecks_one, h]; rfl

/-- A sub-port that carries no session and has no definition sends nothing as it goes down. -/
theorem subDown_bare {p k : Nat} (ha : (s.subOf p k).admin = true) (hd : s.subDef p k = none)
    (hs : s.sessWhere (fun _ x => x.port == p && x.sub == k && (x.st == .opened || x.st == .handshake)) = []) :
    s.subDown p k = s.modSub p k (fun x => { x with admin := false, solitary := false, silent := 0 }) := by
  unfold State.subDown
  rw [if_neg (by simp [ha]), hs]
  simp only [List.foldl_nil, hd]; rfl

theorem effPortPeers_writes (hm : m.mute = false) (ha : m.cmd.u 32 8 % 4096 = 0) : effPortPeers m s =
    (let es := (s.portOf m.cmd.unit).peers
     { s := (s.hostWrite 0 (m.cmd.u 32 8) ((le 4 es.length).take (m.cmd.u 40 4))).hostWrite 0 (m.cmd.u 32 8 + 64)
        ((es.flatMap Peer.bytes).take (m.cmd.u 40 4 - 64)) }) := by
  unfold effPortPeers; dsimp only
  rw [effChecks_one, beq_iff_eq.mpr ha, hm]; rfl

theorem effPortPeers_misaligned (ha : m.cmd.u 32 8 % 4096 ≠ 0) : effPortPeers m s = .fail s .badFieldValue := by
  unfold effPortPeers; dsimp only
  rw [effChecks_one, beq_eq_false_iff_ne.mpr ha]; rfl

end

/-- Settles O30. -/
theorem portCommandsAct : Obligations.PortCommandsAct :=
  ⟨fun c s h => ⟨fun hm => row_done (Rows.portAdmin c s) h (effPortAdmin_acts hm), fun hm => row_done (Rows.portAdmin c s) h (effPortAdmin_refuses hm)⟩,
    fun c s h => ⟨fun hm => row_done (Rows.portShutdown c s) h (effPortShutdown_acts hm),
      fun hm => row_done (Rows.portShutdown c s) h (effPortShutdown_refuses hm)⟩,
    fun _ _ _ ha hd hs => subDown_bare ha hd hs,
    fun c s h => ⟨fun ha => row_done (Rows.portPeers c s) h (effPortPeers_writes rfl ha),
      fun ha => row_done (Rows.portPeers c s) h (effPortPeers_misaligned ha)⟩⟩

/-! ### MACsec associations (R335-R339) -/

section
variable {m : MCmd} {s : State}

/-- The key an SA's record names passes the checks for its direction. -/
def saKey (m : MCmd) (s : State) : Found :=
  s.checkKey (leAt (padTo 64 m.cmd.data) 8 8) 0 false true (some (if byteAt (padTo 64 m.cmd.data) 1 = 0 then uEncrypt else uDecrypt))
    (fun r => r.alg == algAes && r.len == 32)

/-- The MAC address of a sub-port's definition. -/
def subMac (s : State) (p k : Nat) : Bytes := match s.subDef p k with | none => [] | some d => d.mac

theorem effSaInstall_refuses (ha : m.cmd.u 32 8 % 8 = 0) (hr : saRsvOk (padTo 64 m.cmd.data) = true) (h : s.saOk m.cmd.unit (padTo 64 m.cmd.data) = false) :
    effSaInstall m s = .fail s .badFieldValue := by
  unfold effSaInstall; dsimp only; rw [ha, hr, h]; rfl

theorem effSaInstall_unkeyed {st : Status} (ha : m.cmd.u 32 8 % 8 = 0) (hr : saRsvOk (padTo 64 m.cmd.data) = true)
    (h : s.saOk m.cmd.unit (padTo 64 m.cmd.data) = true) (hk : saKey m (s.decisions 2) = .fail st) : effSaInstall m s = .fail (s.decisions 2) st := by
  unfold saKey at hk
  unfold effSaInstall; dsimp only
  rw [lowestFail_ok (by simp [ha, hr, h])]; dsimp only
  rw [hk]

theorem effSaInstall_installs {r : KeyRec} (ha : m.cmd.u 32 8 % 8 = 0) (hr : saRsvOk (padTo 64 m.cmd.data) = true)
    (h : s.saOk m.cmd.unit (padTo 64 m.cmd.data) = true) (hk : saKey m (s.decisions 2) = .key r) (hc : r.counted = false) : effSaInstall m s =
      (let b := padTo 64 m.cmd.data
       let d := s.decisions 2
       let a := { readSa (subMac d m.cmd.unit (byteAt b 0)) b with key := r.mat }
       { s := (d.modSub m.cmd.unit (byteAt b 0) (fun x =>
          if byteAt b 1 = 0 then { x with tx := x.tx.set a.an a } else { x with rx := x.rx.set a.an a })).touchPort m.cmd.unit }) := by
  unfold saKey at hk
  unfold effSaInstall; dsimp only
  rw [lowestFail_ok (by simp [ha, hr, h])]; dsimp only
  rw [hk]; dsimp only
  rw [hc]; rfl

theorem effTxUse_absent (h : (s.subOf m.cmd.unit (byteAt m.cmd.desc 32)).tx.get? (byteAt m.cmd.desc 33) = none) :
    effTxUse m s = .fail s .badFieldValue := by
  unfold effTxUse; dsimp only; rw [h]

theorem effTxUse_protects {a : Sa} (h : (s.subOf m.cmd.unit (byteAt m.cmd.desc 32)).tx.get? (byteAt m.cmd.desc 33) = some a)
    (hn : s.saNamed m 33 = true) (hp : a.pn ≤ a.maxPn) : effTxUse m s =
      { s := (s.modSub m.cmd.unit (byteAt m.cmd.desc 32) (fun x => { x with
          tx := x.tx.mapT (fun n y => { y with protecting := n == byteAt m.cmd.desc 33 }), pnWarn := false, stalled := false })).touchPort m.cmd.unit } := by
  unfold effTxUse; dsimp only; rw [h]
  exact effChecks_ok (by simp [hn, hp])

theorem effTxUse_exhausted {a : Sa} (h : (s.subOf m.cmd.unit (byteAt m.cmd.desc 32)).tx.get? (byteAt m.cmd.desc 33) = some a)
    (hp : a.maxPn < a.pn) : effTxUse m s = .fail s .badFieldValue := by
  unfold effTxUse; dsimp only; rw [h]; dsimp only
  rw [effChecks_one, decide_eq_false (by omega), Bool.and_false]; rfl

theorem effSaRemove_removes (hn : s.saNamed m 34 = true) (hd : byteAt m.cmd.desc 33 ≤ 1) : effSaRemove m s =
    { s := (s.modSub m.cmd.unit (byteAt m.cmd.desc 32) (fun x => if byteAt m.cmd.desc 33 = 0 then { x with tx := x.tx.erase (byteAt m.cmd.desc 34) }
        else { x with rx := x.rx.erase (byteAt m.cmd.desc 34) })).touchPort m.cmd.unit } :=
  effChecks_ok (by simp [hn, hd])

/-- The association that SA_STATUS names, and its packet number. -/
def saOf (m : MCmd) (s : State) : Option Sa :=
  ((s.subOf m.cmd.unit (byteAt m.cmd.desc 32)).sas (byteAt m.cmd.desc 33)).get? (byteAt m.cmd.desc 34)

def saNumber (dir : Nat) (a : Option Sa) : Nat := match a with | none => 0 | some a => if dir = 0 then a.pn else a.low

theorem effSaStatus_reads (hn : s.saNamed m 34 = true) (hd : byteAt m.cmd.desc 33 ≤ 1) : effSaStatus m s =
    { s := s.overwrite m 40 (le 8 (saNumber (byteAt m.cmd.desc 33) (saOf m s)) ++ [BitVec.ofNat 8 (saState (byteAt m.cmd.desc 33) (saOf m s))]) } :=
  effChecks_ok (by simp [hn, hd])

end

/-- Settles O31. -/
theorem macsecCommandsAct : Obligations.MacsecCommandsAct :=
  ⟨fun c s _ h ha hr => ⟨fun hx => row_done (Rows.macsecSaInstall c s) h (effSaInstall_refuses ha hr hx),
      fun hx hk hc => row_done (Rows.macsecSaInstall c s) h (effSaInstall_installs ha hr hx hk hc),
      fun hx _ hk => row_done (Rows.macsecSaInstall c s) h (effSaInstall_unkeyed ha hr hx hk)⟩,
    fun c s h => ⟨fun hx => row_done (Rows.macsecTxUse c s) h (effTxUse_absent hx),
      fun _ hx hn hp => row_done (Rows.macsecTxUse c s) h (effTxUse_protects hx hn hp),
      fun _ hx hp => row_done (Rows.macsecTxUse c s) h (effTxUse_exhausted hx hp)⟩,
    fun c s h hn hd => row_done (Rows.macsecSaRemove c s) h (effSaRemove_removes hn hd),
    fun c s h hn hd => row_done (Rows.macsecSaStatus c s) h (effSaStatus_reads hn hd)⟩

/-! ### Sessions (R279-R293) -/

section
variable {m : MCmd} {s : State}

theorem effSessionCreate_taken (h : (s.sessOf m.cmd.unit).st ≠ .free) : effSessionCreate m s = .fail s .stateMismatch := if_pos h

theorem effSessionCreate_invalid (h : (s.sessOf m.cmd.unit).st = .free)
    (hx : s.sessionOk (byteAt (padTo 64 m.cmd.data) 5) (readSession (padTo 64 m.cmd.data)) = false) : effSessionCreate m s = .fail s .badFieldValue := by
  unfold effSessionCreate; dsimp only; rw [if_neg (by simp [h]), if_pos (by simp [hx])]

/-- A session of an instance that is not free. -/
def sessionsOf (i : Nat) (s : State) : List Nat := s.sessWhere (fun _ y => y.inst == i && y.st != .free)

/-- The record creates a session on a free index, with values and peer keys that hold. -/
structure Creates (m : MCmd) (s : State) : Prop where
  free : (s.sessOf m.cmd.unit).st = .free
  holds : s.sessionOk (byteAt (padTo 64 m.cmd.data) 5) (readSession (padTo 64 m.cmd.data)) = true
  ec : ∃ k, s.peerKey (readSession (padTo 64 m.cmd.data)).keyEc (readSession (padTo 64 m.cmd.data)).inst false = .ok k
  dsa : ∃ k, s.peerKey (readSession (padTo 64 m.cmd.data)).keyDsa (readSession (padTo 64 m.cmd.data)).inst true = .ok k

theorem effSessionCreate_counts (k : Creates m s) : effSessionCreate m s = (let x := readSession (padTo 64 m.cmd.data)
    if (sessionsOf x.inst s).length < (s.instOf x.inst).d.lim.sessions then
      { s := (s.modSess m.cmd.unit (fun _ => { x with st := .parked, parkedAt := s.tick.count, version := 0 })).touchSess m.cmd.unit }
    else .fail s .quotaExceeded) := by
  obtain ⟨free, holds, ⟨ke, ec⟩, ⟨kd, dsa⟩⟩ := k
  unfold effSessionCreate; dsimp only
  rw [if_neg (by simp [free]), if_neg (by simp [holds]), ec, dsa]
  simp only [keyFail, lower, effChecks_one, decide_eq_true_eq]; rfl

theorem effSessionCreate_creates (k : Creates m s)
    (h : (sessionsOf (readSession (padTo 64 m.cmd.data)).inst s).length < (s.instOf (readSession (padTo 64 m.cmd.data)).inst).d.lim.sessions) :
    effSessionCreate m s = { s := (s.modSess m.cmd.unit (fun _ =>
      { readSession (padTo 64 m.cmd.data) with st := .parked, parkedAt := s.tick.count, version := 0 })).touchSess m.cmd.unit } :=
  (effSessionCreate_counts k).trans (if_pos h)

theorem effSessionCreate_full (k : Creates m s)
    (h : (s.instOf (readSession (padTo 64 m.cmd.data)).inst).d.lim.sessions ≤ (sessionsOf (readSession (padTo 64 m.cmd.data)).inst s).length) :
    effSessionCreate m s = .fail s .quotaExceeded :=
  (effSessionCreate_counts k).trans (if_neg (by omega))

theorem effSessionConnect_responder (h : (s.sessOf m.cmd.unit).st ≠ .free) (hi : (s.sessOf m.cmd.unit).initiator = false) :
    effSessionConnect m s = .fail s .badFieldValue := by
  unfold effSessionConnect; dsimp only; rw [if_neg h, if_pos (by simp [hi])]

theorem effSessionConnect_underWay (h : (s.sessOf m.cmd.unit).st ≠ .free) (hi : (s.sessOf m.cmd.unit).initiator = true)
    (hs : (s.sessOf m.cmd.unit).st = .handshake ∨ (s.sessOf m.cmd.unit).setup ≠ none) : effSessionConnect m s = { s := s } := by
  unfold effSessionConnect; dsimp only
  rw [if_neg h, if_neg (by simp [hi]), if_pos (hs.imp id Option.isSome_iff_ne_none.mpr)]

theorem effSessionConnect_starts (h : (s.sessOf m.cmd.unit).st ≠ .free) (hi : (s.sessOf m.cmd.unit).initiator = true)
    (hn : (s.sessOf m.cmd.unit).st ≠ .handshake) (hs : (s.sessOf m.cmd.unit).setup = none) :
    effSessionConnect m s = { s := s.startSetup m.cmd.unit } := by
  unfold effSessionConnect; dsimp only
  rw [if_neg h, if_neg (by simp [hi]), if_neg (by simp [hn, hs])]

theorem effSessionClose_free (h : (s.sessOf m.cmd.unit).st = .free) : effSessionClose m s = .fail s .stateMismatch := by
  unfold effSessionClose; dsimp only; rw [h]

theorem effSessionClose_parked (h : (s.sessOf m.cmd.unit).st = .parked) :
    effSessionClose m s = { s := s.when (bit (byteAt m.cmd.desc 32) 0) (fun s => s.freeSess m.cmd.unit) } := by
  unfold effSessionClose; dsimp only; rw [h]

theorem effSessionClose_closes (hf : (s.sessOf m.cmd.unit).st ≠ .free) (hp : (s.sessOf m.cmd.unit).st ≠ .parked) :
    effSessionClose m s = { s := s.closeSess m.cmd.unit .ok (bit (byteAt m.cmd.desc 32) 0) } := by
  unfold effSessionClose; dsimp only
  cases hst : (s.sessOf m.cmd.unit).st with
  | free => exact absurd hst hf
  | parked => exact absurd hst hp
  | handshake => rfl
  | opened => rfl

theorem touchInst_last (i : Nat) : (s.touchInst i).last = s.last := by
  obtain ⟨x, m, p, o, h⟩ := State.touchInst_frame i s
  rw [h]

/-- A device without a twin mirrors no destination. -/
theorem effSessionDest_alone {b : Bool} (ha : s.hasTwin = false) (hd : m.cmd.u 32 2 < 4096) (hi : s.instLive m.cmd.unit = true)
    (hn : (m.cmd.u 36 4 == 0xFFFFFFFF || (decide (m.cmd.u 36 4 < 1048576) && (s.sessOf (m.cmd.u 36 4)).st != .free &&
      (s.sessOf (m.cmd.u 36 4)).inst == m.cmd.unit)) = b) : effSessionDest m s =
    (if b then { s := (s.modInst m.cmd.unit (fun y => { y with
        dests := if m.cmd.u 36 4 == 0xFFFFFFFF then y.dests.erase (m.cmd.u 32 2) else y.dests.set (m.cmd.u 32 2) (m.cmd.u 36 4) })).touchInst m.cmd.unit }
     else .fail s .badFieldValue) := by
  have alone : ∀ t : State, t.last = s.last → t.hasTwin = false := fun t h => by unfold State.hasTwin State.cfg at *; rw [h]; exact ha
  unfold effSessionDest; dsimp only
  rw [decide_eq_true hd, hi, hn, alone _ ((touchInst_last _).trans (State.modInst_last ..))]
  cases b <;> rfl

theorem effSessionDest_unbinds (ha : s.hasTwin = false) (hd : m.cmd.u 32 2 < 4096) (hi : s.instLive m.cmd.unit = true) (hn : m.cmd.u 36 4 = 0xFFFFFFFF) :
    effSessionDest m s = { s := (s.modInst m.cmd.unit (fun y => { y with dests := y.dests.erase (m.cmd.u 32 2) })).touchInst m.cmd.unit } := by
  rw [effSessionDest_alone (b := true) ha hd hi (by rw [hn]; rfl), hn]; rfl

theorem effSessionDest_binds (ha : s.hasTwin = false) (hd : m.cmd.u 32 2 < 4096) (hi : s.instLive m.cmd.unit = true) (hn : m.cmd.u 36 4 < 1048576)
    (hf : (s.sessOf (m.cmd.u 36 4)).st ≠ .free) (ho : (s.sessOf (m.cmd.u 36 4)).inst = m.cmd.unit) : effSessionDest m s =
      { s := (s.modInst m.cmd.unit (fun y => { y with dests := y.dests.set (m.cmd.u 32 2) (m.cmd.u 36 4) })).touchInst m.cmd.unit } := by
  rw [effSessionDest_alone (b := true) ha hd hi (by simp [hn, hf, ho]), if_pos rfl]
  rw [show (m.cmd.u 36 4 == 0xFFFFFFFF) = false from beq_eq_false_iff_ne.mpr (by omega)]; rfl

theorem effSessionDest_foreign (ha : s.hasTwin = false) (hd : m.cmd.u 32 2 < 4096) (hi : s.instLive m.cmd.unit = true) (hn : m.cmd.u 36 4 < 1048576)
    (ho : (s.sessOf (m.cmd.u 36 4)).inst ≠ m.cmd.unit) : effSessionDest m s = .fail s .badFieldValue := by
  have bound : (m.cmd.u 36 4 == 0xFFFFFFFF) = false := beq_eq_false_iff_ne.mpr (by omega)
  rw [effSessionDest_alone (b := false) ha hd hi (by rw [bound, beq_eq_false_iff_ne.mpr ho]; simp)]; rfl

end

/-- Settles O32. -/
theorem sessionCommandsAct : Obligations.SessionCommandsAct := by
  refine ⟨fun c s h => ⟨fun hs => row_done (Rows.sessionCreate c s) h (effSessionCreate_taken hs),
      fun hs hx => row_done (Rows.sessionCreate c s) h (effSessionCreate_invalid hs hx), fun ke kd hs hx hke hkd => ?create⟩,
    fun c s h => ⟨fun hs hi => row_done (Rows.sessionConnect c s) h (effSessionConnect_responder hs hi),
      fun hs hi hu => row_done (Rows.sessionConnect c s) h (effSessionConnect_underWay hs hi hu),
      fun hs hi hn hu => row_done (Rows.sessionConnect c s) h (effSessionConnect_starts hs hi hn hu)⟩,
    fun c s h => ⟨fun hs => row_done (Rows.sessionClose c s) h (effSessionClose_free hs), fun hs hf => ?frees, fun hs hf => ?stays,
      fun hf hp => row_done (Rows.sessionClose c s) h (effSessionClose_closes hf hp)⟩,
    fun c s h ha hd hi => ⟨fun hn => row_done (Rows.sessionDest c s) h (effSessionDest_unbinds ha hd hi hn),
      fun hn hf ho => row_done (Rows.sessionDest c s) h (effSessionDest_binds ha hd hi hn hf ho),
      fun hn ho => row_done (Rows.sessionDest c s) h (effSessionDest_foreign ha hd hi hn ho)⟩⟩
  case create =>
    have k : Creates (submitted 0x8403 c s) s := ⟨hs, hx, ⟨ke, hke⟩, ⟨kd, hkd⟩⟩
    exact ⟨fun hl => row_done (Rows.sessionCreate c s) h (effSessionCreate_creates k hl), fun hl => row_done (Rows.sessionCreate c s) h (effSessionCreate_full k hl)⟩
  case frees => exact row_done (Rows.sessionClose c s) h (by rw [effSessionClose_parked hs, hf]; rfl)
  case stays => exact row_done (Rows.sessionClose c s) h (by rw [effSessionClose_parked hs, hf]; rfl)

/-! ### Queue pairs (R300, R317) -/

section
variable {m : MCmd} {s : State}

/-- The queue pair that QUEUE_CREATE asks for. -/
def askedQueue (m : MCmd) : Qp :=
  { fn := m.cmd.unit, lix := byteAt m.cmd.desc 32, sqLog := byteAt m.cmd.desc 33, cqLog := byteAt m.cmd.desc 34, cls := byteAt m.cmd.desc 35,
    parallel := bit (byteAt m.cmd.desc 36) 0, unver := bit (byteAt m.cmd.desc 36) 1, vector := m.cmd.u 38 2, sqBase := m.cmd.u 40 8,
    cqBase := m.cmd.u 48 8 }

/-- Its function is there, its local index is free, its sizes, class and vector hold, and an index is free. -/
structure Askable (m : MCmd) (s : State) : Prop where
  fn : s.hasFn m.cmd.unit = true
  free : s.queueAt m.cmd.unit (askedQueue m).lix = none
  sqLow : 6 ≤ (askedQueue m).sqLog
  sqHigh : (askedQueue m).sqLog ≤ 16
  cqLow : 6 ≤ (askedQueue m).cqLog
  cqHigh : (askedQueue m).cqLog ≤ 16
  cls : (askedQueue m).cls ≤ 7 ∨ (askedQueue m).cls = 0xFF
  vector : (askedQueue m).vector ≤ (if m.cmd.unit = 0 then 2047 else 7)
  room : s.queues.firstFree 65536 0 < 65536

/-- The form that QUEUE_CREATE asks for (R300). -/
def formedQueue (m : MCmd) (s : State) : Bool :=
  let x := askedQueue m
  s.hasFn m.cmd.unit && (s.queueAt m.cmd.unit x.lix).isNone && decide (6 ≤ x.sqLog ∧ x.sqLog ≤ 16 ∧ 6 ≤ x.cqLog ∧ x.cqLog ≤ 16) &&
    (decide (x.cls ≤ 7) || x.cls == 0xFF) && decide (x.vector ≤ (if m.cmd.unit = 0 then 2047 else 7))

theorem Askable.formed (k : Askable m s) : formedQueue m s = true := by
  have classed : (decide ((askedQueue m).cls ≤ 7) || (askedQueue m).cls == 0xFF) = true := by simpa using k.cls
  unfold formedQueue; dsimp only
  rw [k.fn, k.free, classed, decide_eq_true k.vector, decide_eq_true ⟨k.sqLow, k.sqHigh, k.cqLow, k.cqHigh⟩]; rfl

/-- What is left to check: the rings' alignment and the instance's limit. -/
def queueLimits (m : MCmd) (s : State) : List (Bool × Status) :=
  [((askedQueue m).sqBase % 4096 == 0 && (askedQueue m).cqBase % 4096 == 0, .badAlignment),
    (decide ((s.queuesOf m.cmd.unit).length < (s.instOf m.cmd.unit).d.lim.qps ∧ s.queues.firstFree 65536 0 < 65536), .quotaExceeded)]

theorem effQueueCreate_formed (k : Askable m s) : effQueueCreate m s = effChecks s (queueLimits m s)
    { s := (State.touchInst m.cmd.unit { s with queues := s.queues.set (s.queues.firstFree 65536 0) (askedQueue m) }).overwrite m 56
        (le 2 (s.queues.firstFree 65536 0)) } := by
  have first : ∀ e, effChecks s ((formedQueue m s, .badFieldValue) :: queueLimits m s) e = effChecks s (queueLimits m s) e := by
    intro e; rw [k.formed]; rfl
  exact first _

theorem effQueueCreate_creates (k : Askable m s) (hs : (askedQueue m).sqBase % 4096 = 0) (hc : (askedQueue m).cqBase % 4096 = 0)
    (hl : (s.queuesOf m.cmd.unit).length < (s.instOf m.cmd.unit).d.lim.qps) : effQueueCreate m s =
      { s := (State.touchInst m.cmd.unit { s with queues := s.queues.set (s.queues.firstFree 65536 0) (askedQueue m) }).overwrite m 56
          (le 2 (s.queues.firstFree 65536 0)) } :=
  (effQueueCreate_formed k).trans (effChecks_ok (by simp [queueLimits, hs, hc, hl, k.room]))

theorem effQueueCreate_misaligned (k : Askable m s) (hs : (askedQueue m).sqBase % 4096 ≠ 0)
    (hl : (s.queuesOf m.cmd.unit).length < (s.instOf m.cmd.unit).d.lim.qps) : effQueueCreate m s = .fail s .badAlignment := by
  rw [effQueueCreate_formed k]; unfold queueLimits
  rw [beq_eq_false_iff_ne.mpr hs, Bool.false_and, decide_eq_true ⟨hl, k.room⟩]; rfl

theorem effQueueCreate_full (k : Askable m s) (hs : (askedQueue m).sqBase % 4096 = 0) (hc : (askedQueue m).cqBase % 4096 = 0)
    (hl : (s.instOf m.cmd.unit).d.lim.qps ≤ (s.queuesOf m.cmd.unit).length) : effQueueCreate m s = .fail s .quotaExceeded := by
  rw [effQueueCreate_formed k]; unfold queueLimits
  rw [hs, hc, decide_eq_false (by omega)]; rfl

theorem effQueueDestroy_absent (h : s.queueAt m.cmd.unit (byteAt m.cmd.desc 32) = none) : effQueueDestroy m s = .fail s .badFieldValue := by
  unfold effQueueDestroy; dsimp only; rw [h]

theorem effQueueDestroy_stops {k : Nat} {x : Qp} (h : s.queueAt m.cmd.unit (byteAt m.cmd.desc 32) = some (k, x)) (hf : s.hasFn m.cmd.unit = true) :
    effQueueDestroy m s =
      (let a := bit (byteAt m.cmd.desc 33) 0
       let d : State := { s with queues := s.queues.set k { x with active := false, abort := x.abort || a } }
       { s := ((if a then d.dropRequests k else d).touchInst m.cmd.unit).reapQueue k }) := by
  unfold effQueueDestroy; dsimp only; rw [h]; dsimp only; rw [if_neg (by simp [hf])]

theorem effQueueStatus_noFn (hf : s.hasFn m.cmd.unit = false) : effQueueStatus m s = .fail s .badFieldValue := if_pos (by simp [hf])

theorem effQueueStatus_absent (hf : s.hasFn m.cmd.unit = true) (h : s.queueAt m.cmd.unit (byteAt m.cmd.desc 32) = none) :
    effQueueStatus m s = { s := s.overwrite m 40 (zeros 16) } := by
  unfold effQueueStatus; dsimp only; rw [if_neg (by simp [hf]), h]

theorem effQueueStatus_reads {k : Nat} {x : Qp} (hf : s.hasFn m.cmd.unit = true) (h : s.queueAt m.cmd.unit (byteAt m.cmd.desc 32) = some (k, x)) :
    effQueueStatus m s =
    { s := s.overwrite m 40 (le 2 k ++ [BitVec.ofNat 8 (if x.active then 1 else 2), 0#8] ++ le 2 x.sqHead ++ le 2 x.cqTail ++
        le 4 (s.qpItems k).length ++ zeros 4) } := by
  unfold effQueueStatus; dsimp only; rw [if_neg (by simp [hf]), h]

end

/-- Settles O33. -/
theorem queueCommandsAct : Obligations.QueueCommandsAct := by
  refine ⟨fun c s h => ?create, fun c s h => ⟨fun hq => row_done (Rows.queueDestroy c s) h (effQueueDestroy_absent hq),
      fun k x hq hf => row_done (Rows.queueDestroy c s) h (effQueueDestroy_stops hq hf)⟩,
    fun c s h => ⟨fun hf => row_done (Rows.queueStatus c s) h (effQueueStatus_noFn hf), fun hf hq => row_done (Rows.queueStatus c s) h (effQueueStatus_absent hf hq),
      fun k x hf hq => row_done (Rows.queueStatus c s) h (effQueueStatus_reads hf hq)⟩⟩
  case create =>
    intro m i x k fn free sqLow sqHigh cqLow cqHigh cls vector room
    have asked : Askable m s := ⟨fn, free, sqLow, sqHigh, cqLow, cqHigh, cls, vector, room⟩
    exact ⟨fun hs hc hl => row_done (Rows.queueCreate c s) h (effQueueCreate_creates asked hs hc hl),
      fun hs hl => row_done (Rows.queueCreate c s) h (effQueueCreate_misaligned asked hs hl),
      fun hs hc hl => row_done (Rows.queueCreate c s) h (effQueueCreate_full asked hs hc hl)⟩

end Sys2Proof.Proofs
end

section
/-! Moves (O35) and twin operation (O36-O38). -/

namespace Sys2Proof.Proofs

open Sys2Proof Sys2Proof.Machine Sys2Proof.Laws

/-! ### Moves of an instance without a twin (R397-R402) -/

section
variable {m : MCmd} {s : State}

theorem effMovePrepare_passes {r : InstRec} (hi : m.cmd.unit ≠ 0) (hp : m.cmd.u 40 4 + m.cmd.u 44 4 ≤ 4194304) (hl : s.instLive m.cmd.unit = false)
    (ha : m.cmd.u 56 8 % 4096 = 0) (hm : s.memberOk s.drec.member mySerial identityHash = true) (hr : s.rngOk = true)
    (hrec : s.recordOf m = .ok r) (hf : s.frondsOk r.fronds = true) (ht : s.totalsOk m.cmd.unit r = true)
    (hfree : s.pagesFree m.cmd.unit (m.cmd.u 40 4) (m.cmd.u 40 4 + m.cmd.u 44 4) = true) : effMovePrepare m s = s.thenMirror m := by
  unfold effMovePrepare; dsimp only; rw [hrec]
  exact effChecks_ok (by simp [hi, hp, hl, ha, hm, hr, hf, ht, hfree])

/-- The state in which a move's target number waits for its package. -/
theorem doneMovePrepare_reserves {r : InstRec} (hrec : s.recordOf m = .ok r) : doneMovePrepare m s =
    (let i := m.cmd.unit
     let id := ofLe (s.drawn 8)
     let ec := Config.pkGenerate algEc 2 (freeBytes (s.free + 8) 48)
     let kem := Config.pkGenerate algKem 3 (freeBytes (s.free + 56) 64)
     let a := s.drewStatement 120
     let offer := a.offerBlob id (m.cmd.u 48 8) i ec kem
     let a := (a.drewStatement 80).modInst i (fun x => Inst.fill { d := { inc := x.d.inc, abandoned := x.d.abandoned, lim := r } })
     let a := a.moveInst i (fun d => { d with st := .moving, base := m.cmd.u 40 4, p := m.cmd.u 44 4, moveId := id, moveEc := ec,
                                              moveKem := kem, movePeer := m.cmd.u 48 8, offer := offer })
     (a.hostWrite 0 (m.cmd.u 56 8) offer).finish m .ok) := by
  unfold doneMovePrepare; dsimp only; rw [hrec]

theorem privMove_recorded (hl : s.ledgerOk = true) : s.privMove m = { s := s.privileged (.command m.cmd.code m), st := none } := if_pos hl

/-- A command of a move that a device without a twin checks against its claim acts at once (R407). -/
theorem row_moves {i : Instr} {code : Nat} {c : Cmd} {e : State} {eff : MCmd → State → Eff}
    (hx : exec i s = run (fun s => (State.cmdRow code eff c s).settle) s) (h : Accepted code c s) (hcode : code < 65536) (ha : Alone s) (hl : s.ledgerOk = true)
    (heff : eff (submitted code c s) s = s.privMove (submitted code c s)) (hdone : State.commandDone code (submitted code c s) s = e) : Leads i s e := by
  have named : (submitted code c s).cmd.code = code := code_coded c hcode
  refine row_pass hx h ha.2 (p := .command code (submitted code c s)) ?_ hdone
  rw [heff, privMove_recorded hl, priv_alone ha, named]

theorem effMoveOut_goes {b : Bytes} (hm : s.moveOut m = .ok b) (hb : b.length ≤ m.cmd.u 56 8) : effMoveOut m s = s.privMove m := by
  unfold effMoveOut; rw [hm]; exact if_neg (by omega)

theorem effMoveOut_small {b : Bytes} (hm : s.moveOut m = .ok b) (hb : m.cmd.u 56 8 < b.length) :
    effMoveOut m s = .fail (s.overwrite m 56 (le 8 b.length)) .badLength := by
  unfold effMoveOut; rw [hm]; exact if_pos hb

theorem doneMoveOut_leaves {b : Bytes} (hm : s.moveOut m = .ok b) : doneMoveOut m s =
    (let i := m.cmd.unit
     let offer := m.cmd.data
     let a := (s.drewStatement 160).moveInst i (fun d => { d with
       st := .moving, moveId := blobId offer, moveSource := true, movePeer := blobDst offer, movePeerId := sha3 32 (slice offer 6492 2689) })
     (((a.moveRecord i 1 (blobId offer)).hostWrite 0 (m.cmd.u 48 8) b).overwrite m 56 (le 8 b.length)).finish m .ok) := by
  unfold doneMoveOut; dsimp only; rw [hm]

theorem effMoveIn_arrives {b : Arrival} (hs : (s.instOf m.cmd.unit).d.st = .moving) (hm : s.moveIn m = .ok b) : effMoveIn m s = s.privMove m := by
  unfold effMoveIn; dsimp only; rw [if_neg (by simp [hs]), hm]

theorem effMoveIn_fails {st : Status} (ha : (s.instOf m.cmd.unit).d.arrived = []) (hm : s.moveIn m = .error st) : effMoveIn m s = .fail s st := by
  unfold effMoveIn; dsimp only; rw [if_neg (by simp [ha]), hm]

theorem doneMoveIn_brings {b : Arrival} (hm : s.moveIn m = .ok b) : doneMoveIn m s =
    (let i := m.cmd.unit
     let a := s.moveInst i (fun d => { d with st := .disabled, inc := max d.inc b.inc + 1, counter := b.counter, roster := b.roster, k := b.k,
                                              arrived := sha384 (m.cmd.data.take (m.cmd.u 40 8)) })
     let keys := b.keys.map KeyRec.arrive
     let a := keys.foldl (fun (s : State) r =>
       let s := s.journal (.key (hSlot r.handle) (some r))
       if hStore r.handle == 2 || (bit r.flags fPinned && !r.deleted)
       then ((s.setKey (hSlot r.handle) { r with bank := s.pickBank (hStore r.handle == 1) }).spend 8).touch 6 r.handle else s) a
     let a := (List.range b.k).foldl (fun (s : State) j => s.arrivePage i keys j) a
     let a := a.when a.rngOk (State.instantiate (16 + i))
     ((a.moveRecord i 2 (a.instOf i).d.moveId).acknowledge m).finish m .ok) := by
  unfold doneMoveIn; dsimp only; rw [hm]

/-- The end of a move is for its source, with an aligned message. -/
structure EndsMove (m : MCmd) (s : State) : Prop where
  inst : m.cmd.unit ≠ 0
  moving : (s.instOf m.cmd.unit).d.st = .moving
  source : (s.instOf m.cmd.unit).d.moveSource = true
  aligned : m.cmd.u 32 8 % 8 = 0

theorem endMove_ends {kind : Nat} (k : EndsMove m s) (h : endBlobOk kind (s.instOf m.cmd.unit).d m.cmd.unit (m.cmd.data.take (m.cmd.u 40 4)) = true) :
    endMove kind m s = s.privMove m := by
  obtain ⟨inst, moving, source, aligned⟩ := k
  exact effChecks_ok (by simp [inst, moving, source, aligned, h])

theorem endMove_abandoned {kind : Nat} (k : EndsMove m s) (h : endBlobOk kind (s.instOf m.cmd.unit).d m.cmd.unit (m.cmd.data.take (m.cmd.u 40 4)) = false) :
    endMove kind m s = .fail s .moveAbandoned := by
  obtain ⟨inst, moving, source, aligned⟩ := k
  unfold endMove; dsimp only
  rw [h, source, aligned, show (m.cmd.unit != 0) = true from bne_iff_ne.mpr inst, moving]; rfl

theorem effMoveAbandon_abandons (hi : m.cmd.unit ≠ 0) (hs : (s.instOf m.cmd.unit).d.st = .moving) (hn : (s.instOf m.cmd.unit).d.moveSource = false)
    (ha : m.cmd.u 32 8 % 4096 = 0) (hr : s.rngOk = true) : effMoveAbandon m s = s.privMove m := effChecks_ok (by simp [hi, hs, hn, ha, hr])

theorem effMembership_keeps (ha : m.cmd.u 32 8 % 8 = 0) (h : s.memberOk (m.cmd.data.take 4763) mySerial identityHash = true) :
    effMembership m s = { s := State.saveDev { s with drec := { s.drec with member := m.cmd.data.take 4763 } } } := effChecks_ok (by simp [ha, h])

theorem effMembership_refuses (ha : m.cmd.u 32 8 % 8 = 0) (h : s.memberOk (m.cmd.data.take 4763) mySerial identityHash = false) :
    effMembership m s = .fail s .moveNotPermitted := by
  unfold effMembership; dsimp only; rw [ha, h]; rfl

end

/-- Settles O35: each command by its effect, the mirrored and the privileged ones by what they do once they pass. -/
theorem movesCarryInstances : Obligations.MovesCarryInstances := by
  refine ⟨fun c s r h ha => ?prepare, fun c s b h ha hl => ?out, fun c s b h ha hl => ?arrives,
    fun c s st h ha hm => row_done (Rows.moveIn c s) h (effMoveIn_fails ha hm), fun c s h ha hl => ?finish, fun c s h ha hl => ?cancel,
    fun c s h ha hl hr => ?abandon,
    fun c s h hx => ⟨fun hm => row_done (Rows.moveMembership c s) h (effMembership_keeps hx hm),
      fun hm => row_done (Rows.moveMembership c s) h (effMembership_refuses hx hm)⟩⟩
  case prepare =>
    intro m i b p hi hp hlive hal hm hr hrec hf ht hfree
    exact row_mirrors (Rows.movePrepare c s) h (by decide) ha (effMovePrepare_passes hi hp hlive hal hm hr hrec hf ht hfree) (doneMovePrepare_reserves hrec)
  case out =>
    intro m i offer hm
    exact ⟨fun hb => row_moves (Rows.moveOut c s) h (by decide) ha hl (effMoveOut_goes hm hb) (doneMoveOut_leaves hm),
      fun hb => row_done (Rows.moveOut c s) h (effMoveOut_small hm hb)⟩
  case arrives =>
    intro m i hs hm
    exact row_moves (Rows.moveIn c s) h (by decide) ha hl (effMoveIn_arrives hs hm) (doneMoveIn_brings hm)
  case finish =>
    intro m i d hi hs hsrc hal
    have k : EndsMove m s := ⟨hi, hs, hsrc, hal⟩
    exact ⟨fun hb => row_moves (Rows.moveFinish c s) h (by decide) ha hl (endMove_ends k hb) rfl,
      fun hb => row_done (Rows.moveFinish c s) h (endMove_abandoned k hb)⟩
  case cancel =>
    intro m i d hi hs hsrc hal hb
    exact row_moves (Rows.moveCancel c s) h (by decide) ha hl (endMove_ends ⟨hi, hs, hsrc, hal⟩ hb) rfl
  case abandon =>
    intro m i d hi hs hsrc hal
    exact row_moves (Rows.moveAbandon c s) h (by decide) ha hl (effMoveAbandon_abandons hi hs hsrc hal hr) rfl

/-! ### Pairing (R408-R417) -/

section
variable {s : State}

/-- The link that WELT brings up is to the partner, whose membership verifies (R408). -/
def partnerOk (w : WeltUp) (s : State) : Bool :=
  s.hasTwin && w.serial == s.twinSec.partner && w.names == mySerial && (w.role == 1 || w.role == 2) && w.role != s.twinSec.role &&
    s.memberOk w.record w.serial w.ident

/-- The lanes that a link of so many trains (R408). -/
def lanesOf (n : Nat) : Nat := if 8 ≤ n then 8 else if 4 ≤ n then 4 else 2

theorem weltUp_rejects {w : WeltUp} (hr : s.ready = true) (hw : s.cfg.enables.welt = true) (hl : 2 ≤ w.lanes) (ht : s.hasTwin = true)
    (h : partnerOk w s = false) : s.weltUp w = { s with twin := { s.twin with lanes := lanesOf w.lanes, linkUp := false, rejected := true } } := by
  unfold partnerOk at h
  unfold State.weltUp; rw [if_neg (by simp [hr, hw]; omega)]; dsimp only
  rw [h, if_pos (show (!false) = true from rfl), ht]; rfl

theorem weltUp_links {w : WeltUp} (hr : s.ready = true) (hw : s.cfg.enables.welt = true) (hl : 2 ≤ w.lanes)
    (h : partnerOk w s = true) (hp : s.twin.pair ≠ 0) : s.weltUp w =
      (let a : State := { s with twin := { s.twin with lanes := lanesOf w.lanes, linkUp := true, rejected := false } }
       State.learnClaim w.claim { a with twin := { a.twin with partnerTick := w.tick, lastHeard := s.tick.count } }) := by
  have ht : s.hasTwin = true := by
    unfold partnerOk at h; simp only [Bool.and_eq_true] at h
    exact h.1.1.1.1.1
  unfold partnerOk at h
  unfold State.weltUp; rw [if_neg (by simp [hr, hw]; omega)]; dsimp only
  rw [h, if_neg (by decide), ht]
  have paired : (s.twin.pair == 0) = false := beq_eq_false_iff_ne.mpr hp
  unfold State.when State.learnClaim; dsimp only
  rw [paired]; rfl

theorem heartbeatRx_down {h : Heartbeat} (hl : s.twin.linkUp = false) : s.heartbeatRx h = s := if_pos (by simp [hl])

theorem alignTick_aligned {h : Heartbeat} (ha : s.tick.aligned = true) : s.alignTick h = { s with tick := { s.tick with offset := h.offsetNs } } :=
  if_pos (.inl ha)

/-- A heartbeat of a pair is noted, and the pair stays as it is. -/
theorem heartbeatRx_paired {h : Heartbeat} (hr : s.ready = true) (ht : s.hasTwin = true) (hl : s.twin.linkUp = true) (hp : s.twin.pair = 2)
    (ha : s.tick.aligned = true) : s.heartbeatRx h =
      (let a := State.learnClaim h.claim { s with twin := { s.twin with partnerTick := h.tick, lastHeard := s.tick.count } }
       { a with tick := { a.tick with offset := h.offsetNs } }) := by
  unfold State.heartbeatRx; rw [if_neg (by simp [hr, ht, hl])]; dsimp only
  rw [alignTick_aligned (by exact ha)]
  unfold State.when State.learnClaim; dsimp only
  rw [hp]; simp

theorem heartbeatLoss_early (h : s.tick.count < s.twin.lastHeard + 9) : s.heartbeatLoss = s := if_pos (by simp [h])

theorem setPair_zero (h : s.twin.pair ≠ 0) : s.setPair 0 =
    { s with twin := { s.twin with pair := 0, lastChange := s.tick.count, pairedSince := none, fenced := s.twin.fenced && true, resyncDone := false } } :=
  if_neg h

theorem heartbeatLoss_fences (hr : s.ready = true) (ht : s.hasTwin = true) (hp : s.twin.pair ≠ 0) (h : s.twin.lastHeard + 9 ≤ s.tick.count)
    (ha : s.twin.active = true) : s.heartbeatLoss =
      (let a := State.setPair 0 { s with twin := { s.twin with aloneSince := s.tick.count } }
       State.leaveActive .notActive { a with twin := { a.twin with fenced := true, fenceAt := some (a.tick.count + 16) } }) := by
  unfold State.heartbeatLoss; rw [if_neg (by simp [hr, ht, hp, h])]; dsimp only
  rw [setPair_zero (by exact hp)]
  exact if_pos ha

theorem resyncComplete_standby (hr : s.ready = true) (hp : s.twin.pair = 1) (hl : s.twin.linkUp = true) (ha : s.twin.active = false) :
    s.resyncComplete = { s with twin := { s.twin with resyncDone := true } } := by
  unfold State.resyncComplete; rw [if_neg (by simp [hr, hp, hl]), if_neg (by simp [ha])]

theorem resyncComplete_active (hr : s.ready = true) (hp : s.twin.pair = 1) (hl : s.twin.linkUp = true) (ha : s.twin.active = true)
    (hq : s.twin.queued = []) : s.resyncComplete = State.setPair 2 s := by
  have same : { s.twin with queued := [] } = s.twin := by rw [← hq]
  unfold State.resyncComplete; rw [if_neg (by simp [hr, hp, hl]), if_pos ha]; dsimp only
  rw [hq, same]; rfl

end

/-- Settles O36. -/
theorem twinsPairAndPart : Obligations.TwinsPairAndPart := by
  refine ⟨fun w s hr hw hl ht => ⟨fun h => ?rejects, fun hp hn hrole hne hm h0 => ?links⟩, fun i s hi => ?down,
    fun h s hr ht => ⟨fun hl => leads_of (Rows.heartbeatRx h s) (heartbeatRx_down hl),
      fun hl hp ha => leads_of (Rows.heartbeatRx h s) (heartbeatRx_paired hr ht hl hp ha)⟩,
    fun s hr ht hp => ⟨fun h => leads_of (Rows.heartbeatLoss s) (heartbeatLoss_early h),
      fun h ha => leads_of (Rows.heartbeatLoss s) (heartbeatLoss_fences hr ht hp h ha)⟩,
    fun s hr hp hl => ⟨fun ha => leads_of (Rows.resyncComplete s) (resyncComplete_standby hr hp hl ha),
      fun ha hq => leads_of (Rows.resyncComplete s) (resyncComplete_active hr hp hl ha hq)⟩⟩
  case rejects =>
    have notPartner : partnerOk w s = false := by
      unfold partnerOk
      rcases h with h | h | h
      · rw [beq_eq_false_iff_ne.mpr h]; simp
      · rw [beq_eq_false_iff_ne.mpr h]; simp
      · rw [h]; simp
    exact leads_of (Rows.weltLinkUp w s) (weltUp_rejects hr hw hl ht notPartner)
  case links =>
    have partner : partnerOk w s = true := by
      unfold partnerOk
      rw [ht, beq_iff_eq.mpr hp, beq_iff_eq.mpr hn, hm, bne_iff_ne.mpr hne]
      simpa using hrole
    exact leads_of (Rows.weltLinkUp w s) (weltUp_links hr hw hl partner h0)
  case down =>
    rcases hi with rfl | rfl
    · exact leads_of (Rows.weltLinkDown s) rfl
    · exact leads_of (Rows.weltFrameTimeout s) rfl

/-! ### Claims (R413-R416, R422) -/

section
variable {id v : Nat} {o : CasOp} {s : State}

/-- The state in which the CAS `id` has ended. -/
def casEnded (id : Nat) (s : State) : State := { s with twin := { s.twin with cas := s.twin.cas.erase id } }

theorem casResult_promotes {c how : Nat} (ho : s.twin.cas.get? id = some o) (hp : o.purpose = .promote c how none) (hv : v = o.cmp) :
    s.casResult id v = (casEnded id s).promoted c none := by
  unfold State.casResult; rw [ho]; dsimp only; rw [hp]; exact if_pos hv

theorem casResult_promoteFails {c how : Nat} (ho : s.twin.cas.get? id = some o) (hp : o.purpose = .promote c how none) (hv : v ≠ o.cmp) :
    s.casResult id v = { casEnded id s with twin := { (casEnded id s).twin with
      promoteFailed := true, partnerClaim := max (casEnded id s).twin.partnerClaim v } } := by
  unfold State.casResult; rw [ho]; dsimp only; rw [hp]; exact if_neg hv

theorem casResult_reads {m : MCmd} (ho : s.twin.cas.get? id = some o) (hp : o.purpose = .takeRead m) :
    s.casResult id v = (casEnded id s).tryPromote v 4 (some m) := by
  unfold State.casResult; rw [ho]; dsimp only; rw [hp]; rfl

theorem casResult_page {p : Nat} (ho : s.twin.cas.get? id = some o) (hp : o.purpose = .page p) (hv : v = o.cmp) :
    s.casResult id v = (casEnded id s).pass (.page p) none := by
  unfold State.casResult; rw [ho]; dsimp only; rw [hp]; exact if_pos hv

theorem casResult_superseded {code : Nat} {m : MCmd} (ho : s.twin.cas.get? id = some o) (hp : o.purpose = .command code m) (hv : v ≠ o.cmp)
    (hs : o.swap < v) : s.casResult id v = ((casEnded id s).learnClaim v).claimFailed (.command code m) .claimSuperseded := by
  unfold State.casResult; rw [ho]; dsimp only; rw [hp]; exact (if_neg hv).trans (if_pos hs)

theorem casTimeout_early (ho : s.twin.cas.get? id = some o) (ht : s.tick.count < o.since + 4) : s.casTimeout id = s := by
  unfold State.casTimeout; rw [ho]; exact if_pos ht

theorem casTimeout_unreachable {code : Nat} {m : MCmd} (ho : s.twin.cas.get? id = some o) (hp : o.purpose = .command code m)
    (ht : o.since + 4 ≤ s.tick.count) : s.casTimeout id = (casEnded id s).claimFailed (.command code m) .claimUnreachable := by
  unfold State.casTimeout; rw [ho]; dsimp only; rw [if_neg (by omega), hp]; rfl

theorem fenceAttempt_due {t : Nat} (hr : s.ready = true) (hf : s.twin.fenceAt = some t) (ht : t ≤ s.tick.count) :
    s.fenceAttempt = State.tryPromote s.drec.claim 2 none { s with twin := { s.twin with fenceAt := none } } := by
  unfold State.fenceAttempt; rw [hf]; exact if_neg (by simp [hr, ht])

theorem fenceAttempt_early {t : Nat} (hf : s.twin.fenceAt = some t) (ht : s.tick.count < t) : s.fenceAttempt = s := by
  unfold State.fenceAttempt; rw [hf]; exact if_pos (by simp [ht])

theorem startWait_due (hr : s.ready = true) (ht : s.hasTwin = true) (ha : s.twin.active = false) (hp : s.twin.pair = 0) (hs : s.twin.startTried = false)
    (hw : s.twin.aloneSince + s.twinSec.startWait ≤ s.tick.count) :
    s.startWait = State.tryPromote s.topClaim 1 none { s with twin := { s.twin with startTried := true } } := by
  unfold State.startWait; exact if_neg (by simp [hr, ht, ha, hp, hs, hw])

theorem startWait_tried (hs : s.twin.startTried = true) : s.startWait = s := if_pos (by simp [hs])

/-- The return of the primary is considered at an epoch boundary of a pair. -/
structure MayReturn (s : State) : Prop where
  works : s.works = true
  twin : s.hasTwin = true
  paired : s.twin.pair = 2
  epoch : s.tick.count % 1000000 = 0
  due : s.tick.due = false

theorem returnPrimary_pauses (k : MayReturn s) (ha : s.twin.active = true) (hr : s.twinSec.role = 2) (hp : s.twin.paused = none) :
    s.returnPrimary = { s with twin := { s.twin with paused := some s.tick.count } } := by
  obtain ⟨works, twin, paired, epoch, due⟩ := k
  unfold State.returnPrimary; dsimp only
  rw [if_neg (by simp [works, twin, paired, epoch, due]), if_pos ha]
  exact if_pos (by simp [hr, hp])

theorem returnPrimary_notices {p : Nat} (k : MayReturn s) (ha : s.twin.active = false) (hp : s.twin.pairedSince = some p) (hr : s.twinSec.role = 1)
    (hauto : s.twinSec.autoReturn = true) (hh : s.twin.returnHeld = false) (hn : s.twin.returning = none)
    (ht : (p + 999999) / 1000000 + s.twinSec.holdOff ≤ s.tick.count / 1000000) :
    s.returnPrimary = State.emit (.returnNotice s.tick.count) { s with twin := { s.twin with returning := some s.tick.count } } := by
  obtain ⟨works, twin, paired, epoch, due⟩ := k
  unfold State.returnPrimary; dsimp only
  rw [if_neg (by simp [works, twin, paired, epoch, due]), if_neg (by simp [ha]), hp]
  have returns : (s.twinSec.role == 1 && s.twinSec.autoReturn && !s.twin.returnHeld && s.twin.returning.isNone &&
      decide ((p + 999999) / 1000000 + s.twinSec.holdOff ≤ s.tick.count / 1000000)) = true := by simp [hr, hauto, hh, hn, ht]
  dsimp only; rw [returns, ← hp]; rfl

theorem returnResume_due {e : Nat} (hp : s.twin.paused = some e) (ha : s.twin.active = true) (hl : s.twin.leaving = false) (ht : e + 8 ≤ s.tick.count) :
    s.returnResume = { s with twin := { s.twin with paused := none } } := by
  unfold State.returnResume; rw [hp]; exact if_pos (by simp [ha, hl, ht])

theorem returnResume_early {e : Nat} (hp : s.twin.paused = some e) (ht : s.tick.count < e + 8) : s.returnResume = s := by
  unfold State.returnResume; rw [hp]; exact if_neg (by simp [ht])

end

section
variable {m : MCmd} {s : State}

theorem effFailover_noTwin (ht : s.hasTwin = false) : effFailover m s = .fail s .badFieldValue := if_pos (by simp [ht])

theorem effFailover_already (ht : s.hasTwin = true) (h : bit (byteAt m.cmd.desc 32) 0 = s.twin.active) : effFailover m s = { s := s } := by
  unfold effFailover; dsimp only; rw [if_neg (by simp [ht]), if_pos (beq_iff_eq.mpr h)]

theorem effFailover_takes (ht : s.hasTwin = true) (h : bit (byteAt m.cmd.desc 32) 0 = true) (ha : s.twin.active = false) (hc : s.casPossible = true) :
    effFailover m s = { s := s.issueCas 0 0 false (.takeRead m), st := none } := by
  unfold effFailover; dsimp only; rw [if_neg (by simp [ht]), h, ha, if_neg (by decide), if_pos rfl, if_pos hc]

theorem effFailover_unreachable (ht : s.hasTwin = true) (h : bit (byteAt m.cmd.desc 32) 0 = true) (ha : s.twin.active = false) (hc : s.casPossible = false) :
    effFailover m s = .fail s .claimUnreachable := by
  unfold effFailover; dsimp only; rw [if_neg (by simp [ht]), h, ha, if_neg (by decide), if_pos rfl, if_neg (by simp [hc])]

theorem effFailover_leaves (ht : s.hasTwin = true) (h : bit (byteAt m.cmd.desc 32) 0 = false) (ha : s.twin.active = true) :
    effFailover m s = { s := { s with twin := { s.twin with leaving := true } } } := by
  have differ : (bit (byteAt m.cmd.desc 32) 0 == s.twin.active) = false := by rw [h, ha]; rfl
  unfold effFailover; dsimp only; rw [if_neg (by simp [ht]), differ, if_neg (by decide), h]; rfl

theorem effReturnHold_holds (ht : s.hasTwin = true) :
    effReturnHold m s = { s := State.touchDev { s with twin := { s.twin with returnHeld := bit (byteAt m.cmd.desc 32) 0 } } } := if_neg (by simp [ht])

theorem effReturnHold_noTwin (ht : s.hasTwin = false) : effReturnHold m s = .fail s .badFieldValue := if_pos (by simp [ht])

end

/-- Settles O37. -/
theorem claimsDecideWhoIsActive : Obligations.ClaimsDecideWhoIsActive :=
  ⟨fun id v _ s ho => ⟨fun _ _ hp hv => leads_of (Rows.claimCasResult id v s) (casResult_promotes ho hp hv),
      fun _ _ hp hv => leads_of (Rows.claimCasResult id v s) (casResult_promoteFails ho hp hv),
      fun _ hp => leads_of (Rows.claimCasResult id v s) (casResult_reads ho hp),
      fun _ hp hv => leads_of (Rows.claimCasResult id v s) (casResult_page ho hp hv),
      fun _ _ hp hv hs => leads_of (Rows.claimCasResult id v s) (casResult_superseded ho hp hv hs),
      fun ht => leads_of (Rows.claimCasTimeout id s) (casTimeout_early ho ht),
      fun _ _ hp ht => leads_of (Rows.claimCasTimeout id s) (casTimeout_unreachable ho hp ht)⟩,
    fun _ s hr hf => ⟨fun ht => leads_of (Rows.fencePromotionAttempt s) (fenceAttempt_due hr hf ht),
      fun ht => leads_of (Rows.fencePromotionAttempt s) (fenceAttempt_early hf ht)⟩,
    fun s hr ht ha hp => ⟨fun hs hw => leads_of (Rows.startWaitExpiry s) (startWait_due hr ht ha hp hs hw),
      fun hs => leads_of (Rows.startWaitExpiry s) (startWait_tried hs)⟩,
    fun s hw ht hp he hd => ⟨fun ha hr hn => leads_of (Rows.returnOfPrimary s) (returnPrimary_pauses ⟨hw, ht, hp, he, hd⟩ ha hr hn),
      fun _ ha hs hr hauto hh hn hdue => leads_of (Rows.returnOfPrimary s) (returnPrimary_notices ⟨hw, ht, hp, he, hd⟩ ha hs hr hauto hh hn hdue)⟩,
    fun _ s hp ha hl => ⟨fun ht => leads_of (Rows.returnResumeTimeout s) (returnResume_due hp ha hl ht),
      fun ht => leads_of (Rows.returnResumeTimeout s) (returnResume_early hp ht)⟩,
    fun c s h => ⟨fun ht => row_done (Rows.forcedFailover c s) h (effFailover_noTwin ht),
      fun ht he => row_done (Rows.forcedFailover c s) h (effFailover_already ht he),
      fun ht hk ha hc => row_later (Rows.forcedFailover c s) h (effFailover_takes ht hk ha hc),
      fun ht hk ha hc => row_done (Rows.forcedFailover c s) h (effFailover_unreachable ht hk ha hc),
      fun ht hk ha => row_done (Rows.forcedFailover c s) h (effFailover_leaves ht hk ha)⟩,
    fun c s h => ⟨fun ht => row_done (Rows.twinReturnHold c s) h (effReturnHold_holds ht),
      fun ht => row_done (Rows.twinReturnHold c s) h (effReturnHold_noTwin ht)⟩⟩

/-! ### Mirroring (R410) -/

section
variable {s : State}

theorem mirror_sends {p : Purpose} (ht : s.hasTwin = true) (ha : s.twin.active = true) (hp : s.twin.pair = 2) :
    s.mirror p = State.emit (.mirror s.twin.nextId s.drec.claim p)
      { s with twin := { s.twin with nextId := s.twin.nextId + 1, acks := s.twin.acks.set s.twin.nextId p } } := by
  unfold State.mirror; rw [if_neg (by simp [ht, ha])]; exact if_pos hp

theorem mirrorAck_passes {id : Nat} {p : Purpose} (h : s.twin.acks.get? id = some p) :
    s.mirrorAck id = State.pass p none { s with twin := { s.twin with acks := s.twin.acks.erase id } } := by unfold State.mirrorAck; rw [h]

theorem mirrorAck_unknown {id : Nat} (h : s.twin.acks.get? id = none) : s.mirrorAck id = s := by unfold State.mirrorAck; rw [h]

variable {m : MirrorRx}

theorem mirroredRx_old (h : m.claim < s.topClaim) : s.mirroredRx m = s := if_pos (by simp [h])

theorem mirroredRx_holds (hr : s.ready = true) (ht : s.hasTwin = true) (ha : s.twin.active = false) (hp : s.twin.pair ≠ 0) (h : s.topClaim ≤ m.claim) :
    s.mirroredRx m = (let a := State.learnClaim m.claim { s with twin := { s.twin with mirrored := s.twin.mirrored.set m.id m } }
      if m.priv then a.claimThen m.claim (.mirrored m.id) else a.pass (.mirrored m.id) none) := if_neg (by simp [hr, ht, ha, hp, h])

end

/-- Settles O38. -/
theorem mirroredChangesWaitForThePartner : Obligations.MirroredChangesWaitForThePartner :=
  ⟨fun _ _ ht ha hp => mirror_sends ht ha hp, fun id _ s h => leads_of (Rows.mirrorAck id s) (mirrorAck_passes h),
    fun id s h => leads_of (Rows.mirrorAck id s) (mirrorAck_unknown h),
    fun m s hr ht ha hp => ⟨fun h => leads_of (Rows.mirroredChangeRx m s) (mirroredRx_old h),
      fun h hpriv => leads_of (Rows.mirroredChangeRx m s) ((mirroredRx_holds hr ht ha hp h).trans (if_neg (by simp [hpriv]))),
      fun h hpriv => leads_of (Rows.mirroredChangeRx m s) ((mirroredRx_holds hr ht ha hp h).trans (if_pos hpriv))⟩⟩

end Sys2Proof.Proofs
end

section
/-! Monitor sources, randomness and the life-cycle (O39-O41). -/

namespace Sys2Proof.Proofs

open Sys2Proof Sys2Proof.Machine Sys2Proof.Laws

/-! ### Monitor sources (R428-R432) -/

section
variable {k : Nat} {s : State}

/-- A source is asserted. -/
def assertedAt (k : Nat) (s : State) : State := { s with prot := { s.prot with live := setBit s.prot.live k } }

/-- Its sticky flag is set. -/
def stuckAt (k : Nat) (s : State) : State := { s with bat := { s.bat with sticky := setBit s.bat.sticky k } }

/-- What an assertion that is watched leaves whatever the response: its count, its record and its interrupt. -/
def recordedAt (k : Nat) (s : State) : State :=
  ((s.bump oProtEvents).localRec 0x03 (le 2 (setBit 0 k) ++ [BitVec.ofNat 8 (s.responseOf k)] ++ zeros 5)).raise 14 oProtIrq 0

theorem monitorAssert_again (h : bit s.prot.live k = true) : s.monitorAssert k = s := if_pos (.inr h)

theorem monitorAssert_fresh (hk : k < 16) (h : bit s.prot.live k = false) : s.monitorAssert k = (assertedAt k s).assertSource k :=
  if_neg (by simp [h]; omega)

theorem assertSource_unwatched (h : s.watched k = false) : s.assertSource k = s := if_pos (by simp [h])

/-- A source that is watched with the rails up is recorded, then acts by its response. -/
theorem assertSource_watched (h : s.watched k = true) (hup : s.dev.rails = true) : s.assertSource k =
    (let e := recordedAt k (stuckAt k s)
     if (stuckAt k s).responseOf k = 3 then e.zeroiseNow 2 k
     else if (stuckAt k s).responseOf k = 2 ∧ !e.prot.halted then
       { e with prot := { e.prot with haltPending := some (setBit (e.prot.haltPending.getD 0) k) } }
     else e) := by
  unfold State.assertSource; rw [if_neg (by simp [h])]; dsimp only
  rw [if_neg (by simp [hup])]; rfl

/-- ZEROISE leaves no key, no store key, no session and no item (R433). -/
theorem zeroiseNow_erases (cause : Nat) (hup : s.dev.rails = true) : (s.zeroiseNow cause k).ks.keys = [] ∧ (s.zeroiseNow cause k).ks.storeKey = [] ∧
    (s.zeroiseNow cause k).sess = [] ∧ (s.zeroiseNow cause k).disp.items = [] := by
  unfold State.zeroiseNow; dsimp only
  rw [if_neg (by simp [hup])]
  split
  · split
    · exact ⟨rfl, rfl, rfl, rfl⟩
    · exact ⟨rfl, rfl, rfl, rfl⟩
  · exact ⟨rfl, rfl, rfl, rfl⟩

end

/-- Settles O39: by whether the source is fresh, watched, and by its response. -/
theorem monitorSourcesActOnce : Obligations.MonitorSourcesActOnce := by
  refine ⟨fun k s _ h => leads_of (Rows.monitorAssert k s) (monitorAssert_again h), fun k s hk h => ?fresh,
    fun k s => goes_of (Rows.monitorDeassert k s) rfl, fun cause k s hup => zeroiseNow_erases cause hup⟩
  case fresh =>
    intro l
    have asserts := monitorAssert_fresh hk h
    refine ⟨fun hw => leads_of (Rows.monitorAssert k s) (asserts.trans (assertSource_unwatched hw)), fun hw hup => ?_⟩
    have acts := asserts.trans (assertSource_watched hw hup)
    intro b e
    refine ⟨fun hr => leads_of (Rows.monitorAssert k s) (acts.trans (if_pos hr)), fun hr hh => ?_, fun hr => ?_⟩
    · have notErased : ¬ b.responseOf k = 3 := by rw [hr]; decide
      exact leads_of (Rows.monitorAssert k s) (acts.trans ((if_neg notErased).trans (if_pos ⟨hr, by rw [show (recordedAt k (stuckAt k (assertedAt k s))).prot.halted = false from hh]; rfl⟩)))
    · have notErased : ¬ b.responseOf k = 3 := by rw [hr]; decide
      have notHalted : ¬ (b.responseOf k = 2 ∧ !(recordedAt k (stuckAt k (assertedAt k s))).prot.halted) := by rw [hr]; simp
      exact leads_of (Rows.monitorAssert k s) (acts.trans ((if_neg notErased).trans (if_neg notHalted)))

/-! ### Noise windows and DRBGs (R440-R444) -/

section
variable {k : Nat} {w : Bytes} {s : State}

/-- The figures of a window are kept, and it is counted. -/
def windowCounted (k : Nat) (w : Bytes) (s : State) : State :=
  (s.setReg (oRngSource + 8 * k) (windowPairs w * 65536 + windowOnes w)).bump64 oRngWindows 1

/-- The source failed with cause `f`; the first cause stays. -/
def sourceFailed (k f : Nat) (s : State) : State :=
  { s with rng := { s.rng with state := 2, failed := setBit s.rng.failed k, cause := if s.rng.cause = 0 then f else s.rng.cause } }

theorem noiseWindow_tests (hr : s.ready = true) (hk : k < 8) (hw : w.length = 512) (hs : s.rng.state ≠ 0) (ht : s.rng.test = 0) :
    s.noiseWindow k w = s.testWindow k w := if_neg (by simp [hr, hk, hw, hs, ht])

theorem testWindow_passes (h : windowFail s.thresholds (windowOnes w) (windowPairs w) = 0) : s.testWindow k w = windowCounted k w s := if_pos h

theorem testWindow_fails (h : windowFail s.thresholds (windowOnes w) (windowPairs w) ≠ 0) : s.testWindow k w =
    (let f := windowFail s.thresholds (windowOnes w) (windowPairs w)
     let a := windowCounted k w s
     let b := sourceFailed k f a
     if a.rngOk then (b.raise 15 oRngIrq 0).localRec 0x08 ([BitVec.ofNat 8 (setBit 0 k), BitVec.ofNat 8 f] ++ zeros 6) else b) := if_neg h

/-- The DRBG's number is one of its kind's (R442). -/
def drbgNamed (kind n : Nat) : Prop := kind = 1 ∧ n < 16 ∨ kind = 2

theorem reseedCount_due {kind n : Nat} (hk : drbgNamed kind n) (hr : s.rngOk = true) (hn : 2 ^ 24 ≤ s.rng.drbgs.getD (if kind = 1 then n else 16 + n) 0)
    (hh : s.rng.drbgs.has (if kind = 1 then n else 16 + n) = true) : s.reseedCount kind n =
      State.bump64 oRngReseeds 1 { s with rng := { s.rng with drbgs := s.rng.drbgs.set (if kind = 1 then n else 16 + n) 0 } } := by
  have named : (kind != 1 && kind != 2 || kind == 1 && decide (16 ≤ n)) = false := by
    rcases hk with ⟨rfl, hlt⟩ | rfl
    · simp [hlt]
    · rfl
  have enough : decide (s.rng.drbgs.getD (if kind = 1 then n else 16 + n) 0 < 2 ^ 24) = false := decide_eq_false (Nat.not_lt.mpr hn)
  unfold State.reseedCount; dsimp only
  rw [named, hr, enough]
  exact if_pos hh

theorem reseedCount_early {kind n : Nat} (hn : s.rng.drbgs.getD (if kind = 1 then n else 16 + n) 0 < 2 ^ 24) : s.reseedCount kind n = s := by
  unfold State.reseedCount; dsimp only
  rw [decide_eq_true hn, Bool.or_true]; rfl

end

/-- Settles O40. -/
theorem noiseWindowsAndDrbgs : Obligations.NoiseWindowsAndDrbgs := by
  refine ⟨fun k w s hr hk hw hs ht => ?window, fun kind n s hk hr => ⟨fun hn hh => goes_of (Rows.drbgReseedCount kind n s) (reseedCount_due hk hr hn hh),
    fun hn => goes_of (Rows.drbgReseedCount kind n s) (reseedCount_early hn)⟩⟩
  case window =>
    have tests := noiseWindow_tests hr hk hw hs ht
    exact ⟨fun hf => leads_of (Rows.noiseWindow k w s) (tests.trans (testWindow_passes hf)),
      fun hf hok => leads_of (Rows.noiseWindow k w s) (tests.trans ((testWindow_fails hf).trans (if_pos hok))),
      fun hf hok => leads_of (Rows.noiseWindow k w s) (tests.trans ((testWindow_fails hf).trans (if_neg (Bool.not_eq_true _ ▸ hok))))⟩

/-! ### The life-cycle (R448-R452, R456) -/

section
variable {t : LifeStep} {s : State}

theorem receiptTimeout_due (hs : s.prot.step = some t) (h1 : t.stage = 1) (ht : t.since + 1000 ≤ s.tick.count) : s.receiptTimeout = s.startWipe t := by
  unfold State.receiptTimeout; rw [hs]; exact if_pos ⟨h1, ht⟩

theorem receiptTimeout_early (hs : s.prot.step = some t) (ht : s.tick.count < t.since + 1000) : s.receiptTimeout = s := by
  unfold State.receiptTimeout; rw [hs]; exact if_neg (by omega)

theorem wipeDone_wipes (hs : s.prot.step = some t) (h2 : t.stage = 2) : s.wipeDone =
    (let a := s.stompAll
     { a with
       flash := if t.target = 3 then { a.flash with store := {} } else a.flash
       ks := { a.ks with keys := [], storeKey := [], slotKey := [] }
       sess := [], disp := { stopAdmit := true }, eng := {}
       prot := { a.prot with step := some { t with stage := 3, row := 0 } } }) := by
  unfold State.wipeDone; rw [hs]; dsimp only; rw [if_neg (by simp [h2])]

/-- Fuses with row `row` of stage word `k` burned (R448). -/
def withWord (k row : Nat) (f : Fuses) : Fuses :=
  { f with stages := (List.range 12).map (fun j => if j = 3 * k + row then f.stages.getD j 0 ||| stageWord k else f.stages.getD j 0) }

/-- The stage word towards INTEGRATOR or RETURNED. -/
def wordTowards (target : Nat) : Nat := if target = 1 then 0 else 2

/-- Each burn of these two steps is a row of one stage word; the third row is the last. -/
theorem burnRow_word (h : t.target = 1 ∨ t.target = 3) : s.burnRow t = (withWord (wordTowards t.target) t.row s.fuses, decide (2 ≤ t.row)) := by
  unfold State.burnRow; dsimp only
  rw [if_neg (by omega), if_neg (by omega)]; rfl

theorem firstRow_word {f : Fuses} (h : t.target = 1 ∨ t.target = 3) : firstRow f t = t.row := if_neg (by omega)

theorem nextRow_word {f : Fuses} (h : t.target = 1 ∨ t.target = 3) : nextRow f t = t.row + 1 := if_neg (by omega)

theorem fuseBurnDone_burns (hs : s.prot.step = some t) (h3 : t.stage = 3) (ht : t.target = 1 ∨ t.target = 3) : s.fuseBurnDone =
    (let d : State := { s with fuses := withWord (wordTowards t.target) t.row s.fuses }
     if 2 ≤ t.row then d.deviceReset (if s.prot.zeroising then 4 else 5)
     else { d with prot := { s.prot with step := some { t with row := t.row + 1 } } }) := by
  unfold State.fuseBurnDone; rw [hs]; dsimp only
  rw [if_neg (by simp [h3]), firstRow_word ht, burnRow_word ht, nextRow_word ht]; simp

end

section
variable {m : MCmd} {s : State}

theorem effFuseOptions_burns (h : s.prot.life ≤ 1) : effFuseOptions m s =
    (let opts := leAt m.cmd.desc 32 2 + b2n (bit (byteAt m.cmd.desc 34) 0) * 65536
     { s := (State.touchDev { s with fuses := { s.fuses with options := (List.range 3).map (fun k => s.fuses.options.getD k 0 ||| opts) } }).decisions 1 }) :=
  effChecks_ok (by simp [h])

theorem effFuseOptions_forbidden (h : 1 < s.prot.life) : effFuseOptions m s = .fail (s.decisions 1) .lifecycleForbidden := by
  unfold effFuseOptions; dsimp only
  rw [effChecks_one, decide_eq_false (by omega)]; rfl

/-- The debug token of a command. -/
def debugToken (m : MCmd) : Bytes := if m.cmd.u 40 4 = 4800 then padTo 4800 m.cmd.data else []

theorem decisions_life (n : Nat) : (s.decisions n).prot = s.prot := State.bump64_prot ..

theorem effDebugUnlock_forbidden (h : s.prot.life = 2) : effDebugUnlock m s = .fail (s.decisions 2) .lifecycleForbidden :=
  if_pos (by rw [decisions_life]; exact h)

theorem effDebugUnlock_refuses {st : Status} (h : s.prot.life ≠ 2) (ht : (s.decisions 2).tokenFail debugAllowed (debugToken m) = some st) :
    effDebugUnlock m s = .fail (s.decisions 2).spendNonce st := by
  unfold debugToken at ht
  unfold effDebugUnlock; dsimp only
  rw [if_neg (by rw [decisions_life]; exact h), ht]

theorem effDebugUnlock_unlocks (h : s.prot.life ≠ 2) (ht : (s.decisions 2).tokenFail debugAllowed (debugToken m) = none)
    (hl : (s.decisions 2).ledgerOk = true) : effDebugUnlock m s =
      { s := (s.decisions 2).spendNonce.enableDebug (byteAt (debugToken m) 6) (slice (debugToken m) 16 32) } := by
  unfold debugToken at ht
  unfold effDebugUnlock; dsimp only
  rw [if_neg (by rw [decisions_life]; exact h), ht]; dsimp only
  rw [if_neg (by simp [hl])]; rfl

end

/-- Settles O41. -/
theorem lifeCycleStepsBurnRows : Obligations.LifeCycleStepsBurnRows := by
  refine ⟨fun t s hs h1 => ⟨fun ht => leads_of (Rows.lifecycleReceiptTimeout s) (receiptTimeout_due hs h1 ht),
      fun ht => leads_of (Rows.lifecycleReceiptTimeout s) (receiptTimeout_early hs ht)⟩,
    fun t s hs h2 => leads_of (Rows.wipeDone s) (wipeDone_wipes hs h2), fun t s hs h3 ht => ?burns, fun s hs => ?noStep,
    fun c s h => ⟨fun hl => row_done (Rows.protFuseOptions c s) h (effFuseOptions_burns hl),
      fun hl => row_done (Rows.protFuseOptions c s) h (effFuseOptions_forbidden hl)⟩,
    fun c s h => row_later (Rows.zeroise c s) h rfl,
    fun c s h => ⟨fun hl => row_done (Rows.debugUnlock c s) h (effDebugUnlock_forbidden hl),
      fun hl st ht => row_done (Rows.debugUnlock c s) h (effDebugUnlock_refuses hl ht),
      fun hl ht hok => row_done (Rows.debugUnlock c s) h (effDebugUnlock_unlocks hl ht hok)⟩⟩
  case burns =>
    have burns := fuseBurnDone_burns hs h3 ht
    refine ⟨fun hr => goes_of (Rows.fuseBurnDone s) (burns.trans (if_neg (by omega))), fun hr hz => goes_of (Rows.fuseBurnDone s) (burns.trans ?_)⟩
    rw [hz]; exact if_pos hr
  case noStep =>
    have burn : s.fuseBurnDone = s := by unfold State.fuseBurnDone; rw [hs]
    have wipe : s.wipeDone = s := by unfold State.wipeDone; rw [hs]
    have receipt : s.receiptTimeout = s := by unfold State.receiptTimeout; rw [hs]
    exact ⟨goes_of (Rows.fuseBurnDone s) burn, leads_of (Rows.wipeDone s) wipe, leads_of (Rows.lifecycleReceiptTimeout s) receipt⟩

end Sys2Proof.Proofs
end

section
/-! The ledger (O42) and the ceremony card (O43). -/

namespace Sys2Proof.Proofs

open Sys2Proof Sys2Proof.Machine Sys2Proof.Laws

/-! ### Ledger work (R463-R475) -/

section
variable {s : State}

/-- Placing a record appends it, in whichever area. -/
theorem placeRec_appends (r : LedgerRec) : (s.placeRec r).flash.records = s.flash.records ++ [r] := by
  unfold State.placeRec; dsimp only
  cases r.firstArea <;> rfl

/-- A committed record is counted and takes its sequence number. -/
theorem placeRec_counts {r : LedgerRec} (h : r.mark = 0xA5) :
    (s.placeRec r).ledger.nextSeq = s.ledger.nextSeq + 1 ∧ (s.placeRec r).ledger.unsealed = s.ledger.unsealed + 1 := ⟨if_pos h, if_pos h⟩

variable {p : LedgerPend} {rest : List LedgerPend} (ho : s.ledger.opened = true) (hp : s.ledger.pending = p :: rest)
include ho hp

/-- The state in which the oldest waiting record is taken. -/
theorem recordCommit_commits : s.recordCommit 0 = (let d : State := { s with ledger := { s.ledger with pending := rest } }
    match p.kum with
    | some n => if s.ledgerOk then d.acceptKum n else d.failKum n 0xFF .ledgerUnavailable
    | none => d.commitRec p.typ p.flags p.body) := by
  unfold State.recordCommit; rw [if_neg (by simp [ho]), hp]; rfl

theorem recordCommit_voids : s.recordCommit 1 = s.voidRec p := by
  unfold State.recordCommit; rw [if_neg (by simp [ho]), hp]; rfl

theorem recordCommit_retires : s.recordCommit 2 =
    (let r := s.makeRec p.typ p.flags p.body
     (s.voidRec p).retireSector (areaOf r.firstArea) r.sector 2) := by
  unfold State.recordCommit; rw [if_neg (by simp [ho]), hp]; rfl

end

section
variable {s : State}

theorem maySeal_ready (hr : s.ready = true) (ho : s.ledger.opened = true) (hg : s.rngOk = true) : s.maySeal = true := by
  unfold State.maySeal; rw [hr, ho, hg]; rfl

theorem sealCount_seals (h : s.maySeal = true) (hn : 65536 ≤ s.ledger.unsealed) : s.sealCount = s.writeSeal := if_pos (by simp [h, hn])

theorem sealCount_early (hn : s.ledger.unsealed < 65536) : s.sealCount = s := if_neg (by simp [hn])

theorem sealTimer_seals (h : s.maySeal = true) (hn : 0 < s.ledger.unsealed) (ht : s.ledger.sealAt / 1000000 + 3600 ≤ s.tick.count / 1000000) :
    s.sealTimer = s.writeSeal := by
  have due : (s.maySeal && decide (0 < s.ledger.unsealed) && decide (s.ledger.sealAt / 1000000 + 3600 ≤ s.tick.count / 1000000)) = true := by
    rw [h, decide_eq_true hn, decide_eq_true ht]; rfl
  unfold State.sealTimer; rw [due]; rfl

/-- The sector that comes next. -/
def nextSector (s : State) : Nat := if s.flash.head.sector + 1 < s.flash.inService then s.flash.head.sector + 1 else 0

theorem eraseAheadDone_eq (ok : Bool) (ho : s.ledger.opened = true) (ha : s.flash.ahead = false) : s.eraseAheadDone ok =
    (if !ok then s.eraseAhead.retireSector 2 (nextSector s) 2
     else if s.eraseAhead.flash.enduranceOf ≤ s.eraseAhead.flash.erases.getD (nextSector s) 0 then s.eraseAhead.retireSector 2 (nextSector s) 1
     else s.eraseAhead) := if_neg (by simp [ho, ha])

theorem verifyDone_ends {damaged : Nat} {brk : Bool} (ho : s.ledger.opened = true) (hv : s.ledger.verified = false) : s.verifyDone damaged brk =
    State.raise 16 oLdgIrq 2 { s with ledger := { s.ledger with verified := true, damaged := damaged % 2 ^ 32, brk := brk } } := if_neg (by simp [ho, hv])

theorem verifyDone_again {damaged : Nat} {brk : Bool} (hv : s.ledger.verified = true) : s.verifyDone damaged brk = s := if_pos (by simp [hv])

end

/-- Settles O42. -/
theorem ledgerKeepsRecords : Obligations.LedgerKeepsRecords := by
  refine ⟨fun typ flags body s => ⟨rfl, rfl, rfl, placeRec_appends _, (placeRec_counts rfl).1, (placeRec_counts rfl).2⟩,
    fun p rest s ho hp => ⟨fun hk => ?_, fun n hk hok => ?_, fun n hk hok => ?_, leads_of (Rows.ledgerRecordCommit 1 s) (recordCommit_voids ho hp),
      leads_of (Rows.ledgerRecordCommit 2 s) (recordCommit_retires ho hp)⟩,
    fun s hr ho hg => ⟨fun hn => leads_of (Rows.ledgerSealCount s) (sealCount_seals (maySeal_ready hr ho hg) hn),
      fun hn => leads_of (Rows.ledgerSealCount s) (sealCount_early hn),
      fun hn ht => leads_of (Rows.ledgerSealTimer s) (sealTimer_seals (maySeal_ready hr ho hg) hn ht)⟩,
    fun s ho ha => ⟨fun h => leads_of (Rows.sectorEraseAhead true s) ((eraseAheadDone_eq true ho ha).trans (if_neg (Nat.not_le.mpr h))),
      fun h => leads_of (Rows.sectorEraseAhead true s) ((eraseAheadDone_eq true ho ha).trans (if_pos h)),
      leads_of (Rows.sectorEraseAhead false s) (eraseAheadDone_eq false ho ha)⟩,
    fun damaged brk s ho => ⟨fun hv => goes_of (Rows.ledgerVerifyDone damaged brk s) (verifyDone_ends ho hv),
      fun hv => goes_of (Rows.ledgerVerifyDone damaged brk s) (verifyDone_again hv)⟩⟩
  · exact leads_of (Rows.ledgerRecordCommit 0 s) (by rw [recordCommit_commits ho hp, hk])
  · exact leads_of (Rows.ledgerRecordCommit 0 s) (by rw [recordCommit_commits ho hp, hk]; exact if_pos hok)
  · exact leads_of (Rows.ledgerRecordCommit 0 s) (by rw [recordCommit_commits ho hp, hk]; exact if_neg (by simp [hok]))

/-! ### Segments (R476) -/

section
variable {m : MCmd} {s : State}

/-- The committed records that LEDGER_EXPORT asks for. -/
def askedRecords (m : MCmd) (s : State) : List LedgerRec :=
  (s.flash.records.filter (fun r => r.mark == 0xA5 && decide (m.cmd.u 32 8 ≤ r.seq))).take (m.cmd.u 40 4)

/-- A segment: its records' bytes, first and last sequence number, header, and signatures with randomness from `at_`. -/
structure Segment where
  body : Bytes
  first : Nat
  last : Nat

def Segment.of (rs : List LedgerRec) : Segment :=
  { body := rs.flatMap LedgerRec.bytes, first := match rs.head? with | none => 0 | some r => r.seq,
    last := match rs.getLast? with | none => 0 | some r => r.seq }

def Segment.head (g : Segment) (flags : Nat) : Bytes := segmentHeader flags g.first g.last g.body.length
def Segment.sigs (g : Segment) (at_ : Nat) : Bytes :=
  padTo 96 (signEc (g.head 0 ++ g.body) at_) ++ padTo 4627 (signDsa (g.head 0 ++ g.body) (ascii "LV5120-LEDGER") (at_ + 48))
def Segment.records (g : Segment) : Bytes := padTo (roundUp g.body.length 512) g.body

/-- The blocks of a segment on a card: the header marked INCOMPLETE, records, signatures, the header. -/
def Segment.blocks (g : Segment) (at_ : Nat) : List Bytes :=
  padTo 512 (g.head 1) :: chunks 512 g.records ++ chunks 512 (padTo 5120 (g.sigs at_)) ++ [padTo 512 (g.head 0)]

def Segment.writes (g : Segment) (at_ a : Nat) : List (Nat × Bytes) :=
  (List.range (g.blocks at_).length).map (fun k => (if k + 1 = (g.blocks at_).length then a else a + k, (g.blocks at_).getD k []))

/-- The random output of the two signatures is taken. -/
def signing (s : State) : State := (s.generate s.mgmtDrbg 80).spend 80

/-- What every export checks but for its target. -/
structure Exports (m : MCmd) (s : State) : Prop where
  some : 1 ≤ m.cmd.u 40 4
  limit : m.cmd.u 40 4 ≤ 1048576
  opened : s.ledger.opened = true
  rng : s.rngOk = true

/-- An export to host memory signs its segment and delivers it, unless its signatures fail their check. -/
theorem effLedgerExport_host {r : LedgerRec} {rs : List LedgerRec} (k : Exports m s) (hc : byteAt m.cmd.desc 44 = 0) (ha : m.cmd.u 48 8 % 4096 = 0)
    (hroom : 5235 ≤ m.cmd.u 56 4) (hfit : fitRecords ((m.cmd.u 56 4 - 512 - 4723) / 512 * 512) (askedRecords m s) 0 = r :: rs) : effLedgerExport m s =
      (let g := Segment.of (r :: rs)
       if !m.cmd.pass then .fail ((signing s).releaseFail (signing s).mgmtDrbg 0 false) .hwFault
       else { s := ((signing s).hostWrite 0 (m.cmd.u 48 8) (padTo 512 (g.head 0) ++ g.records ++ g.sigs s.free)).overwrite m 32
                (le 8 g.first ++ le 8 g.last) }) := by
  obtain ⟨some, limit, opened, rng⟩ := k
  unfold askedRecords at hfit
  have host : (byteAt m.cmd.desc 44 == 1) = false := by rw [hc]; rfl
  unfold effLedgerExport; dsimp only
  rw [host]
  simp only [Bool.false_eq_true, if_false]
  rw [hfit, effChecks_ok (by simp [some, limit, hc, ha, hroom, opened, rng])]
  rfl

/-- An export to a card signs its segment and begins with its first block. -/
theorem effLedgerExport_card {r : LedgerRec} {rs : List LedgerRec} (k : Exports m s) (hc : byteAt m.cmd.desc 44 = 1) (hroom : 11 ≤ m.cmd.u 56 4)
    (hpass : m.cmd.pass = true) (hcard : s.cardFail (m.cmd.u 48 8) 0 = none)
    (hblocks : m.cmd.u 48 8 + 11 + (Segment.of (r :: rs)).records.length / 512 ≤ s.card.blocks)
    (hfit : fitRecords ((m.cmd.u 56 4 - 11) * 512) (askedRecords m s) 0 = r :: rs) : effLedgerExport m s =
      (let g := Segment.of (r :: rs)
       { s := State.cardBlock { signing s with card := { (signing s).card with job := some { m := m, left := g.writes s.free (m.cmd.u 48 8), first := g.first, last := g.last } } }, st := none }) := by
  obtain ⟨some, limit, opened, rng⟩ := k
  unfold askedRecords at hfit
  have card : (byteAt m.cmd.desc 44 == 1) = true := by rw [hc]; rfl
  have fits : decide (s.card.blocks < m.cmd.u 48 8 + 11 + (Segment.of (r :: rs)).records.length / 512) = false :=
    decide_eq_false (Nat.not_lt.mpr hblocks)
  unfold Segment.records Segment.of at fits
  unfold effLedgerExport; dsimp only
  rw [card]
  simp only [if_true]
  rw [hfit, effChecks_ok (by simp [some, limit, hc, hroom, opened, rng]), hcard]
  dsimp only
  rw [fits, hpass]
  simp only [Bool.not_true, Bool.and_false, Bool.false_eq_true, if_false]
  rfl

end

/-! ### Card reads and card events (R478-R482) -/

section
variable {m : MCmd} {s : State}

/-- CARD_READ names blocks that the card has, and an aligned buffer. -/
structure ReadsCard (m : MCmd) (s : State) : Prop where
  some : 1 ≤ m.cmd.u 36 4
  limit : m.cmd.u 36 4 ≤ 65536
  aligned : m.cmd.u 40 8 % 4096 = 0
  card : s.cardFail (m.cmd.u 32 4) (m.cmd.u 36 4) = none

theorem effCardRead_eq (k : ReadsCard m s) : effCardRead m s = (let b := padTo (512 * m.cmd.u 36 4) m.cmd.data
    if !m.cmd.pass then .fail s.readFails .cardReadFailed
    else if (chunks 512 b).any (fun x => leAt x 0 4 == 0x434F4D50) then .fail s .exportNotPermitted
    else { s := s.hostWrite 0 (m.cmd.u 40 8) b }) := by
  obtain ⟨some, limit, aligned, card⟩ := k
  unfold effCardRead; dsimp only
  rw [effChecks_ok (by simp [some, limit, aligned]), card]

variable {j : CardJob}

theorem cardBusyEnd_good {x : CardBusy} (hj : s.card.job = some j) (hr : s.ready = true)
    (h : (x.present && !s.card.blink && x.answered && x.tran && x.errors == 0) = true) :
    s.cardBusyEnd x = State.cardBlock { s with card := { s.card with job := some { j with left := j.left.drop 1 } } } := by
  unfold State.cardBusyEnd; rw [hj]; dsimp only; rw [if_neg (by simp [hr]), if_pos h]

theorem cardBusyEnd_bad {x : CardBusy} (hj : s.card.job = some j) (hr : s.ready = true)
    (h : (x.present && !s.card.blink && x.answered && x.tran && x.errors == 0) = false) : s.cardBusyEnd x = s.uncertain := by
  unfold State.cardBusyEnd; rw [hj]; dsimp only; rw [if_neg (by simp [hr]), if_neg (by simp [h])]

theorem cardBusyTimeout_due (hj : s.card.job = some j) (hr : s.ready = true) (ht : j.since + s.msTicks 500 ≤ s.tick.count) :
    s.cardBusyTimeout = s.uncertain := by
  unfold State.cardBusyTimeout; rw [hj]; exact if_pos (by simp [hr, ht])

theorem cardBusyTimeout_early (hj : s.card.job = some j) (ht : s.tick.count < j.since + s.msTicks 500) : s.cardBusyTimeout = s := by
  unfold State.cardBusyTimeout; rw [hj]; exact if_neg (by simp [ht])

/-- The card as detection finds it: state 2 identified, 1 not ready, 4 not usable. -/
def foundCard (st : Nat) (x : CardSeen) (s : State) : State :=
  let up := st == 2
  State.raise 17 oCardIrq 1 { s with card :=
    { state := st, typ := if up then x.typ else 0, blocks := if up then x.blocks % 2 ^ 32 else 0, wide := up && x.wide, fast := x.fast,
      wp := x.wpSwitch, csd := x.wpCsd, cid := if up then padTo 16 x.cid else zeros 16, detect := true, since := s.tick.count } }

theorem cardDetect_finds {x : CardSeen} (hr : s.ready = true) (hc : s.cfg.enables.card = true) (hd : s.card.detect = false) :
    s.cardDetect x = foundCard (if !x.voltage || x.sdio then 4 else if x.ready then 2 else 1) x s := by
  unfold State.cardDetect; exact if_neg (by simp [hr, hc, hd])

theorem cardRemoval_blinks {us : Nat} (hr : s.ready = true) (hd : s.card.detect = true) (hu : us ≤ 1000) :
    s.cardRemoval us = { s with card := { s.card with blink := true } } := by
  unfold State.cardRemoval; rw [if_neg (by simp [hr, hd])]; exact if_pos hu

theorem cardRemoval_removes {us : Nat} (hr : s.ready = true) (hd : s.card.detect = true) (hu : 1000 < us) (hj : s.card.job = none) :
    s.cardRemoval us = State.raise 17 oCardIrq 1 { s with card := {} } := by
  have certain : s.uncertain = s := by unfold State.uncertain; rw [hj]
  unfold State.cardRemoval; rw [if_neg (by simp [hr, hd]), if_neg (by omega)]; dsimp only; rw [certain]

theorem identifyTimeout_due (h1 : s.card.state = 1) (ht : s.card.since + s.msTicks 1000 ≤ s.tick.count) :
    s.identifyTimeout = { s with card := { s.card with state := 4 } } := if_pos ⟨h1, ht⟩

theorem identifyTimeout_early (ht : s.tick.count < s.card.since + s.msTicks 1000) : s.identifyTimeout = s := if_neg (by omega)

end

/-- Settles O43. -/
theorem cardCarriesSegments : Obligations.CardCarriesSegments := by
  refine ⟨fun c s r rs h => ?host, fun c s r rs h => ?card, fun c s h => ?read, fun j x s hj hr => ?busy, fun x s hr hc hd => ?detect,
    fun us s hr hd => ⟨fun hu => leads_of (Rows.cardRemoval us s) (cardRemoval_blinks hr hd hu),
      fun hu hj => leads_of (Rows.cardRemoval us s) (cardRemoval_removes hr hd hu hj)⟩,
    fun s h1 => ⟨fun ht => goes_of (Rows.cardIdentifyTimeout s) (identifyTimeout_due h1 ht), fun ht => goes_of (Rows.cardIdentifyTimeout s) (identifyTimeout_early ht)⟩⟩
  case host =>
    intro m limit a room all last body head sigs d hsome hlimit hc ha hroom ho hg hfit
    have exports := effLedgerExport_host (m := m) (s := s) ⟨hsome, hlimit, ho, hg⟩ hc ha hroom hfit
    exact ⟨fun hp => row_done (Rows.ledgerExport c s) h (exports.trans (if_neg (by simp [show m.cmd.pass = true from hp]))),
      fun hp => row_done (Rows.ledgerExport c s) h (exports.trans (if_pos (by simp [show m.cmd.pass = false from hp])))⟩
  case card =>
    intro m limit a all last body recs head signed sigs bs left d hsome hlimit hc hroom ho hg hp hcard hblocks hfit
    exact row_later (Rows.ledgerExport c s) h (effLedgerExport_card ⟨hsome, hlimit, ho, hg⟩ hc hroom hp hcard hblocks hfit)
  case read =>
    intro m n b hsome hlimit ha hcard
    have reads := effCardRead_eq (m := m) (s := s) ⟨hsome, hlimit, ha, hcard⟩
    have passes : ∀ {p : Bool}, c.pass = p → m.cmd.pass = p := id
    refine ⟨fun hp hx => row_done (Rows.cardRead c s) h (reads.trans ?_), fun hp hx => row_done (Rows.cardRead c s) h (reads.trans ?_),
      fun hp => row_done (Rows.cardRead c s) h (reads.trans ?_)⟩
    · exact (if_neg (by simp [passes hp])).trans (if_neg (fun e => Bool.false_ne_true (hx.symm.trans e)))
    · exact (if_neg (by simp [passes hp])).trans (if_pos hx)
    · exact if_pos (by simp [passes hp])
  case busy =>
    exact ⟨fun h => leads_of (Rows.cardBusyEnd x s) (cardBusyEnd_good hj hr h), fun h => leads_of (Rows.cardBusyEnd x s) (cardBusyEnd_bad hj hr h),
      fun ht => leads_of (Rows.cardBusyTimeout s) (cardBusyTimeout_due hj hr ht), fun ht => leads_of (Rows.cardBusyTimeout s) (cardBusyTimeout_early hj ht)⟩
  case detect =>
    have finds := cardDetect_finds (x := x) hr hc hd
    refine ⟨fun hv hio hx => goes_of (Rows.cardDetect x s) (finds.trans ?_), fun hv hio hx => goes_of (Rows.cardDetect x s) (finds.trans ?_),
      fun hbad => goes_of (Rows.cardDetect x s) (finds.trans ?_)⟩
    · rw [hv, hio, hx]; rfl
    · rw [hv, hio, hx]; rfl
    · rw [show (!x.voltage || x.sdio) = true by rcases hbad with h | h <;> simp [h]]; rfl

end Sys2Proof.Proofs
end

section
/-! Banks and engines (O44) and public-key jobs (O45). -/

namespace Sys2Proof.Proofs

open Sys2Proof Sys2Proof.Machine Sys2Proof.Laws

/-! ### Commands on banks and engines (R490, R491, R502, R505) -/

section
variable {m : MCmd} {s : State}

/-- The state in which bank `b` rests as `r` says, in use if 0. -/
def rested (b r : Nat) (s : State) : State :=
  { s with fab := { s.fab with rest := if r = 0 then s.fab.rest.erase b else s.fab.rest.set b r, low := s.fab.low.filter (fun x => x != b) } }

theorem testable_bank {u : Nat} (h7 : u / 4096 = 7) (hb : u % 4096 < 3392) : testable u = true := by
  unfold testable; rw [h7]; exact decide_eq_true hb

theorem effBankPower_rests (h7 : fabUnit m / 4096 = 7) (hb : fabUnit m % 4096 < 3392) (hr : byteAt m.cmd.desc 34 < 2) :
    effBankPower m s = { s := (rested (fabUnit m % 4096) (byteAt m.cmd.desc 34) s).touchDev } := by
  have low : byteAt m.cmd.desc 34 ≤ 2 := by omega
  have notOff : (byteAt m.cmd.desc 34 != 2) = true := bne_iff_ne.mpr (by omega)
  unfold effBankPower; dsimp only
  rw [h7, testable_bank h7 hb, decide_eq_true low, notOff]
  exact effChecks_ok (by simp)

theorem effBankPower_off (h7 : fabUnit m / 4096 = 7) (hb : fabUnit m % 4096 < 3392) (hr : byteAt m.cmd.desc 34 = 2)
    (ho : s.offAllowed (fabUnit m % 4096) = true) (he : s.bankEmpty (fabUnit m % 4096) = true)
    (hq : (rested (fabUnit m % 4096) 2 s).quotasFit = true) : effBankPower m s = { s := (rested (fabUnit m % 4096) 2 s).touchDev } := by
  unfold rested at hq
  unfold effBankPower; dsimp only
  rw [h7, testable_bank h7 hb, hr, ho, he, hq]
  exact effChecks_ok (by simp)

/-- The command waits for its test. -/
def awaitsTest (m : MCmd) (s : State) : State := { s with fab := { s.fab with cmds := s.fab.cmds ++ [(fabUnit m, m)] } }

theorem startTest_engine {bad : Bool} (h : fabUnit m / 4096 ≠ 7) :
    s.startTest (fabUnit m) bad m = { s := (awaitsTest m s).testEngine (fabUnit m), st := none } := if_pos (bne_iff_ne.mpr h)

theorem has_of_none {α : Type} {t : Tbl α} {k : Nat} (h : t.get? k = none) : t.has k = false := by unfold Tbl.has; rw [h]; rfl

/-- The test of a bank begins where no test of its quadrant is under way. -/
theorem startTest_bank {bad : Bool} (h : fabUnit m / 4096 = 7) (ht : s.fab.tests.get? (bankQuadrant (fabUnit m % 4096)) = none) (hw : s.fab.waiting = []) :
    s.startTest (fabUnit m) bad m = { s := { awaitsTest m s with fab := { (awaitsTest m s).fab with
      tests := s.fab.tests.set (bankQuadrant (fabUnit m % 4096)) { bank := fabUnit m % 4096, stage := if bad then 1 else 0, bad := bad } } }, st := none } := by
  unfold State.startTest; dsimp only
  rw [if_neg (by simp [h]), ht, has_of_none ht, if_neg (by simp [hw])]; rfl

theorem effUnretire_tests (ht : testable (fabUnit m) = true) (hr : s.retired (fabUnit m) = true) :
    effUnretire m s = s.startTest (fabUnit m) true m := effChecks_ok (by simp [ht, hr])

theorem effSelftest_tests (ht : testable (fabUnit m) = true) (hi : s.inService (fabUnit m) = true)
    (h : fabUnit m / 4096 ≠ 7 ∨ s.sparesFree (bankQuadrant (fabUnit m % 4096)) ≠ 0) : effSelftest m s = s.startTest (fabUnit m) false m := by
  refine effChecks_ok ?_
  rcases h with h | h <;> simp [ht, hi, h]

end

/-! ### Errors (R495, R500-R503) -/

section
variable {s : State}

theorem eccError_banked {e : EccEvent} (hr : s.ready = true) (hb : e.bank < 3392) : s.eccError e =
    (let d : State := { s with fab := { s.fab with low := s.fab.low.filter (fun b => b != e.bank) } }
     if e.corrected then (d.bumpF oFabEcc 31 0 1).testBank e.bank else (d.bumpHi oFabEcc).uncorrected e) := by
  unfold State.eccError; exact if_neg (by simp [hr, hb])

/-- The jobs of item `n` run once more. -/
def rerunItem (n : Nat) (d : State) : State :=
  { d with fab := { d.fab with engErrs := d.fab.engErrs ++ [n] },
           eng := { d.eng with jobs := d.eng.jobs.mapT (fun _ j => if j.serves n then { j with running := false } else j) } }

variable {u n : Nat} {x : Item} (hr : s.ready = true) (ht : testable u = true) (h7 : u / 4096 ≠ 7)
include hr ht h7

theorem engineError_noItem (hx : (s.testEngine u).item? n = none) : s.engineError u n = s.testEngine u := by
  unfold State.engineError; rw [if_neg (by simp [hr, ht, h7])]; dsimp only; rw [hx]

theorem engineError_reruns (hx : (s.testEngine u).item? n = some x) (ha : x.admitted = true) (h4 : 4 ≤ u / 4096) (hi : idempotent x = true)
    (he : (s.testEngine u).fab.engErrs.contains n = false) : s.engineError u n = rerunItem n (s.testEngine u) := by
  have safe : (idempotent x && !(s.testEngine u).fab.engErrs.contains n) = true := by rw [hi, he]; rfl
  unfold State.engineError; rw [if_neg (by simp [hr, ht, h7])]; dsimp only; rw [hx]; dsimp only
  rw [if_neg (by simp [ha, h4])]
  exact if_pos safe

theorem engineError_stops (hx : (s.testEngine u).item? n = some x) (ha : x.admitted = true) (h4 : 4 ≤ u / 4096)
    (h : idempotent x = false ∨ (s.testEngine u).fab.engErrs.contains n = true) : s.engineError u n = ((s.testEngine u).dropJobs n).stopItem n .hwFault := by
  have notSafe : ¬ (idempotent x && !(s.testEngine u).fab.engErrs.contains n) = true := by
    rcases h with h | h
    · rw [h]; simp
    · rw [h]; simp
  unfold State.engineError; rw [if_neg (by simp [hr, ht, h7])]; dsimp only; rw [hx]; dsimp only
  rw [if_neg (by simp [ha, h4])]
  exact if_neg notSafe

end

/-! ### The end of tests (R502-R505) -/

section
variable {s : State} {u : Nat}

/-- The test of engine `u` is over. -/
def engineTested (u : Nat) (s : State) : State := { s with fab := { s.fab with engTests := s.fab.engTests.filter (fun x => x != u) } }

theorem katDone_passes (hr : s.ready = true) (hu : s.fab.engTests.contains u = true) (hd : s.drec.engines.contains u = false) :
    s.katDone u true = ((engineTested u s).bumpF oFabSelftest 31 0 1).testEnded u true false := by
  unfold State.katDone; rw [if_neg (by simp only [hr, hu]; decide)]; dsimp only
  rw [if_pos rfl, hd]; rfl

theorem katDone_retires (hr : s.ready = true) (hu : s.fab.engTests.contains u = true) (hd : s.drec.engines.contains u = false) :
    s.katDone u false =
      (State.noteRetired { engineTested u s with drec := { (engineTested u s).drec with engines := (engineTested u s).drec.engines ++ [u] } }).testEnded u false true := by
  unfold State.katDone; rw [if_neg (by simp only [hr, hu]; decide)]; dsimp only
  rw [if_neg (by decide), hd]; rfl

theorem katDone_stays (hr : s.ready = true) (hu : s.fab.engTests.contains u = true) (hd : s.drec.engines.contains u = true) :
    s.katDone u false = (engineTested u s).testEnded u false true := by
  unfold State.katDone; rw [if_neg (by simp only [hr, hu]; decide)]; dsimp only
  rw [if_neg (by decide), hd]; rfl

variable {q : Nat} {t : BankTest}

theorem bankTest_at {k : Nat} (ht : s.fab.tests.get? q = some t) (hr : s.ready = true) (hk : t.stage = k) : s.bankTest q k = some t := by
  unfold State.bankTest; rw [ht]; exact if_pos (by simp [hk, hr])

theorem bankCopyDone_goesOn (h : s.bankTest q 0 = some t) :
    s.bankCopyDone q = { s with fab := { s.fab with tests := s.fab.tests.set q { t with stage := 1 } } } := by unfold State.bankCopyDone; rw [h]

theorem marchDone_passes (h : s.bankTest q 1 = some t) (hb : t.bad = false) :
    s.marchDone q true = { s with fab := { s.fab with tests := s.fab.tests.set q { t with stage := 2 } } } := by
  unfold State.marchDone; rw [h]; dsimp only; rw [if_neg (by simp [hb]), if_pos rfl]

theorem marchDone_replaces {b : Nat} (h : s.bankTest q 1 = some t) (hb : t.bad = false) (hf : s.freeSpare q = some b) : s.marchDone q false =
    ((State.noteRetired { s with drec := { s.drec with banks := s.drec.banks.set t.bank b } }).testEnded (unitId 7 t.bank) false true).nextBankTest q := by
  unfold State.marchDone; rw [h]; dsimp only; rw [if_neg (by simp [hb]), if_neg (by decide), hf]

theorem marchDone_stays (h : s.bankTest q 1 = some t) (hb : t.bad = true) :
    s.marchDone q false = (s.testEnded (unitId 7 t.bank) false true).nextBankTest q := by
  unfold State.marchDone; rw [h]; dsimp only; rw [if_pos hb]; rfl

theorem copyBackDone_ends (h : s.bankTest q 2 = some t) :
    s.copyBackDone q = ((s.bumpF oFabSelftest 31 0 1).testEnded (unitId 7 t.bank) true false).nextBankTest q := by unfold State.copyBackDone; rw [h]

theorem retentionTimeout_marks {b : Nat} (h : s.fab.rest.getD b 0 = 1) (hl : s.fab.low.contains b = false) :
    s.retentionTimeout b = { s with fab := { s.fab with low := s.fab.low ++ [b] } } := by
  have due : (decide (s.fab.rest.getD b 0 = 1) && !s.fab.low.contains b) = true := by rw [h, hl]; rfl
  exact if_pos due

/-- Starvation is counted, and its requester and unit are kept. -/
theorem starvation_counts {r w : Nat} {xbar : Bool} (hr : s.ready = true) (hb : r ≤ 71) : s.starvation r w xbar =
    (let d := (s.setFld oFabStarved 31 0 (b2n xbar * 2 ^ 24 + r * 2 ^ 16 + w % 2 ^ 16)).bumpHi oFabStarved
     if d.fab.starvedAt = some d.tick.count then d
     else State.raise 18 oFabIrq 0 { d with fab := { d.fab with starvedAt := some d.tick.count } }) := by
  unfold State.starvation; exact if_neg (by simp [hr, hb])

end

/-- Settles O44: the commands by their effects, the events by their lemmas. -/
theorem unitsAreTestedAndRetired : Obligations.UnitsAreTestedAndRetired := by
  refine ⟨fun c s h => ?power, fun c s h => ?unretire, fun c s h => ?selftest, fun e s hr hb => ?ecc, fun u n x s hr ht h7 => ?engine,
    fun u s hr hu => ⟨fun hd => leads_of (Rows.engineKatDone u true s) (katDone_passes hr hu hd),
      fun hd => leads_of (Rows.engineKatDone u false s) (katDone_retires hr hu hd), fun hd => leads_of (Rows.engineKatDone u false s) (katDone_stays hr hu hd)⟩,
    fun q t s ht hr => ⟨fun h0 => leads_of (Rows.bankCopyDone q s) (bankCopyDone_goesOn (bankTest_at ht hr h0)),
      fun h1 hb => leads_of (Rows.bankMarchTestDone q true s) (marchDone_passes (bankTest_at ht hr h1) hb),
      fun b h1 hb hf => leads_of (Rows.bankMarchTestDone q false s) (marchDone_replaces (bankTest_at ht hr h1) hb hf),
      fun h1 hb => leads_of (Rows.bankMarchTestDone q false s) (marchDone_stays (bankTest_at ht hr h1) hb),
      fun h2 => leads_of (Rows.bankCopyBackDone q s) (copyBackDone_ends (bankTest_at ht hr h2))⟩,
    fun b s h hl => goes_of (Rows.bankRetentionTimeout b s) (retentionTimeout_marks h hl), fun r u xbar s hr hb => ?starved⟩
  case power =>
    intro m b r low h7 hb
    refine ⟨fun hr => ?_, fun hr => ?_, fun hr ho he hq => row_done (Rows.fabBankPower c s) h (effBankPower_off h7 hb hr ho he hq)⟩
    · have rests := effBankPower_rests (s := s) h7 hb (by rw [show byteAt m.cmd.desc 34 = 0 from hr]; decide)
      rw [show byteAt m.cmd.desc 34 = 0 from hr] at rests
      exact row_done (Rows.fabBankPower c s) h rests
    · have rests := effBankPower_rests (s := s) h7 hb (by rw [show byteAt m.cmd.desc 34 = 1 from hr]; decide)
      rw [show byteAt m.cmd.desc 34 = 1 from hr] at rests
      exact row_done (Rows.fabBankPower c s) h rests
  case unretire =>
    intro m u q d ht hr
    have tests := effUnretire_tests (m := m) (s := s) ht hr
    exact ⟨fun h7 => row_later (Rows.fabUnretire c s) h (tests.trans (startTest_engine h7)),
      fun h7 hn hw => row_later (Rows.fabUnretire c s) h (tests.trans (startTest_bank h7 hn hw))⟩
  case selftest =>
    intro m u q d ht hi
    exact ⟨fun h7 => row_later (Rows.fabSelftest c s) h ((effSelftest_tests ht hi (.inl h7)).trans (startTest_engine h7)),
      fun h7 hn hw hs => row_later (Rows.fabSelftest c s) h ((effSelftest_tests ht hi (.inr hs)).trans (startTest_bank h7 hn hw))⟩
  case ecc =>
    have counts := eccError_banked (e := e) hr hb
    exact ⟨fun hc => leads_of (Rows.eccError e s) (counts.trans (if_pos hc)), fun hc => leads_of (Rows.eccError e s) (counts.trans (if_neg (by simp [hc])))⟩
  case engine =>
    exact ⟨fun hx => leads_of (Rows.engineError u n s) (engineError_noItem hr ht h7 hx),
      fun hx ha h4 hi he => leads_of (Rows.engineError u n s) (engineError_reruns hr ht h7 hx ha h4 hi he),
      fun hx ha h4 hi => leads_of (Rows.engineError u n s) (engineError_stops hr ht h7 hx ha h4 hi)⟩
  case starved =>
    have counts := starvation_counts (w := u) (xbar := xbar) hr hb
    exact ⟨fun hs => goes_of (Rows.arbiterStarvation r u xbar s) (counts.trans (if_pos hs)),
      fun hs => goes_of (Rows.arbiterStarvation r u xbar s) (counts.trans (if_neg hs))⟩

/-! ### Public-key jobs (R349-R354) -/

section
variable {f k n : Nat} {j : PkJob} {x : Item} {o : FnOut} {s t : State}

theorem pkAdmit_waits (hw : s.works = true) (hf : s.firstQueued f = some (k, j)) (hp : s.mayPlace j = false) : s.pkAdmit f = s.noteWait k j := by
  unfold State.pkAdmit; rw [if_neg (by simp [hw]), hf]; exact if_pos (by simp [hp])

section
variable {v : Invoc} {a : State} (hw : s.works = true) (hf : s.firstQueued f = some (k, j)) (hp : s.mayPlace j = true) (hj : j.purpose = .item n)
  (hx : s.item? n = some x) (hv : x.invoked.getD x.inv = v)
include hw hf hp hj hx hv

/-- A job that is admitted without an outcome goes on. -/
theorem pkAdmit_goesOn (ha : s.admitJob k n v x.transit = (a, none)) : s.pkAdmit f = a := by
  unfold State.pkAdmit; rw [if_neg (by simp [hw]), hf]; dsimp only
  rw [if_neg (by simp [hp]), hj]; dsimp only; rw [hx]; dsimp only; rw [hv, ha]

/-- An outcome at admission ends the service. -/
theorem pkAdmit_ends (ha : s.admitJob k n v x.transit = (a, some o)) (ht : x.transit = false) : s.pkAdmit f = a.finishService n o none := by
  unfold State.pkAdmit; rw [if_neg (by simp [hw]), hf]; dsimp only
  rw [if_neg (by simp [hp]), hj]; dsimp only; rw [hx]; dsimp only; rw [hv, ha]; dsimp only
  rw [ht]; rfl

end

theorem admitJob_places {v : Invoc} (hx : s.item? n = some x) (hn : x.waitSt = none) (hl : s.signLimit v = false) {b : Bool}
    (hr : s.runKeys n x.inst v x.unver b = (some o, t)) (ho : o.st = .ok ∨ o.st.isOutcome = true) : s.admitJob k n v b =
      (State.placeJob k v ((t.modItem n (fun y => { y with invoked := some v })).modItem n (fun y => { y with result := some o })), none) := by
  have answers : ¬ (o.st != .ok && !o.st.isOutcome) = true := by rcases ho with h | h <;> simp [h]
  unfold State.admitJob; rw [hx]; dsimp only
  rw [if_neg (by simp [hn]), hr]; dsimp only
  rw [if_neg answers, hl]; rfl

theorem admitJob_fails {v : Invoc} (hx : s.item? n = some x) (hn : x.waitSt = none) {b : Bool}
    (hr : s.runKeys n x.inst v x.unver b = (some o, t)) (ho : o.st ≠ .ok) (hi : o.st.isOutcome = false) : s.admitJob k n v b =
      ((t.modItem n (fun y => { y with invoked := some v })).dropJob k, some o) := by
  unfold State.admitJob; rw [hx]; dsimp only
  rw [if_neg (by simp [hn]), hr]; dsimp only
  rw [if_pos (by simp [ho, hi])]

/-- Job `j` after the segment that has ended in state `d`. -/
def afterSegment (d : State) (j : PkJob) : PkJob :=
  { j with left := j.left - 1, running := false, lastRun := d.tick.count, lattice := j.lattice || (j.left - 1 != 0 && decide (j.left - 1 ≤ j.split)) }

/-- The next segments of a frond's engines begin. -/
def nextSegments (f : Nat) (lattice : Bool) (t : State) : State := (t.startSegments f lattice 8).startSegments f (!lattice) 8

theorem segmentEnd_eq {lattice ok : Bool} (hw : s.works = true) (hr : s.runningJob f lattice = some (k, j)) : s.segmentEnd f lattice ok =
    (let d := (s.bump64 oPkSegments 1).charge j.inst 0 0 1
     let e : State := { d with eng := { d.eng with jobs := d.eng.jobs.set k (afterSegment d j) } }
     nextSegments f lattice (if j.abandoned then (e.dropJob k).bump oPkAbandoned
           else if j.left - 1 = 0 then e.jobEnd k { afterSegment d j with lattice := lattice } ok else e)) := by
  unfold State.segmentEnd; rw [if_neg (by simp [hw]), hr]; rfl

/-- A job's end, once it is dropped, counted and its release check decided. -/
def jobEnded (k : Nat) (j : PkJob) (s : State) : State :=
  ((s.dropJob k).bump64 oPkJobsDone 1).decisions (if releases (s.jobFn j) then 1 else 0)

theorem jobEnd_releases (hj : j.purpose = .item n) (ht : x.transit = false) (ho : x.result = some o) (hx : (jobEnded k j s).item? n = some x) :
    s.jobEnd k j true = (jobEnded k j s).finishService n o none := by
  unfold jobEnded at hx ⊢
  unfold State.jobEnd; simp only [Bool.true_or, Bool.not_true, State.when_false]
  rw [hj]; dsimp only; rw [hx]; dsimp only; rw [ht, ho]; rfl

theorem jobEnd_withholds {y : Item} (hj : j.purpose = .item n) (hr : releases (s.jobFn j) = true)
    (hy : (State.releaseFail j.frond (s.jobFn j) j.lattice (jobEnded k j s)).item? n = some y) (ht : y.transit = false) :
    s.jobEnd k j false = (State.releaseFail j.frond (s.jobFn j) j.lattice (jobEnded k j s)).finishService n { st := .hwFault } none := by
  unfold jobEnded at hy ⊢
  rw [hr, if_pos rfl] at hy ⊢
  unfold State.jobEnd; dsimp only
  rw [hr]; simp only [Bool.false_or, Bool.not_true, Bool.not_false, State.when_true, if_true]
  rw [hj]; dsimp only; rw [hy]; dsimp only; rw [ht]; rfl

end

/-- Settles O45. -/
theorem publicKeyJobsRunInSegments : Obligations.PublicKeyJobsRunInSegments := by
  refine ⟨fun f k j s hw hf => ⟨fun hp => leads_of (Rows.pkJobAdmit f s) (pkAdmit_waits hw hf hp), fun n x o t hp hj hx hn => ?places,
      fun n x o t hp hj hx hn ht => ?fails⟩,
    fun f lattice ok k j s hw hr => ?segment, fun k n j x o s hj ht ho => ?ends⟩
  case places =>
    intro v hl hr ho
    exact leads_of (Rows.pkJobAdmit f s) (pkAdmit_goesOn hw hf hp hj hx rfl (admitJob_places hx hn hl hr ho))
  case fails =>
    intro v hl hr ho hi
    exact leads_of (Rows.pkJobAdmit f s) (pkAdmit_ends hw hf hp hj hx rfl (admitJob_fails hx hn hr ho hi) ht)
  case segment =>
    have ends := segmentEnd_eq (ok := ok) hw hr
    refine ⟨fun ha hl => leads_of (Rows.segmentEnd f lattice ok s) ?_, fun ha => leads_of (Rows.segmentEnd f lattice ok s) ?_,
      fun ha hl => leads_of (Rows.segmentEnd f lattice ok s) ?_⟩
    · exact ends.trans (congrArg (nextSegments f lattice) ((if_neg (by simp [ha])).trans (if_neg hl)))
    · exact ends.trans (congrArg (nextSegments f lattice) (if_pos ha))
    · exact ends.trans (congrArg (nextSegments f lattice) ((if_neg (by simp [ha])).trans (if_pos hl)))
  case ends =>
    intro fn d hx
    exact ⟨jobEnd_releases hj ht ho hx, fun hr y hy hty => jobEnd_withholds hj hr hy hty⟩

end Sys2Proof.Proofs
end

section
/-! Key update messages (O46) and their ops (O47, O48). -/

namespace Sys2Proof.Proofs

open Sys2Proof Sys2Proof.Machine Sys2Proof.Laws

/-! ### Key update messages (R363, R370) -/

section
variable {entry msg : Bytes} {s : State}

/-- The ring has a next message, and room for it. -/
structure KumReady (s : State) : Prop where
  works : s.works = true
  enabled : bit (s.reg oKumControl) 0 = true
  dma : s.mayDma 0 = true
  next : s.kum.sqHead ≠ s.kum.sqTail
  room : s.kum.msgs.length < 256

/-- The ring's head has passed the message. -/
def kumTaken (s : State) : State := { s with kum := { s.kum with sqHead := (s.kum.sqHead + 1) % s.ringSize oKumSqSize } }

/-- The public-key segments that a message's signatures cost (R364). -/
def signatureSegments (v : KumView) : Nat := (v.sigs.map (fun g => if g.kind = 1 then publicSegs algEc 2 else publicSegs algDsa 2)).foldl (· + ·) 0

/-- A message that has passed its checks is charged and kept. -/
def kumKept (entry msg : Bytes) (v : KumView) (d : State) : State :=
  let e := ((d.decisions v.sigs.length).bump64 oPkSegments (signatureSegments v)).charge v.inst 0 0 (signatureSegments v)
  { e with kum := { e.kum with next := d.kum.next + 1, msgs := e.kum.msgs.set d.kum.next { entry := entry, msg := msg } } }

theorem kumFetch_malformed {st : Status} (k : KumReady s) (h : kumForm (padTo 32 entry) msg = .error st) :
    s.kumFetch entry msg = (kumTaken s).rejectKum (padTo 32 entry) msg 0xFF st false := by
  obtain ⟨works, enabled, dma, next, room⟩ := k
  unfold State.kumFetch; dsimp only
  rw [if_neg (by simp [works, enabled, dma, next, room]), h]; rfl

theorem kumFetch_rejects {v : KumView} {st : Status} (k : KumReady s) (h : kumForm (padTo 32 entry) msg = .ok v) (hc : (kumTaken s).kumChecks v = some st) :
    s.kumFetch entry msg = (kumTaken s).rejectKum (padTo 32 entry) msg 0xFF st false := by
  obtain ⟨works, enabled, dma, next, room⟩ := k
  unfold kumTaken at hc
  unfold State.kumFetch; dsimp only
  rw [if_neg (by simp [works, enabled, dma, next, room]), h]; dsimp only; rw [hc]; rfl

theorem kumFetch_tries {v : KumView} (k : KumReady s) (h : kumForm (padTo 32 entry) msg = .ok v) (hc : (kumTaken s).kumChecks v = none) :
    s.kumFetch entry msg = (kumKept (padTo 32 entry) msg v (kumTaken s)).tryKum s.kum.next := by
  obtain ⟨works, enabled, dma, next, room⟩ := k
  unfold kumTaken at hc
  unfold State.kumFetch; dsimp only
  rw [if_neg (by simp [works, enabled, dma, next, room]), h]; dsimp only; rw [hc]; rfl

/-- A message of the right form is one that reads. -/
theorem readKum_of_kumForm {v : KumView} (h : kumForm entry msg = .ok v) : readKum msg = some v := by
  unfold kumForm at h
  split at h
  · cases h
  · split at h
    · cases h
    · rename_i w hw
      dsimp only at h
      split at h
      · cases h
      · rw [hw]; exact congrArg some (Except.ok.inj h)

theorem kumKept_get? (v : KumView) (d : State) : (kumKept entry msg v d).kum.msgs.get? d.kum.next = some { entry := entry, msg := msg } := Tbl.get?_set_self ..

variable {n ix : Nat} {x : KumMsg} {v : KumView} {st : Status} {t : State} {rs : List Nat}

theorem tryKum_fails (hx : s.kum.msgs.get? n = some x) (hv : readKum x.msg = some v) (h : s.runOps v = .fail t ix st) : s.tryKum n = t.failKum n ix st := by
  unfold State.tryKum; rw [hx]; dsimp only; rw [hv]; dsimp only; rw [h]

theorem tryKum_unrecorded (hx : s.kum.msgs.get? n = some x) (hv : readKum x.msg = some v) (h : s.runOps v = .done t rs) (hl : s.ledgerOk = false) :
    s.tryKum n = s.failKum n 0xFF .ledgerUnavailable := by
  unfold State.tryKum; rw [hx]; dsimp only; rw [hv]; dsimp only; rw [h]; dsimp only; rw [if_neg (by simp [hl])]

theorem tryKum_passes (hx : s.kum.msgs.get? n = some x) (hv : readKum x.msg = some v) (h : s.runOps v = .done t rs) (hl : s.ledgerOk = true) :
    s.tryKum n = s.privileged (.kum n) := by
  unfold State.tryKum; rw [hx]; dsimp only; rw [hv]; dsimp only; rw [h]; dsimp only; rw [if_pos hl]

/-- A message that has passed its claim check waits for its ledger record. -/
theorem commitKum_records (hx : s.kum.msgs.get? n = some x) (hv : readKum x.msg = some v) : s.commitKum n none =
    (let g := s.modKum n (fun x => { x with stage := 1 })
     { g with ledger := { g.ledger with pending := g.ledger.pending ++ [{ typ := 0x10, body := kumRecord v.target v.counter .ok v.signed, kum := some n }] } }) := by
  unfold State.commitKum; rw [hx]; dsimp only; rw [hv]

theorem acceptKum_accepts (hx : s.kum.msgs.get? n = some x) (hv : readKum x.msg = some v) (hb : s.kumBinding v = none) (hf : s.kumFresh v = none)
    (h : s.runOps v = .done t rs) : s.acceptKum n =
      (let u := t.setCounter v
       let ds := u.ks.journal.drop s.ks.journal.length ++ v.instances.map (fun i => Delta.inst i (u.instOf i).d) ++
         (if v.device then [Delta.dev u.drec] else [])
       let w := (((s.opRecords v).commitNow ds).commitRec 0x10 0 (kumRecord v.target v.counter .ok v.signed)).setCounter v
       (w.bump64 oKumAccepted 1).modKum n (fun x => { x with stage := 2, results := rs, effect := w.tick.count + 1, counter := v.counter })) := by
  unfold State.acceptKum; rw [hx]; dsimp only; rw [hv]; dsimp only; rw [hb]; dsimp only; rw [hf]; dsimp only; rw [h]

end

/-- Settles O46: the message's fate by its form, its checks and its ops. -/
theorem keyUpdatesAreCheckedAndRecorded : Obligations.KeyUpdatesAreCheckedAndRecorded := by
  refine ⟨fun entry msg s hw hen hdma hnext hroom => ?fetch, fun n x v s t rs hx hv hb hf h => acceptKum_accepts hx hv hb hf h⟩
  case fetch =>
    have ready : KumReady s := ⟨hw, hen, hdma, hnext, hroom⟩
    refine ⟨fun st h => leads_of (Rows.keyUpdateMessage entry msg s) (kumFetch_malformed ready h),
      fun v st h hc => leads_of (Rows.keyUpdateMessage entry msg s) (kumFetch_rejects ready h hc), fun v h hc => ?_⟩
    have tries := kumFetch_tries ready h hc
    have kept := kumKept_get? (entry := padTo 32 entry) (msg := msg) v (kumTaken s)
    have reads := readKum_of_kumForm h
    refine ⟨fun t ix st hr => ?_, fun t rs hr hl => ?_, fun t rs hr hl ht hp => ?_⟩
    · exact leads_of (Rows.keyUpdateMessage entry msg s) (tries.trans (tryKum_fails kept reads hr))
    · exact leads_of (Rows.keyUpdateMessage entry msg s) (tries.trans (tryKum_unrecorded kept reads hr hl))
    · have alone : Alone (kumKept (padTo 32 entry) msg v (kumTaken s)) := ⟨ht, hp⟩
      exact leads_pass (Rows.keyUpdateMessage entry msg s) alone.2 (tries.trans ((tryKum_passes kept reads hr hl).trans (priv_alone alone _)))
        (commitKum_records kept reads)

/-! ### Ops on stored keys (R61, R74, R79, R92, R362) -/

section
variable {h : Nat} {n : NewKey} {prior : Option KeyRec} {s t : State}

/-- The generation that a key at an index takes. -/
def nextGen (prior : Option KeyRec) : Nat := match prior with | none => 1 | some r => hGen r.handle + 1

/-- The index holds a key that is not deleted. -/
def holdsLive (prior : Option KeyRec) : Bool := match prior with | none => false | some r => !r.deleted

/-- The record of a key that is put at a persistent index. -/
def newRecord (h : Nat) (n : NewKey) (prior : Option KeyRec) (bank : Nat) : KeyRec :=
  let counted := n.uses != unlimited
  let v := reservation n.cap n.uses
  { handle := hSlot h * 2 ^ 20 + nextGen prior, mat := n.mat, uses := n.uses, usage := n.usage, alg := n.alg, len := n.len, cls := n.cls, cap := n.cap,
    flags := n.flags, durable := if counted then some (n.uses - v) else none, resv := if counted then v else 0, bank := bank, dirty := algSym n.alg }

/-- The state in which a symmetric key new at its index has room (R65). -/
def roomFor (h : Nat) (n : NewKey) (prior : Option KeyRec) (s : State) : State :=
  s.when (algSym n.alg && !holdsLive prior) (fun s => s.makeRoom (hInst h))

def putRecord (h : Nat) (n : NewKey) (prior : Option KeyRec) (s : State) : KeyRec :=
  newRecord h n prior ((roomFor h n prior s).pickBank (algSym n.alg))

/-- The state in which the key stands at its index. -/
def putAt (h : Nat) (n : NewKey) (prior : Option KeyRec) (s : State) : State :=
  let r := putRecord h n prior s
  let s := match prior with | none => roomFor h n prior s | some p => (roomFor h n prior s).touch 6 p.handle
  let s := (((s.eraseKey (hSlot h)).forgetUses (hSlot h)).setKey (hSlot h) r).spend 8
  let s := { s with ks := { s.ks with gone := s.ks.gone.erase (hSlot h) } }
  (s.touch 6 r.handle).journal (.key (hSlot h) (some r))

theorem putPersistent_eq (h : Nat) (n : NewKey) (prior : Option KeyRec) (s : State) : s.putPersistent h n prior =
    (if 0xFFFFF < nextGen prior ∨ (algSym n.alg && (s.page (s.keyPage h)).frozen) = true then .fail s .keySpaceFull
     else if !(holdsLive prior || (if algSym n.alg then s.symRoom (hInst h) else s.asymRoom (hInst h))) then .fail s .quotaExceeded
     else .done (putAt h n prior s) (putRecord h n prior s).handle) := rfl

theorem putPersistent_puts (hg : nextGen prior ≤ 0xFFFFF) (hf : algSym n.alg = true → (s.page (s.keyPage h)).frozen = false)
    (hroom : holdsLive prior = true ∨ (if algSym n.alg then s.symRoom (hInst h) else s.asymRoom (hInst h)) = true) :
    s.putPersistent h n prior = .done (putAt h n prior s) (putRecord h n prior s).handle := by
  have space : ¬ (0xFFFFF < nextGen prior ∨ (algSym n.alg && (s.page (s.keyPage h)).frozen) = true) := by
    rintro (h | h)
    · omega
    · rw [Bool.and_eq_true] at h
      exact Bool.false_ne_true ((hf h.1).symm.trans h.2)
  have room : ¬ (!(holdsLive prior || (if algSym n.alg then s.symRoom (hInst h) else s.asymRoom (hInst h)))) = true := by
    rcases hroom with h | h <;> rw [h] <;> simp
  rw [putPersistent_eq, if_neg space, if_neg room]

theorem putAt_key? : (putAt h n prior s).key? (hSlot h) = some (putRecord h n prior s) := Tbl.get?_set_self ..

theorem putAt_journal : (putAt h n prior s).ks.journal.getLast? = some (.key (hSlot h) (some (putRecord h n prior s))) := List.getLast?_concat

end

/-- Where every check passes none fails. -/
theorem firstFail_ok {cs : List (Bool × Status)} (h : ∀ c ∈ cs, c.1 = true) : firstFail cs = none := by
  induction cs with
  | nil => rfl
  | cons c cs ih =>
    obtain ⟨b, st⟩ := c
    exact (firstFail_none_of_true st cs (h (b, st) (by simp))).trans (ih (fun d hd => h d (by simp [hd])))

section
variable {op : KeyOp} {s t : State} {r : KeyRec}

/-- A row of an op on an instance's keys has the op's effect, and the instance's version rises. -/
theorem opRow_key {code res : Nat} (hw : s.works = true) (hc : code < 0x10) (h : applyOp true code op s = .done t res) :
    s.opRow code op = t.touchInst op.target := by
  unfold State.opRow; rw [if_neg (by simp [hw]), h]; exact if_neg (by omega)

theorem opKey_found {h i : Nat} {usage : Option Nat} {ok : KeyRec → Bool} (k : KeyRec → State → OpOut)
    (hk : (s.decisions 2).checkKey h i false usage.isSome usage ok = .key r) : s.opKey h i usage ok k = k r (s.decisions 2) := by
  unfold State.opKey; dsimp only; rw [hk]

theorem withPrior_located {h : Nat} {prior : Option KeyRec} (hi : s.indexOk h = true) (hl : s.locate h = .ok prior) (k : Option KeyRec → State → OpOut) :
    s.withPrior h k = k prior s := by
  unfold State.withPrior; rw [if_neg (by simp [hi]), hl]

theorem opWriteKey_writes {k : KeyRec} {n : NewKey} {prior : Option KeyRec} {h : Nat} (ht : targetFail op.handle op.target = none)
    (hfl : persistentFlagsFail (leAt op.body 20 4) = none) (h1 : 1 ≤ byteAt op.body 8) (h5 : byteAt op.body 8 ≤ 5)
    (hplain : byteAt op.body 8 ≤ 2 → allZero (slice op.body 12 3) = true ∧ allZero (slice op.body 16 4) = true)
    (hk : (s.decisions 2).checkKey (leAt op.body 0 8) op.target false true (some uUnwrap) (wrapKeyOk (byteAt op.body 8) 0x10) = .key k)
    (he : hEphemeral (leAt op.body 0 8) = false) (ho : openBlock (byteAt op.body 8) k op.body = .ok n) (hn : writtenFail op.handle n k = none)
    (hi : (s.decisions 2).indexOk op.handle = true) (hl : (s.decisions 2).locate op.handle = .ok prior)
    (hp : ((s.decisions 2).when k.counted (fun s => (s.hold (hSlot (leAt op.body 0 8))).release (hSlot (leAt op.body 0 8)) true)).putPersistent
      op.handle n prior = .done t h) : opWriteKey op s = .done t h := by
  have formed : ¬ (!(decide (1 ≤ byteAt op.body 8 ∧ byteAt op.body 8 ≤ 5)) ||
      (decide (byteAt op.body 8 ≤ 2) && !(allZero (slice op.body 12 3) && allZero (slice op.body 16 4)))) = true := by
    rw [decide_eq_true ⟨h1, h5⟩]
    by_cases plain : byteAt op.body 8 ≤ 2
    · rw [(hplain plain).1, (hplain plain).2]; simp
    · rw [decide_eq_false plain]; simp
  unfold opWriteKey; dsimp only
  rw [ht]; dsimp only; rw [hfl]; dsimp only
  rw [if_neg formed, opKey_found _ hk]
  rw [if_neg (by simp [he]), ho]; dsimp only; rw [hn]; dsimp only
  rw [withPrior_located hi hl]; exact hp

/-- The key's record, its version and its journal entry, once an op has changed it. -/
def keyChanged (slot : Nat) (x : KeyRec) (s : State) : State :=
  let t := (s.setKey slot x).touchKey slot
  t.journal (.key slot (t.key? slot))

theorem changeKey_persistent (he : hEphemeral r.handle = false) (hf : s.frozenKey r = false) :
    s.changeKey r = .done (keyChanged (hSlot r.handle) { r with dirty := r.dirty || hStore r.handle == 1 } s) 0 := by
  unfold State.changeKey; dsimp only
  rw [if_neg (by simp [hf]), he]; simp [keyChanged]

theorem changeKey_ephemeral (he : hEphemeral r.handle = true) : s.changeKey r = .done ((s.setKey (hSlot r.handle) r).touchKey (hSlot r.handle)) 0 := by
  have thawed : s.frozenKey r = false := by unfold State.frozenKey; rw [he]; simp
  unfold State.changeKey; dsimp only
  rw [if_neg (by simp [thawed]), he]; simp

/-- A key's checks for an op that uses no key (R69). -/
def opFinds (op : KeyOp) (r : KeyRec) (s : State) : Prop := (s.decisions 2).checkKey op.handle op.target false false none (fun _ => true) = .key r

theorem opKey_finds (hk : opFinds op r s) (k : KeyRec → State → OpOut) : s.opKey op.handle op.target none (fun _ => true) k = k r (s.decisions 2) :=
  opKey_found k hk

theorem opDelete_ephemeral (hk : opFinds op r s) (he : hEphemeral r.handle = true) :
    opDelete op s = .done ((((s.decisions 2).forgetUses (hSlot r.handle)).touch 6 r.handle).eraseKey (hSlot r.handle)) 0 := by
  unfold opDelete; rw [opKey_finds hk]; exact if_pos he

theorem opDelete_persistent (hk : opFinds op r s) (he : hEphemeral r.handle = false) (hf : ((s.decisions 2).forgetUses (hSlot r.handle)).frozenKey r = false) :
    opDelete op s = .done (keyChanged (hSlot r.handle)
      { r with deleted := true, flags := clearBit r.flags fPinned, holds := 0, dirty := r.dirty || hStore r.handle == 1 }
      ((s.decisions 2).forgetUses (hSlot r.handle))) 0 := by
  unfold opDelete; rw [opKey_finds hk]
  exact (if_neg (by simp [he])).trans (changeKey_persistent he hf)

/-- The record of a key replenished to `n` uses. -/
def replenished (n : Nat) (r : KeyRec) : KeyRec :=
  let y : KeyRec := { r with uses := n, nextFigure := none }
  if hasFigure y then { y with durable := some (n - reservation r.cap n), resv := reservation r.cap n } else { y with durable := none, resv := 0 }

theorem replenished_figure {n : Nat} (h : hasFigure { r with uses := n, nextFigure := none } = true) :
    replenished n r = { r with uses := n, nextFigure := none, durable := some (n - reservation r.cap n), resv := reservation r.cap n } := if_pos h

theorem replenished_bare {n : Nat} (h : hasFigure { r with uses := n, nextFigure := none } = false) :
    replenished n r = { r with uses := n, nextFigure := none, durable := none, resv := 0 } := if_neg (by simp [h])

theorem opReplenish_changes (hk : opFinds op r s) (h0 : leAt op.body 0 4 ≠ 0) :
    opReplenish op s = (s.decisions 2).changeKey (replenished (leAt op.body 0 4) r) := by
  unfold opReplenish; dsimp only; rw [if_neg h0, opKey_finds hk]; rfl

theorem opReplenish_persistent (hk : opFinds op r s) (h0 : leAt op.body 0 4 ≠ 0) (he : hEphemeral r.handle = false) (hf : (s.decisions 2).frozenKey r = false) :
    opReplenish op s = .done (keyChanged (hSlot r.handle)
      (replenished (leAt op.body 0 4) { r with dirty := r.dirty || hStore r.handle == 1 }) (s.decisions 2)) 0 := by
  rw [opReplenish_changes hk h0]
  cases hfig : hasFigure { r with uses := leAt op.body 0 4, nextFigure := none } with
  | true => rw [replenished_figure hfig, replenished_figure (by exact hfig)]; exact changeKey_persistent he hf
  | false => rw [replenished_bare hfig, replenished_bare (by exact hfig)]; exact changeKey_persistent he hf

theorem opReplenish_ephemeral (hk : opFinds op r s) (h0 : leAt op.body 0 4 ≠ 0) (he : hEphemeral r.handle = true)
    (hfig : hasFigure { r with uses := leAt op.body 0 4, nextFigure := none } = false) : opReplenish op s =
      .done (((s.decisions 2).setKey (hSlot r.handle) { r with uses := leAt op.body 0 4, nextFigure := none, durable := none, resv := 0 }).touchKey
        (hSlot r.handle)) 0 := by
  rw [opReplenish_changes hk h0, replenished_bare hfig]; exact changeKey_ephemeral he

/-- What SET_ATTRIBUTES makes of the key's record. -/
def attributed (op : KeyOp) (r : KeyRec) : KeyRec :=
  { r with usage := leAt op.body 0 4, cap := byteAt op.body 8, flags := leAt op.body 4 4 ||| (r.flags &&& (2 ^ fPinned + 2 ^ fBad)) }

theorem opSetAttributes_changes (hk : opFinds op r s) (he : hEphemeral r.handle = false) (hu : within (leAt op.body 0 4) (2 ^ 21 - 1) = true)
    (hfl : within (leAt op.body 4 4) 0x3F = true) (hp : bit (leAt op.body 4 4) fPersistent = true) (hn : bit (leAt op.body 4 4) fPinned = false)
    (hc : byteAt op.body 8 ≤ 13) (ha : usageAllowed r.cls (leAt op.body 0 4) = true) : opSetAttributes op s = (s.decisions 2).changeKey (attributed op r) := by
  unfold opSetAttributes; dsimp only; rw [opKey_finds hk]
  rw [firstFail_ok (by simpa [hfl, hp, hn, hc, he, ha] using hu)]; rfl

theorem opMarkPersistent_moves {prior : Option KeyRec} {h : Nat} (hk : opFinds op r s) (he : hEphemeral r.handle = true)
    (ht : targetFail (leAt op.body 0 8) op.target = none) (hfl : persistentFlagsFail (leAt op.body 8 4) = none)
    (hs : hStore (leAt op.body 0 8) = hStore r.handle) (hi : (s.decisions 2).indexOk (leAt op.body 0 8) = true)
    (hl : (s.decisions 2).locate (leAt op.body 0 8) = .ok prior)
    (hp : ((((s.decisions 2).touch 6 r.handle).forgetUses (hSlot r.handle)).eraseKey (hSlot r.handle)).putPersistent (leAt op.body 0 8)
      { alg := r.alg, len := r.len, cls := r.cls, cap := r.cap, usage := r.usage, flags := leAt op.body 8 4, uses := r.uses, mat := r.mat } prior = .done t h) :
    opMarkPersistent op s = .done t h := by
  unfold opMarkPersistent; dsimp only; rw [opKey_finds hk]
  rw [if_neg (by simp [he]), ht]; dsimp only; rw [hfl]; dsimp only
  rw [if_neg (by simp [hs]), withPrior_located hi hl]; exact hp

theorem opSetRoster_sets (h : rosterOk s.prot.life op.body = true) :
    opSetRoster op s = .done (s.modInst op.target (fun x => { x with d := { x.d with roster := op.body } })) 0 := if_neg (by simp [h])

end

/-- Settles O47: a key put at an index by `putPersistent_puts`, each op by its effect. -/
theorem keyOpsChangeStoredKeys : Obligations.KeyOpsChangeStoredKeys := by
  refine ⟨fun h n prior s => ?puts, fun op k n prior h s t hw => ?writes, fun op r s hw => ?changes,
    fun op s hw h => leads_of (Rows.setRoster op s) (opRow_key hw (by decide) (opSetRoster_sets h))⟩
  case puts =>
    intro gen live hg hf hroom
    exact ⟨putAt h n prior s, putRecord h n prior s, putPersistent_puts hg hf hroom, putAt_key?, rfl, rfl, rfl, rfl, rfl, rfl, rfl, rfl, rfl, rfl,
      putAt_journal⟩
  case writes =>
    intro b fmt kek d ht hfl h1 h5 hplain hk he ho hn hi hl hp
    exact leads_of (Rows.writeKey op s) (opRow_key hw (by decide) (opWriteKey_writes ht hfl h1 h5 hplain hk he ho hn hi hl hp))
  case changes =>
    intro d slot hk
    refine ⟨fun he => ?_, fun he hf => ?_, fun he hf h0 => ?_, fun he h0 hfig => ?_, fun he hf => ?_, fun prior h t => ?_⟩
    · exact leads_of (Rows.delete op s) (opRow_key hw (by decide) (opDelete_ephemeral hk he))
    · exact leads_of (Rows.delete op s) (opRow_key hw (by decide) (opDelete_persistent hk he hf))
    · exact leads_of (Rows.replenish op s) (opRow_key hw (by decide) (opReplenish_persistent hk h0 he hf))
    · exact leads_of (Rows.replenish op s) (opRow_key hw (by decide) (opReplenish_ephemeral hk h0 he hfig))
    · intro usage fl cap hu hw6 hp hn hc ha
      exact leads_of (Rows.setAttributes op s)
        (opRow_key hw (by decide) ((opSetAttributes_changes hk he hu hw6 hp hn hc ha).trans (changeKey_persistent he hf)))
    · intro dest fl he ht hfl hs hi hl hp
      exact leads_of (Rows.markPersistent op s) (opRow_key hw (by decide) (opMarkPersistent_moves hk he ht hfl hs hi hl hp))

/-! ### Ops for the device (R358, R359, R436, R450, R453) -/

section
variable {op : KeyOp} {s t : State}

theorem beginStep_none {n : Option Nat} (h : s.prot.step = none) : s.beginStep n = s := by unfold State.beginStep; rw [h]

/-- A row of an op for the device has the op's effect, raises the device's version and is saved. -/
theorem opRow_device {code res : Nat} (hw : s.works = true) (hc : 0x10 ≤ code) (h : applyOp true code op s = .done t res) :
    s.opRow code op = (t.touchDev.saveDev).beginStep none := by
  unfold State.opRow; rw [if_neg (by simp [hw]), h]; exact if_pos hc

theorem opRow_saves {code res : Nat} (hw : s.works = true) (hc : 0x10 ≤ code) (hs : t.prot.step = none) (h : applyOp true code op s = .done t res) :
    s.opRow code op = t.touchDev.saveDev :=
  (opRow_device hw hc h).trans (beginStep_none (by simp [hs]))

theorem opSetRosterDevice_sets (h : rosterOk s.prot.life op.body = true) :
    opSetRosterDevice op s = .done { s with drec := { s.drec with roster := op.body } } 0 := if_neg (by simp [h])

theorem touchInst_prot (i : Nat) : (s.touchInst i).prot = s.prot := by
  obtain ⟨x, m, p, o, h⟩ := State.touchInst_frame i s
  rw [h]

theorem opEstablish_establishes (hi : leAt op.body 0 2 < 4096) (hf : (s.instOf (leAt op.body 0 2)).d.st ≠ .free)
    (hr : (s.instOf (leAt op.body 0 2)).d.st ≠ .resetting) (hm : (s.instOf (leAt op.body 0 2)).d.st ≠ .moving)
    (hn : rosterN (s.instOf (leAt op.body 0 2)).d.roster = 0) (ho : rosterOk s.prot.life (op.body.drop 8) = true)
    (hinc : leAt op.body 4 4 = (s.instOf (leAt op.body 0 2)).d.inc) : opEstablish op s =
      .done ((s.modInst (leAt op.body 0 2) (fun x => { x with d := { x.d with roster := op.body.drop 8 } })).touchInst (leAt op.body 0 2)) 0 := by
  unfold opEstablish; dsimp only
  rw [firstFail_ok (by simp [hi, hf, hr, hm, hn, ho, hinc])]

/-- The step that LIFECYCLE_STEP begins. -/
def begunStep (op : KeyOp) (s : State) : LifeStep := { target := byteAt op.body 0, stage := 1, since := s.tick.count, kum := none }

theorem stepOk_decisions (n dest : Nat) : (s.decisions n).stepOk dest = s.stepOk dest := by
  unfold State.stepOk State.decisions; simp

theorem opLifecycle_begins (hd : byteAt op.body 0 ≤ 4) (hs : s.prot.step = none) (ho : s.stepOk (byteAt op.body 0) = true) :
    opLifecycle op s = .done { s.decisions 1 with prot := { (s.decisions 1).prot with step := some (begunStep op s) } } 0 := by
  have free : (s.decisions 1).prot.step = none := by rw [decisions_life]; exact hs
  unfold opLifecycle; dsimp only
  rw [firstFail_ok (by simp [hd, free, stepOk_decisions, ho])]
  unfold begunStep State.decisions; simp

/-- A step begun with no item on the device waits for its receipt, and admission stops. -/
theorem beginStep_begins {x : LifeStep} (hs : s.prot.step = some x) (ha : s.disp.stopAdmit = false) (hi : s.disp.items = []) : s.beginStep none =
    { s with prot := { s.prot with step := some { x with since := s.tick.count, kum := none } }, disp := { s.disp with stopAdmit := true } } := by
  unfold State.beginStep; rw [hs]; dsimp only
  rw [if_neg (by simp [ha]), hi]; rfl

theorem opDebugEnable_enables (h : (s.decisions 2).tokenFail debugAllowed op.body = none) :
    opDebugEnable op s = .done (State.raise 14 oProtIrq 1 { (s.decisions 2).spendNonce with
      prot := { (s.decisions 2).spendNonce.prot with debug := byteAt op.body 6 } }) 0 := by
  unfold opDebugEnable; dsimp only; rw [h]

theorem opDebugEnable_refuses {st : Status} (h : (s.decisions 2).tokenFail debugAllowed op.body = some st) (hst : st ≠ .badLength) :
    opDebugEnable op s = .fail (s.decisions 2).spendNonce st := by
  unfold opDebugEnable; dsimp only; rw [h]
  split
  · rename_i e; exact absurd (Option.some.inj e) hst
  · rename_i e; rw [Option.some.inj e]
  · rename_i e; cases e

end

/-- Settles O48: each op by its effect, then the device's version and its record. -/
theorem deviceOpsActOnTheDevice : Obligations.DeviceOpsActOnTheDevice := by
  intro op s hw hs done e
  refine ⟨fun h => leads_of (Rows.setRosterDevice op s) (opRow_saves hw (by decide) hs (opSetRosterDevice_sets h)),
    leads_of (Rows.enrolImageAuthority op s) (opRow_saves hw (by decide) hs rfl),
    leads_of (Rows.enrolDomainAuthority op s) (opRow_saves hw (by decide) hs rfl), fun hi hf hr hm hn ho hinc => ?establish,
    fun hd ho ha hi => ?step, ⟨fun h => ?debug, fun st h hst => ?refused⟩, leads_of (Rows.clearTamper op s) (opRow_saves hw (by decide) hs rfl)⟩
  case establish =>
    exact leads_of (Rows.establishRoster op s)
      (opRow_saves hw (by decide) (by rw [touchInst_prot]; exact hs) (opEstablish_establishes hi hf hr hm hn ho hinc))
  case step =>
    have begins := opRow_device (code := 0x13) hw (by decide) (opLifecycle_begins hd hs ho)
    refine leads_of (Rows.lifecycleStep op s) (begins.trans ?_)
    rw [beginStep_begins (x := begunStep op s) (by simp) (by simpa [State.decisions] using ha) (by simpa [State.decisions] using hi)]
    simp [begunStep, State.decisions, done]
  case debug =>
    have free : (s.decisions 2).prot.step = none := by rw [decisions_life]; exact hs
    have kept : ∀ t : State, (t.raise 14 oProtIrq 1).prot = t.prot := fun t => by
      obtain ⟨p, o, e, n, h⟩ := State.raise_frame 14 oProtIrq 1 t
      rw [h]
    exact leads_of (Rows.debugEnable op s) (opRow_saves hw (by decide) (by rw [kept]; exact free) (opDebugEnable_enables h))
  case refused =>
    refine leads_of (Rows.debugEnable op s) ?_
    have fails : applyOp true 0x14 op s = .fail (s.decisions 2).spendNonce st := opDebugEnable_refuses h hst
    unfold State.opRow
    rw [if_neg (by simp [hw]), fails]
    exact if_pos ⟨rfl, hst⟩

end Sys2Proof.Proofs
end

section
/-! Service requests: descriptors become items, and what ends them (O49). -/

namespace Sys2Proof.Proofs

open Sys2Proof Sys2Proof.Machine Sys2Proof.Laws

/-! ### The fetch of a descriptor (R303-R308) -/

section
variable {f : ServiceFetch} {x : Qp} {s : State}

/-- The descriptor has been taken off its queue pair, and counted. -/
def descTaken (f : ServiceFetch) (x : Qp) (s : State) : State :=
  State.bump64 oHqDescriptors 1 { s with queues := s.queues.set f.qp { x with sqHead := (x.sqHead + 1) % 2 ^ x.sqLog } }

/-- A fetched descriptor completes at once with this status. -/
def completesAt (f : ServiceFetch) (st : Status) (operand element : Nat) (d : State) : State :=
  d.completeQp f.qp st operand false (leAt f.desc 4 4) 0 element (bit (byteAt f.desc 2) 1)

/-- What is done with a descriptor that has been taken: its checks, its instance's state, and the item it becomes. -/
def descRuns (f : ServiceFetch) (x : Qp) (d : State) : State :=
  if d.standby then completesAt f .notActive 0 0 d
  else match fetchCheck f.qp x f with
  | .error e => completesAt f e.st e.operand e.element (if e.st = .gatherFault then (d.bump oHqGatherFaults).noteFault else d.bump oHqFormatRejects)
  | .ok (fl, es) => match (d.instOf x.fn).d.st.refusal with
    | some st => completesAt f st 0 0 d
    | none =>
      let j := d.joinFlow x.fn fl.2.1 fl.1 fl.2.2
      j.2.addItem { inst := x.fn, qp := some f.qp, tag := leAt f.desc 4 4, raise := bit (byteAt f.desc 2) 1, unver := bit (byteAt f.desc 2) 2, flow := j.1,
                    cls := if x.cls = 0xFF then j.2.cfg.disp.qpCls else x.cls, quad := Config.functionQuadrant x.fn % 4,
                    inv := descInvoc f.desc (f.table.getD []) f.ins, bufs := es }

theorem serviceFetch_cases (hq : s.queues.get? f.qp = some x) (hm : s.mayFetch f.qp x = true) :
    s.serviceFetch f = if !s.mayDma x.fn then State.instFault x.fn 1 { s with queues := s.queues.set f.qp { x with faulted := true } }
      else descRuns f x (descTaken f x s) := by
  unfold State.serviceFetch; rw [hq]; dsimp only
  rw [hm]
  exact (if_neg (by simp)).trans rfl

theorem serviceFetch_taken (hq : s.queues.get? f.qp = some x) (hm : s.mayFetch f.qp x = true) (hd : s.mayDma x.fn = true) :
    s.serviceFetch f = descRuns f x (descTaken f x s) := by
  rw [serviceFetch_cases hq hm, hd]; rfl

theorem descRuns_standby {d : State} (h : d.standby = true) : descRuns f x d = completesAt f .notActive 0 0 d := if_pos h

theorem descRuns_error {d : State} {e} (h : d.standby = false) (hc : fetchCheck f.qp x f = .error e) :
    descRuns f x d = completesAt f e.st e.operand e.element
      (if e.st = .gatherFault then (d.bump oHqGatherFaults).noteFault else d.bump oHqFormatRejects) := by
  unfold descRuns; rw [h, hc]; rfl

theorem descRuns_refused {d : State} {sp par v es st} (h : d.standby = false) (hc : fetchCheck f.qp x f = .ok ((sp, par, v), es))
    (hr : (d.instOf x.fn).d.st.refusal = some st) : descRuns f x d = completesAt f st 0 0 d := by
  unfold descRuns; rw [h, hc]; dsimp only; rw [hr]; rfl

theorem descRuns_item {d : State} {sp par v es} (h : d.standby = false) (hc : fetchCheck f.qp x f = .ok ((sp, par, v), es))
    (hr : (d.instOf x.fn).d.st.refusal = none) :
    descRuns f x d = (d.joinFlow x.fn par sp v).2.addItem
      { inst := x.fn, qp := some f.qp, tag := leAt f.desc 4 4, raise := bit (byteAt f.desc 2) 1, unver := bit (byteAt f.desc 2) 2, flow := (d.joinFlow x.fn par sp v).1,
        cls := if x.cls = 0xFF then (d.joinFlow x.fn par sp v).2.cfg.disp.qpCls else x.cls, quad := Config.functionQuadrant x.fn % 4,
        inv := descInvoc f.desc (f.table.getD []) f.ins, bufs := es } := by
  unfold descRuns; rw [h, hc]; dsimp only; rw [hr]; rfl

end

/-! ### Elements that fault and quanta that end (R310-R313) -/

theorem gatherFault_stops {n operand element : Nat} {x : Item} {s : State} (hi : s.item? n = some x) (hq : x.qp.isSome = true) (ha : x.admitted = true)
    (ho : operand < 6) : s.gatherFault n operand element = s.stopRequest n .gatherFault (some (operand, element)) := by
  unfold State.gatherFault; rw [hi]; dsimp only
  rw [hq, ha, decide_eq_true ho]; rfl

section
variable {q : QuantumEnd} {x : Item} {o : FnOut} {s : State}

/-- A quantum that has ended is counted, and so is its retry. -/
def quantumCounted (q : QuantumEnd) (s : State) : State :=
  if q.errors = 0 then s.bump64 oCiphQuanta 1 else (s.bump64 oCiphQuanta 1).bump oCiphQuantumRetries

/-- What a counted quantum does to its request. -/
def quantumActs (q : QuantumEnd) (x : Item) (o : FnOut) (d : State) : State :=
  match x.stopped with
  | some st => d.stopRequest q.item st none
  | none =>
    if 2 ≤ q.errors then (d.bumpHi oCiphQuantumRetries).stopRequest q.item .hwFault none
    else match q.scatter with
      | some f => d.stopRequest q.item .scatterFault (some f)
      | none => d.quantumOutput q.item x o

theorem quantumRow_deferred (hw : s.works = true) (hi : s.item? q.item = some x) (ht : x.transit = true) :
    s.quantumRow q = s.deferredQuantum q.item q.errors := by
  unfold State.quantumRow; rw [hw, hi]; dsimp only; rw [ht]; rfl

theorem quantumRow_running (hw : s.works = true) (hi : s.item? q.item = some x) (ht : x.transit = false) (hr : x.result = some o)
    (hj : x.job = true) (hs : x.stage = .running) : s.quantumRow q = quantumActs q x o (quantumCounted q s) := by
  unfold State.quantumRow; rw [hw, hi]; dsimp only; rw [ht]
  show s.quantumEnd q = _
  unfold State.quantumEnd; rw [hi]; dsimp only; rw [hr]; dsimp only; rw [hj, ht, hs]
  rfl

theorem quantumActs_stopped {d : State} {st : Status} (h : x.stopped = some st) : quantumActs q x o d = d.stopRequest q.item st none := by
  unfold quantumActs; rw [h]

theorem quantumActs_fault {d : State} (h : x.stopped = none) (he : 2 ≤ q.errors) :
    quantumActs q x o d = (d.bumpHi oCiphQuantumRetries).stopRequest q.item .hwFault none := by
  unfold quantumActs; rw [h]; dsimp only; rw [if_pos he]

theorem quantumActs_scatter {d : State} {f} (h : x.stopped = none) (he : q.errors < 2) (hf : q.scatter = some f) :
    quantumActs q x o d = d.stopRequest q.item .scatterFault (some f) := by
  unfold quantumActs; rw [h]; dsimp only; rw [if_neg (by omega), hf]

theorem quantumActs_output {d : State} (h : x.stopped = none) (he : q.errors < 2) (hf : q.scatter = none) :
    quantumActs q x o d = d.quantumOutput q.item x o := by
  unfold quantumActs; rw [h]; dsimp only; rw [if_neg (by omega), hf]

end

/-- The last quantum of a request without a queue pair delivers no buffer: it finishes the request. -/
theorem quantumOutput_last {n : Nat} {x : Item} {o : FnOut} {s : State} (hl : x.total ≤ x.done + 1) (hq : x.qp = none) :
    s.quantumOutput n x o = (s.modItem n (fun y => { y with done := y.done + 1 })).finishService n o none := by
  unfold State.quantumOutput; rw [hq, decide_eq_true hl]; rfl

/-! ### Responses that cannot be sent (R324) -/

theorem responseTimeout_when {n t k : Nat} {b : Bytes} {x : Item} {s : State} (hi : s.item? n = some x) (hl : x.lateResponse = some (t, b))
    (hk : x.sess = some k) : s.responseTimeout n =
      s.when (s.works && decide (t + 65536 ≤ s.tick.count)) (fun s => (s.bump (portReg oPortUndeliverable (s.sessOf k).port)).endItem n) := by
  unfold State.responseTimeout; rw [hi]; dsimp only; rw [hl, hk]

theorem responseTimeout_due {n t k : Nat} {b : Bytes} {x : Item} {s : State} (hi : s.item? n = some x) (hl : x.lateResponse = some (t, b))
    (hk : x.sess = some k) (hw : s.works = true) (ht : t + 65536 ≤ s.tick.count) :
    s.responseTimeout n = (s.bump (portReg oPortUndeliverable (s.sessOf k).port)).endItem n := by
  rw [responseTimeout_when hi hl hk, hw, decide_eq_true ht]; rfl

theorem responseTimeout_early {n t k : Nat} {b : Bytes} {x : Item} {s : State} (hi : s.item? n = some x) (hl : x.lateResponse = some (t, b))
    (hk : x.sess = some k) (ht : s.tick.count < t + 65536) : s.responseTimeout n = s := by
  rw [responseTimeout_when hi hl hk, decide_eq_false (by omega), Bool.and_false]; rfl

/-! ### O49 -/

/-- Settles O49: a descriptor in the order of its checks, an element that faults, a quantum by what it ended with, the last output, and the response's time. -/
theorem serviceRequestsBecomeItems : Obligations.ServiceRequestsBecomeItems := by
  unfold Obligations.ServiceRequestsBecomeItems
  refine ⟨fun f x s hq hm => ⟨?faulted, ?standby, ?failed, ?fetched⟩, ?element, fun q x o s hw hi => ⟨?deferred, fun ht hr hj hs => ?quantum⟩, ?last, ?timeout⟩
  case faulted =>
    intro hd
    exact leads_of (Rows.serviceDescriptorFetch f s) (by rw [serviceFetch_cases hq hm, hd]; rfl)
  case standby =>
    intro hd hs
    exact leads_of (Rows.serviceDescriptorFetch f s) ((serviceFetch_taken hq hm hd).trans (descRuns_standby hs))
  case failed =>
    intro e hd hs hc
    exact leads_of (Rows.serviceDescriptorFetch f s) ((serviceFetch_taken hq hm hd).trans (descRuns_error hs hc))
  case fetched =>
    intro sp par v es hd hs hc
    refine ⟨fun st hr => ?_, fun hr => ?_⟩
    · exact leads_of (Rows.serviceDescriptorFetch f s) ((serviceFetch_taken hq hm hd).trans (descRuns_refused hs hc hr))
    · exact leads_of (Rows.serviceDescriptorFetch f s) ((serviceFetch_taken hq hm hd).trans (descRuns_item hs hc hr))
  case element =>
    intro n operand element x s hi hq ha ho
    exact leads_of (Rows.gatherFault n operand element s) (gatherFault_stops hi hq ha ho)
  case deferred =>
    intro ht
    exact leads_of (Rows.quantumEnd q s) (quantumRow_deferred hw hi ht)
  case quantum =>
    have row := quantumRow_running hw hi ht hr hj hs
    refine ⟨fun st h => ?_, fun h he => ?_, fun f h he hf => ?_, fun h he hf => ?_⟩
    · exact leads_of (Rows.quantumEnd q s) (row.trans (quantumActs_stopped h))
    · exact leads_of (Rows.quantumEnd q s) (row.trans (quantumActs_fault h he))
    · exact leads_of (Rows.quantumEnd q s) (row.trans (quantumActs_scatter h he hf))
    · exact leads_of (Rows.quantumEnd q s) (row.trans (quantumActs_output h he hf))
  case last =>
    intro n x o s hl hq
    exact quantumOutput_last hl hq
  case timeout =>
    intro n t k b x s hi hl hk hw
    refine ⟨fun ht => ?_, fun ht => ?_⟩
    · exact leads_of (Rows.serviceResponseTimeout n s) (responseTimeout_due hi hl hk hw ht)
    · exact leads_of (Rows.serviceResponseTimeout n s) (responseTimeout_early hi hl hk ht)

end Sys2Proof.Proofs

end

section
/-! The functions of Table 4.4 in a service request (O50): the row of each, what stops it, how it runs, and what a piece leaves. -/

namespace Sys2Proof.Proofs

open Sys2Proof Sys2Proof.Machine Sys2Proof.Laws

/-- An instruction of Table 4.4 runs its function's row. -/
theorem fnRowOf_row {i : Instr} {code n : Nat} (h : fnRowOf i = some (code, n)) (s : State) :
    exec i s = run (fun s => (s.fnRow code n).settle) s := by
  unfold fnRowOf at h
  split at h <;> cases h <;> rfl

section
variable {code n : Nat} {x : Item} {s : State}

/-- The item of a function's row: what a row asks before it runs the function. -/
structure FnItem (code n : Nat) (x : Item) (s : State) : Prop where
  works : s.works = true
  item : s.item? n = some x
  admitted : x.admitted = true
  running : x.stage = .running
  here : x.transit = false
  idle : x.job = false
  fn : x.inv.fn = code

theorem fnRow_serves (h : FnItem code n x s) : s.fnRow code n = s.serviceRun n := by
  obtain ⟨works, item, admitted, running, here, idle, fn⟩ := h
  unfold State.fnRow; rw [item]; dsimp only
  rw [works, admitted, running, here, idle, fn]
  simp

theorem FnItem.runs (h : FnItem code n x s) (hw : x.waitSt = none) (hf : s.formStep x.inv x.unver = none) : Runs code n x s :=
  ⟨h.works, h.item, h.admitted, h.running, h.here, h.idle, hw, h.fn, hf⟩

theorem serviceRun_waited {st : Status} (hi : s.item? n = some x) (hw : x.waitSt = some st) : s.serviceRun n = s.failService n st := by
  unfold State.serviceRun; rw [hi]; dsimp only; rw [hw]

theorem serviceRun_malformed {st : Status} (hi : s.item? n = some x) (hw : x.waitSt = none) (hf : s.formStep x.inv x.unver = some st) :
    s.serviceRun n = s.failService n st := by
  unfold State.serviceRun; rw [hi]; dsimp only; rw [hw]; dsimp only; rw [hf]

theorem serviceRun_job (hi : s.item? n = some x) (hw : x.waitSt = none) (hf : s.formStep x.inv x.unver = none) (hp : isPkFn x.inv = true) :
    s.serviceRun n = s.requestJob n x.inst x.frond x.inv false := by
  unfold State.serviceRun; rw [hi]; dsimp only; rw [hw]; dsimp only; rw [hf]; dsimp only; rw [if_pos hp]

theorem serviceRun_waits {t : State} (h : Runs code n x s) (hp : isPkFn x.inv = false) (hk : s.runKeys n x.inst x.inv x.unver false = (none, t)) :
    s.serviceRun n = t := by
  rw [serviceRun_keys h hp, hk]

theorem serviceRun_finishes {o : FnOut} {t : State} (h : Runs code n x s) (hp : isPkFn x.inv = false)
    (hk : s.runKeys n x.inst x.inv x.unver false = (some o, t)) (hb : bulkFns.contains code = false ∨ o.st ≠ .ok ∧ o.st.isOutcome = false) :
    s.serviceRun n = (t.modItem n (fun y => { y with invoked := some x.inv })).finishService n o none := by
  have hno : ((decide (o.st = .ok) || o.st.isOutcome) && bulkFns.contains code) = false := by
    rcases hb with hb | ⟨hs, ho⟩
    · rw [hb, Bool.and_false]
    · rw [decide_eq_false hs, ho]; rfl
  rw [serviceRun_keys h hp, hk]; dsimp only
  rw [hno]; rfl

theorem serviceRun_quanta {o : FnOut} {t : State} (h : Runs code n x s) (hp : isPkFn x.inv = false)
    (hk : s.runKeys n x.inst x.inv x.unver false = (some o, t)) (hb : bulkFns.contains code = true) (ho : o.st = .ok ∨ o.st.isOutcome = true) :
    s.serviceRun n = (let u := t.modItem n (fun y => { y with invoked := some x.inv })
      u.modItem n (fun y => { y with result := some o, job := true, done := 0, total := quantaOf (u.cfg.timing.period == 0) x.inv })) := by
  have hyes : ((decide (o.st = .ok) || o.st.isOutcome) && bulkFns.contains code) = true := by
    rw [hb, Bool.and_true]
    rcases ho with ho | ho <;> rw [ho] <;> simp
  rw [serviceRun_keys h hp, hk]; dsimp only
  rw [hyes]; rfl

end

/-! ### Pieces (R325-R331) -/

section
variable {n i : Nat} {v : Invoc} {o : FnOut} {s : State}

theorem openPiece_first {id : Nat} {u : State} (ho : o.st = .ok) (hc : isContinue v = true) (hr : isResume v = false) (hx : o.ctx ≠ none)
    (hn : s.newCtx i { fn := v.fn, holder := some n } = some (id, u)) :
    s.openPiece n i v o = ({ o with o1 := o.o1 ++ be 4 id }, u.modItem n (fun y => { y with ctxSlot := some (id % 2 ^ 20) })) := by
  obtain ⟨c, hc'⟩ := Option.ne_none_iff_exists'.mp hx
  unfold State.openPiece
  rw [if_pos ⟨ho, hc, by simp [hr]⟩]
  simp only [hc', hn]

theorem openPiece_next (ho : o.st = .ok) (hc : isContinue v = true) (hr : isResume v = true) :
    s.openPiece n i v o = ({ o with o1 := be 4 (v.p1 % 2 ^ 32) }, s) := by
  unfold State.openPiece
  rw [if_neg (by simp [hr]), if_pos ⟨ho, hc⟩]

end

/-- A piece whose function succeeds runs on with what opening it gives. -/
theorem served_piece {i : Instr} {code n : Nat} {x : Item} {cx : Option (Nat × CipherCtx)} {k1 k2 : KeyRec} {s t u : State} {f : FnSpec} {o p : FnOut}
    (hx : exec i s = run (fun s => (s.fnRow code n).settle) s) (h : Served code n x cx k1 k2 s t)
    (hc : [0x0601, 0x0602, 0x0603, 0x0604].contains code = true) (hf : fnSpec code = some f)
    (ho : f.compute (t.fnCtx x (cx.map Prod.snd) k1 k2) = o) (hp : (t.computed x o).openPiece n x.inst x.inv o = (p, u)) (hok : p.st = .ok) :
    Leads i s (u.runsOn n x p) := by
  have hmem : code ∈ [0x0601, 0x0602, 0x0603, 0x0604] := by simpa using hc
  have hb : bulkFns.contains code = true := by
    unfold bulkFns
    simp only [List.contains_eq_mem, List.mem_cons, List.mem_nil_iff, or_false, decide_eq_true_eq] at hmem ⊢
    omega
  have h56 : code ≠ 0x0605 ∧ code ≠ 0x0606 := by
    simp only [List.mem_cons, List.mem_nil_iff, or_false] at hmem
    omega
  obtain ⟨hruns, hpk, hsup⟩ := h
  refine leads_of hx ?_
  have hk := runKeys_supplied hsup hf h56.1 h56.2
  rw [hc] at hk
  simp only [if_true, ho, hp] at hk
  rw [fnRow_runs hruns]
  exact serviceRun_quanta hruns hpk hk hb (.inl hok)

/-- Settles O50: a row's item by the check it fails first, by what its keys give, and by the piece it is. -/
theorem functionsRunInTheStepsOfR105 : Obligations.FunctionsRunInTheStepsOfR105 := by
  unfold Obligations.FunctionsRunInTheStepsOfR105
  intro i code n x s hrow hw hi ha hs ht hj hc
  have row := fnRowOf_row hrow s
  have item : FnItem code n x s := ⟨hw, hi, ha, hs, ht, hj, hc⟩
  have serve := fnRow_serves item
  refine ⟨?waited, ?malformed, fun hwait hform => ⟨?job, ?page, fun o t hp hk => ⟨?finishes, ?quanta⟩⟩, ?first, ?later⟩
  case waited =>
    intro st hwait
    exact leads_of row (serve.trans (serviceRun_waited hi hwait))
  case malformed =>
    intro st hwait hform
    exact leads_of row (serve.trans (serviceRun_malformed hi hwait hform))
  case job =>
    intro hp
    exact leads_of row (serve.trans (serviceRun_job hi hwait hform hp))
  case page =>
    intro t hp hk
    exact leads_of row (serve.trans (serviceRun_waits (item.runs hwait hform) hp hk))
  case finishes =>
    intro hb
    exact leads_of row (serve.trans (serviceRun_finishes (item.runs hwait hform) hp hk hb))
  case quanta =>
    intro hb ho
    exact leads_of row (serve.trans (serviceRun_quanta (item.runs hwait hform) hp hk hb ho))
  case first =>
    intro f k1 k2 t hserved hr hcont hmem hf o ho hx id u hn
    rw [← hc] at hn
    exact served_piece row hserved hmem hf rfl (openPiece_first ho hcont hr hx hn) ho
  case later =>
    intro f e c k1 k2 t hserved hmem hf o ho
    refine ⟨fun hcont hr => ?_, fun hcont => ?_⟩
    · exact served_piece row hserved hmem hf rfl (openPiece_next ho hcont hr) ho
    · exact served_piece row hserved hmem hf rfl (openPiece_whole hcont) ho

end Sys2Proof.Proofs

end

section
/-! What the PIN, MAC, card and DUKPT functions answer (O51). -/

namespace Sys2Proof.Proofs

open Sys2Proof Sys2Proof.Machine Sys2Proof.Laws

/-! ### PINs (R113-R118) -/

section
variable {c : FnCtx} {pin : List Nat}

theorem pinTranslate_invalid (h : pinOf c = none) : fnPinTranslate.compute c = { st := .pinBlockInvalid } := by
  show (match pinOf c with | none => _ | some pin => _) = _
  rw [h]

theorem pinTranslate_pin (h : pinOf c = some pin) :
    fnPinTranslate.compute c = (let d := c.inv.opts / 16 % 16; { o0 := pinEncode d c.seed c.k2.mat (panOf (c.inv.inp 1)) pin, drawn := pinDrawn d }) := by
  show (match pinOf c with | none => _ | some pin => _) = _
  rw [h]

theorem pinVerifyOffset_invalid (h : pinOf c = none) : fnPinVerifyOffset.compute c = { st := .pinBlockInvalid } := by
  simp only [fnPinVerifyOffset, h]

theorem pinVerifyOffset_pin (h : pinOf c = some pin) :
    fnPinVerifyOffset.compute c = (let n := c.inv.opts / 16 % 16
      let sum := List.zipWith (fun a b => (a + b) % 10) (naturalPin c.k2.mat (c.inv.inp 2) c.inv.p1 n) (panOf (c.inv.inp 3))
      { st := if n ≤ pin.length ∧ sum = pin.take n then .ok else .pinMismatch }) := by
  simp only [fnPinVerifyOffset, h]

theorem pinVerifyPvv_invalid (h : pinOf c = none) : fnPinVerifyPvv.compute c = { st := .pinBlockInvalid } := by
  simp only [fnPinVerifyPvv, h]

theorem pinVerifyPvv_pin (h : pinOf c = some pin) :
    fnPinVerifyPvv.compute c = (let ds := (panOf (c.inv.inp 1)).dropLast
      let tsp := ds.drop (ds.length - 11) ++ [c.inv.opts / 16 % 16] ++ pin.take 4
      let pvv := decimaliseScan 4 (nibbles (tdesEnc c.k2.mat (packNibbles tsp)))
      { st := if pvv = panOf (c.inv.inp 2) then .ok else .pinMismatch }) := by
  simp only [fnPinVerifyPvv, h]

theorem pinGenerateOffset_invalid (h : pinOf c = none) : fnPinGenerateOffset.compute c = { st := .pinBlockInvalid } := by
  simp only [fnPinGenerateOffset, h]

theorem pinGenerateOffset_short (h : pinOf c = some pin) (hl : pin.length < c.inv.opts / 16 % 16) :
    fnPinGenerateOffset.compute c = { st := .pinBlockInvalid } := by
  simp only [fnPinGenerateOffset, h]
  exact if_pos hl

theorem pinGenerateOffset_pin (h : pinOf c = some pin) (hl : c.inv.opts / 16 % 16 ≤ pin.length) :
    fnPinGenerateOffset.compute c = (let n := c.inv.opts / 16 % 16
      { o0 := digitBytes (List.zipWith (fun p a => (p + 10 - a) % 10) (pin.take n) (naturalPin c.k2.mat (c.inv.inp 2) c.inv.p1 n)) }) := by
  simp only [fnPinGenerateOffset, h]
  exact if_neg (by omega)

end

/-! ### MACs and cards (R120-R125) -/

/-- What a verification answers is an outcome, whichever way it goes. -/
theorem judged_outcome {p : Prop} [Decidable p] {bad : Status} (hb : bad.isOutcome = true) :
    (if p then Status.ok else bad) = .ok ∨ (if p then Status.ok else bad).isOutcome = true := by
  by_cases h : p
  · exact .inl (if_pos h)
  · exact .inr (by rw [if_neg h, hb])

section
variable {c : FnCtx}

theorem macTranslate_match
    (h : macOf (c.inv.p1 % 65536) (effK1 c .macRequest (c.inv.p1 % 65536 % 16 != 3)).mat (c.inv.inp 0) = c.inv.inp 1) :
    fnMacTranslate.compute c = { o0 := macOf (c.inv.p1 / 65536) c.k2.mat (if bit c.inv.opts 0 then c.inv.inp 2 else c.inv.inp 0) } :=
  if_pos h

theorem macTranslate_mismatch
    (h : macOf (c.inv.p1 % 65536) (effK1 c .macRequest (c.inv.p1 % 65536 % 16 != 3)).mat (c.inv.inp 0) ≠ c.inv.inp 1) :
    fnMacTranslate.compute c = { st := .macMismatch, usedK2 := false } :=
  if_neg h

theorem arpcGenerate_compute :
    fnArpcGenerate.compute c = (let sk := emvSession c.k1 (c.inv.inp 0) (c.inv.inp 1) (c.inv.inp 2)
      { o0 := if c.inv.opts % 4 = 1 then tdesEnc sk (xorB (c.inv.inp 3) (c.inv.inp 4 ++ zeros 6))
              else (emvMac c.k1 sk (c.inv.inp 3 ++ c.inv.inp 4 ++ c.inv.inp 5)).take 4 }) := by
  dsimp only [fnArpcGenerate]
  split <;> rfl

end

/-- Settles O51: each function by its computation, under the steps that a service request runs it by. -/
theorem cardFunctionsAnswer : Obligations.CardFunctionsAnswer := by
  unfold Obligations.CardFunctionsAnswer
  intro n x k1 k2 s t
  refine ⟨fun h => ⟨fun hp => ?translate0, fun pin hp => ?translate⟩, fun h => ⟨fun hp => ?offset0, fun pin hp => ?offset⟩,
    fun h => ⟨fun hp => ?pvv0, fun pin hp => ?pvv⟩, fun h => ⟨fun hp => ?generate0, fun pin hp => ⟨fun hl => ?short, fun hl => ?generate⟩⟩,
    fun h => ?mac, fun h => ?macVerify, fun h => ⟨fun hm => ?macSame, fun hm => ?macOther⟩,
    ⟨fun h => ?arqc, fun h => ?arpc⟩, ⟨fun h => ?cardVerify, fun h => ?card⟩, fun h => ?dukpt⟩
  case translate0 => exact served_answers (Rows.pinTranslate n s) h rfl (by decide) (by decide) (by decide) (pinTranslate_invalid hp)
  case translate => exact served_answers (Rows.pinTranslate n s) h rfl (by decide) (by decide) (by decide) (pinTranslate_pin hp)
  case offset0 => exact served_answers (Rows.pinVerifyOffset n s) h rfl (by decide) (by decide) (by decide) (pinVerifyOffset_invalid hp)
  case offset => exact served_answers (Rows.pinVerifyOffset n s) h rfl (by decide) (by decide) (by decide) (pinVerifyOffset_pin hp)
  case pvv0 => exact served_answers (Rows.pinVerifyPvv n s) h rfl (by decide) (by decide) (by decide) (pinVerifyPvv_invalid hp)
  case pvv => exact served_answers (Rows.pinVerifyPvv n s) h rfl (by decide) (by decide) (by decide) (pinVerifyPvv_pin hp)
  case generate0 => exact served_answers (Rows.pinGenerateOffset n s) h rfl (by decide) (by decide) (by decide) (pinGenerateOffset_invalid hp)
  case short => exact served_answers (Rows.pinGenerateOffset n s) h rfl (by decide) (by decide) (by decide) (pinGenerateOffset_short hp hl)
  case generate => exact served_answers (Rows.pinGenerateOffset n s) h rfl (by decide) (by decide) (by decide) (pinGenerateOffset_pin hp hl)
  case mac =>
    exact served_bulk0 (Rows.macGenerate n s) h rfl (by decide) (by decide) (by decide) (.inl (by decide)) rfl (.inl rfl) rfl rfl
  case macVerify =>
    exact served_bulk0 (Rows.macVerify n s) h rfl (by decide) (by decide) (by decide) (.inl (by decide)) rfl (judged_outcome rfl) rfl rfl
  case macSame =>
    exact served_bulk0 (Rows.macTranslate n s) h rfl (by decide) (by decide) (by decide) (.inl (by decide)) (macTranslate_match hm) (.inl rfl) rfl rfl
  case macOther =>
    exact served_bulk0 (Rows.macTranslate n s) h rfl (by decide) (by decide) (by decide) (.inl (by decide)) (macTranslate_mismatch hm) (.inr rfl) rfl rfl
  case arqc => exact served_answers (Rows.arqcVerify n s) h rfl (by decide) (by decide) (by decide) rfl
  case arpc => exact served_answers (Rows.arpcGenerate n s) h rfl (by decide) (by decide) (by decide) arpcGenerate_compute
  case cardVerify => exact served_answers (Rows.cardValueVerify n s) h rfl (by decide) (by decide) (by decide) rfl
  case card => exact served_answers (Rows.cardValueGenerate n s) h rfl (by decide) (by decide) (by decide) rfl
  case dukpt => exact served_answers (Rows.dukptDerive n s) h rfl (by decide) (by decide) (by decide) rfl

end Sys2Proof.Proofs

end

section
/-! What the data and key functions answer (O52). -/

namespace Sys2Proof.Proofs

open Sys2Proof Sys2Proof.Machine Sys2Proof.Laws

/-! ### Ciphers (R130, R131) -/

section
variable {x : Item} {k1 k2 : KeyRec} {t : State}

@[simp] theorem fnCtx_opts : (t.fnCtx x none k1 k2).inv.opts = x.inv.opts := by
  unfold State.fnCtx
  cases x.unver <;> rfl

theorem fnCtx_whole (h : isContinue x.inv = false) : isContinue (t.fnCtx x none k1 k2).inv = false := by
  unfold isContinue at h ⊢
  rw [fnCtx_opts, h]

end

section
variable {c : FnCtx}

theorem aeadSeal_ok (h : isContinue c.inv = false) : (aeadCompute true c).st = .ok := by
  unfold aeadCompute; dsimp only
  rw [h]; rfl

/-- What is opened whole answers whether its tag agrees, and draws nothing. -/
theorem aeadOpen_judges (h : isContinue c.inv = false) :
    ((aeadCompute false c).st = .ok ∨ (aeadCompute false c).st = .tagMismatch) ∧ (aeadCompute false c).drawn = 0 := by
  unfold aeadCompute; dsimp only
  rw [h]
  simp only [Bool.false_and, Bool.false_eq_true, or_self, if_false]
  generalize aeadTagLen c.inv = tl
  cases c.ctx <;> dsimp only <;> split
  all_goals simp

theorem bulkCompute_fresh {dec : Bool} {k : Bytes} (h : c.ctx = none) :
    bulkCompute dec k c = (let m := c.inv.opts % 16
      let st0 : CipherCtx := { fn := c.inv.fn, opts := c.inv.opts % 0x4000, k1 := c.inv.k1, k2 := c.inv.k2,
                               chain := if m = 4 then aesEnc c.k2.mat (c.inv.inp 1) else c.inv.inp 1 }
      let r := bulkRun dec m k st0 (c.inv.inp 0)
      { o0 := r.1, ctx := some r.2 }) := by
  unfold bulkCompute bulkStart; rw [h]

end

/-! ### Keys (R142, R143) -/

section
variable {c : FnCtx}

theorem keyGenerate_symmetric (h : algSym (newKeyParams c.inv).alg = true) :
    fnKeyGenerate.compute c = (let n := newKeyParams c.inv; { newKey := some { n with mat := freeBytes c.seed n.len }, drawn := n.len }) := by
  dsimp only [fnKeyGenerate]
  rw [h]; rfl

/-- A KEY_GENERATE that the public-key engines do not take names a symmetric algorithm (Table 3.8). -/
theorem generate_symmetric {x : Item} {k1 k2 : KeyRec} {t : State} (hf : x.inv.fn = 0x0A01) (hp : isPkFn x.inv = false) :
    algSym (newKeyParams (t.fnCtx x none k1 k2).inv).alg = true := by
  have halg : (newKeyParams (t.fnCtx x none k1 k2).inv).alg = x.inv.p2 % 256 := by
    show (t.fnCtx x none k1 k2).inv.p2 % 2 ^ 32 % 256 = _
    have hp2 : (t.fnCtx x none k1 k2).inv.p2 = x.inv.p2 := by unfold State.fnCtx; cases x.unver <;> rfl
    rw [hp2]; omega
  rw [halg]
  unfold isPkFn at hp
  simpa [hf] using hp

theorem keyImportBlock_unwraps {k : NewKey} (hu : unwrapKey (c.inv.opts % 16) c.k1 (c.inv.inp 0) c.inv.p2 c.inv.p3 = .ok k)
    (hf : newKeyFail k none c.symRoom = none) (hw : wrapStrength (k.alg, k.len) c.k1 .usageNotPermitted = none) :
    fnKeyImportBlock.compute c = { newKey := some k } := by
  dsimp only [fnKeyImportBlock]
  rw [hu]; dsimp only; rw [hf, hw]

theorem keyImportBlock_fails {st : Status} (hu : unwrapKey (c.inv.opts % 16) c.k1 (c.inv.inp 0) c.inv.p2 c.inv.p3 = .error st) :
    fnKeyImportBlock.compute c = { st := st } := by
  dsimp only [fnKeyImportBlock]
  rw [hu]

end

/-! ### Saved contexts (R132, R333, R334) -/

section
variable {code n : Nat} {x : Item} {s : State}

theorem runs_fn (h : Runs code n x s) : x.inv.fn = code := by
  obtain ⟨-, -, -, -, -, -, -, hfn, -⟩ := h
  exact hfn

/-- What the function of a saved context answers finishes its request: it has no keys and no quanta. -/
theorem serviceRun_context {o : FnOut} {t : State} (h : Runs code n x s) (hc : code = 0x0605 ∨ code = 0x0606) (hx : s.contextFn n x.inst x.inv = (o, t)) :
    s.serviceRun n = (t.modItem n (fun y => { y with invoked := some x.inv })).finishService n o none := by
  obtain ⟨hw, hi, ha, hs, ht, hj, hwait, hfn, hform⟩ := h
  have hp : isPkFn x.inv = false := by
    unfold isPkFn; rw [hfn]
    rcases hc with hc | hc <;> rw [hc] <;> rfl
  have hpiece : [0x0601, 0x0602, 0x0603, 0x0604].contains code = false := by rcases hc with hc | hc <;> rw [hc] <;> rfl
  have hb : bulkFns.contains code = false := by rcases hc with hc | hc <;> rw [hc] <;> rfl
  have hres : s.resumeStep n x.inst x.inv = .ok none := by
    unfold State.resumeStep; rw [hfn, hpiece]; rfl
  have hk : s.runKeys n x.inst x.inv x.unver false = (some o, t) := by
    unfold State.runKeys; rw [hres]; dsimp only
    rw [if_pos (by rw [hfn]; exact hc), hx]
  exact serviceRun_finishes ⟨hw, hi, ha, hs, ht, hj, hwait, hfn, hform⟩ hp hk (.inl hb)

theorem contextFn_export {e : Nat} {y : CipherCtx} (hfn : x.inv.fn = 0x0605) (hu : x.unver = false) (hc : s.ctxOf x.inst (x.inv.p1 % 2 ^ 32) = some (e, y))
    (hh : y.holder = none) (h3 : y.fn ≠ 0x0603) (hctr : y.fn = 0x0604 ∨ y.opts % 16 ≠ 3) (hr : s.rngOk = true) :
    s.contextFn n x.inst x.inv = (let o : FnOut := { o0 := ctxSeal (s.contextKey x.inst) y x.inst (s.drawn 12), drawn := 12 }
      (o, (s.computed x o).freeCtx e)) := by
  have hextra : (s.fnCtx x (some y) {} {}).extra = ctxSeal (s.contextKey x.inst) y x.inst (s.drawn 12) := by
    show s.prepared x.inst x.inv (some y) = _
    unfold State.prepared; rw [hfn]; rfl
  have hcomp := computeStep_eq (x := x) (cx := some y) (k1 := {}) (k2 := {}) (f := fnContextExport) (by rw [hfn]; rfl) rfl (fun _ => hr)
  rw [hu] at hcomp
  unfold State.contextFn
  rw [if_pos hfn, hc]; dsimp only
  have hopen : ¬(y.fn = 0x0603 ∨ (y.fn != 0x0604 && y.opts % 16 == 3) = true) := by
    rcases hctr with hctr | hctr <;> simp [h3, hctr]
  rw [hh, if_neg (by simp), if_neg hopen, hcomp]
  dsimp only [fnContextExport]
  rw [hextra]
  rfl

theorem contextFn_import0 (hfn : x.inv.fn = 0x0606) (ho : ctxOpen (s.contextKey x.inst) x.inst (x.inv.inp 0) = none) :
    s.contextFn n x.inst x.inv = ({ st := .tagMismatch }, s) := by
  unfold State.contextFn
  rw [if_neg (by rw [hfn]; decide), ho]

theorem contextFn_import {y : CipherCtx} {id : Nat} {u : State} (hfn : x.inv.fn = 0x0606)
    (ho : ctxOpen (s.contextKey x.inst) x.inst (x.inv.inp 0) = some y) (hn : s.newCtx x.inst y = some (id, u)) :
    s.contextFn n x.inst x.inv = ({ o0 := be 4 id }, u) := by
  unfold State.contextFn
  rw [if_neg (by rw [hfn]; decide), ho]; dsimp only
  rw [hn]

/-- A row of a saved context's function leads to what the function answers. -/
theorem context_row {i : Instr} {o : FnOut} {t : State} (hx : exec i s = run (fun s => (s.fnRow code n).settle) s) (h : Runs code n x s)
    (hc : code = 0x0605 ∨ code = 0x0606) (ho : s.contextFn n x.inst x.inv = (o, t)) :
    Leads i s ((t.modItem n (fun y => { y with invoked := some x.inv })).finishService n o none) :=
  leads_of hx ((fnRow_runs h).trans (serviceRun_context h hc ho))

end

/-- Settles O52: each function by its computation, the contexts by what sealing and opening give. -/
theorem dataFunctionsAnswer : Obligations.DataFunctionsAnswer := by
  unfold Obligations.DataFunctionsAnswer
  refine ⟨fun n x k1 k2 s t => ⟨fun h => ?derive, fun h => ?tokenise, fun h => ?detokenise, ⟨fun h hp => ?encrypt, fun h hp => ?decrypt⟩,
    fun h hp => ?sealed, fun h hp => ?opened, fun h => ?hash, ⟨fun h => ?hmac, fun h => ?hmacVerify⟩, fun h => ?generate,
    fun k h hu hf hw => ?imports, fun st h hu => ?importFails, fun h => ?exports, fun h => ?check, fun h => ?random, fun h => ?reseed⟩,
    fun n e x y s h hu hc hh h3 hctr hr => ?exportContext, fun n x s h => ⟨fun ho => ?importFails', fun y id u ho hn => ?importContext⟩⟩
  case derive => exact served_answers (Rows.keyDerive n s) h rfl (by decide) (by decide) (by decide) rfl
  case tokenise => exact served_answers (Rows.tokenise n s) h rfl (by decide) (by decide) (by decide) rfl
  case detokenise => exact served_answers (Rows.detokenise n s) h rfl (by decide) (by decide) (by decide) rfl
  case encrypt =>
    exact served_bulk0 (Rows.encrypt n s) h rfl (by decide) (by decide) (by decide) (.inr hp) (bulkCompute_fresh rfl) (.inl rfl) rfl rfl
  case decrypt =>
    exact served_bulk0 (Rows.decrypt n s) h rfl (by decide) (by decide) (by decide) (.inr hp) (bulkCompute_fresh rfl) (.inl rfl) rfl rfl
  case sealed =>
    have hok := aeadSeal_ok (fnCtx_whole (k1 := k1) (k2 := k2) (t := t) hp)
    exact ⟨hok, served_bulk (Rows.aeadSeal n s) h rfl (by decide) (by decide) (by decide) (.inr hp) rfl (.inl hok)⟩
  case opened =>
    have hwhole := fnCtx_whole (k1 := k1) (k2 := k2) (t := t) hp
    obtain ⟨hout, hdrawn⟩ := aeadOpen_judges hwhole
    have hbulk : (aeadCompute false (t.fnCtx x none k1 k2)).st = .ok ∨ (aeadCompute false (t.fnCtx x none k1 k2)).st.isOutcome = true :=
      hout.imp_right (fun ht => by rw [ht]; rfl)
    exact ⟨hout, served_bulk0 (Rows.aeadOpen n s) h rfl (by decide) (by decide) (by decide) (.inr hp) rfl hbulk rfl hdrawn⟩
  case hash =>
    exact served_bulk0 (Rows.hash n s) h rfl (by decide) (by decide) (by decide) (.inl (by decide)) rfl (.inl rfl) rfl rfl
  case hmac =>
    exact served_bulk0 (Rows.hmacGenerate n s) h rfl (by decide) (by decide) (by decide) (.inl (by decide)) rfl (.inl rfl) rfl rfl
  case hmacVerify =>
    exact served_bulk0 (Rows.hmacVerify n s) h rfl (by decide) (by decide) (by decide) (.inl (by decide)) rfl (judged_outcome rfl) rfl rfl
  case generate =>
    exact served_answers (Rows.keyGenerate n s) h rfl (by decide) (by decide) (by decide) (keyGenerate_symmetric (generate_symmetric h.2.2.1 h.2.1))
  case imports =>
    exact served_answers (Rows.keyImportBlock n s) h rfl (by decide) (by decide) (by decide) (keyImportBlock_unwraps hu hf hw)
  case importFails =>
    exact served_answers (Rows.keyImportBlock n s) h rfl (by decide) (by decide) (by decide) (keyImportBlock_fails hu)
  case exports => exact served_answers (Rows.keyExportBlock n s) h rfl (by decide) (by decide) (by decide) rfl
  case check => exact served_answers (Rows.keyCheckValue n s) h rfl (by decide) (by decide) (by decide) rfl
  case random => exact served_answers (Rows.random n s) h rfl (by decide) (by decide) (by decide) rfl
  case reseed => exact served_answers (Rows.drbgReseed n s) h rfl (by decide) (by decide) (by decide) rfl
  case exportContext =>
    have hfn : x.inv.fn = 0x0605 := runs_fn h
    exact context_row (Rows.contextExport n s) h (.inl rfl) (contextFn_export hfn hu hc hh h3 hctr hr)
  case importFails' =>
    have hfn : x.inv.fn = 0x0606 := runs_fn h
    exact context_row (Rows.contextImport n s) h (.inr rfl) (contextFn_import0 hfn ho)
  case importContext =>
    have hfn : x.inv.fn = 0x0606 := runs_fn h
    exact context_row (Rows.contextImport n s) h (.inr rfl) (contextFn_import hfn ho hn)

end Sys2Proof.Proofs

end

section
/-! What the public-key functions ask for and what their jobs answer (O53). -/

namespace Sys2Proof.Proofs

open Sys2Proof Sys2Proof.Machine Sys2Proof.Laws

section
variable {code n : Nat} {x : Item} {s : State}

/-- The codes that the public-key engines alone serve (R342). -/
def pkCodes : List Nat := [0x0801, 0x0802, 0x0901, 0x0902, 0x0903, 0x0C01]

theorem isPkFn_code (hm : code ∈ pkCodes) (h : x.inv.fn = code) : isPkFn x.inv = true := by
  have hc : [0x0801, 0x0802, 0x0901, 0x0902, 0x0903, 0x0C01].contains x.inv.fn = true := by
    rw [h]; exact List.elem_eq_true_of_mem hm
  unfold isPkFn; rw [hc]; rfl

/-- A row whose function is on the public-key engines asks for its job. -/
theorem pk_asks {i : Instr} (hx : exec i s = run (fun s => (s.fnRow code n).settle) s) (h : Runs code n x s) (hp : isPkFn x.inv = true) :
    Leads i s (s.requestJob n x.inst x.frond x.inv false) := by
  obtain ⟨hw, hi, ha, hs, ht, hj, hwait, hfn, hform⟩ := h
  exact leads_of hx ((fnRow_serves ⟨hw, hi, ha, hs, ht, hj, hfn⟩).trans (serviceRun_job hi hwait hform hp))

/-- A job's function computes its answer; the job itself is charged in segments, and the request for nothing. -/
theorem pk_gives {k1 k2 : KeyRec} {t : State} {f : FnSpec} {o : FnOut} (h : Supplied code n x none k1 k2 s t) (hm : code ∈ pkCodes)
    (hf : fnSpec code = some f) (ho : f.compute (t.fnCtx x none k1 k2) = o) :
    s.runKeys n x.inst x.inv x.unver false = (some o, (t.computed x o).charge x.inst 0 0 0) := by
  have hcost : cipherCost x.inv = 0 := by unfold cipherCost; rw [isPkFn_code hm h.1]; rfl
  have hlist : code ≠ 0x0605 ∧ code ≠ 0x0606 ∧ [0x0601, 0x0602, 0x0603, 0x0604].contains code = false := by
    simp only [pkCodes, List.mem_cons, List.mem_nil_iff, or_false] at hm
    rcases hm with rfl | rfl | rfl | rfl | rfl | rfl <;> decide
  obtain ⟨h5, h6, hpiece⟩ := hlist
  rw [runKeys_supplied h hf h5 h6, hpiece, hcost]
  simp only [Option.map, ho]
  rfl

end

section
variable {c : FnCtx}

theorem sign_answers (h : Config.signIterations c.k1.alg c.k1.len c.k1.mat (c.inv.inp 0) (freeBytes c.seed 96) ≤ 256) :
    fnSign.compute c = (let sig := Config.pkSign c.k1.alg c.k1.len c.inv.opts c.k1.mat (c.inv.inp 0) (c.inv.inp 1) (freeBytes c.seed 96)
      if Config.pkVerify c.k1.alg c.k1.len c.inv.opts (Config.pkPublic c.k1.alg c.k1.len c.k1.mat) (c.inv.inp 0) (c.inv.inp 1) sig
      then { o0 := sig, drawn := 96 } else { st := .hwFault, drawn := 96 }) :=
  if_neg (Nat.not_lt.mpr h)

theorem sign_limit (h : 256 < Config.signIterations c.k1.alg c.k1.len c.k1.mat (c.inv.inp 0) (freeBytes c.seed 96)) :
    fnSign.compute c = { st := .signRetryLimit, drawn := 96 } :=
  if_pos h

theorem keyAgree_agrees {z : Bytes} (h : Config.ecdh c.k1.alg c.k1.len c.k1.mat (c.inv.inp 0) = some z) :
    fnKeyAgree.compute c = { newKey := some (agreedKey c.inv z) } := by
  dsimp only [fnKeyAgree]; rw [h]; rfl

theorem keyAgree_fails (h : Config.ecdh c.k1.alg c.k1.len c.k1.mat (c.inv.inp 0) = none) :
    fnKeyAgree.compute c = { st := .badFieldValue } := by
  dsimp only [fnKeyAgree]; rw [h]

end

/-- An attestation's statement is prepared for the function (R147). -/
theorem attest_extra {x : Item} {k1 k2 : KeyRec} {t : State} (h : x.inv.fn = 0x0C01) :
    (t.fnCtx x none k1 k2).extra = t.statement (bit x.inv.opts 0) x.inst (x.inv.inp 0) t.free := by
  show t.prepared x.inst x.inv none = _
  unfold State.prepared; rw [if_pos h]

/-- Settles O53: the rows ask for jobs, and each job's function answers by its computation. -/
theorem publicKeyFunctionsAnswer : Obligations.PublicKeyFunctionsAnswer := by
  unfold Obligations.PublicKeyFunctionsAnswer
  intro n x k1 k2 s t
  have fixed {i : Instr} {code : Nat} (hx : exec i s = run (fun s => (s.fnRow code n).settle) s) (hm : code ∈ pkCodes) (h : Runs code n x s) :
      Leads i s (s.requestJob n x.inst x.frond x.inv false) := pk_asks hx h (isPkFn_code hm (runs_fn h))
  refine ⟨fun h => ?sign, fun h => ?verify, fun h => ?agree, fun h => ?encaps, fun h => ?decaps, fun h => ?attest,
    fun h hp => ?generate, fun h hp => ?imports, fun h hp => ?exports, fun h hi => ?signed, fun h hi => ?limit, fun h => ?verified,
    fun h => ⟨fun z hz => ?agreed, fun hz => ?disagreed⟩, fun h => ?encapsulated, fun h => ?decapsulated, fun h => ?statement⟩
  case sign => exact fixed (Rows.sign n s) (by decide) h
  case verify => exact fixed (Rows.verify n s) (by decide) h
  case agree => exact fixed (Rows.keyAgree n s) (by decide) h
  case encaps => exact fixed (Rows.kemEncaps n s) (by decide) h
  case decaps => exact fixed (Rows.kemDecaps n s) (by decide) h
  case attest => exact fixed (Rows.attest n s) (by decide) h
  case generate => exact pk_asks (Rows.keyGenerate n s) h hp
  case imports => exact pk_asks (Rows.keyImportBlock n s) h hp
  case exports => exact pk_asks (Rows.keyExportBlock n s) h hp
  case signed => exact pk_gives h (by decide) rfl (sign_answers hi)
  case limit => exact pk_gives h (by decide) rfl (sign_limit hi)
  case verified => exact pk_gives h (by decide) rfl rfl
  case agreed => exact pk_gives h (by decide) rfl (keyAgree_agrees hz)
  case disagreed => exact pk_gives h (by decide) rfl (keyAgree_fails hz)
  case encapsulated => exact pk_gives h (by decide) rfl rfl
  case decapsulated => exact pk_gives h (by decide) rfl rfl
  case statement => exact pk_gives h (by decide) rfl (by rw [← attest_extra h.1]; rfl)

end Sys2Proof.Proofs

end

section
/-! Stitches that read and write messages (O54), and APPLY (O55): what each stitch does once its row has found it. -/

namespace Sys2Proof.Proofs

open Sys2Proof Sys2Proof.Machine Sys2Proof.Laws

/-! ### How a stitch ends (R190, R196-R198) -/

section
variable {n cost ix : Nat} {x : Item} {t : Stitch} {st : Status} {s : State}

theorem endStitch_goes_on (hi : s.item? n = some x) (h : st = .ok ∨ bit t.flags 7 = true) :
    s.endStitch n t st cost = ((s.fieldOps n (1 + cost)).modItem n (fun x => { x with st := st.code })).modItem n (fun x => { x with ix := x.ix + 1 }) := by
  unfold State.endStitch; rw [hi]; dsimp only
  exact if_pos (by simpa using h)

theorem endStitch_fails (hi : s.item? n = some x) (h : st ≠ .ok) (hf : bit t.flags 7 = false) :
    s.endStitch n t st cost = ((s.fieldOps n (1 + cost)).modItem n (fun x => { x with st := st.code })).takeFailure n x.ix := by
  unfold State.endStitch; rw [hi]; dsimp only
  exact if_neg (by simp [h, hf])

theorem takeFailure_handler (hi : s.item? n = some x) (hd : (s.itemSeam x).disp = 2) (hx : ix < (s.itemSeam x).handler) :
    s.takeFailure n ix = (s.seamStat x 4).modItem n (fun y => { y with ix := (s.itemSeam x).handler }) := by
  unfold State.takeFailure; rw [hi]
  exact if_pos ⟨hd, hx⟩

theorem takeFailure_discards (hi : s.item? n = some x) (h : (s.itemSeam x).disp ≠ 2 ∨ (s.itemSeam x).handler ≤ ix) :
    s.takeFailure n ix = s.discard n (if (s.itemSeam x).disp = 0 then none else some x.st) := by
  unfold State.takeFailure; rw [hi]
  exact if_neg (by omega)

end

/-! ### EXTRACT and SELECT_KEY (R183, R185) -/

section
variable {n : Nat} {x : Item} {t : Stitch} {s : State}

/-- What EXTRACT finds: the range that its stitch names of what its selector reads. -/
def extracted (x : Item) (t : Stitch) (s : State) : Option Bytes :=
  match (s.readOf x t.a).1 with
  | none => none
  | some b => extractRange b t.imm

theorem extracted_none (h : (s.readOf x t.a).1 = none ∨ ∃ b, (s.readOf x t.a).1 = some b ∧ extractRange b t.imm = none) : extracted x t s = none := by
  unfold extracted
  rcases h with h | ⟨b, h, hb⟩
  · rw [h]
  · rw [h]; exact hb

theorem extracted_some {b w : Bytes} (h : (s.readOf x t.a).1 = some b) (hw : extractRange b t.imm = some w) : extracted x t s = some w := by
  unfold extracted; rw [h]; exact hw

theorem extractStitch_eq :
    s.extractStitch n x t = (match extracted x t s with
      | none =>
        (if bit t.flags 0 then s else s.modItem n (fun x => { x with vars := x.vars.erase (selNum t.b) })).endStitch n t .ok ((s.readOf x t.a).2 + 1)
      | some v => match extractConv (bits t.imm 35 32) v with
        | none => s.endStitch n t .badFieldValue (s.readOf x t.a).2
        | some v =>
          match s.writeOf n t.b (if bit t.flags 0 then x.vars.getD (selNum t.b) [] ++ v else v) with
          | .error e => s.endStitch n t e (s.readOf x t.a).2
          | .ok s' => s'.endStitch n t .ok ((s.readOf x t.a).2 + 1)) := rfl

theorem extractStitch_absent (h : extracted x t s = none) (hf : bit t.flags 0 = false) :
    s.extractStitch n x t = (s.modItem n (fun x => { x with vars := x.vars.erase (selNum t.b) })).endStitch n t .ok ((s.readOf x t.a).2 + 1) := by
  rw [extractStitch_eq, h, hf]; rfl

theorem extractStitch_unconverted {w : Bytes} (h : extracted x t s = some w) (hc : extractConv (bits t.imm 35 32) w = none) :
    s.extractStitch n x t = s.endStitch n t .badFieldValue (s.readOf x t.a).2 := by
  rw [extractStitch_eq, h]; dsimp only; rw [hc]

theorem extractStitch_written {w y : Bytes} {d : State} (h : extracted x t s = some w) (hc : extractConv (bits t.imm 35 32) w = some y)
    (hw : s.writeOf n t.b (if bit t.flags 0 then x.vars.getD (selNum t.b) [] ++ y else y) = .ok d) :
    s.extractStitch n x t = d.endStitch n t .ok ((s.readOf x t.a).2 + 1) := by
  rw [extractStitch_eq, h]; dsimp only; rw [hc]; dsimp only; rw [hw]

theorem selectKeyStitch_eq :
    s.selectKeyStitch n x t = (let a := s.readOf x t.a
      let b := s.readOf x t.b
      match (s.tableOf x t.ix).lookup (a.1.getD [] ++ b.1.getD []) with
      | none => s.endStitch n t .keyNotFound (a.2 + b.2 + 1)
      | some h => (s.modItem n (fun x => { x with kreg := x.kreg.set (t.imm % 8) h })).endStitch n t .ok (a.2 + b.2 + 1)) := rfl

/-! ### REWRITE (R184) -/

theorem rewriteStitch_unset (hf : bit t.flags 0 = true) (hk : selKind t.b = 8) :
    s.rewriteStitch n x t = (s.modItem n (fun x => { x with vars := x.vars.erase (selNum t.b) })).endStitch n t .ok 1 :=
  (if_pos hf).trans (if_pos hk)

theorem rewriteStitch_removed {m m' : Msg} (hm : x.msg = some m) (hf : bit t.flags 0 = true) (hk : selKind t.b ≠ 8)
    (hr : selRemove (s.itemCfg x).pats.ebcdic (s.itemPat x) m t.b = .ok m') :
    s.rewriteStitch n x t = (s.modItem n (fun x => { x with msg := some m' })).endStitch n t .ok 1 := by
  refine (if_pos hf).trans ((if_neg hk).trans ?_)
  rw [hm]; dsimp only; rw [hr]

/-- What REWRITE writes, and what reading it costs. -/
def rewriteSource (x : Item) (t : Stitch) (s : State) : Option Bytes × Nat := if t.a = 0 then (some (constBytes t.imm), 0) else s.readOf x t.a

theorem rewriteStitch_writes (hf : bit t.flags 0 = false) :
    s.rewriteStitch n x t = (let r := rewriteSource x t s
      match s.writeOf n t.b (r.1.getD []) with
      | .error e => s.endStitch n t e (r.2 + selCost t.b (r.1.getD []).length)
      | .ok s => s.endStitch n t .ok (r.2 + selCost t.b (r.1.getD []).length)) :=
  if_neg (by simp [hf])

theorem rewriteStitch_written {d : State} (hf : bit t.flags 0 = false) (hw : s.writeOf n t.b ((rewriteSource x t s).1.getD []) = .ok d) :
    s.rewriteStitch n x t = d.endStitch n t .ok ((rewriteSource x t s).2 + selCost t.b ((rewriteSource x t s).1.getD []).length) := by
  rw [rewriteStitch_writes hf]; dsimp only; rw [hw]

theorem rewriteStitch_unwritten {e : Status} (hf : bit t.flags 0 = false) (hw : s.writeOf n t.b ((rewriteSource x t s).1.getD []) = .error e) :
    s.rewriteStitch n x t = s.endStitch n t e ((rewriteSource x t s).2 + selCost t.b ((rewriteSource x t s).1.getD []).length) := by
  rw [rewriteStitch_writes hf]; dsimp only; rw [hw]

/-! ### SKIP_IF, ROUTE and SET_FLOW (R189, R191, R199) -/

theorem skipStitch_stays (h : x.c = bit t.flags 0) : s.skipStitch n x t = (s.nextStitch n 0).modItem n (fun x => x) := by
  have hn : (x.c != bit t.flags 0) = false := by simp [h]
  unfold State.skipStitch; dsimp only; rw [hn]; rfl

theorem skipStitch_skips (h : x.c ≠ bit t.flags 0) :
    s.skipStitch n x t = (s.nextStitch n 0).modItem n (fun x => { x with ix := x.ix + t.imm % 64 }) := by
  have hn : (x.c != bit t.flags 0) = true := by simp [h]
  unfold State.skipStitch; dsimp only; rw [hn]; rfl

theorem routeStitch_fixed (h : bit t.flags 0 = false) :
    s.routeStitch n x t = (s.modItem n (fun x => { x with dest := some (t.imm % 4096) })).endStitch n t .ok 0 :=
  if_neg (by simp [h])

theorem routeStitch_looked_up (h : bit t.flags 0 = true) :
    s.routeStitch n x t = (let r := s.readOf x t.a
      match (s.tableOf x t.ix).lookup (r.1.getD []) with
      | none => s.endStitch n t .noRoute (r.2 + 1)
      | some d => (s.modItem n (fun x => { x with dest := some (d % 4096) })).endStitch n t .ok (r.2 + 1)) :=
  if_pos h

theorem routeStitch_unrouted (h : bit t.flags 0 = true) (hl : (s.tableOf x t.ix).lookup ((s.readOf x t.a).1.getD []) = none) :
    s.routeStitch n x t = s.endStitch n t .noRoute ((s.readOf x t.a).2 + 1) := by
  rw [routeStitch_looked_up h]; dsimp only; rw [hl]

theorem routeStitch_routed {d : Nat} (h : bit t.flags 0 = true) (hl : (s.tableOf x t.ix).lookup ((s.readOf x t.a).1.getD []) = some d) :
    s.routeStitch n x t = (s.modItem n (fun x => { x with dest := some (d % 4096) })).endStitch n t .ok ((s.readOf x t.a).2 + 1) := by
  rw [routeStitch_looked_up h]; dsimp only; rw [hl]

/-- The flow that SET_FLOW names, which the item joins. -/
def namedFlow (x : Item) (t : Stitch) (s : State) : Nat × State :=
  s.joinFlow x.inst (bit t.flags 0) (t.imm % 65536) (((s.readOf x t.a).1.getD []).take 32)

/-- The item has gone over to the flow, and the one it has left may be empty. -/
def wentOver (n f : Nat) (x : Item) (d : State) : State :=
  let u := d.modItem n (fun x => { x with flow := f })
  if (u.inFlow x.flow).isEmpty then
    { u with disp := { u.disp with flows := u.disp.flows.modify x.flow (fun y => { y with emptyAt := u.tick.count }) } } else u

/-- The flow runs one item at a time, and one of its items is running. -/
def flowBusy (f : Nat) (d : State) : Bool := !(d.flowOf f).parallel && (d.inFlow f).any (fun e => e.2.admitted)

theorem setFlowStitch_eq :
    s.setFlowStitch n x t = (let j := namedFlow x t s
      let d := j.2.nextStitch n (s.readOf x t.a).2
      if j.1 = x.flow then d
      else if flowBusy j.1 d then
        (((wentOver n j.1 x d).modItem n (fun y => { y with moved := true, order := (wentOver n j.1 x d).nextOrder })).takeOrder).park n (setBit 0 evTurn)
      else wentOver n j.1 x d) := rfl

theorem setFlowStitch_same (h : (namedFlow x t s).1 = x.flow) :
    s.setFlowStitch n x t = (namedFlow x t s).2.nextStitch n (s.readOf x t.a).2 :=
  setFlowStitch_eq.trans (if_pos h)

theorem setFlowStitch_idle (h : (namedFlow x t s).1 ≠ x.flow)
    (hb : flowBusy (namedFlow x t s).1 ((namedFlow x t s).2.nextStitch n (s.readOf x t.a).2) = false) :
    s.setFlowStitch n x t = wentOver n (namedFlow x t s).1 x ((namedFlow x t s).2.nextStitch n (s.readOf x t.a).2) :=
  setFlowStitch_eq.trans ((if_neg h).trans (if_neg (by simp [hb])))

theorem setFlowStitch_busy (h : (namedFlow x t s).1 ≠ x.flow)
    (hb : flowBusy (namedFlow x t s).1 ((namedFlow x t s).2.nextStitch n (s.readOf x t.a).2) = true) :
    s.setFlowStitch n x t = (let e := wentOver n (namedFlow x t s).1 x ((namedFlow x t s).2.nextStitch n (s.readOf x t.a).2)
      ((e.modItem n (fun y => { y with moved := true, order := e.nextOrder })).takeOrder).park n (setBit 0 evTurn)) :=
  setFlowStitch_eq.trans ((if_neg h).trans (if_pos hb))

end

/-- A stitch's row leads to what the stitch does. -/
theorem stitch_leads {i : Instr} {op n : Nat} {x : Item} {t : Stitch} {s e : State} {f : Nat → Item → Stitch → State → State}
    (hx : exec i s = run (fun s => (s.stitchRow op f n).settle) s) (h : Stitching op n x t s) (he : f n x t s = e) : Leads i s e :=
  leads_of hx ((stitchRow_runs f h).trans he)

/-- Settles O54: how a stitch ends, and what each opcode does case by case. -/
theorem stitchesReadAndWrite : Obligations.StitchesReadAndWrite := by
  unfold Obligations.StitchesReadAndWrite
  refine ⟨fun n cost t x st s hi => ⟨endStitch_goes_on hi, endStitch_fails hi⟩,
    fun n ix x s hi => ⟨takeFailure_handler hi, takeFailure_discards hi⟩,
    fun n x t s h => ⟨fun hr hf => ?absent, fun b w hb hw hc => ?unconverted, fun b w y d hb hw hc hd => ?written⟩,
    fun n x t s h => ⟨fun hl => ?noKey, fun k hl => ?key⟩,
    fun n x t m s h hm => ⟨fun hf hk => ?unset, fun m' hf hk hr => ?removed, fun hf => ⟨fun d hd => ?rewritten, fun e he => ?unwritten⟩⟩,
    fun n x t s => ⟨fun h => ?test, fun h => ⟨fun hc => ?stays, fun hc => ?skips⟩,
      fun h => ⟨fun hf => ?fixed, fun hf => ⟨fun hl => ?unrouted, fun d hl => ?routed⟩⟩,
      fun h => ?count, fun h => ?hold, fun h hj => ?sameFlow, fun h hj => ⟨fun hb => ?idleFlow, fun hb => ?busyFlow⟩⟩⟩
  case absent => exact stitch_leads (Rows.extract n s) h (extractStitch_absent (extracted_none hr) hf)
  case unconverted => exact stitch_leads (Rows.extract n s) h (extractStitch_unconverted (extracted_some hb hw) hc)
  case written => exact stitch_leads (Rows.extract n s) h (extractStitch_written (extracted_some hb hw) hc hd)
  case noKey => exact stitch_leads (Rows.selectKey n s) h (by rw [selectKeyStitch_eq]; dsimp only; rw [hl])
  case key => exact stitch_leads (Rows.selectKey n s) h (by rw [selectKeyStitch_eq]; dsimp only; rw [hl])
  case unset => exact stitch_leads (Rows.rewrite n s) h (rewriteStitch_unset hf hk)
  case removed => exact stitch_leads (Rows.rewrite n s) h (rewriteStitch_removed hm hf hk hr)
  case rewritten => exact stitch_leads (Rows.rewrite n s) h (rewriteStitch_written hf hd)
  case unwritten => exact stitch_leads (Rows.rewrite n s) h (rewriteStitch_unwritten hf he)
  case test => exact stitch_leads (Rows.test n s) h rfl
  case stays => exact stitch_leads (Rows.skipIf n s) h (skipStitch_stays hc)
  case skips => exact stitch_leads (Rows.skipIf n s) h (skipStitch_skips hc)
  case fixed => exact stitch_leads (Rows.route n s) h (routeStitch_fixed hf)
  case unrouted => exact stitch_leads (Rows.route n s) h (routeStitch_unrouted hf hl)
  case routed => exact stitch_leads (Rows.route n s) h (routeStitch_routed hf hl)
  case count => exact stitch_leads (Rows.count n s) h rfl
  case hold => exact stitch_leads (Rows.hold n s) h rfl
  case sameFlow => exact stitch_leads (Rows.setFlow n s) h (setFlowStitch_same hj)
  case idleFlow => exact stitch_leads (Rows.setFlow n s) h (setFlowStitch_idle hj hb)
  case busyFlow => exact stitch_leads (Rows.setFlow n s) h (setFlowStitch_busy hj hb)

end Sys2Proof.Proofs

end

section
/-! APPLY (O55). -/

namespace Sys2Proof.Proofs

open Sys2Proof Sys2Proof.Machine Sys2Proof.Laws

section
variable {n : Nat} {x : Item} {t : Stitch} {s : State}

/-- How APPLY ends with an output: a deferred one goes on, another writes its outputs (R187, R205). -/
def applyEnds (n : Nat) (x : Item) (t : Stitch) (i : Invoc × Nat) (o : FnOut) (s : State) : State :=
  if bit t.flags 6 then s.deferApply n x i.1 o i.2 else s.finishApply n x t i.1 o i.2

/-- APPLY runs its function: a job that it waits for, or the steps of R105. -/
def applyRuns (n : Nat) (x : Item) (t : Stitch) (i : Invoc × Nat) (s : State) : State :=
  if isPkFn i.1 && !bit t.flags 6 then (s.modItem n (fun y => { y with invoked := some i.1 })).requestJob n x.inst x.frond i.1 true
  else match s.runKeys n x.inst i.1 false true with
    | (none, s') => s'.modItem n (fun y => { y with terms := y.terms + (s'.itemCfg x).timing.fetch })
    | (some o, s') => applyEnds n x t i o s'

theorem applyStitch_eq :
    s.applyStitch n x t = (match x.result with
      | some o => (s.modItem n (fun y => { y with result := none, invoked := none })).finishApply n x t (x.invoked.getD (s.applyInvoc x t).1) o (s.applyInvoc x t).2
      | none => match x.waitSt with
        | some st => applyEnds n x t (s.applyInvoc x t) { st := st } (s.modItem n (fun y => { y with waitSt := none }))
        | none => match s.formStep (s.applyInvoc x t).1 false with
          | some st => applyEnds n x t (s.applyInvoc x t) { st := st } s
          | none => applyRuns n x t (s.applyInvoc x t) s) := rfl

theorem applyStitch_answered {o : FnOut} (h : x.result = some o) :
    s.applyStitch n x t = (s.modItem n (fun y => { y with result := none, invoked := none })).finishApply n x t
      (x.invoked.getD (s.applyInvoc x t).1) o (s.applyInvoc x t).2 := by
  rw [applyStitch_eq, h]

theorem applyStitch_waited {st : Status} (h : x.result = none) (hw : x.waitSt = some st) :
    s.applyStitch n x t = applyEnds n x t (s.applyInvoc x t) { st := st } (s.modItem n (fun y => { y with waitSt := none })) := by
  rw [applyStitch_eq, h]; dsimp only; rw [hw]

theorem applyStitch_malformed {st : Status} (h : x.result = none) (hw : x.waitSt = none) (hf : s.formStep (s.applyInvoc x t).1 false = some st) :
    s.applyStitch n x t = applyEnds n x t (s.applyInvoc x t) { st := st } s := by
  rw [applyStitch_eq, h]; dsimp only; rw [hw]; dsimp only; rw [hf]

theorem applyStitch_runs (h : x.result = none) (hw : x.waitSt = none) (hf : s.formStep (s.applyInvoc x t).1 false = none) :
    s.applyStitch n x t = applyRuns n x t (s.applyInvoc x t) s := by
  rw [applyStitch_eq, h]; dsimp only; rw [hw]; dsimp only; rw [hf]

section
variable {i : Invoc × Nat}

theorem applyRuns_job (hp : isPkFn i.1 = true) (hl : bit t.flags 6 = false) :
    applyRuns n x t i s = (s.modItem n (fun y => { y with invoked := some i.1 })).requestJob n x.inst x.frond i.1 true :=
  if_pos (by rw [hp, hl]; rfl)

theorem applyRuns_waits {u : State} (h : isPkFn i.1 = false ∨ bit t.flags 6 = true) (hk : s.runKeys n x.inst i.1 false true = (none, u)) :
    applyRuns n x t i s = u.modItem n (fun y => { y with terms := y.terms + (u.itemCfg x).timing.fetch }) := by
  refine (if_neg (by rcases h with h | h <;> simp [h])).trans ?_
  rw [hk]

theorem applyRuns_ends {o : FnOut} {u : State} (h : isPkFn i.1 = false ∨ bit t.flags 6 = true) (hk : s.runKeys n x.inst i.1 false true = (some o, u)) :
    applyRuns n x t i s = applyEnds n x t i o u := by
  refine (if_neg (by rcases h with h | h <;> simp [h])).trans ?_
  rw [hk]

end

/-! ### The outputs (R186, R188) -/

section
variable {v : Invoc} {o p : FnOut} {cost : Nat} {k : Option Nat} {u : State}

/-- The seam entry that an APPLY invokes. -/
def applyEntry (x : Item) (t : Stitch) (s : State) := (s.itemCfg x).seams.entries.getD t.ix {}

/-- The selector of its first output. -/
def applyOut0 (x : Item) (t : Stitch) (s : State) : Nat := if t.b ≠ 0 then t.b else (applyEntry x t s).out0

/-- The cost of writing an output through a selector. -/
def outCost (sel : Nat) (b : Bytes) : Nat := if sel = 0 then 0 else selCost sel b.length

/-- An output written through its selector, where it has one. -/
def writeOut (n sel : Nat) (b : Bytes) (u : State) : Except Status State := if sel = 0 then .ok u else u.writeOf n sel b

theorem finishApply_eq (hc : s.closeInvoc n x.inst v true o = (p, k, u)) :
    s.finishApply n x t v o cost = (if p.st ≠ .ok then u.endStitch n t p.st cost
      else match writeOut n (applyOut0 x t s) p.o0 u with
        | .error st => u.endStitch n t st (cost + outCost (applyOut0 x t s) p.o0)
        | .ok w => match writeOut n (applyEntry x t s).out1 p.o1 w with
          | .error st => w.endStitch n t st (cost + outCost (applyOut0 x t s) p.o0 + outCost (applyEntry x t s).out1 p.o1)
          | .ok w => w.endStitch n t .ok (cost + outCost (applyOut0 x t s) p.o0 + outCost (applyEntry x t s).out1 p.o1)) := by
  unfold State.finishApply; rw [hc]; rfl

theorem finishApply_fails (hc : s.closeInvoc n x.inst v true o = (p, k, u)) (hp : p.st ≠ .ok) :
    s.finishApply n x t v o cost = u.endStitch n t p.st cost :=
  (finishApply_eq hc).trans (if_pos hp)

theorem finishApply_written {w : State} (hc : s.closeInvoc n x.inst v true o = (p, k, u)) (hp : p.st = .ok)
    (h0 : writeOut n (applyOut0 x t s) p.o0 u = .ok w) (h1 : (applyEntry x t s).out1 = 0) :
    s.finishApply n x t v o cost = w.endStitch n t .ok (cost + outCost (applyOut0 x t s) p.o0 + outCost (applyEntry x t s).out1 p.o1) := by
  refine (finishApply_eq hc).trans ((if_neg (not_not_intro hp)).trans ?_)
  rw [h0]; dsimp only
  rw [show writeOut n (applyEntry x t s).out1 p.o1 w = .ok w from if_pos h1]

end

end

/-- Settles O55: an APPLY by what its item holds and what its function gives, and the outputs that it writes. -/
theorem applyRunsAnInvocation : Obligations.ApplyRunsAnInvocation := by
  unfold Obligations.ApplyRunsAnInvocation
  intro n x t s h
  refine ⟨fun o hr => ?answered, fun st hr hw => ?waited, fun st hr hw hf => ?malformed,
    fun hr hw hf => ⟨fun hp hl => ?job, fun hp => ⟨fun u hk => ?page, fun o u hk => ?ended⟩⟩,
    fun v o p cost k u hc => ⟨fun hp => ?fails, fun hp h0 h1 => ?silent, fun w hp h0 h1 hw => ?written⟩⟩
  case answered => exact stitch_leads (Rows.apply n s) h (applyStitch_answered hr)
  case waited => exact stitch_leads (Rows.apply n s) h (applyStitch_waited hr hw)
  case malformed => exact stitch_leads (Rows.apply n s) h (applyStitch_malformed hr hw hf)
  case job => exact stitch_leads (Rows.apply n s) h ((applyStitch_runs hr hw hf).trans (applyRuns_job hp hl))
  case page => exact stitch_leads (Rows.apply n s) h ((applyStitch_runs hr hw hf).trans (applyRuns_waits hp hk))
  case ended => exact stitch_leads (Rows.apply n s) h ((applyStitch_runs hr hw hf).trans (applyRuns_ends hp hk))
  case fails => exact finishApply_fails hc hp
  case silent => exact finishApply_written hc hp (if_pos h0) h1
  case written => exact finishApply_written hc hp ((if_neg h0).trans hw) h1

end Sys2Proof.Proofs

end

section
/-! Received frames (O57): the checks of a frame in their order, and what each kind of frame is handed to. -/

namespace Sys2Proof.Proofs

open Sys2Proof Sys2Proof.Machine Sys2Proof.Laws

/-! ### The checks of a frame (R262, R264, R336) -/

section
variable {f : RxFrame} {d : SubDef} {s : State}

/-- The frame has been counted. -/
def rxCounted (f : RxFrame) (s : State) : State := s.bump64 (portReg oPortRxFrames f.port) 1

/-- A frame is discarded with its counter. -/
def rxDrops (f : RxFrame) (off : Nat) (s : State) : Taken × State := (.other, s.bump (portReg off f.port))

/-- What MACsec leaves of a frame on its sub-port (R336). -/
def rxOpened (f : RxFrame) (d : SubDef) (s : State) : MacsecRx :=
  if !d.macsec then .ok 4 {} f.bytes
  else if etherType f.bytes 12 = 0x88E5 then (s.subOf f.port f.sub).openMacsec f.bytes
  else if plainKind f.bytes then .ok 4 {} f.bytes
  else .drop oMacsecRxUntagged

/-- What is done with a frame that MACsec has let through. -/
def rxKept (f : RxFrame) (d : SubDef) (b : Bytes) (s : State) : Taken × State :=
  if etherType b 12 = 0x8100 ∧ beAt b 14 2 % 4096 ≠ 0 ∧ beAt b 14 2 % 4096 ≠ d.vid then rxDrops f oPortRxNotHtt s
  else match takeFrame s.cfg.htt d (decide (f.bytes.length ≤ 60)) b with
    | .other => rxDrops f oPortRxNotHtt s
    | t => if t.needsRoom && !bit d.pfc (d.rxPrio b) && s.bufferFull f.port (d.rxPrio b) then rxDrops f oPortBufferDrops s else (t, s)

theorem takeRx_eq :
    s.takeRx f d = (let r := rxCounted f s
      if 9216 < f.bytes.length + 4 then rxDrops f oPortRxOversize r
      else if !f.fcsOk then rxDrops f oPortRxBadFcs r
      else if f.bytes.length < 60 then rxDrops f oPortRxNotHtt r
      else match rxOpened f d r with
        | .drop off => (.other, r.bump (off + 32 * f.port))
        | .ok an a b => rxKept f d b (if an < 4 then r.modSub f.port f.sub (fun x => { x with rx := x.rx.set an a }) else r)) := rfl

theorem takeRx_oversize (h : 9216 < f.bytes.length + 4) : s.takeRx f d = rxDrops f oPortRxOversize (rxCounted f s) :=
  takeRx_eq.trans (if_pos h)

theorem takeRx_badFcs (h : f.bytes.length + 4 ≤ 9216) (hf : f.fcsOk = false) : s.takeRx f d = rxDrops f oPortRxBadFcs (rxCounted f s) :=
  takeRx_eq.trans ((if_neg (by omega)).trans (if_pos (by rw [hf]; rfl)))

theorem takeRx_runt (h : f.bytes.length + 4 < 64) (hf : f.fcsOk = true) : s.takeRx f d = rxDrops f oPortRxNotHtt (rxCounted f s) :=
  takeRx_eq.trans ((if_neg (by omega)).trans ((if_neg (by simp [hf])).trans (if_pos (by omega))))

/-- A frame of a length that is taken whole, whose check sequence is right. -/
structure Whole (f : RxFrame) : Prop where
  least : 64 ≤ f.bytes.length + 4
  most : f.bytes.length + 4 ≤ 9216
  fcs : f.fcsOk = true

theorem takeRx_whole (w : Whole f) :
    s.takeRx f d = (match rxOpened f d (rxCounted f s) with
      | .drop off => (.other, (rxCounted f s).bump (off + 32 * f.port))
      | .ok an a b => rxKept f d b (if an < 4 then (rxCounted f s).modSub f.port f.sub (fun x => { x with rx := x.rx.set an a }) else rxCounted f s)) := by
  obtain ⟨least, most, fcs⟩ := w
  exact takeRx_eq.trans ((if_neg (by omega)).trans ((if_neg (by simp [fcs])).trans (if_neg (by omega))))

theorem takeRx_dropped {c : Nat} (w : Whole f) (h : rxOpened f d (rxCounted f s) = .drop c) :
    s.takeRx f d = (.other, (rxCounted f s).bump (c + 32 * f.port)) := by
  rw [takeRx_whole w, h]

theorem rxOpened_untagged (hm : d.macsec = true) (ht : etherType f.bytes 12 ≠ 0x88E5) (hp : plainKind f.bytes = false) :
    rxOpened f d s = .drop oMacsecRxUntagged :=
  (if_neg (by simp [hm])).trans ((if_neg ht).trans (if_neg (by simp [hp])))

theorem rxOpened_tagged (hm : d.macsec = true) (ht : etherType f.bytes 12 = 0x88E5) :
    rxOpened f d s = (s.subOf f.port f.sub).openMacsec f.bytes :=
  (if_neg (by simp [hm])).trans (if_pos ht)

/-- An untagged frame keeps its sub-port's priority. -/
theorem rxPrio_untagged {b : Bytes} (h : etherType b 12 ≠ 0x8100) : d.rxPrio b = d.prio := if_neg h

theorem takeRx_full (w : Whole f) (hm : d.macsec = false) (ht : etherType f.bytes 12 ≠ 0x8100)
    (hr : (takeFrame (rxCounted f s).cfg.htt d (decide (f.bytes.length ≤ 60)) f.bytes).needsRoom = true) (hp : bit d.pfc d.prio = false)
    (hb : (rxCounted f s).bufferFull f.port d.prio = true) : s.takeRx f d = rxDrops f oPortBufferDrops (rxCounted f s) := by
  have hopen : rxOpened f d (rxCounted f s) = .ok 4 {} f.bytes := if_pos (by rw [hm]; rfl)
  have full : ((takeFrame (rxCounted f s).cfg.htt d (decide (f.bytes.length ≤ 60)) f.bytes).needsRoom && !bit d.pfc (d.rxPrio f.bytes) &&
      (rxCounted f s).bufferFull f.port (d.rxPrio f.bytes)) = true := by rw [rxPrio_untagged ht, hr, hp, hb]; rfl
  rw [takeRx_whole w, hopen]
  show rxKept f d f.bytes (rxCounted f s) = _
  refine (if_neg (fun h => ht h.1)).trans ?_
  generalize takeFrame (rxCounted f s).cfg.htt d (decide (f.bytes.length ≤ 60)) f.bytes = k at hr full ⊢
  cases k with
  | other => cases hr
  | _ => exact if_pos full

end

/-! ### The rows of frames -/

/-- The row of an instruction that hears frames of one kind, or of any. -/
def RowOf (i : Instr) (kd : FrameKind) (f : RxFrame) : Prop := ∀ s, exec i s = run (fun s => (s.receive kd f).settle) s

section
variable {f : RxFrame} {i : Instr}

/-- A pair of instructions, for any frame and for frames of a kind, hears that kind. -/
theorem rowOf_pair {j : Instr} {kd : FrameKind} (hj : RowOf j kd f) (h : i = .ethernetFrameRx f ∨ i = j) : ∃ k, (k = .any ∨ k = kd) ∧ RowOf i k f := by
  rcases h with rfl | rfl
  · exact ⟨.any, .inl rfl, Rows.ethernetFrameRx f⟩
  · exact ⟨kd, .inr rfl, hj⟩

theorem rowOf_htt (h : i ∈ [Instr.ethernetFrameRx f, .dataFrame f, .noticeFrame f, .creditFrame f, .closeFrame f, .hello f, .offer f, .accept f,
    .presenceFrame f]) : ∃ kd, RowOf i kd f := by
  simp only [List.mem_cons, List.mem_nil_iff, or_false] at h
  rcases h with rfl | rfl | rfl | rfl | rfl | rfl | rfl | rfl | rfl
  · exact ⟨_, Rows.ethernetFrameRx f⟩
  · exact ⟨_, Rows.dataFrame f⟩
  · exact ⟨_, Rows.noticeFrame f⟩
  · exact ⟨_, Rows.creditFrame f⟩
  · exact ⟨_, Rows.closeFrame f⟩
  · exact ⟨_, Rows.hello f⟩
  · exact ⟨_, Rows.offer f⟩
  · exact ⟨_, Rows.accept f⟩
  · exact ⟨_, Rows.presenceFrame f⟩

theorem rowOf_session {typ : Nat} (h : (i, typ) ∈ [(Instr.dataFrame f, 1), (.noticeFrame f, 2), (.creditFrame f, 3), (.closeFrame f, 4)]) :
    RowOf i (.htt typ) f ∧ 1 ≤ typ ∧ typ ≤ 4 := by
  simp only [List.mem_cons, List.mem_nil_iff, or_false, Prod.mk.injEq] at h
  rcases h with ⟨rfl, rfl⟩ | ⟨rfl, rfl⟩ | ⟨rfl, rfl⟩ | ⟨rfl, rfl⟩
  · exact ⟨Rows.dataFrame f, by omega, by omega⟩
  · exact ⟨Rows.noticeFrame f, by omega, by omega⟩
  · exact ⟨Rows.creditFrame f, by omega, by omega⟩
  · exact ⟨Rows.closeFrame f, by omega, by omega⟩

/-- A row for any frame, or for a session frame of a type, hears a frame of that type. -/
theorem rowOf_any_session {n typ : Nat}
    (h : (i, n) ∈ [(Instr.dataFrame f, 1), (.noticeFrame f, 2), (.creditFrame f, 3), (.closeFrame f, 4), (.ethernetFrameRx f, typ)]) :
    ∃ kd, (kd = .any ∨ kd = .htt n) ∧ RowOf i kd f := by
  by_cases hany : i = .ethernetFrameRx f
  · exact ⟨.any, .inl rfl, hany ▸ Rows.ethernetFrameRx f⟩
  · refine ⟨.htt n, .inr rfl, (rowOf_session ?_).1⟩
    simpa [hany] using h

end

/-- A session frame goes to its session's checks. -/
theorem session_arrives {i : Instr} {f : RxFrame} {d : SubDef} {h : Heard} {s t e : State} {kd : FrameKind} (hx : RowOf i kd f)
    (hh : Hears f d (.htt h) s t) (hv : httValid h = true) (hk : kd = .any ∨ kd = .htt (Hdr.read h.bytes).typ)
    (ht : (Hdr.read h.bytes).typ ≤ 4) (he : t.sessionRx f.port f.sub h.bytes = e) : Leads i s e :=
  arrives (hx s) hh hv hk ((if_neg (by omega)).trans ((if_neg (by omega)).trans ((if_neg (by omega)).trans he)))

section
variable {f : RxFrame} {d : SubDef} {s t : State} {i : Instr}

/-- A frame that is discarded does no more than its counter. -/
theorem frame_drops {off : Nat} (hd : s.subDef f.port f.sub = some d) (hu : s.subUp f.port f.sub = true)
    (h : s.takeRx f d = (.other, (rxCounted f s).bump off)) : Leads (.ethernetFrameRx f) s ((rxCounted f s).bump off) :=
  rx_row (Rows.ethernetFrameRx f s) (receive_hears .any ⟨hd, hu, h⟩)

/-- A frame of a kind goes where its kind is handled, by the row of its kind or of any frame. -/
theorem frame_acts {j : Instr} {kd : FrameKind} {k : Taken} {e : State} (hj : RowOf j kd f) (hh : Hears f d k s t)
    (hi : i = .ethernetFrameRx f ∨ i = j) (hany : afterTake .any f d k t = e) (hkd : afterTake kd f d k t = e) : Leads i s e := by
  obtain ⟨k', hk', row⟩ := rowOf_pair hj hi
  refine rx_row (row s) ((receive_hears k' hh).trans ?_)
  rcases hk' with rfl | rfl
  · exact hany
  · exact hkd

end

/-- Settles O57: a frame by the first check it fails, and by its kind. -/
theorem framesAreCheckedAndHandedOn : Obligations.FramesAreCheckedAndHandedOn := by
  unfold Obligations.FramesAreCheckedAndHandedOn
  refine ⟨fun f s h => ?absent,
    fun f d s hd hu => ⟨fun hn => ?oversize, fun hn hf => ?badFcs, fun _ hf hr => ?runt,
      fun hl hn hf hm => ⟨fun ht hp => ?untagged, fun c ht hc => ?unopened⟩, fun hl hn hf hm ht hr hp hb => ?full⟩,
    fun f d k s t hh => ⟨fun hk => ?other, fun b hk i hi => ?pfc, fun m b hk i hi => ?arp, fun m a hk i hi => ?neighbour, fun m b hk i hi => ?lldp,
      fun h i hk hv hi => ?badHtt, fun h hk hv => ⟨fun i n hi hn h1 h4 => ?session, fun ht i hi => ?hello, fun ht i hi => ?offer,
        fun ht i hi => ?accept, fun ht i hi => ?presence⟩⟩⟩
  case absent => exact rx_row (Rows.ethernetFrameRx f s) (receive_none .any h)
  case oversize => exact frame_drops hd hu (takeRx_oversize hn)
  case badFcs => exact frame_drops hd hu (takeRx_badFcs hn hf)
  case runt => exact frame_drops hd hu (takeRx_runt hr hf)
  case untagged => exact frame_drops hd hu (takeRx_dropped ⟨hl, hn, hf⟩ (rxOpened_untagged hm ht hp))
  case unopened => exact frame_drops hd hu (takeRx_dropped ⟨hl, hn, hf⟩ ((rxOpened_tagged hm ht).trans hc))
  case full => exact frame_drops hd hu (takeRx_full ⟨hl, hn, hf⟩ hm ht hr hp hb)
  case other =>
    subst hk
    exact rx_row (Rows.ethernetFrameRx f s) (receive_hears .any hh)
  case pfc =>
    subst hk
    exact frame_acts (Rows.pfcFrame f) hh hi rfl rfl
  case arp =>
    subst hk
    exact frame_acts (Rows.arpRequest f) hh hi rfl rfl
  case neighbour =>
    subst hk
    exact frame_acts (Rows.neighbourSolicitation f) hh hi rfl rfl
  case lldp =>
    subst hk
    exact frame_acts (Rows.lldpdu f) hh hi rfl rfl
  case badHtt =>
    subst hk
    obtain ⟨kd, row⟩ := rowOf_htt hi
    exact bad_htt (row s) hh hv
  case session =>
    subst hk hn
    obtain ⟨kd, hkd, row⟩ := rowOf_any_session hi
    exact session_arrives row hh hv hkd h4 rfl
  case hello =>
    subst hk
    obtain ⟨kd, hkd, row⟩ := rowOf_pair (Rows.hello f) hi
    exact arrives (row s) hh hv (by rwa [ht]) (by rw [ht]; rfl)
  case offer =>
    subst hk
    obtain ⟨kd, hkd, row⟩ := rowOf_pair (Rows.offer f) hi
    exact arrives (row s) hh hv (by rwa [ht]) (by rw [ht]; rfl)
  case accept =>
    subst hk
    obtain ⟨kd, hkd, row⟩ := rowOf_pair (Rows.accept f) hi
    exact arrives (row s) hh hv (by rwa [ht]) (by rw [ht]; rfl)
  case presence =>
    subst hk
    obtain ⟨kd, hkd, row⟩ := rowOf_pair (Rows.presenceFrame f) hi
    exact arrives (row s) hh hv (by rwa [ht]) (by rw [ht]; rfl)

end Sys2Proof.Proofs

end

section
/-! Session frames (O58): the checks of a frame in their order, and what each type does once it has passed them. -/

namespace Sys2Proof.Proofs

open Sys2Proof Sys2Proof.Machine Sys2Proof.Laws

/-! ### The checks (R272, R273) -/

section
variable {x : Sess} {phase : Nat} {hd : Hdr} {b : Bytes}

/-- A request longer than its session allows. -/
def tooLong (x : Sess) (hd : Hdr) : Prop := hd.typ = 1 ∧ x.maxMsg < hd.len

/-- A request beyond what the session has granted. -/
def beyondCredit (x : Sess) (hd : Hdr) : Prop :=
  hd.typ = 1 ∧ (if x.newer hd.phase then 0 else x.granted) < (if x.newer hd.phase then 0 else x.rxData) + 1

/-- What a session frame opens to under its session's key (R271). -/
def frameOpened (x : Sess) (hd : Hdr) (b : Bytes) : Option Bytes :=
  gcmOpen x.keyRx (be 4 hd.phase ++ [0#8, 0#8] ++ be 6 hd.seq) (b.take 32) (slice b 32 (hd.len + 16)) 16

theorem check_tooLong (h : tooLong x hd) : x.check phase hd b = .drop oPortHttFormat := if_pos h

theorem check_replayed (h : ¬tooLong x hd) (hr : x.replayed hd.phase hd.seq = true) : x.check phase hd b = .drop oPortSessionReplay :=
  (if_neg h).trans (if_pos hr)

theorem check_credit (h : ¬tooLong x hd) (hr : x.replayed hd.phase hd.seq = false) (hc : beyondCredit x hd) :
    x.check phase hd b = .drop oPortCreditViolation :=
  (if_neg h).trans ((if_neg (by simp [hr])).trans (if_pos hc))

theorem check_opens (h : ¬tooLong x hd) (hr : x.replayed hd.phase hd.seq = false) (hc : ¬beyondCredit x hd) :
    x.check phase hd b = (match frameOpened x hd b with
      | none => .drop oPortTagFail
      | some m => .ok (((x.openPhase hd.phase).record hd.seq).takeLimit phase hd) m) :=
  (if_neg h).trans ((if_neg (by simp [hr])).trans (if_neg hc))

theorem check_tag (h : ¬tooLong x hd) (hr : x.replayed hd.phase hd.seq = false) (hc : ¬beyondCredit x hd) (ho : frameOpened x hd b = none) :
    x.check phase hd b = .drop oPortTagFail := by
  rw [check_opens h hr hc, ho]

theorem check_passes {m : Bytes} (h : ¬tooLong x hd) (hr : x.replayed hd.phase hd.seq = false) (hc : ¬beyondCredit x hd)
    (ho : frameOpened x hd b = some m) : x.check phase hd b = .ok (((x.openPhase hd.phase).record hd.seq).takeLimit phase hd) m := by
  rw [check_opens h hr hc, ho]

end

/-! ### The session of a frame (R272) -/

section
variable {p k : Nat} {b : Bytes} {t : State}

/-- The number of the session that a frame names. -/
def frameSess (b : Bytes) : Nat := (Hdr.read b).rid % 2 ^ 20

/-- The session is in a state that hears session frames on this sub-port. -/
structure OpenHere (p k : Nat) (b : Bytes) (t : State) : Prop where
  port : (t.sessOf (frameSess b)).port = p
  sub : (t.sessOf (frameSess b)).sub = k
  opened : (t.sessOf (frameSess b)).st = .opened
  rid : (t.sessOf (frameSess b)).myId = (Hdr.read b).rid

theorem sessionRx_unknown (h : (t.sessOf (frameSess b)).port ≠ p ∨ (t.sessOf (frameSess b)).sub ≠ k ∨ (t.sessOf (frameSess b)).st = .free ∨
    (t.sessOf (frameSess b)).st = .parked ∧ (t.sessOf (frameSess b)).setup = none) :
    t.sessionRx p k b = t.bump (portReg oPortSessionUnknown p) := by
  unfold State.sessionRx; dsimp only
  unfold frameSess at h
  generalize t.sessOf ((Hdr.read b).rid % 2 ^ 20) = x at h ⊢
  rcases h with h | h | h | ⟨h, hs⟩
  · rw [show (x.port == p) = false by simp [h]]; rfl
  · rw [show (x.sub == k) = false by simp [h], Bool.and_false]; rfl
  · rw [show (x.st != .free) = false by simp [h], Bool.and_false]; rfl
  · rw [if_neg (by simp [h])]
    have hw : (if (x.port == p && x.sub == k && x.st != .free) = true then x.waitingCredit (Hdr.read b).rid else none) = none := by
      unfold Sess.waitingCredit; rw [hs]; exact ite_self _
    rw [hw]

theorem sessionRx_open (o : OpenHere p k b t) :
    t.sessionRx p k b = (if t.standby then t.bump64 oTwinStandbyDiscards 1
      else match (t.sessOf (frameSess b)).check t.phase (Hdr.read b) b with
        | .drop off => t.bump (portReg off p)
        | .ok y m => (((t.modSess (frameSess b) (fun _ => y)).leaveSolitary p k).actRx (frameSess b) (Hdr.read b) m).wakeCredit (frameSess b)) := by
  obtain ⟨port, sub, opened, rid⟩ := o
  unfold frameSess at port sub opened rid
  unfold State.sessionRx; dsimp only
  exact if_pos (by rw [port, sub, opened, rid]; simp)

theorem sessionRx_standby (o : OpenHere p k b t) (h : t.standby = true) : t.sessionRx p k b = t.bump64 oTwinStandbyDiscards 1 :=
  (sessionRx_open o).trans (if_pos h)

theorem sessionRx_drops {off : Nat} (o : OpenHere p k b t) (h : t.standby = false)
    (hc : (t.sessOf (frameSess b)).check t.phase (Hdr.read b) b = .drop off) : t.sessionRx p k b = t.bump (portReg off p) := by
  refine (sessionRx_open o).trans ((if_neg (by simp [h])).trans ?_)
  rw [hc]

theorem sessionRx_acts {y : Sess} {m : Bytes} (o : OpenHere p k b t) (h : t.standby = false)
    (hc : (t.sessOf (frameSess b)).check t.phase (Hdr.read b) b = .ok y m) :
    t.sessionRx p k b =
      (((t.modSess (frameSess b) (fun _ => y)).leaveSolitary p k).actRx (frameSess b) (Hdr.read b) m).wakeCredit (frameSess b) := by
  refine (sessionRx_open o).trans ((if_neg (by simp [h])).trans ?_)
  rw [hc]

end

/-! ### What each type does (R274-R278) -/

section
variable {n : Nat} {hd : Hdr} {m : Bytes} {u : State}

/-- A DATA frame is counted against its session's credit. -/
def dataCounted (n : Nat) (u : State) : State :=
  u.modSess n (fun x => { x with rxData := x.rxData + 1, held := x.held + 1, lastData := u.tick.count })

theorem actRx_malformed (h : controlOk hd.typ m = false) : u.actRx n hd m = u.bump (portReg oPortHttFormat (u.sessOf n).port) :=
  if_pos (by rw [h]; rfl)

theorem actRx_formed (h : controlOk hd.typ m = true) :
    u.actRx n hd m = (match hd.typ with
      | 0x01 => if bit hd.flags 0 then (dataCounted n u).requestRx n hd.phase hd.seq m else (dataCounted n u).transitRx n hd.phase hd.seq m
      | 0x03 => u.modSess n (fun x => { x with rxSent := beAt m 0 6 })
      | 0x04 => u.parkSess n (beAt m 0 2)
      | _ => u) :=
  if_neg (by simp [h])

theorem actRx_request (h : controlOk hd.typ m = true) (ht : hd.typ = 1) (hf : bit hd.flags 0 = true) :
    u.actRx n hd m = (dataCounted n u).requestRx n hd.phase hd.seq m := by
  rw [actRx_formed h, ht]; exact if_pos hf

theorem actRx_transit (h : controlOk hd.typ m = true) (ht : hd.typ = 1) (hf : bit hd.flags 0 = false) :
    u.actRx n hd m = (dataCounted n u).transitRx n hd.phase hd.seq m := by
  rw [actRx_formed h, ht]; exact if_neg (by simp [hf])

theorem actRx_notice (h : controlOk hd.typ m = true) (ht : hd.typ = 2) : u.actRx n hd m = u := by
  rw [actRx_formed h, ht]; rfl

theorem actRx_credit (h : controlOk hd.typ m = true) (ht : hd.typ = 3) : u.actRx n hd m = u.modSess n (fun x => { x with rxSent := beAt m 0 6 }) := by
  rw [actRx_formed h, ht]; rfl

theorem actRx_close (h : controlOk hd.typ m = true) (ht : hd.typ = 4) : u.actRx n hd m = u.parkSess n (beAt m 0 2) := by
  rw [actRx_formed h, ht]; rfl

end

/-- Settles O58: a session frame by the first check it fails, and by its type once it has passed them all. -/
theorem sessionFramesActAfterTheirChecks : Obligations.SessionFramesActAfterTheirChecks := by
  unfold Obligations.SessionFramesActAfterTheirChecks
  intro f d h s t hh hv hd n x counts i typ hmem htyp
  obtain ⟨row, h1, h4⟩ := rowOf_session hmem
  subst htyp
  have goes {e : State} (he : t.sessionRx f.port f.sub h.bytes = e) : Leads i s e := session_arrives row hh hv (.inr rfl) h4 he
  refine ⟨fun hu => goes (sessionRx_unknown hu), fun hport hsub hst hid => ?_⟩
  have here : OpenHere f.port f.sub h.bytes t := ⟨hport, hsub, hst, hid⟩
  refine ⟨fun hs => goes (sessionRx_standby here hs), fun hs => ⟨fun hb => ?big, fun hb hr => ?replay, fun hb hr hc => ?beyond, fun hb hr hc ho => ?tag,
    fun m hb hr hc ho => ?passes⟩⟩
  case big => exact goes (sessionRx_drops here hs (check_tooLong hb))
  case replay => exact goes (sessionRx_drops here hs (check_replayed hb hr))
  case beyond => exact goes (sessionRx_drops here hs (check_credit hb hr hc))
  case tag => exact goes (sessionRx_drops here hs (check_tag hb hr hc ho))
  case passes =>
    have acts := sessionRx_acts here hs (check_passes (phase := t.phase) hb hr hc ho)
    refine ⟨fun hf => ?malformed, fun hf => ⟨fun ht hb => ?request, fun ht hb => ?transit, fun ht => ?notice, fun ht => ?credit, fun ht => ?close⟩⟩
    case malformed => exact goes (acts.trans (congrArg (State.wakeCredit n) (actRx_malformed hf)))
    case request => exact goes (acts.trans (congrArg (State.wakeCredit n) (actRx_request hf ht hb)))
    case transit => exact goes (acts.trans (congrArg (State.wakeCredit n) (actRx_transit hf ht hb)))
    case notice => exact goes (acts.trans (congrArg (State.wakeCredit n) (actRx_notice hf ht)))
    case credit => exact goes (acts.trans (congrArg (State.wakeCredit n) (actRx_credit hf ht)))
    case close => exact goes (acts.trans (congrArg (State.wakeCredit n) (actRx_close hf ht)))

end Sys2Proof.Proofs

end

section
/-! Setup frames (O59): HELLO and whom it draws an OFFER from, OFFER and ACCEPT and the setup they go to. -/

namespace Sys2Proof.Proofs

open Sys2Proof Sys2Proof.Machine Sys2Proof.Laws

/-! ### HELLO (R283) -/

section
variable {p k : Nat} {h : Heard} {b : Bytes} {t u : State}

/-- The session that a HELLO names answers it. -/
def helloAnswered (p k n : Nat) (h : Heard) (b : Bytes) (u : State) : State :=
  let v := u.leaveSolitary p k
  match (u.sessOf n).setup with
  | some y =>
    if y.hello == b then v.sendSetup n 0x11 y.peerId y.offer
    else if (helloFail b).isSome then v.bumpHi (portReg oPortHandshakes p)
    else if v.rngOk then v.answerHello n h b else v.failSetup n .rngFailed
  | none =>
    if 4096 ≤ v.setups then v.bumpHi (portReg oPortHandshakes p)
    else match helloFail b with
      | some st => v.failSetup n st
      | none => if v.rngOk then v.answerHello n h b else v.failSetup n .rngFailed

theorem helloRx_eq :
    t.helloRx p k h = (if t.standby then t.bump64 oTwinStandbyDiscards 1
      else match t.gatherHello p k h with
        | (none, u) => u
        | (some b, u) => match (if b.length < 12 then none else u.responderOf p k h (beAt b 4 8)) with
          | none => u.bump (portReg oPortSessionUnknown p)
          | some n => helloAnswered p k n h b u) := rfl

theorem helloRx_standby (hs : t.standby = true) : t.helloRx p k h = t.bump64 oTwinStandbyDiscards 1 := if_pos hs

theorem helloRx_part (hs : t.standby = false) (hg : t.gatherHello p k h = (none, u)) : t.helloRx p k h = u := by
  refine helloRx_eq.trans ((if_neg (by simp [hs])).trans ?_)
  rw [hg]

theorem helloRx_whole (hs : t.standby = false) (hg : t.gatherHello p k h = (some b, u)) (hb : 12 ≤ b.length) :
    t.helloRx p k h = (match u.responderOf p k h (beAt b 4 8) with
      | none => u.bump (portReg oPortSessionUnknown p)
      | some n => helloAnswered p k n h b u) := by
  refine helloRx_eq.trans ((if_neg (by simp [hs])).trans ?_)
  rw [hg]; dsimp only
  rw [if_neg (by omega)]

section
variable {n : Nat}

theorem helloAnswered_again {y : Setup} (hy : (u.sessOf n).setup = some y) (hb : y.hello = b) :
    helloAnswered p k n h b u = (u.leaveSolitary p k).sendSetup n 0x11 y.peerId y.offer := by
  unfold helloAnswered; rw [hy]
  exact if_pos (by simp [hb])

theorem helloAnswered_full (hy : (u.sessOf n).setup = none) (hf : 4096 ≤ (u.leaveSolitary p k).setups) :
    helloAnswered p k n h b u = (u.leaveSolitary p k).bumpHi (portReg oPortHandshakes p) := by
  unfold helloAnswered; rw [hy]
  exact if_pos hf

theorem helloAnswered_room (hy : (u.sessOf n).setup = none) (hf : (u.leaveSolitary p k).setups < 4096) :
    helloAnswered p k n h b u = (match helloFail b with
      | some st => (u.leaveSolitary p k).failSetup n st
      | none => if (u.leaveSolitary p k).rngOk then (u.leaveSolitary p k).answerHello n h b else (u.leaveSolitary p k).failSetup n .rngFailed) := by
  unfold helloAnswered; rw [hy]
  exact if_neg (by omega)

theorem helloAnswered_fails {st : Status} (hy : (u.sessOf n).setup = none) (hf : (u.leaveSolitary p k).setups < 4096) (hb : helloFail b = some st) :
    helloAnswered p k n h b u = (u.leaveSolitary p k).failSetup n st := by
  rw [helloAnswered_room hy hf, hb]

theorem helloAnswered_rng (hy : (u.sessOf n).setup = none) (hf : (u.leaveSolitary p k).setups < 4096) (hb : helloFail b = none)
    (hr : (u.leaveSolitary p k).rngOk = false) : helloAnswered p k n h b u = (u.leaveSolitary p k).failSetup n .rngFailed := by
  rw [helloAnswered_room hy hf, hb]
  exact if_neg (by simp [hr])

theorem helloAnswered_offers (hy : (u.sessOf n).setup = none) (hf : (u.leaveSolitary p k).setups < 4096) (hb : helloFail b = none)
    (hr : (u.leaveSolitary p k).rngOk = true) : helloAnswered p k n h b u = (u.leaveSolitary p k).answerHello n h b := by
  rw [helloAnswered_room hy hf, hb]
  exact if_pos hr

end

end

/-! ### OFFER and ACCEPT (R283) -/

section
variable {p k : Nat} {h : Heard} {t : State}

/-- The session that a setup frame names, on the sub-port it came by. -/
structure SetupHere (p k : Nat) (h : Heard) (t : State) : Prop where
  port : (t.sessOf (frameSess h.bytes)).port = p
  sub : (t.sessOf (frameSess h.bytes)).sub = k
  live : (t.sessOf (frameSess h.bytes)).st ≠ .free

/-- Whether an ACCEPT is for a session that has opened already. -/
def acceptsOpen (h : Heard) (t : State) : Bool :=
  let x := t.sessOf (frameSess h.bytes)
  !((Hdr.read h.bytes).typ == 0x11) && !x.initiator && x.st == .opened && x.myId == (Hdr.read h.bytes).rid

theorem setupRx_here (o : SetupHere p k h t) :
    t.setupRx p k h = (let n := frameSess h.bytes
      let offer := (Hdr.read h.bytes).typ == 0x11
      let again (t : State) := if acceptsOpen h t then t.sendCredit n else t.bump (portReg oPortSessionUnknown p)
      if t.standby then t.bump64 oTwinStandbyDiscards 1
      else match (t.sessOf n).setup with
        | some y =>
          if y.myId == (Hdr.read h.bytes).rid && y.initiator == offer then
            if offer && y.stage != 0 then t
            else match (t.leaveSolitary p k).gatherSetup n y h with
              | (none, s) => s
              | (some b, s) => if offer then s.takeOffer n y b else s.takeAccept n y b
          else again t
        | none => again t) := by
  obtain ⟨port, sub, live⟩ := o
  have mine : ((t.sessOf (frameSess h.bytes)).port == p && (t.sessOf (frameSess h.bytes)).sub == k &&
      (t.sessOf (frameSess h.bytes)).st != .free) = true := by simp [port, sub, live]
  unfold frameSess at mine
  unfold State.setupRx; dsimp only
  rw [mine]
  rfl

theorem setupRx_away (o : (t.sessOf (frameSess h.bytes)).port ≠ p ∨ (t.sessOf (frameSess h.bytes)).sub ≠ k ∨ (t.sessOf (frameSess h.bytes)).st = .free) :
    t.setupRx p k h = t.bump (portReg oPortSessionUnknown p) := by
  have away : ((t.sessOf (frameSess h.bytes)).port == p && (t.sessOf (frameSess h.bytes)).sub == k &&
      (t.sessOf (frameSess h.bytes)).st != .free) = false := by rcases o with o | o | o <;> simp [o]
  unfold frameSess at away
  unfold State.setupRx; dsimp only
  rw [away]
  rfl

theorem setupRx_standby (o : SetupHere p k h t) (hs : t.standby = true) : t.setupRx p k h = t.bump64 oTwinStandbyDiscards 1 :=
  (setupRx_here o).trans (if_pos hs)

section
variable {y : Setup}

/-- A setup frame goes to a setup in progress whose ID it carries. -/
structure SetupMeets (p k : Nat) (h : Heard) (t : State) (y : Setup) : Prop extends SetupHere p k h t where
  active : t.standby = false
  setup : (t.sessOf (frameSess h.bytes)).setup = some y
  rid : y.myId = (Hdr.read h.bytes).rid

theorem setupRx_meets (o : SetupMeets p k h t y) (hi : y.initiator = ((Hdr.read h.bytes).typ == 0x11)) :
    t.setupRx p k h = (if (Hdr.read h.bytes).typ == 0x11 && y.stage != 0 then t
      else match (t.leaveSolitary p k).gatherSetup (frameSess h.bytes) y h with
        | (none, s) => s
        | (some b, s) => if (Hdr.read h.bytes).typ == 0x11 then s.takeOffer (frameSess h.bytes) y b else s.takeAccept (frameSess h.bytes) y b) := by
  obtain ⟨here, active, setup, rid⟩ := o
  refine (setupRx_here here).trans ((if_neg (by simp [active])).trans ?_)
  rw [setup]
  exact if_pos (by simp [rid, hi])

theorem setupRx_offer_late (o : SetupMeets p k h t y) (ht : (Hdr.read h.bytes).typ = 0x11) (hi : y.initiator = true) (hs : y.stage ≠ 0) :
    t.setupRx p k h = t :=
  (setupRx_meets o (by rw [hi, ht]; rfl)).trans (if_pos (by simp [ht, hs]))

theorem setupRx_offer (o : SetupMeets p k h t y) (ht : (Hdr.read h.bytes).typ = 0x11) (hi : y.initiator = true) (hs : y.stage = 0) :
    t.setupRx p k h = (match (t.leaveSolitary p k).gatherSetup (frameSess h.bytes) y h with
      | (none, s) => s
      | (some b, s) => s.takeOffer (frameSess h.bytes) y b) := by
  refine (setupRx_meets o (by rw [hi, ht]; rfl)).trans ((if_neg (by simp [hs])).trans ?_)
  rw [ht]; rfl

theorem setupRx_accept (o : SetupMeets p k h t y) (ht : (Hdr.read h.bytes).typ = 0x12) (hi : y.initiator = false) :
    t.setupRx p k h = (match (t.leaveSolitary p k).gatherSetup (frameSess h.bytes) y h with
      | (none, s) => s
      | (some b, s) => s.takeAccept (frameSess h.bytes) y b) := by
  refine (setupRx_meets o (by rw [hi, ht]; rfl)).trans ((if_neg (by simp [ht])).trans ?_)
  rw [ht]; rfl

end

theorem setupRx_accept_again (o : SetupHere p k h t) (hs : t.standby = false) (hn : (t.sessOf (frameSess h.bytes)).setup = none)
    (ha : acceptsOpen h t = true) : t.setupRx p k h = t.sendCredit (frameSess h.bytes) := by
  refine (setupRx_here o).trans ((if_neg (by simp [hs])).trans ?_)
  rw [hn]
  exact if_pos ha

end

/-! ### The check of an ACCEPT (R281, R283) -/

section
variable {n : Nat} {y : Setup} {b : Bytes} {ec dsa : KeyRec} {s : State}

theorem takeAccept_eq (hp : s.peerKeys (s.sessOf n) = .ok (ec, dsa)) :
    s.takeAccept n y b = (let u := s.usePeerKeys ec dsa
      let th := thI y.hello y.offer
      match proofFail ec dsa "HTT-I" th b with
      | some st => u.failSetup n st
      | none =>
        let ks := sessionKeys y.z th y.peerId y.myId
        (u.openSess n { y with keyTx := ks.drop 32, keyRx := ks.take 32, z := [] }).sendCredit n) := by
  unfold State.takeAccept; dsimp only; rw [hp] <;> rfl

end

/-- A HELLO's row leads to what hearing the HELLO does. -/
theorem hello_arrives {f : RxFrame} {d : SubDef} {h : Heard} {s t e : State} (hh : Hears f d (.htt h) s t) (hv : httValid h = true)
    (ht : (Hdr.read h.bytes).typ = 0x10) (he : t.helloRx f.port f.sub h = e) : Leads (.hello f) s e :=
  arrives (Rows.hello f s) hh hv (.inr (by rw [ht])) ((if_neg (by omega)).trans ((if_pos ht).trans he))

/-- A setup frame's row leads to what its setup does with it. -/
theorem setup_arrives {f : RxFrame} {d : SubDef} {h : Heard} {s t e : State} {i : Instr} {typ : Nat} (hx : RowOf i (.htt typ) f)
    (hh : Hears f d (.htt h) s t) (hv : httValid h = true) (ht : (Hdr.read h.bytes).typ = typ) (h2 : typ = 0x11 ∨ typ = 0x12)
    (he : t.setupRx f.port f.sub h = e) : Leads i s e :=
  arrives (hx s) hh hv (.inr (by rw [ht]))
    ((if_neg (by omega)).trans ((if_neg (by omega)).trans ((if_pos (by omega)).trans he)))

/-- Settles O59: a HELLO by the session it names, an OFFER and an ACCEPT by the setup they meet, and an ACCEPT's proof. -/
theorem setupFramesOpenSessions : Obligations.SetupFramesOpenSessions := by
  unfold Obligations.SetupFramesOpenSessions
  intro f d h s t hh hv hd n x
  have hello (ht : hd.typ = 0x10) {e : State} (he : t.helloRx f.port f.sub h = e) : Leads (.hello f) s e := hello_arrives hh hv ht he
  have offer (ht : hd.typ = 0x11) {e : State} (he : t.setupRx f.port f.sub h = e) : Leads (.offer f) s e :=
    setup_arrives (Rows.offer f) hh hv ht (.inl rfl) he
  have accept (ht : hd.typ = 0x12) {e : State} (he : t.setupRx f.port f.sub h = e) : Leads (.accept f) s e :=
    setup_arrives (Rows.accept f) hh hv ht (.inr rfl) he
  refine ⟨fun ht => ⟨fun hs => ?standby, fun u hs hg => ?part, fun b u hs hg hb => ⟨fun hr => ?nobody, fun k hr => ?responder⟩⟩,
    fun hport hsub hst => ?here, fun haway => ⟨fun ht => ?offerAway, fun ht => ?acceptAway⟩,
    fun n y b ec dsa s hp => ⟨fun st hf => ?unproved, fun hf => ?proved⟩⟩
  case standby => exact hello ht (helloRx_standby hs)
  case part => exact hello ht (helloRx_part hs hg)
  case nobody =>
    refine hello ht ((helloRx_whole hs hg hb).trans ?_)
    rw [hr]
  case responder =>
    have whole : t.helloRx f.port f.sub h = helloAnswered f.port f.sub k h b u := by rw [helloRx_whole hs hg hb, hr]
    refine ⟨fun y hy he => ?again, fun hy hf => ?full, fun hy hf => ⟨fun st hb => ?failed, fun hb hr => ?rng, fun hb hr => ?offers⟩⟩
    case again => exact hello ht (whole.trans (helloAnswered_again hy he))
    case full => exact hello ht (whole.trans (helloAnswered_full hy hf))
    case failed => exact hello ht (whole.trans (helloAnswered_fails hy hf hb))
    case rng => exact hello ht (whole.trans (helloAnswered_rng hy hf hb hr))
    case offers => exact hello ht (whole.trans (helloAnswered_offers hy hf hb hr))
  case here =>
    have o : SetupHere f.port f.sub h t := ⟨hport, hsub, hst⟩
    refine ⟨fun hs => ⟨fun ht => offer ht (setupRx_standby o hs), fun ht => accept ht (setupRx_standby o hs)⟩,
      fun y hs hy hid => ?meets, fun hs hy ht hi hopen hid => ?again⟩
    case meets =>
      have m : SetupMeets f.port f.sub h t y := ⟨o, hs, hy, hid⟩
      intro g
      have gathered {a : Option Bytes} (hg : g.1 = a) : (t.leaveSolitary f.port f.sub).gatherSetup (frameSess h.bytes) y h = (a, g.2) := Prod.ext hg rfl
      refine ⟨fun ht hi hst => offer ht (setupRx_offer_late m ht hi hst),
        fun ht hi hst => ⟨fun hg => ?offerPart, fun b hg => ?offerWhole⟩, fun ht hi => ⟨fun hg => ?acceptPart, fun b hg => ?acceptWhole⟩⟩
      case offerPart =>
        refine offer ht ((setupRx_offer m ht hi hst).trans ?_)
        rw [gathered hg]
      case offerWhole =>
        refine offer ht ((setupRx_offer m ht hi hst).trans ?_)
        rw [gathered hg]; rfl
      case acceptPart =>
        refine accept ht ((setupRx_accept m ht hi).trans ?_)
        rw [gathered hg]
      case acceptWhole =>
        refine accept ht ((setupRx_accept m ht hi).trans ?_)
        rw [gathered hg]; rfl
    case again =>
      have ha : acceptsOpen h t = true := by
        have htyp : (Hdr.read h.bytes).typ = 0x12 := ht
        have hsess : t.sessOf (frameSess h.bytes) = x := rfl
        have hrid : x.myId = (Hdr.read h.bytes).rid := hid
        unfold acceptsOpen
        rw [hsess]; dsimp only
        rw [htyp, hi, hopen, hrid]; simp
      exact accept ht (setupRx_accept_again o hs hy ha)
  case offerAway => exact offer ht (setupRx_away haway)
  case acceptAway => exact accept ht (setupRx_away haway)
  case unproved =>
    refine (takeAccept_eq hp).trans ?_
    dsimp only; rw [hf]
  case proved =>
    refine (takeAccept_eq hp).trans ?_
    dsimp only; rw [hf]

end Sys2Proof.Proofs

end

section
/-! Timers and links (O60): each timer's condition, and what it does once the condition holds. -/

namespace Sys2Proof.Proofs

open Sys2Proof Sys2Proof.Machine Sys2Proof.Laws

/-! ### A timer acts once its condition holds, and not before -/

section
variable {i : Instr} {s : State} {g e : State → State} {c : Bool}

theorem timer_due (hx : exec i s = run (fun s => (g s).settle) s) (hg : g s = s.when c e) (hc : c = true) : Leads i s (e s) :=
  leads_of hx (by rw [hg, hc, State.when_true])

theorem timer_early (hx : exec i s = run (fun s => (g s).settle) s) (hg : g s = s.when c e) (hc : c = false) : Leads i s s :=
  leads_of hx (by rw [hg, hc, State.when_false])

/-- The same of a timer after which nothing is left to settle. -/
theorem event_due (hx : exec i s = run g s) (hg : g s = s.when c e) (hc : c = true) : Goes i s (e s) :=
  goes_of hx (by rw [hg, hc, State.when_true])

theorem event_early (hx : exec i s = run g s) (hg : g s = s.when c e) (hc : c = false) : Goes i s s :=
  goes_of hx (by rw [hg, hc, State.when_false])

end

/-! ### Setups (R283) -/

section
variable {n : Nat} {y : Setup} {s : State}

theorem setupTimeout_when (hy : (s.sessOf n).setup = some y) :
    s.setupTimeout n = s.when (s.works && decide (y.since + s.cfg.htt.setup ≤ s.tick.count)) (fun s => s.failSetup n .handshakeFailed) := by
  unfold State.setupTimeout; rw [hy]

theorem resend_when {stage every typ : Nat} {msg : Setup → Nat × Bytes} (hy : (s.sessOf n).setup = some y) :
    s.resend n stage every typ msg = s.when (s.works && y.initiator && y.stage == stage && decide (y.lastSend + every ≤ s.tick.count))
      (fun s => (s.modSess n (fun x => { x with setup := some { y with lastSend := s.tick.count } })).sendSetup n typ (msg y).1 (msg y).2) := by
  unfold State.resend; rw [hy]

end

/-! ### Announcements and peers (R285, R290-R293) -/

section
variable {p k : Nat} {d : SubDef} {s : State}

theorem announce_presence (hd : s.subDef p k = some d) :
    s.announce p k true false = s.when d.presence (fun s => (s.sendPresence p k 0).modSub p k (fun x => { x with presenceAt := s.tick.count })) := by
  unfold State.announce; rw [hd]; rfl

theorem announce_lldp (hd : s.subDef p k = some d) :
    s.announce p k false true = s.when d.lldp (fun s => (s.sendLldp p k (s.lldpTtl p k)).modSub p k (fun x => { x with lldpAt := s.tick.count })) := by
  unfold State.announce; rw [hd]; rfl

theorem presenceAnnounce_due (hu : s.subUp p k = true) (ht : (s.subOf p k).presenceAt + s.announceEvery p k ≤ s.tick.count) :
    s.presenceAnnounce p k = s.announce p k true false := by
  unfold State.presenceAnnounce; rw [hu, decide_eq_true ht]; rfl

theorem lldpAnnounce_due (hu : s.subUp p k = true) (ht : (s.subOf p k).lldpAt + s.announceEvery p k ≤ s.tick.count) :
    s.lldpAnnounce p k = s.announce p k false true := by
  unfold State.lldpAnnounce; rw [hu, decide_eq_true ht]; rfl

theorem solitaryEntry_when (hd : s.subDef p k = some d) :
    s.solitaryEntry p k =
      s.when (s.subUp p k && d.presence && decide (3 ≤ (s.subOf p k).silent)) (fun s => s.modSub p k (fun x => { x with solitary := true })) := by
  unfold State.solitaryEntry; rw [hd]

theorem peerAge_when {ix : Nat} {e : Peer} (he : (s.portOf p).peers[ix]? = some e) :
    s.peerAge p ix = s.when (decide (e.expiry ≤ s.tick.count))
      (fun t => { t with ports := t.ports.set p { s.portOf p with peers := (s.portOf p).peers.eraseIdx ix } }) := by
  unfold State.peerAge; dsimp only; rw [he]

theorem linkChange_same {up : Bool} (hl : (s.subOf p k).link = up) : s.linkChange p k up = s :=
  if_pos (by simp [hl])

theorem linkChange_changes {up : Bool} (hd : s.subDef p k = some d) (hr : s.ready = true) (hl : (s.subOf p k).link ≠ up) :
    s.linkChange p k up = ((s.modSub p k (fun x =>
      { x with link := up, training := !up && x.admin, solitary := false, silent := 0, heard := true })).touchPort p).raise 8 (portReg oPortIrq p) 0 :=
  if_neg (by simp [hd, hr, hl])

end

/-- Settles O60: each timer due and early, each announcement where its sub-port announces, and the link that changes. -/
theorem sessionTimersAndLinksAct : Obligations.SessionTimersAndLinksAct := by
  unfold Obligations.SessionTimersAndLinksAct
  refine ⟨fun n y s hy hw => ?setups, fun n s hw hs => ⟨fun ho => ?opened, fun hp => ?parked⟩, fun p k d s hd hu => ?announces,
    fun p ix e s he => ?peers, fun p k d up s hd hr => ?links⟩
  case setups =>
    have timeout := setupTimeout_when hy
    have hello := resend_when (stage := 0) (every := s.cfg.htt.setup / 4) (typ := 0x10) (msg := fun y => (0, y.hello)) hy
    have accept := resend_when (stage := 1) (every := 64) (typ := 0x12) (msg := fun y => (y.peerId, y.accept)) hy
    refine ⟨fun ht => ?timeout, fun ht => ?patient, fun hi hst => ⟨fun ht => ?hello, fun ht => ?helloEarly⟩, fun hi hst => ⟨fun ht => ?accept, fun ht => ?acceptEarly⟩⟩
    case timeout => exact timer_due (Rows.setupTimeout n s) timeout (by rw [hw, decide_eq_true ht]; rfl)
    case patient => exact timer_early (Rows.setupTimeout n s) timeout (by rw [decide_eq_false (by omega), Bool.and_false])
    case hello => exact timer_due (Rows.helloResend n s) hello (by rw [hw, hi, hst, decide_eq_true ht]; rfl)
    case helloEarly => exact timer_early (Rows.helloResend n s) hello (by rw [decide_eq_false (by omega), Bool.and_false])
    case accept => exact timer_due (Rows.acceptResend n s) accept (by rw [hw, hi, hst, decide_eq_true ht]; rfl)
    case acceptEarly => exact timer_early (Rows.acceptResend n s) accept (by rw [decide_eq_false (by omega), Bool.and_false])
  case opened =>
    refine ⟨fun hc hwait => ⟨fun ht => ?credit, fun ht => ?creditEarly⟩, fun q hq => ⟨fun hg ht => ?grant, fun hg => ?grantEarly⟩,
      fun hp ht => ?park, fun hp => ?parkEarly⟩
    case credit => exact timer_due (Rows.creditResend n s) rfl (by simp [hw, hs, ho, hc, hwait, ht])
    case creditEarly => exact timer_early (Rows.creditResend n s) rfl (by rw [decide_eq_false (by omega), Bool.and_false])
    case grant => exact timer_due (Rows.creditGrantSend n s) rfl (by simp [hw, hs, ho, hq, hg, ht])
    case grantEarly =>
      refine timer_early (Rows.creditGrantSend n s) rfl ?_
      rcases hg with hg | hg
      · rw [decide_eq_false (p := (s.sessOf n).grantSent < _) (by omega), Bool.and_false, Bool.false_and]
      · rw [decide_eq_false (p := _ + 1 ≤ _) (by omega), Bool.and_false]
    case park => exact timer_due (Rows.parkTimeExpiry n s) rfl (by simp [hw, hs, ho, hp, ht])
    case parkEarly =>
      refine timer_early (Rows.parkTimeExpiry n s) rfl ?_
      rcases hp with hp | hp
      · rw [hp]; simp
      · rw [decide_eq_false (by omega), Bool.and_false]
  case parked =>
    refine ⟨fun hc ht => ?reclaim, fun hc => ?reclaimEarly⟩
    case reclaim => exact timer_due (Rows.reclaimTimeExpiry n s) rfl (by simp [hw, hs, hp, hc, ht])
    case reclaimEarly =>
      refine timer_early (Rows.reclaimTimeExpiry n s) rfl ?_
      rcases hc with hc | hc
      · rw [hc]; simp
      · rw [decide_eq_false (by omega), Bool.and_false]
  case announces =>
    have solitary := solitaryEntry_when hd
    refine ⟨fun ht => ?presenceEarly, fun ht => ⟨fun hp => ?presenceOff, fun hp => ?presence⟩, fun ht => ?lldpEarly,
      fun ht => ⟨fun hp => ?lldpOff, fun hp => ?lldp⟩, fun hp h3 => ?solitary, fun hp => ?sociable⟩
    case presenceEarly => exact event_early (Rows.presenceAnnounce p k s) rfl (by rw [decide_eq_false (by omega), Bool.and_false])
    case presenceOff =>
      exact event_early (Rows.presenceAnnounce p k s) ((presenceAnnounce_due hu ht).trans (announce_presence hd)) hp
    case presence =>
      exact event_due (Rows.presenceAnnounce p k s) ((presenceAnnounce_due hu ht).trans (announce_presence hd)) hp
    case lldpEarly => exact event_early (Rows.lldpAnnounce p k s) rfl (by rw [decide_eq_false (by omega), Bool.and_false])
    case lldpOff =>
      exact event_early (Rows.lldpAnnounce p k s) ((lldpAnnounce_due hu ht).trans (announce_lldp hd)) hp
    case lldp =>
      exact event_due (Rows.lldpAnnounce p k s) ((lldpAnnounce_due hu ht).trans (announce_lldp hd)) hp
    case solitary => exact event_due (Rows.solitaryEntry p k s) solitary (by rw [hu, hp, decide_eq_true h3]; rfl)
    case sociable =>
      refine event_early (Rows.solitaryEntry p k s) solitary ?_
      rcases hp with hp | hp
      · rw [hp, Bool.and_false, Bool.false_and]
      · rw [decide_eq_false (by omega), Bool.and_false]
  case peers =>
    refine ⟨fun ht => ?aged, fun ht => ?young⟩
    case aged => exact event_due (Rows.peerEntryAgeing p ix s) (peerAge_when he) (decide_eq_true ht)
    case young => exact event_early (Rows.peerEntryAgeing p ix s) (peerAge_when he) (decide_eq_false (by omega))
  case links =>
    refine ⟨fun hl => ?same, fun hl => ?changes⟩
    case same => exact leads_of (Rows.linkChange p k up s) (linkChange_same hl)
    case changes => exact leads_of (Rows.linkChange p k up s) (linkChange_changes hd hr hl)

end Sys2Proof.Proofs

end
